-- ==== Sys2Proof/Word.lean ====
section
/-! DEFINITION. The word types of the engine: 32-bit host words, octets, and the raw stamp of R11. -/

namespace Sys2Proof

/-- A 32-bit word of the host window or of a parcel (R9, R467). -/
abbrev Word := BitVec 32

/-- One octet. -/
abbrev Byte := BitVec 8

/-- A raw stamp: CYC and FINE (R11, R34). -/
structure Stamp where
  cyc : Nat
  fine : Nat
  deriving DecidableEq, Repr

/-- The stamp in FINE steps of 1.5625 ps (R34): 1,024 of them in one SCLK cycle. -/
def Stamp.steps (t : Stamp) : Nat := t.cyc * 1024 + t.fine

/-- The stamp that a count of FINE steps names (R41). -/
def Stamp.ofSteps (n : Nat) : Stamp := ⟨n / 1024, n % 1024⟩

/-- Signed reading of the low `w` bits of `n` (two's complement, R461). -/
def signedOf (w n : Nat) : Int :=
  let m := n % 2 ^ w
  if m < 2 ^ (w - 1) then (m : Int) else (m : Int) - (2 ^ w : Nat)

/-- Two's complement of `i` in `w` bits, as a number. -/
def twos (w : Nat) (i : Int) : Nat := (i % ((2 ^ w : Nat) : Int)).toNat

/-- Bits [hi:lo] of `n` (R8). -/
def bitsOf (n hi lo : Nat) : Nat := (n / 2 ^ lo) % 2 ^ (hi + 1 - lo)

/-- Bit `i` of `n` (R8). -/
def bitAt (n i : Nat) : Bool := (n / 2 ^ i) % 2 == 1

/-- A flag as a number. -/
def b2n (b : Bool) : Nat := if b then 1 else 0

end Sys2Proof
end

