-- ==== Sys2Proof/Syntax.lean ====
section
/-! DEFINITION. The commands: one constructor of `Instr` for each row of spec/opcode_table.json, and the plain data that a command brings from outside the block (pin levels, line events, frames, sensor values, register accesses). -/

namespace Sys2Proof

/-- The straps as the pins stand (R520). -/
structure Straps where
  bootsel : Fin 4
  ownerSel : Fin 4
  monEn : Bool
  twinEn : Bool
  deriving DecidableEq, Repr

/-- Image areas of the boot flash (R521). -/
inductive Area where
  | golden | a | b
  deriving DecidableEq, Repr

/-- Reason words of BOOT REJECT (R528). -/
inductive RejectReason where
  | flash | magic | length | vendorSig | customerKey | customerSig
  deriving DecidableEq, Repr

/-- The header fields that the engine uses after the ROM has read an image (R522). -/
structure ImageHdr where
  magic : Word
  hdrVersion : Nat
  squallOfs : Nat
  squallLen : Nat
  xinCode : Nat
  customerSigned : Bool
  enroll : Bool
  imageLen : Nat
  version : Word
  squallVersion : Word
  passSalt : List Byte
  passHash : List Byte
  custKeyHash : Nat
  deriving DecidableEq, Repr

/-- A raw delay-line calibration result (R104, R105). Widths and errors in FINE steps, `sigma` in units of 0.25 ps. -/
structure CalResult where
  widestBin : Nat
  anchorErr : Nat
  sigma : Nat
  deriving DecidableEq, Repr

/-- What the failing SRAM word held (R495). -/
inductive EccWord where
  | configuration
  | stampFifo (ch : Fin 88)
  | eventRecord (hp : Fin 4)
  | gridRecord (hp : Fin 4)
  | prpEntry (pair : Fin 4) (index : Nat)
  | grant (index : Nat)
  | receiveFrame (port : Fin 8)
  | logEntry (index : Nat)
  deriving DecidableEq, Repr

/-- A clock input that a slot or a flywheel follows: a TDC channel or a port's lane-0 recovered clock (R120). -/
inductive ClockInput where
  | channel (ch : Fin 72)
  | port (p : Fin 8)
  deriving DecidableEq, Repr

/-- One IRIG-B frame as the pin showed it: the high time of each of the 100 elements in whole microseconds (R123) and the stamp of Pr. -/
structure IrigPulses where
  highUs : List Nat
  pr : Stamp
  deriving DecidableEq, Repr

/-- One received SENSE read (R166, R167). -/
inductive SenseRead where
  | nack
  | stretched
  | value (raw : BitVec 16)
  deriving DecidableEq, Repr


/-- A satellite: its system (bit position in SYSTEMS) and its number (R264). -/
structure Sat where
  system : Fin 6
  sv : Fin 64
  deriving DecidableEq, Repr

/-- A channel's latched measurement (R241): the whole second less the transmission time that the signal shows in its system's time, in 2^-16 ns; the carrier's phase in 2^-16 cycle and its frequency in 2^-8 Hz, as the samples at the pins show them against the timebase; C/N0 in 0.25 dB-Hz, elevation and azimuth in degrees. -/
structure ChanMeas where
  chan : Fin 128
  pseudorange : Int
  phase : Int
  ifFreq : Int
  cn0 : Nat
  elevation : Int
  azimuth : Nat
  deriving DecidableEq, Repr

/-- The code measurements of a satellite at one instant (R242, R257): pseudorange in 2^-16 ns and C/N0 in 0.25 dB-Hz of its main signal, and of the L5-band partner if there is one. -/
structure CodeObs where
  sat : Sat
  main : Int × Nat
  five : Option (Int × Nat)
  deriving DecidableEq, Repr

/-- What a satellite's navigation message gives by its system's interface specification (R242): ECEF position at transmission in mm, clock ahead of system time, group delay of the main signal alone and of the pair, and the ionosphere and troposphere model delays of the main signal, in 2^-16 ns. -/
structure SatNav where
  sat : Sat
  pos : Int × Int × Int
  clock : Int
  groupOne : Int
  groupPair : Int
  iono : Int
  tropo : Int
  deriving DecidableEq, Repr

/-- What the navigation messages say (R242, R245, R250): the satellites; each system's broadcast offset to TIME_SYS in 2^-16 ns; A0, A1 and any higher term of TIME_SYS's correction to UTC(k), in 2^-16 ns and seconds, with t_ot as a TAI second; TIME_SYS's leap counts, and the Modified Julian Day at whose end a future leap second is announced. -/
structure NavData where
  sats : List SatNav
  isb : List (Option Int)
  utcTerms : List Rat
  utcRef : Int
  leapNow : Int
  leapNext : Int
  leapDay : Option Nat
  deriving DecidableEq, Repr

/-- A frame at a receive ball (R273, R275, R276): its octets from the destination address through the FCS, whether an invalid block, error control character or sync header stood inside it, the stamp of the first bit of its SFD at the ball, the RS-FEC codewords corrected and lost and the invalid sync headers since the frame before (R278). -/
structure RxFrame where
  octets : List Byte
  pcsErr : Bool
  arrival : Stamp
  fecCorrected : Nat
  fecLost : Nat
  blockErr : Nat
  deriving DecidableEq, Repr

/-- A send descriptor as fetched, and the octets of the buffer it names (R287, R308). -/
structure SendDesc where
  port : Fin 8
  stamp : Bool
  seg : Bool
  hdrLen : Nat
  mss : Nat
  octets : List Byte
  deriving DecidableEq, Repr

/-- A TT frame at the TWN balls (R396, R397): its octets through the CRC-32, and the stamp of its arrival. -/
structure TtFrame where
  octets : List Byte
  arrival : Stamp
  deriving DecidableEq, Repr

/-- A heartbeat (R402, R404, R410): its octets as received, and the sequence counters that came with it: SeqNr of each pair, and each PTP stream's instance, key, next sequenceId and log interval. -/
structure Heartbeat where
  octets : List Byte
  prpSeq : List Nat
  ptpSeq : List (Fin 16 × Nat × Nat × Int)
  deriving DecidableEq, Repr

/-- A slot of the active as its follower sees it (R401, R402): its state as R130 numbers it, its newest offset in 2^-16 ns and the second of the time scale in which that was stamped, its Bound contribution and its declared uncertainty in use in 2^-8 ns. -/
structure SlotView where
  slot : Fin 16
  sec : Int
  offset : Int
  state : Nat
  contribution : Nat
  decl : Nat
  deriving DecidableEq, Repr

/-- What a REPL frame carries (R401, R402): one change, with parameters by their place and value; keys come wrapped under the pair key, and a grant with the time-scale instant its duration runs from. `badFrame` is a frame that fails its CRC (R396). -/
inductive ReplItem where
  | clockId (v : Nat)
  | utcOffset (v : Int)
  | leap (pending : Nat) (at_ : Nat)
  | smear (p : Fin 4) (type duration placement : Nat)
  | coverage (k : Nat)
  | esmc (p : Fin 8) (enable : Bool) (locked hold free : Nat)
  | portRows (p : Fin 8) (rows : List (Nat × Int))
  | prpRows (q : Fin 4) (rows : List (Nat × Int))
  | instRows (i : Fin 16) (rows : List (Nat × Int))
  | hlRule (r : Fin 16) (rows : List (Nat × Int))
  | keyLoad (sa : Bool) (slot : Fin 64) (blob : List Byte)
  | keyState (sa : Bool) (slot : Fin 64) (state : Fin 4)
  | zeroise
  | grantAdd (inst : Fin 16) (port : Fin 8) (clientId clientPort msgType : Nat) (logPeriod : Int) (duration mac addr : Nat) (start : Int)
  | grantDrop (inst : Fin 16) (port : Fin 8) (clientId clientPort msgType : Nat)
  | flywheelModel (f : Fin 3) (coeffs : List Rat) (ta : Option Int) (range : Option (Rat × Rat))
  | slotView (v : SlotView)
  | asymmetry (asym : Int) (unc : Nat)
  | badFrame
  deriving DecidableEq, Repr

/-- Which of two mask registers (R431). -/
inductive MaskReg where
  | db | hw
  deriving DecidableEq, Repr

/-- The bus of a host access: its width in bits and its byte offset (R467 to R470). -/
structure Access where
  addr : Nat
  width : Nat
  deriving DecidableEq, Repr

/-- The commands of the block: one constructor per row of spec/opcode_table.json, in the table's order but for eight monitor lines without operands, which stand last because compiled Lean code takes operands only in a type's first 245 constructors. -/
inductive Instr where
  | powerOnDetect
  | powerOnDetectRelease (straps : Straps)
  | resetNLow (lowNs : Nat)
  | resetNHigh (straps : Straps)
  | rpllLock (cclkBefore : Nat)
  | rpllLockTimeout
  | bootImageReadDone (hdr : ImageHdr) (reject : Option RejectReason)
  | initComplete (cal : CalResult) (failed : List (Fin 88))
  | watchdogExpiry
  | warmupTimeExpiry
  | rpllLossOfLock
  | lockstepMismatch
  | vddDroopDetect (det : Fin 16) (depthMv : Nat)
  | sramEccError (memory : Nat) (uncorrectable : Bool) (held : EccWord)
  | collectorSelfFault (word : Nat)
  | debugUnlock
  | warmResetStart
  | conversionSetEffect
  | leapAtReached
  | smearRampStart (p : Fin 4)
  | smearRampEnd (p : Fin 4)
  | checkpointWrite (ok : Bool) (word : Nat)
  | boundRecompute
  | coverageWrite (hp : Fin 4) (v : Word)
  | captureRequest (hp : Fin 4) (v : Word)
  | captureComplete (hp : Fin 4)
  | ptmRequest (hp : Fin 4)
  | tdcEdge (ch : Fin 88) (rising : Bool) (fine : Fin 1024)
  | deglitchAccept (ch : Fin 88)
  | windowClose (ch : Fin 88)
  | intervalTimeout (ch : Fin 88)
  | gateEnd (ch : Fin 88)
  | tdcCalComplete (ch : Fin 88) (lineB : Bool) (cal : CalResult)
  | delayLineSwap (ch : Fin 88)
  | tdcTableStale (ch : Fin 88)
  | tempSlewCheck
  | recordBuild
  | evqRdWrite (hp : Fin 4) (v : Word)
  | refMeasurement (slot : Fin 16) (stamps : List Nat)
  | clockSignalLoss (c : ClockInput)
  | wtrExpiry (slot : Fin 16)
  | confirmExpiry (slot : Fin 16)
  | wvEvaluate
  | disputeEvaluate
  | irigbFrameDecode (slot : Fin 16) (f : IrigPulses)
  | todFrameDecode (slot : Fin 16) (bytes : List Byte) (framingOk : Bool) (ended : Stamp)
  | ptpSlotMessage (octets : List Byte) (arrival : Stamp)
  | ptpSlotTimeout
  | esmcPduReceive (port : Fin 8) (ssm : Fin 16)
  | esmcTimeout (port : Fin 8)
  | feedforwardUpdate
  | loopSlewPersist
  | senseReadCycle (onDie : List Int)
  | senseReadResult (sensor : Fin 4) (r : SenseRead)
  | senseRetry (sensor : Fin 4)
  | forecastObservation
  | hourlyRefit
  | dailyRefit
  | modelAgeExpiry (f : Fin 3)
  | tempGapExpiry (f : Fin 3)
  | synthApplyMarker (os : Fin 4)
  | synthLockDone (os : Fin 4) (band : Option (Fin 64))
  | synthLossOfLock (os : Fin 4)
  | synthRelockAttempt (os : Fin 4) (band : Option (Fin 64))
  | pulseEdge (pin : Fin 80)
  | irigbOutputFrame (pin : Fin 80)
  | todFrameSend (tio : Fin 64)
  | alignStepExecute (os : Fin 4)
  | walkComplete (os : Fin 4)
  | streamHealthCheck (stream : Fin 4) (runs : List (Nat × Int × Int))
  | acqDwellComplete (noise : Nat) (powers : List (Nat × Nat))
  | acqVerifyComplete (noise : Nat) (powers : List Nat)
  | trackChannelLost (chan : Fin 128)
  | gnssEpoch (meas : List ChanMeas) (eph alm view : List (Sat × Int))
  | gnssSolutionComplete (nav : NavData)
  | gnssStartTimeout
  | exclusionExpiry (sat : Sat)
  | surveyTimeEnd
  | notchSpectrum (stream : Fin 4) (binsDb : List Int)
  | jnReport (stream : Fin 4) (power : Nat)
  | ephRefreshLimit
  | snapshotModeCapture (obs : List CodeObs) (nav : NavData)
  | snapshotCaptureStart
  | snapshotCaptureComplete (before samples : List (List (Int × Int)))
  | snapshotProcessComplete (obs : List CodeObs) (nav : NavData)
  | frameReceive (port : Fin 8) (f : RxFrame)
  | linkUp (port : Fin 8)
  | linkLoss (port : Fin 8) (hiBer : Bool) (fault : Fin 3)
  | portConfigApply (port : Fin 8)
  | frameLaunch (port : Fin 8)
  | prpEntryForget (pair : Fin 4) (source : Nat)
  | tsqRdWrite (hp : Fin 4) (port : Fin 8) (v : Word)
  | requestDispatch (port : Fin 8)
  | squallHoldTimeout (engine : Fin 16)
  | squallParityError (engine : Fin 16)
  | squallWorkComplete (engine : Fin 16)
  | periodicMessage (source : Nat)
  | esmcEventPdu (port : Fin 8)
  | grantExpiry (index : Nat)
  | garpRepeat
  | hlRxProdWrite (hp : Fin 4) (v : Word)
  | hlTxProdWrite (hp : Fin 4) (v : Word)
  | hlTxFetch (lane : Fin 2) (d : SendDesc)
  | hlCtrlWrite (hp : Fin 4) (v : Word)
  | hlDmaComplete (lane : Fin 2) (ok : Bool) (bufferAddr bufferLen : Nat)
  | keyExpiry (sa : Bool) (slot : Fin 64)
  | keyDrainComplete (sa : Bool) (slot : Fin 64)
  | drbgReseed
  | entropyTestFail (adaptive : Bool)
  | drbgResume
  | sketchRollover
  | mainsLossTimeout (feed : Fin 6)
  | gteGapExpiry (feed : Fin 6)
  | gqRdWrite (hp : Fin 4) (v : Word)
  | cpFrameSync (cp : Fin 8) (samples : List Word)
  | cpRateMeasure (cp : Fin 8)
  | cpStartExecute
  | cpRxRdWrite (hp : Fin 4) (cp : Fin 8) (v : Word)
  | cpTxWrWrite (hp : Fin 4) (cp : Fin 8) (v : Word)
  | ttFrameSend (fine : Fin 1024)
  | ttFrameReceive (f : TtFrame)
  | twinOffsetDeliver
  | heartbeatSend
  | heartbeatReceive (net : Bool) (h : Heartbeat)
  | pathSilence (net : Bool)
  | witnessWaitExpiry
  | discoverTimeExpiry
  | bulkTransferComplete (items : List ReplItem) (activeKeys : Bool)
  | bulkTransferTimeout
  | replReceive (item : ReplItem)
  | balandouLinkUp
  | balandouLinkLoss
  | twinCalibrateComplete
  | ombRead (hp : Fin 4) (mb : Fin 8)
  | mbStallTimeout (hp : Fin 4) (mb : Fin 8)
  | nqRdWrite (hp : Fin 4) (v : Word)
  | peerRingWrite (hp : Fin 4) (v : Word)
  | hpResetWrite (hp : Fin 4) (v : Word)
  | lockRead (hp : Fin 4) (lock : Fin 16)
  | lockWrite (hp : Fin 4) (lock : Fin 16) (v : Word)
  | maskWrite (hp : Fin 4) (reg : MaskReg) (v : Word)
  | pcieFlr (hp : Fin 4)
  | pcieLinkLoss (hp : Fin 4)
  | hpPerst (hp : Fin 4)
  | spiWrite (hp : Fin 4) (addr : Nat) (words : List Word)
  | spiRead (hp : Fin 4) (addr : Nat) (count : Nat)
  | spiStatus (hp : Fin 4)
  | spiBadOpcode (hp : Fin 4)
  | spiCsCut (hp : Fin 4) (addr : Nat) (write : Bool)
  | registerWrite (hp : Fin 4) (acc : Access) (v : BitVec 64)
  | aliasSetWrite (hp : Fin 4) (acc : Access) (v : Word)
  | aliasClearWrite (hp : Fin 4) (acc : Access) (v : Word)
  | aliasToggleWrite (hp : Fin 4) (acc : Access) (v : Word)
  | updateGroupStrobe (hp : Fin 4) (v : Word)
  | immediateWrite (hp : Fin 4) (group : Fin 8) (v : Word)
  | dwCtrlWrite (hp : Fin 4) (v : Word)
  | dwDataRead (hp : Fin 4)
  | dwDataWrite (hp : Fin 4) (v : Word)
  | perfRead (hp : Fin 4) (acc : Access)
  | faultProcess
  | perfWindowEnd
  | counterDumpWrite (hp : Fin 4) (ok : Bool)
  | fwWriteDone
  | fwCommitDone (valid : Bool) (hdr : ImageHdr)
  | status (hp : Fin 4) (mb : Fin 8)
  | reset (hp : Fin 4) (mb : Fin 8)
  | grant (hp : Fin 4) (mb : Fin 8)
  | ownerHandover (hp : Fin 4) (mb : Fin 8)
  | clockId (hp : Fin 4) (mb : Fin 8)
  | warmupTime (hp : Fin 4) (mb : Fin 8)
  | step (hp : Fin 4) (mb : Fin 8)
  | rate (hp : Fin 4) (mb : Fin 8)
  | utcOffset (hp : Fin 4) (mb : Fin 8)
  | leap (hp : Fin 4) (mb : Fin 8)
  | smear (hp : Fin 4) (mb : Fin 8)
  | boundThreshold (hp : Fin 4) (mb : Fin 8)
  | tdcConfig (hp : Fin 4) (mb : Fin 8)
  | refConfig (hp : Fin 4) (mb : Fin 8)
  | refForce (hp : Fin 4) (mb : Fin 8)
  | refAdmit (hp : Fin 4) (mb : Fin 8)
  | refLockout (hp : Fin 4) (mb : Fin 8)
  | steerConfig (hp : Fin 4) (mb : Fin 8)
  | flywheelConfig (hp : Fin 4) (mb : Fin 8)
  | senseConfig (hp : Fin 4) (mb : Fin 8)
  | holdTarget (hp : Fin 4) (mb : Fin 8)
  | synthConfig (hp : Fin 4) (mb : Fin 8)
  | outputConfig (hp : Fin 4) (mb : Fin 8)
  | alignPulses (hp : Fin 4) (mb : Fin 8)
  | gnssConfig (hp : Fin 4) (mb : Fin 8)
  | gnssAid (hp : Fin 4) (mb : Fin 8)
  | snapshot (hp : Fin 4) (mb : Fin 8)
  | snapshotRead (hp : Fin 4) (mb : Fin 8)
  | snapshotRelease (hp : Fin 4) (mb : Fin 8)
  | snapshotProcess (hp : Fin 4) (mb : Fin 8)
  | portConfig (hp : Fin 4) (mb : Fin 8)
  | prpConfig (hp : Fin 4) (mb : Fin 8)
  | hlRule (hp : Fin 4) (mb : Fin 8)
  | instanceConfig (hp : Fin 4) (mb : Fin 8)
  | esmcConfig (hp : Fin 4) (mb : Fin 8)
  | keyLoad (hp : Fin 4) (mb : Fin 8)
  | keyState (hp : Fin 4) (mb : Fin 8)
  | keyWrap (hp : Fin 4) (mb : Fin 8)
  | zeroise (hp : Fin 4) (mb : Fin 8)
  | pairKey (hp : Fin 4) (mb : Fin 8)
  | twinConfig (hp : Fin 4) (mb : Fin 8)
  | twinCalibrate (hp : Fin 4) (mb : Fin 8)
  | twinHandover (hp : Fin 4) (mb : Fin 8)
  | twinAdmit (hp : Fin 4) (mb : Fin 8)
  | twinWitness (hp : Fin 4) (mb : Fin 8)
  | gridConfig (hp : Fin 4) (mb : Fin 8)
  | gridTime (hp : Fin 4) (mb : Fin 8)
  | cpConfig (hp : Fin 4) (mb : Fin 8)
  | cpStart (hp : Fin 4) (mb : Fin 8)
  | cpStop (hp : Fin 4) (mb : Fin 8)
  | cpRead (hp : Fin 4) (mb : Fin 8)
  | cpWrite (hp : Fin 4) (mb : Fin 8)
  | faultClear (hp : Fin 4) (mb : Fin 8)
  | faultReaction (hp : Fin 4) (mb : Fin 8)
  | logRead (hp : Fin 4) (mb : Fin 8)
  | counterPermit (hp : Fin 4) (mb : Fin 8)
  | counterWindow (hp : Fin 4) (mb : Fin 8)
  | counterDump (hp : Fin 4) (mb : Fin 8)
  | fwWrite (hp : Fin 4) (mb : Fin 8)
  | fwCommit (hp : Fin 4) (mb : Fin 8)
  | monCharacter (c : Byte)
  | monLog (n : Nat)
  | monUnlock (passcode : List Byte)
  | monLock
  | monPeek (offset count : Nat)
  | monPoke (offset : Nat) (v : Word)
  | monDpeek (group offset count : Nat)
  | monDpoke (group offset : Nat) (v : Word)
  | monOwner (n : Fin 4)
  | monReset
  | monMaintainTimeout
  | monUnlockWaitExpiry
  | pcieLinkUp (hp : Fin 4)
  | hpPerstRelease (hp : Fin 4)
  | witnessTokenTake
  | delayReqSend (departure : Stamp)
  | registerRead (hp : Fin 4) (acc : Access)
  | parcelWrite (hp : Fin 4) (offset : Nat) (data : List Byte)
  | monHelp
  | monStatus
  | monTime
  | monBound
  | monRef
  | monFault
  | monFaultClear
  | monTwin
  deriving DecidableEq, Repr

end Sys2Proof
end

