-- ==== Sys2Proof/Config.lean ====
section
/-! DEFINITION. The free values: uninterpreted constants for what the spec leaves open or takes from a published standard. None has a body, so a statement that mentions one holds for every value of it. -/

namespace Sys2Proof.Config

/-- A value that nothing constrains, drawn from the model's own counter `freeCtr`. -/
opaque free : Nat → Nat

/-- Whether a result that the spec gives only to within one unit is the upper one of the two (R40). -/
opaque roundUp : Int → Int → Bool

/-- How far the engine's evaluation of a cosine ramp lies from the formula of R53, in 2^-16 ns, by its argument as numerator and denominator; R54 holds it to 50 ps. -/
opaque cosineError : Int → Int → Int

/-- Whether the next write of a checkpoint at a state change fails, and at which MRAM word (R46). -/
opaque mramFails : Nat → Option Nat

/-- A rational value that nothing constrains, by the counter. -/
opaque freeRat : Nat → Rat

/-- The number pi, to whatever precision the engine holds it (R156). -/
opaque pi : Rat

/-- The natural logarithm, to whatever precision the engine holds it (R164). -/
opaque ln : Rat → Rat

/-- exp(-x), to whatever precision the engine holds it (R555). -/
opaque expNeg : Rat → Rat

/-- SHA-256, a published function (R522, R533). -/
opaque sha256 : List Byte → List Byte

/-- The 16-octet tag of HMAC-SHA256-128 (0) or AES-256-GMAC (1) under a key, an IV and a message (R354, R355). -/
opaque mac : Nat → List Byte → Nat → List Byte → BitVec 128

/-- The octet of secParamIndicator that announces the RES field alone, as IEEE 1588-2019 gives it (R354). -/
opaque resAnnounced : BitVec 8

/-- The TTL or hop limit of the packets that the engine sends. -/
opaque hopLimit : BitVec 8

/-- The AES key wrap of RFC 3394 under a key (R342). -/
opaque keyWrap : List Byte → List Byte → List Byte

/-- Its inverse; none where the integrity check fails (R342). -/
opaque keyUnwrap : List Byte → List Byte → Option (List Byte)

/-- The device key-encryption key, fixed at manufacture (R341). -/
opaque deviceKey : List Byte

/-- S2V of RFC 5297 over a list of strings, with the CMAC of AES under a key: AES-256 with a 32-octet key, AES-128 with one of 16 (R345, R346). -/
opaque s2v : List Byte → List (List Byte) → BitVec 128

/-- An octet of the AES key stream in counter mode: under a key, from a counter block, the octet with this number (R346). -/
opaque aesCtr : List Byte → BitVec 128 → Nat → Byte

/-- The row hash of the source sketch: hash key, row, instance and source (R359). -/
opaque sketchHash : Nat → Nat → Nat → Nat → Nat

/-- Ten to a power, to whatever precision the engine holds it (R242, R253). -/
opaque pow10 : Rat → Rat

/-- The decimal logarithm, to whatever precision the engine holds it (R253). -/
opaque log10 : Rat → Rat

/-- chi2_inv(1 - 1e-5, d), a published function (R246). -/
opaque chi2 : Nat → Rat

/-- The power over a block's noise estimate that so many non-coherent sums exceed by chance once in 10^4 hypotheses (R235). -/
opaque acqThreshold : Nat → Rat

/-- The unit vectors east, north and up at an ECEF position in mm: the spec does not name the datum (R233, R254). -/
opaque localAxes : Int → Int → Int → List (List Rat)

/-- The Earth's rotation rate in rad/s, as the interface specifications give it (R242). -/
opaque earthRate : Rat

/-- The circular mean of phases in cycles (R254). -/
opaque circularMean : List Rat → Rat

/-- The frequency channel k of a GLONASS slot, -7 to +6 (R232). -/
opaque glonassChannel : Nat → Int

/-- What stands at a byte offset of a direct-window group: the spec names the groups' contents and gives no offsets (R489). -/
opaque directKind : Nat → Nat → Nat

/-- Which member of its update group holds a staged direct register, by group and byte offset (R489). -/
opaque directMember : Nat → Nat → Nat

end Sys2Proof.Config
end

