-- ==== Sys2Proof/Machine/Params.lean ====
section
/-! DEFINITION. The parameter tables of the configuration commands as parcel rows (R460, R461): for every parameter its words, sign, range and default, in the units that R461 gives it. A configured object holds one value per parameter, in table order. -/

namespace Sys2Proof.Machine

/-- One parameter of a row (R460, R461). `octets` is 0 for a number, else the number of octets of an address in network order. `orNone` admits the all-ones value "None". -/
structure Param where
  words : Nat
  signed : Bool
  lo : Int
  hi : Int
  dflt : Int
  orNone : Bool
  octets : Nat
  deriving DecidableEq, Repr

/-- A one-word number. -/
def pNum (lo hi dflt : Int) : Param := ⟨1, false, lo, hi, dflt, false, 0⟩
/-- A two-word number. -/
def pWide (lo hi dflt : Int) : Param := ⟨2, false, lo, hi, dflt, false, 0⟩
/-- A one-word two's complement number. -/
def pSigned (lo hi dflt : Int) : Param := ⟨1, true, lo, hi, dflt, false, 0⟩
/-- A two-word two's complement number. -/
def pWideSigned (lo hi dflt : Int) : Param := ⟨2, true, lo, hi, dflt, false, 0⟩
/-- A one-word number or None, None by default. -/
def pOpt (lo hi : Int) : Param := ⟨1, false, lo, hi, 0xFFFFFFFF, true, 0⟩
/-- An address of `n` octets in `w` words, zero by default. -/
def pOctets (n w : Nat) : Param := ⟨w, false, 0, (2 ^ (8 * n) : Nat) - 1, 0, false, n⟩
/-- A flag. -/
def pFlag (dflt : Int) : Param := pNum 0 1 dflt

/-- A row: the parameters it names, in order (R460). -/
abbrev Row := List Param
/-- A parameter table: its rows in order. -/
abbrev ParamTable := List Row
/-- The values of a configured object, one per parameter. -/
abbrev Cfg := List Int

/-- The defaults of a table. -/
def ParamTable.defaults (t : ParamTable) : Cfg := (t.flatMap id).map Param.dflt

/-- The index of the first parameter of row `j`. -/
def ParamTable.first (t : ParamTable) (j : Nat) : Nat := ((t.take j).map List.length).sum

/-- Parameter `i` of a configuration. -/
def Cfg.at (c : Cfg) (i : Nat) : Int := c.getD i 0
/-- Parameter `i` as a natural number. -/
def Cfg.nat (c : Cfg) (i : Nat) : Nat := (c.getD i 0).toNat
/-- Parameter `i` as a flag. -/
def Cfg.flag (c : Cfg) (i : Nat) : Bool := c.getD i 0 == 1
/-- Every value of a configuration with its place. -/
def Cfg.rows (c : Cfg) : List (Nat × Int) := c.mapIdx Prod.mk
/-- The value that stands for None in one word (R461). -/
def noneWord : Int := 0xFFFFFFFF

/-- TDC_CONFIG (R82). PARTNER's default, the channel itself, is set per channel in `State.reset`. -/
def tdcTable : ParamTable :=
  [ [pNum 0 4 0], [pNum 0 2 0], [pNum 1 (2 ^ 24) 1], [pNum 0 625 0],
    [pSigned (-(2 ^ 31)) (2 ^ 31 - 1) 0], [pNum 0 25600 0],
    [pWide 1000 1500000000000000 10000000000000], [pWide 1000 4000000000000 1000000000],
    [pWide 0 3999999999999 0], [pNum 2 500000000 1000], [pNum 1 1000000 1000],
    [pNum 0 71 0], [pNum 0 1 1], [pNum 0 15 0] ]

/-- REF_CONFIG of a slot (R116); SOURCE is eight words (R465). -/
def slotTable : ParamTable :=
  [ [pNum 0 8 0], List.replicate 8 (pNum 0 0xFFFFFFFF 0), [pFlag 0], [pNum 0 15 15],
    [pNum 0 0xFFFFFFFE 256], [pWide 18446 184467440737096 184467441], [pNum 0 3600 300],
    [pNum 0 86400 600], [pWide 18446744073 1844674407370956 922337203686], [pNum 1 1000 10],
    [pNum 2 1000000 100], [pNum 1 16 4], [pNum 0 255 8] ]

/-- REF_CONFIG of object 16 (R117). -/
def wvTable : ParamTable :=
  [ [pNum 1 1000000000 1000], [pWide 1844674 184467440738 92233721], [pNum 10 10000 1000],
    [pNum 0 50 20], [pNum 0 3600 60] ]

/-- STEER_CONFIG (R155). -/
def steerTable : ParamTable :=
  [ [pNum 10 1000 1000], [pNum 1 100000 50], [pNum 1 3600 60], [pNum 1 10000 5],
    [pNum 10 86400 600], [pNum 2 1000000 500], [pNum 2 100000 50],
    [pWide 1844674 18446744073710 184467440738] ]

/-- FLYWHEEL_CONFIG (R161, SHARED of R402). TEMP_SRC's default is 0 for flywheel 0 and 5 for the others. -/
def flywheelTable : ParamTable :=
  [ [pOpt 64 71], [pNum 0 5 5], [pNum 0 600 60], [pWide 1844674 184467440737096 184467440738],
    [pWide 0 184467440738 1844674408], [pWide 184467 18446744074 184467441],
    [pNum 3600 2592000 86400], [pNum 1 365 30], [pNum 1 100 10], [pFlag 0] ]

/-- SYNTH_CONFIG (R191). -/
def synthTable : ParamTable :=
  [ [pFlag 0], [pWide (5600000000 * 2 ^ 24) (6400000000 * 2 ^ 24) (6000000000 * 2 ^ 24)],
    [pNum 10 100 10], [pNum 0 2 0], [pNum 0 2 1], [pNum 4 (2 ^ 24) 1536] ]

/-- OUTPUT_CONFIG (R200, R466). The upper limits of PHASE and WIDTH name PERIOD (R458). -/
def outputTable : ParamTable :=
  [ [pNum 0 5 0], [pNum 4 (2 ^ 24) 600], [pWide 100 4000000000000 1000000000],
    [pWide 0 3999999999999 0], [pWide 10 3999999999990 100000000], [pFlag 0], [pFlag 0],
    [pSigned (-3200) 3200 0], [pNum 0 25600 26], [pNum 0 2 0], [pNum 0 7 4], [pSigned (-31) 31 0],
    [pNum 0 3 0], [pNum 100 1000000 1000], [pNum 0 2 1], [pNum 10 500 100], [pNum 0 63 0] ]

/-- GNSS_CONFIG of a stream in band L1 (streams 0 and 2) or L5 (R230). -/
def streamTable (l5 : Bool) : ParamTable :=
  [ [pFlag 0],
    [if l5 then pNum 1135200000 1217700000 1176450000 else pNum 1542750000 1625250000 1584000000],
    [pFlag 0], [pNum 0 2560000 0], [pFlag 1] ]

/-- GNSS_CONFIG of the receiver (R233). -/
def receiverTable : ParamTable :=
  [ [pNum 0 3 1], [pNum 0 63 3], [pNum 0 1 0, pNum 5 6 6, pNum 9 10 9], [pFlag 1], [pFlag 0],
    [pNum 0 5 0], [pFlag 0], List.replicate 6 (pFlag 1), List.replicate 6 (pNum 0 100 5),
    [pNum 0 60 10], [pNum 1 16 4], [pNum 10 10000 50], [pNum 0 4 2],
    [pWideSigned (-(2 ^ 63)) (2 ^ 63 - 1) (-(2 ^ 63)), pWideSigned (-(2 ^ 63)) (2 ^ 63 - 1) 0,
     pWideSigned (-(2 ^ 63)) (2 ^ 63 - 1) 0],
    [pNum 0 100000 0], [pNum 0 2 1], [pNum 1 48 24], [pNum 0 10 1],
    List.replicate 3 (pSigned (-(2 ^ 31)) (2 ^ 31 - 1) 0), List.replicate 4 (pNum 0 2560000 0),
    [pNum 0 10 1], [pNum 1 20 10], [pNum 12 60 30], [pNum 0 120 40], [pFlag 0], [pNum 0 7 7],
    [pNum 60 3600 600], [pNum 2 20 6], [pNum 1 3600 60] ]

/-- PORT_CONFIG (R266). -/
def portTable : ParamTable :=
  [ [pFlag 0], [pNum 0 2 0], [pFlag 0], [pFlag 0], [pOctets 6 2], [pNum 1518 9600 1522],
    pNum 0 16 0 :: List.replicate 16 (pOctets 6 2), [pNum 0 6400 0], [pNum 0 6400 0],
    [pNum 0 2560 26] ]

/-- PRP_CONFIG (R267). -/
def prpTable : ParamTable := [ [pFlag 0], [pNum 100 10000 2000], [pNum 10 10000 400] ]

/-- HL_RULE (R306, R464). -/
def ruleTable : ParamTable :=
  [ [pFlag 0], [pNum 0 255 0], [pOpt 0 0xFFFF], [pOpt 0 0xFF], [pOpt 0 0xFFFFFFFE], [pNum 0 3 0] ]

/-- INSTANCE_CONFIG (R310). -/
def instTable : ParamTable :=
  [ [pFlag 0], [pFlag 0], [pNum 0 255 0], [pOpt 1 4094, pNum 0 7 0],
    (pNum 0 2 0 :: List.replicate 2 (pOctets 4 1)) ++ (pNum 0 2 0 :: List.replicate 2 (pOctets 16 4)),
    [pNum 0 63 46], [pNum 0 5 0],
    [pNum 0 255 0, pNum 0 2 0, pFlag 0, pSigned (-3) 4 1, pSigned (-7) 4 0, pSigned (-7) 5 0],
    [pFlag 1], [pFlag 0], [pNum 10 1000 300], [pNum 0 65536 65536], [pFlag 1],
    [pNum 0 255 128, pNum 0 255 128], [pNum 0 0xFFFF 0x4E5D],
    [pNum 1 1000000000 1000, pNum 1 1000000000 1000], [pNum 0 255 52], [pNum 3 254 3],
    [pOctets 3 1, pNum 0 0xFFFFFF 0], [pFlag 0], [pNum 1 15 1], [pNum 0 65536 0], [pOpt 0 3],
    [pNum 1 24 12], [pNum 0 2 0], [pNum 0 0x1FF 0xFF], [pNum 0 1024 0], [pNum 0 64000000 0],
    [pFlag 0] ]

/-- ESMC_CONFIG (R331). -/
def esmcTable : ParamTable := [ [pFlag 0], [pNum 0 15 2], [pNum 0 15 4], [pNum 0 15 0xB] ]

/-- SMEAR (R52). -/
def smearTable : ParamTable := [ [pNum 0 2 0], [pNum 3600 172800 86400], [pNum 0 2 0] ]

/-- TWIN_CONFIG (R394). -/
def twinTable : ParamTable :=
  [ [pFlag 0], [pFlag 0], [pOctets 6 2], [pNum 0 3 0], [pOctets 6 2], [pSigned (-6553600) 6553600 0],
    [pNum 0 25600 256], [pOpt 0 3], [pNum 10 500 50], [pNum 1 60 5] ]

/-- GRID_CONFIG (R364). -/
def feedTable : ParamTable :=
  [ [pFlag 0], [pFlag 0], [pNum 0 63 0], [pFlag 0], [pNum 0 7 0, pNum 0 15 0],
    [pNum (2 ^ 15) (2 ^ 29) (2 ^ 25)], [pSigned (-256000000) 256000000 0], [pFlag 0], [pNum 2 60 10],
    [pNum 5 12 10], [pNum 1 60 3],
    [pNum (40 * 2 ^ 24) (70 * 2 ^ 24) 835505357, pNum (40 * 2 ^ 24) (70 * 2 ^ 24) 842216244],
    [pNum 0 (2 ^ 24) 335545], [pSigned 655 6553600 65536], [pNum 65536 11796480 655360], [pFlag 0],
    [pNum 0 15 0] ]

/-- CP_CONFIG (R381). -/
def cpTable : ParamTable :=
  [ [pFlag 0], [pNum 0 3 1], [pFlag 0], [pNum 1 4096 4], [pNum 1 16 8], [pFlag 0], [pFlag 0],
    [pNum 0 0xFFFF 1, pNum 0 0xFFFF 1], [pNum 1 1024 48], [pNum 0 524287 0, pNum 0 1024 0],
    [pNum 0 524287 0, pNum 0 1024 0], [pWide (100 * 2 ^ 24) (256000 * 2 ^ 24) (4800 * 2 ^ 24)],
    [pWide 18446744073 184467440737096 1844674407371] ]

end Sys2Proof.Machine
end

