-- ==== Sys2Proof/Machine/State.lean ====
section
/-! DEFINITION. The state of the engine as plain data, block by block, with each field's reset value as its default, and the reasons a step could stop. Times on the time scale are `Int` counts of 2^-16 ns from the PTP epoch, times on the timebase are CYC counts or FINE steps, exact real quantities of the spec are `Rat`. -/

namespace Sys2Proof.Machine

/-- The engine states of R28. -/
inductive EngineState where
  | reset | boot | init | warmup | acquire | locked | holdover | safe
  deriving DecidableEq, Repr

/-- The twin roles of R392. -/
inductive Role where
  | solo | discovering | active | standby | quarantined
  deriving DecidableEq, Repr

/-- Image boot progress (R525, R528). -/
inductive BootStage where
  | idle | waitLock (area : Area) | reading (area : Area) | failed (code : Nat) | running (area : Area)
  deriving DecidableEq, Repr

/-- Something that leaves the block, in the order in which it leaves (the model's record of its outputs). -/
inductive Emit where
  | read (hp : Fin 4) (v : Word)
  | completerAbort (hp : Fin 4)
  | spiByte (hp : Fin 4) (v : Nat)
  | ptm (hp : Fin 4) (ns : BitVec 64) (granularityNs : Nat) (bound : Word)
  | msix (hp : Fin 4) (vector : Nat)
  | frame (port : Fin 8) (launch : Nat) (octets : List Byte) (late : Bool)
  | pulse (pin : Fin 80) (lead : Rat) (widthNs : Nat) (activeLow : Bool)
  | irig (pin : Fin 80) (lead : Rat) (highMs : List Nat) (activeLow : Bool)
  | serial (tio : Fin 64) (start : Rat) (baud : Nat) (bits : List Bool)
  | hostMem (hp : Fin 4) (addr : Nat) (words : List Word)
  | hostOctets (hp : Fin 4) (addr : Nat) (octets : List Byte)
  | link (kind : Nat) (octets : List Byte)
  | replicate (item : ReplItem)
  | counters (prpSeq : List Nat) (ptpSeq : List (Fin 16 × Nat × Nat × Int))
  | converter (cp : Fin 8) (bits : List Bool) (syncClocks : Nat) (activeLow : Bool)
  | sense (sensor : Nat)
  | monitor (text : String)
  deriving DecidableEq, Repr

/-! ### System, boot and MRAM -/

/-- Pins, straps, reset and boot (R516 to R531). -/
structure Sys where
  engine : EngineState := .reset
  resetN : Bool := false
  por : Bool := true
  resetCause : Nat := 0
  resetPort : Nat := 0
  straps : Straps := ⟨0, 0, false, false⟩
  rpllLocked : Bool := false
  cyc : Nat := 0
  cclkBefore : Nat := 0
  resetOnly : Bool := false
  fallback : Bool := false
  stage : BootStage := .idle
  xinCode : Option Nat := none
  running : Option Area := none
  trialRun : Bool := false
  hdr : Option ImageHdr := none
  warmupTime : Nat := 600
  warmupStart : Nat := 0
  warmupOver : Bool := false
  selectedSinceInit : Bool := false
  safePending : Bool := false
  resetDue : Option Nat := none
  owner : Fin 4 := 0
  grants : Vector Nat 4 := Vector.replicate 4 0
  droopLast : Vector (Option Nat) 16 := Vector.replicate 16 none
  eccLast : List (Nat × Nat) := []
  onDie : Vector Int 4 := Vector.replicate 4 0
  onDieRead : Bool := false
  onDiePrev : Option (Vector Int 4) := none
  overTemp : Bool := false
  slewSec : Nat := 0
  deriving DecidableEq, Repr

/-- One Forecast model as it is kept and checkpointed (R164, R165): the coefficients, the 1σ uncertainty of each, the covariances of their pairs in the order c0, c1, c2, c3, h, A, B, e_T, σ_wfm, σ_fl, ta, and the range of the temperatures observed. Frequencies are fractional, temperatures in degrees. -/
structure Model where
  c0 : Rat := 0
  c1 : Rat := 0
  c2 : Rat := 0
  c3 : Rat := 0
  h : Rat := 0
  a : Rat := 0
  b : Rat := 0
  uC0 : Rat := 0
  uC1 : Rat := 0
  uC2 : Rat := 0
  uC3 : Rat := 0
  uH : Rat := 0
  uA : Rat := 0
  uB : Rat := 0
  cov : List Rat := []
  covAB : Rat := 0
  eT : Rat := 0
  sWfm : Rat := 0
  sFl : Rat := 0
  ta : Option Int := none
  tMin : Option Rat := none
  tMax : Option Rat := none
  deriving DecidableEq, Repr

/-- One bin of observations (R171). -/
structure Bin where
  freq : Rat
  temp : Rat
  rising : Bool
  count : Nat
  time : Int
  deriving DecidableEq, Repr

/-- One accepted observation of the running hour (R169, R171). -/
structure Obs where
  y : Rat
  temp : Rat
  rising : Bool
  sec : Int
  deriving DecidableEq, Repr

/-- One octave of the Allan deviations (R165): the last average, the first half of the next octave's, and the sum of the squared differences of successive averages with their number. -/
structure AdevLevel where
  last : Option Rat := none
  half : Option Rat := none
  n : Nat := 0
  sq : Rat := 0
  deriving DecidableEq, Repr

/-- A checkpoint ring record (R177): the time scale, the models with those still being learnt, the sensor offsets, and whether its CRC-32 matches. -/
structure Checkpoint where
  seq : Nat
  time : Int
  models : List (Option Model)
  seeds : List Model
  offsets : List Rat
  crcGood : Bool
  deriving DecidableEq, Repr

/-- The MRAM areas that the engine reads and writes (R46, R177, R238, R249, R401, R524, R525). Kept through every reset. -/
structure Mram where
  ring : List (Nat × Checkpoint) := []
  nextSeq : Nat := 0
  hourly : Vector (List Bin) 3 := Vector.replicate 3 []
  daily : Vector (List Bin) 3 := Vector.replicate 3 []
  activeArea : Option Area := none
  trialArea : Option Area := none
  tried : Bool := false
  custKey : Option Nat := none
  asym : Option (Int × Nat) := none
  position : Option (Int × Int × Int × Nat) := none
  ephemerides : List (Sat × Int) := []
  almanacs : List (Sat × Int) := []
  pathDelay : Vector Int 88 := Vector.replicate 88 0
  deriving DecidableEq, Repr

/-- An FW_WRITE on its way to the flash (R530): the mailbox that its completion goes to, its result's place, its data, and whether its port has been reset since. -/
structure FlashWrite where
  hp : Fin 4
  mb : Fin 8
  ofs : Nat
  offset : Nat
  data : List Byte
  orphan : Bool
  deriving DecidableEq, Repr

/-- The update areas of the boot flash (R521, R530): the bytes of each area that differ from an erased flash, the progress of the image under way, the sectors erased for it, and the write in hand. -/
structure Flash where
  areaA : List Host.Cell := []
  areaB : List Host.Cell := []
  started : Bool := false
  highest : Nat := 0
  erased : List Nat := []
  writing : Option FlashWrite := none
  deriving DecidableEq, Repr

/-! ### Time scale and Bound -/

/-- A conversion set (R24, R38): OFFSET in 2^-48 ns, RATE in 2^-56, the CYC at which it took effect. -/
structure ConvSet where
  offset : Int := 0
  rate : Int := 0
  cyc : Nat := 0
  deriving DecidableEq, Repr

/-- Where a step request comes from (R44, R45). -/
inductive StepOrigin where
  | host (id : Nat)
  | switch (slot : Fin 16)
  deriving DecidableEq, Repr

/-- A phase step request, in 2^-16 ns (R42, R44). -/
structure StepReq where
  size : Int
  origin : StepOrigin
  deriving DecidableEq, Repr

/-- A RATE request (R42, R157): the host command it serves, if any. -/
structure RateReq where
  rate : Int
  host : Option Nat
  deriving DecidableEq, Repr

/-- The committed set (R42): what changes at `effect`. -/
structure Committed where
  effect : Nat
  step : Option StepReq
  rate : Option RateReq
  deriving DecidableEq, Repr

/-- One smear profile (R52 to R55). -/
structure Smear where
  cfg : Cfg := smearTable.defaults
  running : Bool := false
  skipped : Bool := false
  deriving DecidableEq, Repr

/-- The time-scale converter with UTC, leap and smear (R38 to R55). `rateInt` is the integral of RATE over FINE steps up to the newest set; `smearLeap` holds LEAP_AT, d and N of the leap second that the ramps of R53 follow. -/
structure TimeScale where
  sets : List ConvSet := [{}]
  committed : Option Committed := none
  waitSteps : List StepReq := []
  waitRate : Option RateReq := none
  rateInt : Int := 0
  rateLog : List (Nat × Int) := []
  lastStepAt : Nat := 0
  rateLimited : Option Bool := none
  stepCount : BitVec 8 := 0
  utcOffset : Int := 0
  utcSet : Bool := false
  leapPending : Fin 3 := 0
  leapAt : Nat := 0
  smear : Vector Smear 4 := Vector.replicate 4 {}
  smearLeap : Option (Nat × Int × Int) := none
  deriving DecidableEq, Repr

/-- The Bound calculator (R56 to R63, R109). Hard components in ns, the squares of statistical ones in ns²; `none` is unknown. -/
structure BoundCalc where
  k : Nat := 5
  kStaged : Nat := 5
  kPending : Option Nat := none
  epoch : Word := 0
  exact : Option Rat := none
  ts : Word := 0xFFFFFFFF
  hist : List (Nat × Option Rat) := []
  refDecl : Option Rat := none
  refVar : Option Rat := none
  loopVar : Rat := 0
  tdcVar : Rat := 0
  switchVar : Rat := 0
  holdSigma : Rat := 0
  out : Vector Word 16 := Vector.replicate 16 0xFFFFFFFF
  port : Vector Word 8 := Vector.replicate 8 0xFFFFFFFF
  twin : Word := 0xFFFFFFFF
  tio : Vector Word 64 := Vector.replicate 64 0xFFFFFFFF
  threshold : Vector Nat 26 := Vector.replicate 26 0xFFFFFFFE
  above : Vector Bool 26 := Vector.replicate 26 true
  due : Nat := 39062500
  holdTarget : Nat := 1000
  holdRemain : Word := 0
  deriving DecidableEq, Repr

/-! ### TDC channels and event queues -/

/-- A stamp on its way to an EDGE record (R79, R88, R108): before and after DELAY, with the DELAY_UNC that goes with that. -/
structure FifoStamp where
  stamp : Stamp
  delayed : Stamp
  delayUnc : Nat
  falling : Bool
  rejected : Nat
  stale : Bool
  deriving DecidableEq, Repr

/-- A finished interval or gate on its way to its record (R96, R100). `late` says that a stamp of the interval was older than the oldest set held; `fit` holds RESID and the fitted phase, which a gate of fewer than 3 stamps has not (R99). -/
inductive Result where
  | interval (start : Stamp) (coarse : Nat) (dfine : Int) (duration : Int) (stop : Nat) (invalid overflow falling stale late : Bool)
  | freq (yTb yTs : Int) (n : Nat) (fit : Option (Nat × Stamp)) (invalid stepIn countLimit falling stale : Bool)
  deriving DecidableEq, Repr

/-- The regression accumulators of a gate (R99), in FINE steps: where the gate starts and the integral of RATE there, the first and last indices, the first stamp and the sums. `waiting` says that it starts at the stamp that follows (R101); `stale`, that an uncalibrated line gave one of its stamps. -/
structure Gate where
  start : Nat := 0
  rate0 : Int := 0
  waiting : Bool := false
  stale : Bool := false
  n : Nat := 0
  k0 : Int := 0
  t0 : Int := 0
  kLast : Int := 0
  sk : Int := 0
  skk : Int := 0
  st : Int := 0
  skt : Int := 0
  stt : Int := 0
  deriving DecidableEq, Repr

/-- One of the 88 TDC channels (R78 to R115). Positions on the timebase are in FINE steps: `inside` holds the stamps that wait for their window's close, with the window's number and whether the line was stale; `widths` the values W has had and the CYC from which each was in force (R91); `later` the stamps at or after the end of the present gate, with index and staleness; `stepsAt` the phase steps from its start on. `armedRate` is the integral of RATE at the armed start. `edgeNo` is the index of the last regression stamp of a running clock and `edgeSeen` the prescaled number that the stamp had. -/
structure TdcChan where
  cfg : Cfg := tdcTable.defaults
  level : Bool := false
  pend : Option (Stamp × Bool) := none
  seen : Nat := 0
  last : Option Nat := none
  fifo : List FifoStamp := []
  results : List Result := []
  edges : Word := 0
  missed : Word := 0
  rejected : Word := 0
  glitch : Word := 0
  empty : Word := 0
  lost : Word := 0
  inside : List (Int × Stamp × Bool) := []
  rejSince : Nat := 0
  closedTo : Nat := 0
  opensFrom : Nat := 0
  widths : List (Nat × Rat) := []
  seenAt : Nat := 0
  emptyRun : Nat := 0
  armed : Option Stamp := none
  armedRate : Int := 0
  armedStale : Bool := false
  armedLate : Bool := false
  gate : Gate := {}
  later : List (Int × Int × Bool) := []
  stepsAt : List Int := []
  edgeNo : Nat := 0
  edgeSeen : Nat := 0
  monitor : List (Nat × Nat) := []
  lineB : Bool := false
  stale : Bool := true
  sigmaA : Option Nat := none
  sigmaB : Option Nat := none
  ageA : Nat := 0
  ageB : Nat := 0
  swapDue : Nat := 0
  seq : BitVec 16 := 0
  fifoLostFlag : Bool := false
  lostBefore : Vector Bool 4 := Vector.replicate 4 false
  period : Vector (Option Nat) 4 := Vector.replicate 4 none
  deriving DecidableEq, Repr

/-- A record queue of a host port: the event queue (R111 to R114), the grid queue (R380), the notice ring indices (R444) or a transmit stamp queue (R289 to R292). Slots hold the record's words. -/
structure Queue where
  wr : BitVec 16 := 0
  rd : BitVec 16 := 0
  overflow : Bool := false
  lost : Word := 0
  slots : List (Nat × List Word) := []
  deriving DecidableEq, Repr

/-! ### Weathervane -/

/-- The slot states of R130. -/
inductive SlotState where
  | disqualified | qualifying | qualified | disputed | lockedOut
  deriving DecidableEq, Repr

/-- A measurement waiting for its slot (R120): an offset in 2^-16 ns with what its source declares in ns, a frequency in 2^-64, or an alarm of R135. -/
inductive Meas where
  | offset (phi : Int) (at_ : Nat) (extra : Rat)
  | freq (y : Int) (at_ : Nat)
  | alarm (cause : Nat)
  deriving DecidableEq, Repr

/-- One reference slot (R116 to R139, R150, R151). Offsets in 2^-16 ns with the CYC of each, frequencies in 2^-64, `var` the square of σ_ref in ns², `extra` what the source itself adds to or sets for the declared uncertainty, in ns, `tdcVar` the square of its tdc_cal_sigma where no TDC channel measures it. `edge` is the last edge that an IRIG-B slot's window accepted, `frames` the ends of the last time-of-day frames with the seconds they name (none for a bad one), `clock` the trailing stamps of a SYNCE slot's recovered clock. The six flags at the end are the alarm conditions that hold now, whatever the slot's state (R131, R135). -/
structure Slot where
  cfg : Cfg := slotTable.defaults
  state : SlotState := .disqualified
  freqDispute : Bool := false
  cause : Nat := 0
  forced : Bool := false
  stepBlocked : Bool := false
  flaps : List Nat := []
  timerStart : Option Nat := none
  wtrDone : Bool := false
  meas : List Meas := []
  offsets : List (Nat × Int) := []
  lastOffset : Option Int := none
  phasePrev : Option (Nat × Int) := none
  freq : Int := 0
  lastFreq : Int := 0
  freqSeen : Bool := false
  freqs : List (Nat × Int) := []
  var : Option Rat := none
  extra : Rat := 0
  tdcVar : Rat := 0
  glitch : Word := 0
  badRun : Nat := 0
  goodRun : Nat := 0
  lastFrame : Option Int := none
  frameFault : Option Nat := none
  edge : Option Stamp := none
  frames : List (Nat × Option Int) := []
  clock : List (Nat × Nat) := []
  pulseLost : Bool := false
  clockLost : Bool := false
  frameLost : Bool := false
  esmcLost : Bool := false
  freqBad : Bool := false
  kindBad : Bool := false
  deriving DecidableEq, Repr

/-- A master that the PTP slot has seen (R126): its portIdentity, the dataset of its last Announce, its bound TLV in units of 2^-8 ns, and the CYC of that Announce. -/
structure PtpMaster where
  id : Nat
  port : Nat
  gmId : Nat
  cls : Nat
  acc : Nat
  variance : Nat
  prio1 : Nat
  prio2 : Nat
  steps : Nat
  bound : Option Nat
  seen : Nat
  deriving DecidableEq, Repr

/-- What the PTP slot holds of its exchange and masters (R126). Times in 2^-16 ns, corrected by the correctionFields; `twoStep` holds the sequenceId, t2 and correction of a Sync that waits for its Follow_Up. -/
structure PtpSlot where
  masters : List PtpMaster := []
  twoStep : Option (Nat × Int × Int) := none
  t1 : Option Int := none
  t2 : Option Int := none
  t3 : Option Int := none
  t4 : Option Int := none
  master : Option (Nat × Nat) := none
  gmId : Option Nat := none
  lastSync : Nat := 0
  lastAnnounce : Nat := 0
  seq : BitVec 16 := 0
  deriving DecidableEq, Repr

/-- A switch under way (R145 to R148). -/
structure Switch where
  target : Fin 16
  committed : Bool
  deriving DecidableEq, Repr

/-- Weathervane as a whole (R117, R140 to R151). -/
structure Weathervane where
  cfg : Cfg := wvTable.defaults
  slots : Vector Slot 16 := Vector.replicate 16 {}
  ptp : PtpSlot := {}
  selected : Option (Fin 16) := none
  lastSelected : Option (Fin 16) := none
  switch : Option Switch := none
  aid : Option (Fin 16) := none
  switchCount : BitVec 8 := 0
  lastStep : Int := 0
  betterSince : List (Fin 16 × Nat) := []
  disputeDue : Nat := 0
  leapWarned : Option Int := none
  esmcLast : Vector Nat 8 := Vector.replicate 8 0
  deriving DecidableEq, Repr

/-! ### Steering, Forecast and holdover -/

/-- Loop phases (R158). -/
inductive LoopPhase where
  | off | acquire | settle | track
  deriving DecidableEq, Repr

/-- The steering loop (R154 to R160, R188). Fractional rates and residuals in ns. -/
structure Loop where
  cfg : Cfg := steerTable.defaults
  bwSet : Bool := false
  phase : LoopPhase := .off
  integ : Rat := 0
  corr : Rat := 0
  ff : Rat := 0
  slewLimited : Bool := false
  slewSince : Nat := 0
  frozen : Option Bool := none
  window : List (Nat × Int) := []
  resid : Rat := 0
  runStart : Option Nat := none
  trackSince : Option Nat := none
  aided : Bool := false
  aidRate : Rat := 0
  aidSlot : Option (Fin 16) := none
  aidDecl : Rat := 0
  ffDue : Nat := 0
  deriving DecidableEq, Repr

/-- One flywheel with its model and its learning state (R161 to R188). -/
structure Flywheel where
  cfg : Cfg := flywheelTable.defaults
  model : Option Model := none
  ageStale : Bool := false
  gapStale : Bool := false
  restored : Bool := false
  seed : Model := {}
  extrapolating : Bool := false
  lost : Bool := false
  lostAt : Option Nat := none
  goodGates : Nat := 0
  excluded : Bool := false
  inUse : Bool := false
  temp : Option Int := none
  tempSign : Bool := true
  tempExt : Int := 0
  lastGood : Nat := 0
  gates : List (Nat × Rat) := []
  ageRun : Nat := 0
  gapRun : Nat := 0
  restoredRun : Nat := 0
  obsN : Nat := 0
  obsSq : Rat := 0
  adev : List AdevLevel := List.replicate 11 {}
  rejects : List Rat := []
  rejectCount : Word := 0
  lastAccept : Option Nat := none
  hour : List Obs := []
  day : List Rat := []
  anchor : Option Rat := none
  anchorSec : Int := 0
  anchorModel : Rat := 0
  anchorVar : Rat := 0
  deriving DecidableEq, Repr

/-- One SENSE sensor (R166, R167, R464). -/
structure Sensor where
  addr : Nat := 0
  pointer : Nat := 0
  lsb : Int := 65536
  fails : Nat := 0
  goods : Nat := 0
  lastGood : Option Rat := none
  fallback : Bool := false
  offset : Rat := 0
  diffs : List (Nat × Rat) := []
  reading : Bool := false
  deriving DecidableEq, Repr

/-- Forecast and holdover (R161 to R188). -/
structure Forecast where
  fw : Vector Flywheel 3 := ((Vector.replicate 3 {}).set 0 { cfg := flywheelTable.defaults.set 1 0 } : Vector Flywheel 3)
  sensors : Vector Sensor 4 := Vector.replicate 4 {}
  use : Nat := 0
  obsDue : Nat := 0
  obsStart : Option (Fin 16 × Nat × Int × Int) := none
  obsBreak : Nat := 0
  history : List (Nat × Int × Int) := []
  predictions : List (Nat × Rat) := []
  holdStart : Option Nat := none
  sigmaBase : Rat := 0
  sigmaFrom : Nat := 0
  disagree : List (Rat × Nat) := []
  apart : Bool := false
  ensVar1 : Rat := 0
  ensVar2 : Rat := 0
  holding : Bool := false
  restoreNone : Bool := false
  checkpointDue : Nat := 0
  hourDue : Nat := 0
  dayDue : Nat := 0
  deriving DecidableEq, Repr

/-! ### Synthesizers and outputs -/

/-- Lock states of R226. -/
inductive OsLock where
  | off | searching | locked | lost
  deriving DecidableEq, Repr

/-- What the driver of an output pin does (R201, R223). -/
inductive Drive where
  | highZ
  | level (high : Bool)
  | clock (periods high : Nat) (fixedPhase : Bool)
  deriving DecidableEq, Repr

/-- An alignment that is pending or running (R217 to R220). -/
inductive Align where
  | step (at_ : Nat) (cmd : Nat)
  | walkWait (rate : Nat) (cmd : Nat)
  | walk (rate : Nat) (cmd : Nat) (start : Rat)
  deriving DecidableEq, Repr

/-- One output synthesizer (R190 to R198, R225, R226). M in 2^-16 ns. -/
structure Synth where
  cfg : Cfg := synthTable.defaults
  staged : Cfg := synthTable.defaults
  pending : Option Cfg := none
  strobeAt : Nat := 0
  n : Nat := 0
  f : Nat := 0
  fx : Nat := 0
  remainder : Rat := 0
  lock : OsLock := .off
  band : Fin 64 := 0
  relocks : BitVec 8 := 0
  attempts : Nat := 0
  tryAt : Nat := 0
  relocked : Bool := false
  dirty : Bool := false
  mis : Rat := 0
  walk : Int := 0
  walkFrom : Nat := 0
  align : Option Align := none
  deriving DecidableEq, Repr

/-- One OUT or TIO pin (R200, R211 to R215, R226). Pins 0 to 15 are OUT, 16 to 79 TIO. -/
structure OutPin where
  cfg : Cfg := outputTable.defaults
  staged : Cfg := outputTable.defaults
  pending : Option Cfg := none
  muted : Bool := true
  mutedAt : Nat := 0
  pulse : Option Int := none
  emitted : Option Int := none
  frame : List Nat := []
  serial : List Bool := []
  serialAt : Rat := 0
  residuals : List Int := []
  fails : Nat := 0
  goods : Nat := 0
  unknown : Bool := false
  verifyFails : Nat := 0
  lastPulse : Option Int := none
  lastVerify : Option Int := none
  todSeq : BitVec 16 := 0
  widthSet : Bool := false
  deriving DecidableEq, Repr

/-- Synthesizers and pins (R190 to R227). -/
structure Outputs where
  os : Vector Synth 4 := Vector.replicate 4 {}
  pins : Vector OutPin 80 := Vector.replicate 80 {}
  startupMute : Bool := true
  safe : Bool := false
  aligned : Vector (Option (Nat × Rat)) 4 := Vector.replicate 4 none
  deriving DecidableEq, Repr

/-! ### GNSS -/

/-- One IF stream (R228 to R231, R251, R253, R264): `powers` and `cn0s` hold the power reports and the C/N0 reports, by signal and 5° bin of elevation, of the trailing 7 days, newest first. -/
structure Stream where
  cfg : Cfg
  healthy : Bool := false
  clip : Bool := false
  rms : Nat := 0
  jn : Nat := 0xFF
  jamOver : Bool := false
  notches : Vector (Option Int) 4 := Vector.replicate 4 none
  notchLow : Vector Nat 4 := Vector.replicate 4 0
  goodSince : Option Nat := none
  powers : List (Nat × Nat) := []
  cn0s : List (Nat × Fin 13 × Int × Nat) := []
  deriving DecidableEq, Repr

/-- Channel states of R264. -/
inductive ChanState where
  | idle | pullIn | tracking | lost
  deriving DecidableEq, Repr

/-- One tracking channel (R239 to R241, R263, R264). -/
structure GnssChan where
  sat : Option Sat := none
  signal : Fin 13 := 0
  antB : Bool := false
  state : ChanState := .idle
  used : Bool := false
  excluded : Bool := false
  cn0 : Nat := 0
  elevation : Int := 0
  azimuth : Nat := 0
  lowRun : Nat := 0
  pseudorange : Int := 0
  phase : Int := 0
  doppler : Int := 0
  deriving DecidableEq, Repr

/-- A search of the acquisition engine (R235, R236): from which hypothesis of its window on and how many; a handover's window has its code phase, in 2^-16 ns, and its Doppler, in 2^-8 Hz, in the middle (R237). -/
structure Search where
  sat : Sat
  signal : Fin 13
  antB : Bool
  first : Nat
  count : Nat
  centre : Option (Int × Int)
  deriving DecidableEq, Repr

/-- The dwell that runs (R235): a block, or the verification of a detection. -/
structure Dwell where
  verify : Bool
  block : List Search
  ends : Nat
  deriving DecidableEq, Repr

/-- Solution states of R264. -/
inductive Solution where
  | none | valid | survey | integrity
  deriving DecidableEq, Repr

/-- Snapshot buffer states (R264). -/
inductive SnapState where
  | empty | pending | capturing | held | processing
  deriving DecidableEq, Repr

/-- The snapshot buffer (R258 to R261, R264). -/
structure Snap where
  state : SnapState := .empty
  streams : Nat := 0
  length : Nat := 0
  captures : BitVec 16 := 0
  startAt : Option Int := none
  first : Nat := 0
  cmd : Option Nat := none
  header : List Word := []
  data : List Byte := []
  deriving DecidableEq, Repr

/-- The GNSS baseband (R228 to R265). `swept` says how far each search has come in the present sweep; `view` holds the predicted elevations; `surveyInfo` and `surveySum` are the summed information of the survey's positions, in mm^-2, and that times the positions. -/
structure Gnss where
  streams : Vector Stream 4 :=
    ((((Vector.replicate 4 { cfg := (streamTable false).defaults }).set 0
      { cfg := (streamTable false).defaults.set 0 1 }).set 1
      { cfg := (streamTable true).defaults.set 0 1 }).set 3 { cfg := (streamTable true).defaults } : Vector Stream 4)
  cfg : Cfg := receiverTable.defaults
  next : Option Cfg := none
  chans : Vector GnssChan 128 := Vector.replicate 128 {}
  dwell : Option Dwell := none
  swept : List (Sat × Fin 13 × Bool × Nat) := []
  toVerify : List Search := []
  view : List (Sat × Int) := []
  epochSec : Int := -1
  epochAt : Option Nat := none
  aid : Option (Nat × Int × Nat) := none
  solution : Solution := .none
  everValid : Bool := false
  modeStart : Nat := 0
  dualInUse : Bool := false
  sysUsed : Nat := 0
  usedCount : Nat := 0
  exclCount : Nat := 0
  sigma : Word := 0xFFFFFFFF
  hard : Word := 0
  exclRuns : List (Sat × Nat) := []
  excludedUntil : List (Sat × Nat) := []
  surveyStart : Option Nat := none
  surveySigma : Word := 0xFFFFFFFF
  surveyInfo : List (List Rat) := []
  surveySum : List Rat := []
  surveyRound : Bool := false
  leapNow : Int := 0
  leapNext : Int := 0
  leapAnnounced : Bool := false
  utcMismatchAt : Option Nat := none
  leapAnnouncedAt : Option Nat := none
  jamming : Bool := false
  spoofRun : Nat := 0
  spoofFlag : Nat := 0
  spoofClean : Vector Nat 3 := Vector.replicate 3 0
  antRunCount : Nat := 0
  geoExcl : Nat := 0
  geoResid : Nat := 0
  constResid : Nat := 0
  refresh : Bool := false
  refreshSecs : List Nat := []
  fcFreqs : List (Nat × Int) := []
  snapDue : Nat := 0
  snap : Snap := {}
  deriving DecidableEq, Repr

/-! ### Ethernet ports and PRP -/

/-- The IP and UDP headers of a frame of the engine's own (R310, R320, R323). -/
structure IpHead where
  v6 : Bool
  src : Nat
  dst : Nat
  dscp : Nat
  ident : Nat
  sport : Nat
  dport : Nat
  deriving DecidableEq, Repr

/-- What stands around a message on the wire: addresses, the VLAN tag's control word, and IP with UDP or an EtherType (R268, R310). -/
structure Envelope where
  da : Nat
  sa : Nat
  tag : Option Nat
  etherType : Nat
  ip : Option IpHead
  deriving DecidableEq, Repr

/-- The header fields of a PTP message that differ from message to message (R322, R326). -/
structure PtpHead where
  msgType : Nat
  flags : Nat
  domain : Nat
  corr : Int
  clockId : Nat
  port : Nat
  seq : Nat
  logInterval : Int
  deriving DecidableEq, Repr

/-- What signs one PTP message: the SA's attributes and the IV of this message (R354, R355). -/
structure Sign where
  alg : Nat
  spp : Nat
  keyId : Nat
  iv : Nat
  key : List Byte
  deriving DecidableEq, Repr

/-- An Announce with a bound TLV, whose BOUND is B at its launch (R69): `boundAt` is BOUND's place after the PTP header. -/
structure Fresh where
  inst : Fin 16
  env : Envelope
  head : PtpHead
  rest : List Byte
  boundAt : Nat
  sign : Option Sign
  deriving DecidableEq, Repr

/-- A frame waiting in a port's transmit buffer (R272, R316): its slot, if timed; the octets from the destination address up to the FCS; whether they end in an RCT (R280); the stamp identifier and the host port of a STAMP frame (R289); whether it carries a time that was converted late (R24). -/
structure TxFrame where
  slot : Option Nat
  kind : Nat
  octets : List Byte
  rct : Bool := false
  stampId : Option (Nat × Nat) := none
  late : Bool := false
  fresh : Option Fresh := none
  deriving DecidableEq, Repr

/-- One Ethernet port (R266 to R279, R289 to R297). -/
structure Port where
  cfg : Cfg := portTable.defaults
  staged : Cfg := portTable.defaults
  pending : Option Cfg := none
  linkUp : Bool := false
  hiBer : Bool := false
  fault : Fin 3 := 0
  fallback : Bool := false
  linkDowns : BitVec 8 := 0
  counters : Vector (BitVec 48) 45 := Vector.replicate 45 0
  rxBuf : List RxFrame := []
  txBuf : List TxFrame := []
  busyTo : Nat := 0
  tsq : Queue := {}
  nextId : BitVec 16 := 0
  overloadAt : Option Nat := none
  wrongLanAt : Option Nat := none
  fecAt : Option Nat := none
  dropAt : Option Nat := none
  deriving DecidableEq, Repr

/-- One duplicate-discard entry (R284). -/
structure PrpEntry where
  source : Nat
  top : Nat
  seen : List Nat
  last : Nat
  deriving DecidableEq, Repr

/-- One PRP pair (R267, R280 to R284). -/
structure Pair where
  cfg : Cfg := prpTable.defaults
  staged : Cfg := prpTable.defaults
  pending : Option Cfg := none
  seqNr : BitVec 16 := 0
  supSeq : BitVec 16 := 0
  entries : List PrpEntry := []
  singleLan : Bool := false
  fullAt : Option Nat := none
  deriving DecidableEq, Repr

/-! ### Time service -/

/-- A request in hand (R299, R316): its port, its instance, the CYC of its dispatch, its reserved launch in FINE steps, the frames it makes, and the key slots that it uses (R338). -/
structure Work where
  port : Fin 8
  instance_ : Option (Fin 16)
  start : Nat
  slot : Option Nat
  ready : List TxFrame
  keys : List (Bool × Fin 64)
  deriving DecidableEq, Repr

/-- One Squall engine (R298 to R300). -/
structure Squall where
  inDispatch : Bool := true
  work : List Work := []
  busy : Nat := 0
  busySince : Option Nat := none
  deriving DecidableEq, Repr

/-- A unicast grant (R327 to R329). -/
structure Grant where
  inst : Fin 16
  port : Fin 8
  clientId : Nat
  clientPort : Nat
  msgType : Nat
  logPeriod : Int
  duration : Nat
  start : Nat
  mac : Nat
  addr : Nat
  reqCount : Nat
  deriving DecidableEq, Repr

/-- One time-service instance (R310, R311, R322, R333). -/
structure Inst where
  cfg : Cfg := instTable.defaults
  staged : Cfg := instTable.defaults
  pending : Option Cfg := none
  passiveAt : Vector (Option Nat) 8 := Vector.replicate 8 none
  clockClass : Nat := 248
  betterRun : Nat := 0
  seqs : List (Nat × Nat) := []
  tokens : Rat := 0
  tokensAt : Nat := 0
  foreignAt : Option Nat := none
  noCurrent : Bool := false
  deniedAt : Option Nat := none
  srcAt : Option Nat := none
  authAt : Option Nat := none
  sent : Nat := 0
  deriving DecidableEq, Repr

/-- A host lane (R305 to R309, R333). -/
structure Lane where
  enabled : Bool := false
  rxSize : Nat := 0
  txSize : Nat := 0
  cfgErr : Bool := false
  dmaErr : Bool := false
  rxBase : BitVec 64 := 0
  txBase : BitVec 64 := 0
  rxProd : BitVec 16 := 0
  rxCons : BitVec 16 := 0
  txProd : BitVec 16 := 0
  txCons : BitVec 16 := 0
  rxDrop : Word := 0
  inFlight : List (RxFrame × Nat × Fin 8) := []
  recent : List (Nat × Nat) := []
  dropAt : Option Nat := none
  deriving DecidableEq, Repr

/-- ESMC of one port (R331). -/
structure Esmc where
  cfg : Cfg := esmcTable.defaults
  lastCode : Nat := 0xB
  deriving DecidableEq, Repr

/-- Time service: Squall engines, instances, grants, host lanes, ESMC (R298 to R334). -/
structure Service where
  squall : Vector Squall 16 := Vector.replicate 16 {}
  inst : Vector Inst 16 := Vector.replicate 16 {}
  grants : List Grant := []
  rules : Vector Cfg 16 := Vector.replicate 16 ruleTable.defaults
  lanes : Vector Lane 2 := Vector.replicate 2 {}
  esmc : Vector Esmc 8 := Vector.replicate 8 {}
  clockId : Nat := 0
  deferred : Word := 0
  launchDrop : Word := 0
  malformed : Word := 0
  denied : Word := 0
  unmatched : Word := 0
  dropAt : Vector (Option Nat) 8 := Vector.replicate 8 none
  garpDue : Option Nat := none
  sentAt : List (Nat × Int) := []
  deriving DecidableEq, Repr

/-! ### Authentication -/

/-- Key slot states (R335). -/
inductive KeyState where
  | empty | accept | current | draining
  deriving DecidableEq, Repr

/-- A key slot of either table (R335 to R342, R355). -/
structure KeySlot where
  state : KeyState := .empty
  form : Nat := 0
  keyId : Nat := 0
  expiry : Nat := 0
  spp : Nat := 0
  alg : Nat := 0
  key : List Byte := []
  iv : Nat := 0
  deriving DecidableEq, Repr

/-- The key store, generator, counters and sketch (R335 to R363). The sketch lists its non-zero counters by row and column. -/
structure Auth where
  nts : Vector KeySlot 4 := Vector.replicate 4 {}
  sa : Vector KeySlot 64 := Vector.replicate 64 {}
  drbgOk : Bool := false
  kekEnabled : Bool := true
  pairKey : Option (List Byte) := none
  zeroisations : BitVec 8 := 0
  drbgSeed : Nat := 0
  reseedAt : Nat := 0
  requests : Nat := 0
  testsFrom : Option Nat := none
  hashKey : Nat := 0
  hadCurrent : Bool := false
  served : Word := 0
  malformed : Word := 0
  required : Word := 0
  cookieBad : Word := 0
  authBad : Word := 0
  noCurrent : Word := 0
  discard : Word := 0
  ptpBad : Word := 0
  ptpMissing : Word := 0
  ptpNoKey : Word := 0
  srcLimited : Word := 0
  instLimited : Word := 0
  kissSent : Word := 0
  cookieAt : Option Nat := none
  authBadAt : Option Nat := none
  slotAuthAt : Option Nat := none
  cur : List (Nat × Nat) := []
  prev : List (Nat × Nat) := []
  sketchSec : Nat := 0
  deriving DecidableEq, Repr

/-! ### Grid and converter ports -/

/-- A least-squares fit over crossings (R370): the crossing time a and the period b in 2^-16 ns, the last index and the mean stamp. -/
structure GridFit where
  a : Rat
  b : Rat
  kLast : Nat
  mean : Rat
  resid : Nat
  deriving DecidableEq, Repr

/-- A threshold condition's state (R376). -/
structure GridCond where
  isSet : Bool := false
  run : Nat := 0
  runStamp : Option Stamp := none
  deriving DecidableEq, Repr

/-- One grid feed (R364 to R380, R390). -/
structure Feed where
  cfg : Cfg := feedTable.defaults
  staged : Cfg := feedTable.defaults
  pending : Option Cfg := none
  armed : Bool := false
  prevSample : Option (Int × Rat) := none
  crossings : List (Nat × Int × Stamp) := []
  lastCross : Option (Nat × Int) := none
  fit : Option GridFit := none
  fits : List GridFit := []
  freqValid : Bool := false
  range : Bool := false
  gteValid : Bool := false
  mainsLoss : Bool := false
  dataLost : Bool := false
  lossAt : Nat := 0
  lostSamples : Nat := 0
  lostTime : Rat := 0
  underFreq : GridCond := {}
  overFreq : GridCond := {}
  rocof : GridCond := {}
  returns : List (Int × Stamp) := []
  latFreq : Word := 0
  latRocof : Word := 0
  latPhase : Word := 0
  latGte : BitVec 64 := 0
  latSec : Int := 0
  resid : Word := 0
  seconds : BitVec 16 := 0
  rejects : Word := 0
  epochS0 : Int := 0
  gte0 : Int := 0
  cycles : Rat := 0
  gap : Option (Int × Rat) := none
  seq : BitVec 16 := 0
  lostBefore : Vector Bool 4 := Vector.replicate 4 false
  limitsSet : Bool := false
  deriving DecidableEq, Repr

/-- One converter port (R381 to R390). -/
structure ConvPort where
  cfg : Cfg := cpTable.defaults
  staged : Cfg := cpTable.defaults
  pending : Option Cfg := none
  running : Bool := false
  waiting : Bool := false
  foreign : Bool := false
  stopped : Bool := false
  measured : Bool := false
  smpCnt : BitVec 16 := 0
  blockSeq : BitVec 16 := 0
  frame : Nat := 0
  blockTime : Rat := 0
  rate : Gate := {}
  rateFrom : Nat := 0
  writing : Bool := false
  sending : Option Nat := none
  lostRun : Bool := false
  lostFlag : Bool := false
  fsDev : Int := 0
  rxWr : BitVec 16 := 0
  rxRd : BitVec 16 := 0
  txWr : BitVec 16 := 0
  txRd : BitVec 16 := 0
  lost : Word := 0
  underrun : Word := 0
  overrunAt : Option Nat := none
  underrunAt : Option Nat := none
  startAt : Option (Nat × Nat) := none
  stopCmds : List Nat := []
  deriving DecidableEq, Repr

/-! ### Twin -/

/-- The peer as its last valid heartbeat shows it (R418, R419). -/
structure PeerView where
  role : Nat := 0
  state : Nat := 0
  flags : Nat := 0
  valid : Bool := false
  epoch : Nat := 0
  bound : Nat := 0xFFFFFFFF
  hasKey : Bool := true
  deriving DecidableEq, Repr

/-- The twin logic (R392 to R420). Paths: index 0 link, 1 network. Times in 2^-16 ns; `offsets` holds twice the offset of each exchange; `exch` the arrival of the peer's last frame and the departure before it; `activeSlots` the active's slot, second, offset, qualification and declared uncertainty. -/
structure Twin where
  cfg : Cfg := twinTable.defaults
  nextCfg : Option Cfg := none
  role : Role := .solo
  epoch : Nat := 0
  linkUp : Bool := false
  lastHb : Vector (Option Nat) 2 := Vector.replicate 2 none
  silent : Vector Bool 2 := Vector.replicate 2 true
  rxSeq : Vector (Option Nat) 2 := Vector.replicate 2 none
  txSeq : Vector Nat 2 := Vector.replicate 2 0
  hbDue : Nat := 0
  roleSince : Nat := 0
  paired : Bool := false
  activeKeys : Bool := false
  bulkDone : Bool := false
  bulkStart : Option Nat := none
  vote : Option (Nat × Nat) := none
  voteAnswer : Option Bool := none
  calibrating : Option (Fin 16 × Nat × Nat × Nat) := none
  calSamples : List Rat := []
  takeovers : BitVec 8 := 0
  peer : PeerView := {}
  offset : Int := 0
  rtt : Word := 0
  hbBad : Word := 0
  standbyDrop : Word := 0
  linkErrors : Word := 0
  lastTx : Option Int := none
  txIndex : Int := -1
  exch : Option (Int × Int) := none
  gotTt : Bool := true
  offsets : List Int := []
  ofsWindow : Int := 0
  failRun : Nat := 0
  release : Bool := false
  handover : Option Nat := none
  handed : Option Nat := none
  configBad : Option Nat := none
  activeSlots : List SlotView := []
  prpSeq : List Nat := []
  ptpSeq : List (Fin 16 × Nat × Nat × Int) := []
  seqAt : Nat := 0
  deriving DecidableEq, Repr

/-! ### Host ports, commands, windows -/

/-- A reply waiting for its mailbox (R439, R441). -/
structure Reply where
  mb : Fin 8
  word : Word
  deriving DecidableEq, Repr

/-- The capture registers of one port (R72, R73), and the edge that a capture under way waits for. -/
structure Capture where
  valid : Bool := false
  busy : Bool := false
  count : BitVec 16 := 0
  cyc : Nat := 0
  ts : Int := 0
  bound : Word := 0xFFFFFFFF
  edge : Nat := 0
  deriving DecidableEq, Repr

/-- One host port (R421 to R454, R471, R487, R513). -/
structure HostPort where
  imb : Vector Word 8 := Vector.replicate 8 0
  imbFull : Vector Bool 8 := Vector.replicate 8 false
  omb : Vector Word 8 := Vector.replicate 8 0
  ombFull : Vector Bool 8 := Vector.replicate 8 false
  replies : List Reply := []
  stallFrom : Vector (Option Nat) 8 := Vector.replicate 8 none
  stalled : Vector Bool 8 := Vector.replicate 8 false
  imbColl : BitVec 8 := 0
  evqLostPeriod : Option Nat := none
  db : Word := 0
  dbMask : Word := 0xFFFFFFFF
  hwEvents : Word := 0
  hwMask : Word := 0xFFFFFFFF
  parcel : List Host.Cell := []
  notices : Queue := {}
  nqLostFlag : Bool := false
  evq : Queue := {}
  gq : Queue := {}
  half : Vector (BitVec 45) 8 := Vector.replicate 8 0
  cap : Capture := {}
  slotBusy : List Nat := []
  slotSeq : Vector Nat 256 := Vector.replicate 256 0
  ptm : BitVec 16 := 0
  pcieUp : Bool := false
  perst : Bool := false
  busErr : Word := 0
  busErrCount : Word := 0
  spiErr : Bool := false
  spiBadOp : Bool := false
  spiPartial : Bool := false
  dwAutoInc : Bool := false
  dwAddr : Word := 0
  dwErr : Bool := false
  dumpInterval : Nat := 0
  dumpDue : Nat := 0
  dumpErr : Bool := false
  dumpBase : Nat := 0
  dumpEntries : Nat := 0
  dumpSeq : BitVec 16 := 0
  deriving DecidableEq, Repr

/-- A handled command that has been accepted and has not completed (R441 to R443). `orphan` says its port was reset (R449). A command that stages keeps its object and the settings that it stages once its strobe is issued (R456). -/
structure Handled where
  id : Nat
  op : Nat
  hp : Fin 4
  mb : Fin 8
  slot : Nat
  ofs : Nat
  group : Option (Fin 8)
  target : Nat
  data : List Int
  orphan : Bool
  strobed : Bool
  obj : Nat
  cfg : Cfg
  deriving DecidableEq, Repr

/-- One update group (R479 to R483). -/
structure UpdateGroup where
  epoch : BitVec 16 := 0
  applied : BitVec 16 := 0
  immediate : BitVec 16 := 0
  deriving DecidableEq, Repr

/-- The direct window's shared part (R479, R488 to R490): LOCKDOWN, and the words written, by group and byte offset; of a staged register `words` holds the staged copy, and `pending` and `taken` hold what waits for a boundary and what the member has applied. -/
structure Direct where
  lockdown : Bool := false
  words : List ((Nat × Nat) × Word) := []
  pending : List ((Nat × Nat) × Word) := []
  taken : List ((Nat × Nat) × Word) := []
  deriving DecidableEq, Repr

/-! ### Faults, log, counters, monitor -/

/-- A fault message (R493). -/
structure FaultMsg where
  source : Nat
  kind : Nat
  sev : Nat
  detail : Nat
  deriving DecidableEq, Repr

/-- The fault collector (R497 to R506). Queues hold (message, arrival CYC), oldest first. -/
structure Collector where
  queues : Vector (List (FaultMsg × Nat)) 16 := Vector.replicate 16 []
  first : Option FaultMsg := none
  firstCyc : Nat := 0
  overflow : Bool := false
  relatched : Bool := false
  degraded : Bool := false
  safeByFault : Bool := false
  selfFault : Bool := false
  worst : Nat := 0
  overflowCount : Nat := 0
  count : Vector Word 4 := Vector.replicate 4 0
  dropped : Word := 0
  masked : Word := 0
  react : List ((Nat × Nat) × Nat) := []
  present : List FaultMsg := []
  degradeBy : List (Nat × Nat) := []
  safeBy : List (Nat × Nat) := []
  droppedAt : Vector (Option Nat) 16 := Vector.replicate 16 none
  deriving DecidableEq, Repr

/-- The trouble log (R507 to R509): entries newest first, by index. -/
structure TroubleLog where
  wr : Word := 0
  boot : BitVec 8 := 0
  entries : List (Nat × List Word) := []
  deriving DecidableEq, Repr

/-- Performance counters (R511, R512). -/
structure Perf where
  window : Nat := 1000
  nextWindow : Nat := 1000
  epoch : Word := 0
  permit : Nat := 0xF
  denied : Word := 0
  due : Nat := 625000000
  endCyc : Nat := 0
  rxOctets : Vector Nat 8 := Vector.replicate 8 0
  txOctets : Vector Nat 8 := Vector.replicate 8 0
  rx : Vector Word 8 := Vector.replicate 8 0
  tx : Vector Word 8 := Vector.replicate 8 0
  sq : Vector Word 16 := Vector.replicate 16 0
  inst : Vector Word 16 := Vector.replicate 16 0
  deriving DecidableEq, Repr

/-- The Wosirun monitor (R532 to R534): its level, the input line as typed so far, failed unlocks, and the last BOOT line (R528). -/
structure Monitor where
  maintain : Bool := false
  line : List Byte := []
  tooLong : Bool := false
  fails : Nat := 0
  waitFrom : Option Nat := none
  lastInput : Nat := 0
  bootLine : String := ""
  deriving DecidableEq, Repr

/-- The whole engine, and the queue of commands that wait. `cmds` holds the mailboxes whose command words wait, oldest first, with the CCLK cycle of each (R429). -/
structure State where
  pending : List Instr := []
  freeCtr : Nat := 0
  emits : List Emit := []
  sys : Sys := {}
  mram : Mram := {}
  flash : Flash := {}
  ts : TimeScale := {}
  bound : BoundCalc := {}
  tdc : Vector TdcChan 88
  calTemp : Bool := false
  wv : Weathervane := {}
  loop : Loop := {}
  fc : Forecast := {}
  outs : Outputs := {}
  gnss : Gnss := {}
  ports : Vector Port 8 := Vector.replicate 8 {}
  pairs : Vector Pair 4 := Vector.replicate 4 {}
  svc : Service := {}
  auth : Auth := {}
  feeds : Vector Feed 6 := Vector.replicate 6 {}
  cps : Vector ConvPort 8 := Vector.replicate 8 {}
  cpBuf : List Host.Cell := []
  twin : Twin := {}
  hosts : Vector HostPort 4 := Vector.replicate 4 {}
  locks : Vector (Option (Fin 4)) 16 := Vector.replicate 16 none
  cmds : List (Nat × Fin 4 × Fin 8) := []
  handled : List Handled := []
  nextHandled : Nat := 0
  groups : Vector UpdateGroup 8
  direct : Direct := {}
  flt : Collector := {}
  log : TroubleLog := {}
  perf : Perf := {}
  mon : Monitor := {}
  deriving DecidableEq, Repr

/-- A step that stops the machine. The spec names none: its faults are messages to the collector. -/
inductive Fault where
  /-- Raised by no meaning of this model; safe, since it would only stop a run. -/
  | machineStop
  deriving DecidableEq, Repr

/-- A command that has no meaning. -/
inductive Refusal where
  /-- A row of the opcode table that the model does not give a meaning; raised by the arms of `exec` only; safe. -/
  | notModelled (mnemonic : String)
  deriving DecidableEq, Repr

/-- MEMBERS of the update groups (R480). -/
def groupMembers : Vector (BitVec 16) 8 := #v[1, 0xF, 0xFF, 1, 0xFF3F, 1, 3, 1]

/-- The machine right after reset: held in RESET with the power-on detector asserted, every block at its reset value, and no command waiting. -/
def State.reset : State :=
  { tdc := Vector.ofFn fun i => { cfg := tdcTable.defaults.set 11 i.val },
    groups := groupMembers.map fun m => { applied := m } }

end Sys2Proof.Machine
end

