-- ==== Sys2Proof/Machine/FaultCodes.lean ====
section
/-! DEFINITION. The fault kinds: source, kind, fixed severity, and whether the kind is a condition (R493 to R496). -/

namespace Sys2Proof.Machine

/-- A fault kind: its SOURCE and KIND codes (R494), its severity (R493), and whether it is a condition kind (R496). -/
structure FaultKind where
  source : Nat
  kind : Nat
  sev : Nat
  cond : Bool
  deriving DecidableEq, Repr

/-- RPLL_UNLOCK. -/
def Flt.rpllUnlock : FaultKind := ⟨0, 0, 3, true⟩
/-- LOCKSTEP. -/
def Flt.lockstep : FaultKind := ⟨0, 1, 3, true⟩
/-- VDD_DROOP. -/
def Flt.vddDroop : FaultKind := ⟨0, 2, 1, false⟩
/-- OVERTEMP. -/
def Flt.overtemp : FaultKind := ⟨0, 3, 2, true⟩
/-- SRAM_ECC_CORR. -/
def Flt.sramEccCorr : FaultKind := ⟨0, 4, 0, false⟩
/-- SRAM_ECC_UNCORR. -/
def Flt.sramEccUncorr : FaultKind := ⟨0, 5, 2, false⟩
/-- FW_FALLBACK. -/
def Flt.fwFallback : FaultKind := ⟨0, 6, 1, true⟩
/-- RATE_LIMIT. -/
def Flt.rateLimit : FaultKind := ⟨1, 0, 1, true⟩
/-- CONVERT_LATE. -/
def Flt.convertLate : FaultKind := ⟨1, 1, 0, false⟩
/-- STEP_REFUSED. -/
def Flt.stepRefused : FaultKind := ⟨1, 2, 0, false⟩
/-- CHECKPOINT_FAIL. -/
def Flt.checkpointFail : FaultKind := ⟨1, 3, 1, false⟩
/-- LEAP_REFUSED. -/
def Flt.leapRefused : FaultKind := ⟨1, 4, 0, false⟩
/-- SMEAR_SKIPPED. -/
def Flt.smearSkipped : FaultKind := ⟨1, 5, 0, false⟩
/-- COVERAGE_RANGE. -/
def Flt.coverageRange : FaultKind := ⟨1, 6, 0, false⟩
/-- BOUND_HIGH. -/
def Flt.boundHigh : FaultKind := ⟨1, 7, 1, true⟩
/-- BOUND_UNKNOWN. -/
def Flt.boundUnknown : FaultKind := ⟨1, 8, 1, true⟩
/-- TDC_CAL_FAIL. -/
def Flt.tdcCalFail : FaultKind := ⟨2, 0, 1, false⟩
/-- TDC_UNCAL. -/
def Flt.tdcUncal : FaultKind := ⟨2, 1, 1, true⟩
/-- STAMP_MISSED. -/
def Flt.stampMissed : FaultKind := ⟨2, 2, 0, false⟩
/-- WINDOW_REJECT. -/
def Flt.windowReject : FaultKind := ⟨2, 3, 0, false⟩
/-- DEGLITCH_REJECT. -/
def Flt.deglitchReject : FaultKind := ⟨2, 4, 0, false⟩
/-- FIFO_LOST. -/
def Flt.fifoLost : FaultKind := ⟨2, 5, 0, false⟩
/-- INTERVAL_OVERFLOW. -/
def Flt.intervalOverflow : FaultKind := ⟨2, 6, 0, false⟩
/-- GATE_LIMIT. -/
def Flt.gateLimit : FaultKind := ⟨2, 7, 0, false⟩
/-- EVQ_LOST. -/
def Flt.evqLost : FaultKind := ⟨2, 8, 0, false⟩
/-- EVQ_INDEX. -/
def Flt.evqIndex : FaultKind := ⟨2, 9, 0, false⟩
/-- REF_DISQUALIFIED. -/
def Flt.refDisqualified : FaultKind := ⟨3, 0, 0, false⟩
/-- REF_DISPUTED. -/
def Flt.refDisputed : FaultKind := ⟨3, 1, 0, false⟩
/-- DISPUTE_UNRESOLVED. -/
def Flt.disputeUnresolved : FaultKind := ⟨3, 2, 1, false⟩
/-- REF_LOCKED_OUT. -/
def Flt.refLockedOut : FaultKind := ⟨3, 3, 1, true⟩
/-- SWITCH_REFUSED. -/
def Flt.switchRefused : FaultKind := ⟨3, 4, 0, false⟩
/-- NO_REFERENCE. -/
def Flt.noReference : FaultKind := ⟨3, 5, 1, true⟩
/-- IRIG_FRAME. -/
def Flt.irigFrame : FaultKind := ⟨3, 6, 0, false⟩
/-- LEAP_MISMATCH. -/
def Flt.leapMismatch : FaultKind := ⟨3, 7, 0, false⟩
/-- LOOP_SLEW. -/
def Flt.loopSlew : FaultKind := ⟨4, 0, 0, true⟩
/-- LOOP_FALLBACK. -/
def Flt.loopFallback : FaultKind := ⟨4, 1, 0, false⟩
/-- LOOP_CLAMP. -/
def Flt.loopClamp : FaultKind := ⟨4, 2, 1, true⟩
/-- SENSE_FAIL. -/
def Flt.senseFail : FaultKind := ⟨5, 0, 1, true⟩
/-- TEMP_EXTRAPOLATE. -/
def Flt.tempExtrapolate : FaultKind := ⟨5, 1, 0, false⟩
/-- MODEL_JUMP. -/
def Flt.modelJump : FaultKind := ⟨5, 2, 1, false⟩
/-- MODEL_STALE. -/
def Flt.modelStale : FaultKind := ⟨5, 3, 0, true⟩
/-- MODEL_RESTORE_FAIL. -/
def Flt.modelRestoreFail : FaultKind := ⟨5, 4, 0, false⟩
/-- NO_MODEL. -/
def Flt.noModel : FaultKind := ⟨5, 5, 0, false⟩
/-- FLYWHEEL_LOST. -/
def Flt.flywheelLost : FaultKind := ⟨5, 6, 1, false⟩
/-- FLYWHEEL_DISAGREE. -/
def Flt.flywheelDisagree : FaultKind := ⟨5, 7, 1, false⟩
/-- OS_BAND_FAIL. -/
def Flt.osBandFail : FaultKind := ⟨6, 0, 2, true⟩
/-- OS_UNLOCK. -/
def Flt.osUnlock : FaultKind := ⟨6, 1, 2, true⟩
/-- OS_RELOCK. -/
def Flt.osRelock : FaultKind := ⟨6, 2, 0, false⟩
/-- PULSE_SKIPPED. -/
def Flt.pulseSkipped : FaultKind := ⟨6, 3, 0, false⟩
/-- OUT_VERIFY. -/
def Flt.outVerify : FaultKind := ⟨6, 4, 1, true⟩
/-- TIO_VERIFY. -/
def Flt.tioVerify : FaultKind := ⟨6, 5, 1, true⟩
/-- ALIGN_REFUSED. -/
def Flt.alignRefused : FaultKind := ⟨6, 6, 0, false⟩
/-- FE_STREAM. -/
def Flt.feStream : FaultKind := ⟨7, 0, 1, true⟩
/-- GNSS_NO_SOLUTION. -/
def Flt.gnssNoSolution : FaultKind := ⟨7, 1, 1, true⟩
/-- GNSS_TRAIM. -/
def Flt.gnssTraim : FaultKind := ⟨7, 2, 1, true⟩
/-- GNSS_EXCLUDE. -/
def Flt.gnssExclude : FaultKind := ⟨7, 3, 0, false⟩
/-- GNSS_JAMMING. -/
def Flt.gnssJamming : FaultKind := ⟨7, 4, 1, true⟩
/-- GNSS_NOTCH. -/
def Flt.gnssNotch : FaultKind := ⟨7, 5, 0, false⟩
/-- GNSS_SPOOF. -/
def Flt.gnssSpoof : FaultKind := ⟨7, 6, 2, true⟩
/-- GNSS_SURVEY. -/
def Flt.gnssSurvey : FaultKind := ⟨7, 7, 0, false⟩
/-- GNSS_UTC_MISMATCH. -/
def Flt.gnssUtcMismatch : FaultKind := ⟨7, 8, 0, false⟩
/-- GNSS_LEAP_ANNOUNCED. -/
def Flt.gnssLeapAnnounced : FaultKind := ⟨7, 9, 0, false⟩
/-- GNSS_EPH_STALE. -/
def Flt.gnssEphStale : FaultKind := ⟨7, 10, 0, false⟩
/-- SNAPSHOT_REFUSED. -/
def Flt.snapshotRefused : FaultKind := ⟨7, 11, 0, false⟩
/-- LINK_DOWN. -/
def Flt.linkDown : FaultKind := ⟨8, 0, 1, true⟩
/-- HI_BER. -/
def Flt.hiBer : FaultKind := ⟨8, 1, 0, true⟩
/-- FEC_UNCORR. -/
def Flt.fecUncorr : FaultKind := ⟨8, 2, 0, false⟩
/-- RX_OVERLOAD. -/
def Flt.rxOverload : FaultKind := ⟨8, 3, 0, false⟩
/-- PRP_SINGLE_LAN. -/
def Flt.prpSingleLan : FaultKind := ⟨8, 4, 1, true⟩
/-- PRP_TABLE_FULL. -/
def Flt.prpTableFull : FaultKind := ⟨8, 5, 0, false⟩
/-- PRP_WRONG_LAN. -/
def Flt.prpWrongLan : FaultKind := ⟨8, 6, 0, false⟩
/-- TSQ_OVERFLOW. -/
def Flt.tsqOverflow : FaultKind := ⟨8, 7, 0, false⟩
/-- TSQ_INDEX. -/
def Flt.tsqIndex : FaultKind := ⟨8, 8, 0, false⟩
/-- SQUALL_HANG. -/
def Flt.squallHang : FaultKind := ⟨9, 0, 1, true⟩
/-- LAUNCH_DROP. -/
def Flt.launchDrop : FaultKind := ⟨9, 1, 0, false⟩
/-- GRANT_DENIED. -/
def Flt.grantDenied : FaultKind := ⟨9, 2, 0, false⟩
/-- PTP_FOREIGN_MASTER. -/
def Flt.ptpForeignMaster : FaultKind := ⟨9, 3, 0, false⟩
/-- HOST_LANE_DROP. -/
def Flt.hostLaneDrop : FaultKind := ⟨9, 4, 0, false⟩
/-- HOST_LANE_INDEX. -/
def Flt.hostLaneIndex : FaultKind := ⟨9, 5, 0, false⟩
/-- HOST_LANE_DMA. -/
def Flt.hostLaneDma : FaultKind := ⟨9, 6, 2, true⟩
/-- KEY_LOAD_REFUSED. -/
def Flt.keyLoadRefused : FaultKind := ⟨10, 0, 0, false⟩
/-- KEY_EXPIRED. -/
def Flt.keyExpired : FaultKind := ⟨10, 1, 0, false⟩
/-- KEY_ZEROISED. -/
def Flt.keyZeroised : FaultKind := ⟨10, 2, 1, false⟩
/-- DRBG_FAIL. -/
def Flt.drbgFail : FaultKind := ⟨10, 3, 2, true⟩
/-- NTS_COOKIE_BAD. -/
def Flt.ntsCookieBad : FaultKind := ⟨10, 4, 0, false⟩
/-- NTS_AUTH_BAD. -/
def Flt.ntsAuthBad : FaultKind := ⟨10, 5, 0, false⟩
/-- NTS_NO_CURRENT. -/
def Flt.ntsNoCurrent : FaultKind := ⟨10, 6, 1, true⟩
/-- PTP_AUTH_FAIL. -/
def Flt.ptpAuthFail : FaultKind := ⟨10, 7, 0, false⟩
/-- AUTH_NO_CURRENT. -/
def Flt.authNoCurrent : FaultKind := ⟨10, 8, 1, true⟩
/-- SRC_LIMIT. -/
def Flt.srcLimit : FaultKind := ⟨10, 9, 0, false⟩
/-- GRID_EVENT. -/
def Flt.gridEvent : FaultKind := ⟨11, 0, 0, false⟩
/-- MAINS_LOSS. -/
def Flt.mainsLoss : FaultKind := ⟨11, 1, 1, true⟩
/-- MAINS_RETURN. -/
def Flt.mainsReturn : FaultKind := ⟨11, 2, 0, false⟩
/-- GRID_DATA_LOST. -/
def Flt.gridDataLost : FaultKind := ⟨11, 3, 0, true⟩
/-- GTE_INVALID. -/
def Flt.gteInvalid : FaultKind := ⟨11, 4, 0, true⟩
/-- GQ_LOST. -/
def Flt.gqLost : FaultKind := ⟨11, 5, 0, false⟩
/-- GQ_INDEX. -/
def Flt.gqIndex : FaultKind := ⟨11, 6, 0, false⟩
/-- CP_OVERRUN. -/
def Flt.cpOverrun : FaultKind := ⟨11, 7, 0, false⟩
/-- CP_UNDERRUN. -/
def Flt.cpUnderrun : FaultKind := ⟨11, 8, 0, false⟩
/-- CP_FOREIGN. -/
def Flt.cpForeign : FaultKind := ⟨11, 9, 1, true⟩
/-- CP_INDEX. -/
def Flt.cpIndex : FaultKind := ⟨11, 10, 0, false⟩
/-- TWIN_LINK_DOWN. -/
def Flt.twinLinkDown : FaultKind := ⟨12, 0, 1, true⟩
/-- TWIN_PATH_SILENT. -/
def Flt.twinPathSilent : FaultKind := ⟨12, 1, 1, true⟩
/-- TWIN_TAKEOVER. -/
def Flt.twinTakeover : FaultKind := ⟨12, 2, 1, false⟩
/-- TWIN_SPLIT. -/
def Flt.twinSplit : FaultKind := ⟨12, 3, 2, false⟩
/-- TWIN_CONFIG. -/
def Flt.twinConfig : FaultKind := ⟨12, 4, 1, true⟩
/-- TWIN_NOKEY. -/
def Flt.twinNokey : FaultKind := ⟨12, 5, 1, true⟩
/-- TWIN_SYNC_FAIL. -/
def Flt.twinSyncFail : FaultKind := ⟨12, 6, 1, false⟩
/-- TWIN_CAL_FAIL. -/
def Flt.twinCalFail : FaultKind := ⟨12, 7, 0, false⟩
/-- TWIN_WITNESS_TIMEOUT. -/
def Flt.twinWitnessTimeout : FaultKind := ⟨12, 8, 1, false⟩
/-- WRITE_DENIED. -/
def Flt.writeDenied : FaultKind := ⟨13, 0, 0, false⟩
/-- MB_COLLISION. -/
def Flt.mbCollision : FaultKind := ⟨13, 1, 0, false⟩
/-- MB_STALL. -/
def Flt.mbStall : FaultKind := ⟨13, 2, 0, false⟩
/-- NQ_LOST. -/
def Flt.nqLost : FaultKind := ⟨13, 3, 0, false⟩
/-- NQ_INDEX. -/
def Flt.nqIndex : FaultKind := ⟨13, 4, 0, false⟩
/-- LOCK_FORCED. -/
def Flt.lockForced : FaultKind := ⟨13, 5, 0, false⟩
/-- HP_LINK_DOWN. -/
def Flt.hpLinkDown : FaultKind := ⟨13, 6, 1, true⟩
/-- BUS_ERROR. -/
def Flt.busError : FaultKind := ⟨14, 0, 0, false⟩
/-- WRITE_LOCKED. -/
def Flt.writeLocked : FaultKind := ⟨14, 1, 0, false⟩
/-- STROBE_REFUSED. -/
def Flt.strobeRefused : FaultKind := ⟨14, 2, 0, false⟩
/-- IMMEDIATE_SET. -/
def Flt.immediateSet : FaultKind := ⟨14, 3, 0, false⟩
/-- DIRECT_DENIED. -/
def Flt.directDenied : FaultKind := ⟨14, 4, 0, false⟩
/-- DIRECT_WRITE. -/
def Flt.directWrite : FaultKind := ⟨14, 5, 0, false⟩
/-- COLLECTOR_PARITY. -/
def Flt.collectorParity : FaultKind := ⟨15, 0, 3, true⟩
/-- FAULT_DROPPED. -/
def Flt.faultDropped : FaultKind := ⟨15, 1, 0, false⟩
/-- DUMP_DMA. -/
def Flt.dumpDma : FaultKind := ⟨15, 2, 1, false⟩

/-- Every kind, by source (R494). -/
def faultKinds : List FaultKind :=
  ([Flt.rpllUnlock, Flt.lockstep, Flt.vddDroop, Flt.overtemp, Flt.sramEccCorr, Flt.sramEccUncorr, Flt.fwFallback] ++
    [Flt.rateLimit, Flt.convertLate, Flt.stepRefused, Flt.checkpointFail, Flt.leapRefused, Flt.smearSkipped, Flt.coverageRange, Flt.boundHigh, Flt.boundUnknown] ++
    [Flt.tdcCalFail, Flt.tdcUncal, Flt.stampMissed, Flt.windowReject, Flt.deglitchReject, Flt.fifoLost, Flt.intervalOverflow, Flt.gateLimit, Flt.evqLost, Flt.evqIndex] ++
    [Flt.refDisqualified, Flt.refDisputed, Flt.disputeUnresolved, Flt.refLockedOut, Flt.switchRefused, Flt.noReference, Flt.irigFrame, Flt.leapMismatch] ++
    [Flt.loopSlew, Flt.loopFallback, Flt.loopClamp] ++
    [Flt.senseFail, Flt.tempExtrapolate, Flt.modelJump, Flt.modelStale, Flt.modelRestoreFail, Flt.noModel, Flt.flywheelLost, Flt.flywheelDisagree] ++
    [Flt.osBandFail, Flt.osUnlock, Flt.osRelock, Flt.pulseSkipped, Flt.outVerify, Flt.tioVerify, Flt.alignRefused] ++
    [Flt.feStream, Flt.gnssNoSolution, Flt.gnssTraim, Flt.gnssExclude, Flt.gnssJamming, Flt.gnssNotch, Flt.gnssSpoof, Flt.gnssSurvey, Flt.gnssUtcMismatch, Flt.gnssLeapAnnounced, Flt.gnssEphStale, Flt.snapshotRefused] ++
    [Flt.linkDown, Flt.hiBer, Flt.fecUncorr, Flt.rxOverload, Flt.prpSingleLan, Flt.prpTableFull, Flt.prpWrongLan, Flt.tsqOverflow, Flt.tsqIndex] ++
    [Flt.squallHang, Flt.launchDrop, Flt.grantDenied, Flt.ptpForeignMaster, Flt.hostLaneDrop, Flt.hostLaneIndex, Flt.hostLaneDma] ++
    [Flt.keyLoadRefused, Flt.keyExpired, Flt.keyZeroised, Flt.drbgFail, Flt.ntsCookieBad, Flt.ntsAuthBad, Flt.ntsNoCurrent, Flt.ptpAuthFail, Flt.authNoCurrent, Flt.srcLimit] ++
    [Flt.gridEvent, Flt.mainsLoss, Flt.mainsReturn, Flt.gridDataLost, Flt.gteInvalid, Flt.gqLost, Flt.gqIndex, Flt.cpOverrun, Flt.cpUnderrun, Flt.cpForeign, Flt.cpIndex] ++
    [Flt.twinLinkDown, Flt.twinPathSilent, Flt.twinTakeover, Flt.twinSplit, Flt.twinConfig, Flt.twinNokey, Flt.twinSyncFail, Flt.twinCalFail, Flt.twinWitnessTimeout] ++
    [Flt.writeDenied, Flt.mbCollision, Flt.mbStall, Flt.nqLost, Flt.nqIndex, Flt.lockForced, Flt.hpLinkDown] ++
    [Flt.busError, Flt.writeLocked, Flt.strobeRefused, Flt.immediateSet, Flt.directDenied, Flt.directWrite] ++
    [Flt.collectorParity, Flt.faultDropped, Flt.dumpDma] : List FaultKind)

/-- The kind with these codes, if it exists (R494). -/
def findKind (source kind : Nat) : Option FaultKind :=
  faultKinds.find? fun k => k.source == source && k.kind == kind

/-- The default reaction of a severity (R497). -/
def defaultReaction (sev : Nat) : Nat :=
  match sev with
  | 0 => 0x01
  | 1 => 0x03
  | 2 => 0x03
  | _ => 0x1B

/-- Kinds whose reaction is fixed (R498). -/
def fixedReaction (k : FaultKind) : Bool :=
  k == Flt.rpllUnlock || k == Flt.lockstep || k == Flt.collectorParity

/-- A fault message as its word (R493). -/
def FaultMsg.word (m : FaultMsg) : Word :=
  BitVec.ofNat 32 (m.source * 2 ^ 24 + m.kind * 2 ^ 18 + m.sev * 2 ^ 16 + m.detail % 2 ^ 16)

end Sys2Proof.Machine
end

