-- ==== Sys2Proof/Machine/ParamIx.lean ====
section
/-! DEFINITION. The places of the parameters in the configurations of Params.lean, by name. A parameter of several elements has its first element's place. -/

namespace Sys2Proof.Machine

/-! Each name is the table's prefix followed by the parameter's name in the spec. -/

abbrev Ix.tdcMode : Nat := 0
abbrev Ix.tdcEdge : Nat := 1
abbrev Ix.tdcPrescale : Nat := 2
abbrev Ix.tdcDeglitch : Nat := 3
abbrev Ix.tdcDelay : Nat := 4
abbrev Ix.tdcDelayUnc : Nat := 5
abbrev Ix.tdcFNom : Nat := 6
abbrev Ix.tdcPeriod : Nat := 7
abbrev Ix.tdcPhase : Nat := 8
abbrev Ix.tdcHalfWidth : Nat := 9
abbrev Ix.tdcGate : Nat := 10
abbrev Ix.tdcPartner : Nat := 11
abbrev Ix.tdcStopEdge : Nat := 12
abbrev Ix.tdcPortMask : Nat := 13
abbrev Ix.slotKind : Nat := 0
abbrev Ix.slotSource : Nat := 1
abbrev Ix.slotEnable : Nat := 9
abbrev Ix.slotRank : Nat := 10
abbrev Ix.slotDeclUnc : Nat := 11
abbrev Ix.slotDeclFreq : Nat := 12
abbrev Ix.slotWtr : Nat := 13
abbrev Ix.slotConfirm : Nat := 14
abbrev Ix.slotFreqLimit : Nat := 15
abbrev Ix.slotMonGate : Nat := 16
abbrev Ix.slotPhaseLimit : Nat := 17
abbrev Ix.slotEmptyLimit : Nat := 18
abbrev Ix.slotFlapLimit : Nat := 19
abbrev Ix.wvStepCeiling : Nat := 0
abbrev Ix.wvDisputeThresh : Nat := 1
abbrev Ix.wvDisputeTau : Nat := 2
abbrev Ix.wvContribMargin : Nat := 3
abbrev Ix.wvContribHold : Nat := 4
abbrev Ix.steerTrackBw : Nat := 0
abbrev Ix.steerAcqLimit : Nat := 1
abbrev Ix.steerAcqHold : Nat := 2
abbrev Ix.steerSettleLimit : Nat := 3
abbrev Ix.steerSettleHold : Nat := 4
abbrev Ix.steerSettleExit : Nat := 5
abbrev Ix.steerTrackExit : Nat := 6
abbrev Ix.steerSlewLimit : Nat := 7
abbrev Ix.fwChannel : Nat := 0
abbrev Ix.fwTempSrc : Nat := 1
abbrev Ix.fwTempLag : Nat := 2
abbrev Ix.fwDeclY0 : Nat := 3
abbrev Ix.fwDeclAge : Nat := 4
abbrev Ix.fwDeclAdev : Nat := 5
abbrev Ix.fwAgeTau : Nat := 6
abbrev Ix.fwMaxAge : Nat := 7
abbrev Ix.fwWiden : Nat := 8
abbrev Ix.fwShared : Nat := 9
abbrev Ix.synthEnable : Nat := 0
abbrev Ix.synthFvco : Nat := 1
abbrev Ix.synthRdiv : Nat := 2
abbrev Ix.synthRefMode : Nat := 3
abbrev Ix.synthLoopBw : Nat := 4
abbrev Ix.synthConvDiv : Nat := 5
abbrev Ix.outMode : Nat := 0
abbrev Ix.outOdiv : Nat := 1
abbrev Ix.outPeriod : Nat := 2
abbrev Ix.outPhase : Nat := 3
abbrev Ix.outWidth : Nat := 4
abbrev Ix.outScale : Nat := 5
abbrev Ix.outPolarity : Nat := 6
abbrev Ix.outComp : Nat := 7
abbrev Ix.outCalDecl : Nat := 8
abbrev Ix.outFormat : Nat := 9
abbrev Ix.outIrigCode : Nat := 10
abbrev Ix.outLocalOffset : Nat := 11
abbrev Ix.outSource : Nat := 12
abbrev Ix.outVerifyLimit : Nat := 13
abbrev Ix.outBaud : Nat := 14
abbrev Ix.outFrameDelay : Nat := 15
abbrev Ix.outPulsePin : Nat := 16
abbrev Ix.streamEnable : Nat := 0
abbrev Ix.streamLo : Nat := 1
abbrev Ix.streamInvert : Nat := 2
abbrev Ix.streamLatency : Nat := 3
abbrev Ix.streamGainMode : Nat := 4
abbrev Ix.rxMode : Nat := 0
abbrev Ix.rxSystems : Nat := 1
abbrev Ix.rxL1Gps : Nat := 2
abbrev Ix.rxL1Bds : Nat := 3
abbrev Ix.rxL1Qzss : Nat := 4
abbrev Ix.rxDualFreq : Nat := 5
abbrev Ix.rxAntB : Nat := 6
abbrev Ix.rxTimeSys : Nat := 7
abbrev Ix.rxTarget : Nat := 8
abbrev Ix.rxIsbMode : Nat := 9
abbrev Ix.rxIsbUnc : Nat := 15
abbrev Ix.rxElevMask : Nat := 21
abbrev Ix.rxMinSats : Nat := 22
abbrev Ix.rxTraimLimit : Nat := 23
abbrev Ix.rxMaxExcl : Nat := 24
abbrev Ix.rxPosX : Nat := 25
abbrev Ix.rxPosY : Nat := 26
abbrev Ix.rxPosZ : Nat := 27
abbrev Ix.rxPosUnc : Nat := 28
abbrev Ix.rxSurvey : Nat := 29
abbrev Ix.rxSurveyTime : Nat := 30
abbrev Ix.rxSurveyLimit : Nat := 31
abbrev Ix.rxBaselineE : Nat := 32
abbrev Ix.rxBaselineN : Nat := 33
abbrev Ix.rxBaselineU : Nat := 34
abbrev Ix.rxDelay : Nat := 35
abbrev Ix.rxFeCalSigma : Nat := 39
abbrev Ix.rxAcqNc : Nat := 40
abbrev Ix.rxNotchThresh : Nat := 41
abbrev Ix.rxJamLimit : Nat := 42
abbrev Ix.rxJamAlarm : Nat := 43
abbrev Ix.rxSpoofChecks : Nat := 44
abbrev Ix.rxFcTau : Nat := 45
abbrev Ix.rxPowerLimit : Nat := 46
abbrev Ix.rxSnapInterval : Nat := 47
abbrev Ix.portEnable : Nat := 0
abbrev Ix.portSpeed : Nat := 1
abbrev Ix.portFec : Nat := 2
abbrev Ix.portTxClk : Nat := 3
abbrev Ix.portMac : Nat := 4
abbrev Ix.portMaxLen : Nat := 5
abbrev Ix.portMcastCount : Nat := 6
abbrev Ix.portMcast : Nat := 7
abbrev Ix.portRxComp : Nat := 23
abbrev Ix.portTxComp : Nat := 24
abbrev Ix.portCalDecl : Nat := 25
abbrev Ix.prpOn : Nat := 0
abbrev Ix.prpLifeCheck : Nat := 1
abbrev Ix.prpEntryForget : Nat := 2
abbrev Ix.ruleEnable : Nat := 0
abbrev Ix.rulePortMask : Nat := 1
abbrev Ix.ruleEtherType : Nat := 2
abbrev Ix.ruleIpProto : Nat := 3
abbrev Ix.ruleDstPorts : Nat := 4
abbrev Ix.ruleAction : Nat := 5
abbrev Ix.instEnable : Nat := 0
abbrev Ix.instService : Nat := 1
abbrev Ix.instPortMask : Nat := 2
abbrev Ix.instVid : Nat := 3
abbrev Ix.instPcp : Nat := 4
abbrev Ix.instIpv4Count : Nat := 5
abbrev Ix.instIpv4 : Nat := 6
abbrev Ix.instIpv6Count : Nat := 8
abbrev Ix.instIpv6 : Nat := 9
abbrev Ix.instDscp : Nat := 11
abbrev Ix.instProfile : Nat := 12
abbrev Ix.instDomain : Nat := 13
abbrev Ix.instTransport : Nat := 14
abbrev Ix.instDelayMech : Nat := 15
abbrev Ix.instAnnInt : Nat := 16
abbrev Ix.instSyncInt : Nat := 17
abbrev Ix.instDelayInt : Nat := 18
abbrev Ix.instOneStep : Nat := 19
abbrev Ix.instUnicast : Nat := 20
abbrev Ix.instGrantMax : Nat := 21
abbrev Ix.instGrantLimit : Nat := 22
abbrev Ix.instMasterOnly : Nat := 23
abbrev Ix.instPriority1 : Nat := 24
abbrev Ix.instPriority2 : Nat := 25
abbrev Ix.instVariance : Nat := 26
abbrev Ix.instLockLimit : Nat := 27
abbrev Ix.instHoldLimit : Nat := 28
abbrev Ix.instOosClass : Nat := 29
abbrev Ix.instGmId : Nat := 30
abbrev Ix.instBoundOrg : Nat := 31
abbrev Ix.instBoundSub : Nat := 32
abbrev Ix.instL2Group : Nat := 33
abbrev Ix.instStratum : Nat := 34
abbrev Ix.instRootDelay : Nat := 35
abbrev Ix.instSmear : Nat := 36
abbrev Ix.instLeapWarn : Nat := 37
abbrev Ix.instNts : Nat := 38
abbrev Ix.instAuth : Nat := 39
abbrev Ix.instSrcRate : Nat := 40
abbrev Ix.instInstRate : Nat := 41
abbrev Ix.instOverAction : Nat := 42
abbrev Ix.esmcEnable : Nat := 0
abbrev Ix.esmcQlLocked : Nat := 1
abbrev Ix.esmcQlHold : Nat := 2
abbrev Ix.esmcQlFree : Nat := 3
abbrev Ix.smearType : Nat := 0
abbrev Ix.smearDuration : Nat := 1
abbrev Ix.smearPlacement : Nat := 2
abbrev Ix.twinUnitId : Nat := 0
abbrev Ix.twinMode : Nat := 1
abbrev Ix.twinUnitMac : Nat := 2
abbrev Ix.twinHbPair : Nat := 3
abbrev Ix.twinHbGroup : Nat := 4
abbrev Ix.twinAsym : Nat := 5
abbrev Ix.twinAsymUnc : Nat := 6
abbrev Ix.twinWitness : Nat := 7
abbrev Ix.twinWitnessWait : Nat := 8
abbrev Ix.twinDiscoverTime : Nat := 9
abbrev Ix.feedEnable : Nat := 0
abbrev Ix.feedSrc : Nat := 1
abbrev Ix.feedChannel : Nat := 2
abbrev Ix.feedPol : Nat := 3
abbrev Ix.feedCp : Nat := 4
abbrev Ix.feedSlot : Nat := 5
abbrev Ix.feedArmLevel : Nat := 6
abbrev Ix.feedAdcDelay : Nat := 7
abbrev Ix.feedNominal : Nat := 8
abbrev Ix.feedCycles : Nat := 9
abbrev Ix.feedBlank : Nat := 10
abbrev Ix.feedPersist : Nat := 11
abbrev Ix.feedUfLimit : Nat := 12
abbrev Ix.feedOfLimit : Nat := 13
abbrev Ix.feedFHyst : Nat := 14
abbrev Ix.feedRocofLimit : Nat := 15
abbrev Ix.feedPhaseJump : Nat := 16
abbrev Ix.feedSupply : Nat := 17
abbrev Ix.feedPortMask : Nat := 18
abbrev Ix.cpEnable : Nat := 0
abbrev Ix.cpDir : Nat := 1
abbrev Ix.cpClkMode : Nat := 2
abbrev Ix.cpBdiv : Nat := 3
abbrev Ix.cpSlots : Nat := 4
abbrev Ix.cpFsMode : Nat := 5
abbrev Ix.cpFsPol : Nat := 6
abbrev Ix.cpRxMask : Nat := 7
abbrev Ix.cpTxMask : Nat := 8
abbrev Ix.cpBlockFrames : Nat := 9
abbrev Ix.cpRxBase : Nat := 10
abbrev Ix.cpRxBlocks : Nat := 11
abbrev Ix.cpTxBase : Nat := 12
abbrev Ix.cpTxBlocks : Nat := 13
abbrev Ix.cpNomFs : Nat := 14
abbrev Ix.cpFsTol : Nat := 15

end Sys2Proof.Machine
end

