-- ==== Sys2Proof/Machine/Text.lean ====
section
/-! DEFINITION. Text of the monitor: numbers in the formats of R7, dates, and the echo of an input line (R7, R532, R534). -/

namespace Sys2Proof.Machine

/-- The digit of a value below 16; hexadecimal digits are upper case (R7). -/
def digitChar (n : Nat) : Char := ("0123456789ABCDEF".toList).getD n '0'

/-- The lowest `w` digits of `n` in base `b`, highest first. -/
def digitsOf (b : Nat) : Nat → Nat → List Char
  | 0, _ => []
  | w + 1, n => digitsOf b w (n / b) ++ [digitChar (n % b)]

/-- Digits that a number needs in base `b`, at least one and at most 24. -/
def digitCount (b n : Nat) : Nat := ((List.range 24).filter fun i => b ^ (i + 1) ≤ n).length + 1

/-- A decimal number (R7). -/
def decText (n : Nat) : String := String.ofList (digitsOf 10 (digitCount 10 n) n)

/-- A decimal number with leading zeros. -/
def decPad (w n : Nat) : String := String.ofList (digitsOf 10 w n)

/-- A signed decimal number. -/
def intText (i : Int) : String := (if i < 0 then "-" else "") ++ decText i.natAbs

/-- An underscore before each group of four digits but the first, counted from the right (R7). -/
def groupDigits : Nat → List Char → List Char
  | 0, l => l
  | n + 1, l =>
    if l.length ≤ 4 then l else groupDigits n (l.take (l.length - 4)) ++ ['_'] ++ l.drop (l.length - 4)

/-- A hexadecimal number of `w` digits (R7). -/
def hexText (w n : Nat) : String := "0x" ++ String.ofList (groupDigits w (digitsOf 16 w n))

/-- A word in hexadecimal. -/
def wordText (v : Word) : String := hexText 8 v.toNat

/-- A flag. -/
def bitText (b : Bool) : String := if b then "1" else "0"

/-- Thousandths with three decimals. -/
def milliText (m : Nat) : String := decText (m / 1000) ++ "." ++ decPad 3 (m % 1000)

/-- Octets as characters. -/
def octetText (l : List Byte) : String := String.ofList (l.map fun b => Char.ofNat b.toNat)

/-- An upper-case character of an input line; command words are case-insensitive (R532). -/
def upperOctet (b : Byte) : Byte := if 0x61 ≤ b.toNat && b.toNat ≤ 0x7A then b - 0x20 else b

/-- The octets of a word of ASCII. -/
def asciiOf (w : String) : List Byte := w.toList.map fun c => BitVec.ofNat 8 c.toNat

/-- The echo of an input line: the passcode's characters as `*` (R532). -/
def echoOf (l : List Byte) : List Byte :=
  let n := (l.takeWhile (· == 0x20)).length + 7
  if ((l.take n).map upperOctet).drop (n - 7) = asciiOf "UNLOCK " then l.take n ++ (l.drop n).map fun _ => 0x2A else l

/-- The prompt of a level (R532). -/
def Monitor.prompt (m : Monitor) : String := if m.maintain then "MAINT> " else "VIEW> "

end Sys2Proof.Machine
end

