-- ==== Sys2Proof/Machine/Ops.lean ====
section
/-! DEFINITION. Operations that every family uses: access to the arrays of the state, outputs and interrupts, fault messages, byte memory, notices, the trouble log, time conversion, engine state changes, handled commands. -/

namespace Sys2Proof.Machine

/-- What a meaning answers. -/
abbrev Out := Host.Outcome State Fault Refusal

/-- Element `i` changed by `f`. -/
def upd {α : Type} {n : Nat} (v : Vector α n) (i : Fin n) (f : α → α) : Vector α n := v.set i (f v[i])

/-- SCLK cycles in one second of any divided clock (R6, R19). -/
def secCyc : Nat := 625000000
/-- SCLK cycles in one millisecond. -/
def msCyc : Nat := 625000
/-- SCLK cycles in one ECLK cycle pair: ECLK is twice SCLK, so n ECLK cycles last n / 2 SCLK cycles (R19). -/
def eclkCyc (n : Nat) : Nat := n / 2

/-! ### Parts of the state -/

/-- Host port `p` changed by `f`. -/
def State.mapHost (s : State) (p : Fin 4) (f : HostPort → HostPort) : State := { s with hosts := upd s.hosts p f }
/-- TDC channel `c` changed by `f`. -/
def State.mapTdc (s : State) (c : Fin 88) (f : TdcChan → TdcChan) : State := { s with tdc := upd s.tdc c f }
/-- Reference slot `i` changed by `f`. -/
def State.mapSlot (s : State) (i : Fin 16) (f : Slot → Slot) : State := { s with wv.slots := upd s.wv.slots i f }
/-- Flywheel `i` changed by `f`. -/
def State.mapFw (s : State) (i : Fin 3) (f : Flywheel → Flywheel) : State := { s with fc.fw := upd s.fc.fw i f }
/-- Synthesizer `i` changed by `f`. -/
def State.mapOs (s : State) (i : Fin 4) (f : Synth → Synth) : State := { s with outs.os := upd s.outs.os i f }
/-- Output pin `i` changed by `f`. -/
def State.mapPin (s : State) (i : Fin 80) (f : OutPin → OutPin) : State := { s with outs.pins := upd s.outs.pins i f }
/-- Ethernet port `p` changed by `f`. -/
def State.mapPort (s : State) (p : Fin 8) (f : Port → Port) : State := { s with ports := upd s.ports p f }
/-- PRP pair `p` changed by `f`. -/
def State.mapPair (s : State) (p : Fin 4) (f : Pair → Pair) : State := { s with pairs := upd s.pairs p f }
/-- Instance `i` changed by `f`. -/
def State.mapInst (s : State) (i : Fin 16) (f : Inst → Inst) : State := { s with svc.inst := upd s.svc.inst i f }
/-- Host lane `i` changed by `f`. -/
def State.mapLane (s : State) (i : Fin 2) (f : Lane → Lane) : State := { s with svc.lanes := upd s.svc.lanes i f }
/-- Grid feed `i` changed by `f`. -/
def State.mapFeed (s : State) (i : Fin 6) (f : Feed → Feed) : State := { s with feeds := upd s.feeds i f }
/-- Converter port `i` changed by `f`. -/
def State.mapCp (s : State) (i : Fin 8) (f : ConvPort → ConvPort) : State := { s with cps := upd s.cps i f }
/-- IF stream `i` changed by `f`. -/
def State.mapStream (s : State) (i : Fin 4) (f : Stream → Stream) : State := { s with gnss.streams := upd s.gnss.streams i f }
/-- Update group `g` changed by `f`. -/
def State.mapGroup (s : State) (g : Fin 8) (f : UpdateGroup → UpdateGroup) : State := { s with groups := upd s.groups g f }

/-- Every host port, in port order (R5). -/
def allHosts : List (Fin 4) := List.finRange 4

/-- `f` done for every index of the list, in its order. -/
def State.each {α : Type} (s : State) (l : List α) (f : State → α → State) : State := l.foldl f s

/-- Whether the unit is a follower (R459). -/
def State.follower (s : State) : Bool := s.twin.role == .standby || s.twin.role == .quarantined

/-! ### Outputs and free values -/

/-- Something leaves the block. -/
def State.emit (s : State) (e : Emit) : State := { s with emits := e :: s.emits }

/-- The active sends its follower a change of the replicated state on the link (R396, R402), as the follower receives it. -/
def State.repl (s : State) (item : ReplItem) : State :=
  if s.twin.role = .active && s.twin.linkUp then s.emit (.replicate item) else s

/-- The free value at the counter, which `State.drawn` advances. -/
def State.draw (s : State) : Nat := Config.free s.freeCtr
/-- The counter past one draw. -/
def State.drawn (s : State) : State := { s with freeCtr := s.freeCtr + 1 }

/-! ### Doorbells and interrupts (R431, R446, R447) -/

/-- MSI-X vector `v` of a PCIe port sends its message. -/
def State.msix (s : State) (p : Fin 4) (v : Nat) : State := if p.val < 2 then s.emit (.msix p v) else s

/-- Doorbell bit `b` of port `p` is set; an unmasked bit that becomes set sends vector 0 (R431). -/
def State.ring (s : State) (p : Fin 4) (b : Nat) : State :=
  let h := s.hosts[p]
  let s1 := s.mapHost p fun h => { h with db := h.db ||| BitVec.ofNat 32 (2 ^ b) }
  if !h.db.getLsbD b && !h.dbMask.getLsbD b then s1.msix p 0 else s1

/-- Hardware status event source `b` of port `p` latches (R447). -/
def State.hwEvent (s : State) (p : Fin 4) (b : Nat) : State :=
  let h := s.hosts[p]
  let s1 := s.mapHost p fun h => { h with hwEvents := h.hwEvents ||| BitVec.ofNat 32 (2 ^ b) }
  if !h.hwEvents.getLsbD b && !h.hwMask.getLsbD b then s1.msix p 1 else s1

/-- Level source `b` of port `p` asserts in this cycle (R431). -/
def State.hwLevelRise (s : State) (p : Fin 4) (b : Nat) : State :=
  if s.hosts[p].hwMask.getLsbD b then s else s.msix p 1

/-- An event source latches on every host port. -/
def State.hwEventAll (s : State) (b : Nat) : State := s.each allHosts fun t p => t.hwEvent p b
/-- A level source asserts on every host port. -/
def State.hwLevelAll (s : State) (b : Nat) : State := s.each allHosts fun t p => t.hwLevelRise p b

/-! ### Fault messages (R493 to R499) -/

/-- Whether at least `n` SCLK cycles have passed since `last`, or nothing is recorded. -/
def State.spaced (s : State) (last : Option Nat) (n : Nat) : Bool :=
  match last with
  | none => true
  | some c => c + n ≤ s.sys.cyc

/-- Whether a timeout has run out: in the cycle of its deadline the event it waits for still wins, so it fires in the next one (R4). -/
def State.lapsed (s : State) (deadline : Nat) : Bool := decide (deadline < s.sys.cyc)

/-- SYS_UPTIME: seconds of CCLK since reset release, on XIN at first (R105, R464). -/
def State.uptime (s : State) : Nat := (s.sys.cclkBefore + s.sys.cyc * 4 / 25) / 100000000

/-- The queue of a source, by its number. -/
def sourceIx (n : Nat) : Fin 16 := ⟨n % 16, Nat.mod_lt _ (by decide)⟩

/-- A message arrives at its source's queue; a full queue loses it and FLT_DROPPED counts it (R499). -/
def State.pushMsg (s : State) (m : FaultMsg) : State :=
  let i := sourceIx m.source
  if s.flt.queues[i].length < 16 then
    { s with flt.queues := upd s.flt.queues i (· ++ [(m, s.sys.cyc)]) }
  else { s with flt.dropped := s.flt.dropped + 1 }

/-- The collector raises FAULT_DROPPED for source `i` at most once a second (R495, R499). -/
def State.raiseDropped (s : State) (i : Fin 16) : State :=
  if s.spaced s.flt.droppedAt[i] secCyc then
    ({ s with flt.droppedAt := s.flt.droppedAt.set i (some s.sys.cyc) } : State).pushMsg
      ⟨Flt.faultDropped.source, Flt.faultDropped.kind, Flt.faultDropped.sev, i.val⟩
  else s

/-- The message of a kind with DETAIL `d` (R493). -/
def FaultKind.msg (k : FaultKind) (d : Nat) : FaultMsg := ⟨k.source, k.kind, k.sev, d % 2 ^ 16⟩

/-- A block raises a fault; a condition's cause is then present (R493, R496, R499). -/
def State.raise (s : State) (k : FaultKind) (d : Nat) : State :=
  let m := k.msg d
  let full := 16 ≤ s.flt.queues[sourceIx k.source].length
  let s1 := s.pushMsg m
  let s2 := if full then s1.raiseDropped (sourceIx k.source) else s1
  if k.cond && !s.flt.present.contains m then { s2 with flt.present := s2.flt.present ++ [m] } else s2

/-- The cause of every present message of kind `k` that `p` holds for has gone (R496). -/
def State.causeGone (s : State) (k : FaultKind) (p : Nat → Bool) : State :=
  { s with flt.present := s.flt.present.filter fun m => !(m.source == k.source && m.kind == k.kind && p m.detail) }

/-- The cause with DETAIL `d` has gone. -/
def State.causeEnds (s : State) (k : FaultKind) (d : Nat) : State := s.causeGone k (· == d % 2 ^ 16)

/-- Whether a kind's cause is present. -/
def State.hasCause (s : State) (k : FaultKind) : Bool :=
  s.flt.present.any fun m => m.source == k.source && m.kind == k.kind

/-- A condition becomes present or stays so: its fault is raised only when it begins. -/
def State.condition (s : State) (k : FaultKind) (d : Nat) : State :=
  if s.flt.present.contains (k.msg d) then s else s.raise k d

/-! ### Byte memory: parcel memory (R422) and the converter buffer (R384) -/

/-- Reading a byte; an unlisted address reads 0. -/
def memRead : List Host.Cell → Nat → Byte
  | [], _ => 0
  | (b, v) :: m, a => if b = a then v else memRead m a

/-- A cell in front of a memory whose addresses are higher; a zero byte is not listed. -/
def memCons (a : Nat) (v : Byte) (m : List Host.Cell) : List Host.Cell := if v = 0 then m else (a, v) :: m

/-- Writing a byte, in canonical form: addresses strictly rise and no listed byte is 0. -/
def memWrite : List Host.Cell → Nat → Byte → List Host.Cell
  | [], a, v => memCons a v []
  | (b, w) :: m, a, v =>
    if a < b then memCons a v ((b, w) :: m)
    else if a = b then memCons a v m
    else (b, w) :: memWrite m a v

/-- The canonical form: addresses strictly rise and no entry equals what an unlisted address reads as. -/
def memWf : List Host.Cell → Bool
  | [] => true
  | [(_, v)] => v != 0
  | (a, v) :: (b, w) :: m => v != 0 && a < b && memWf ((b, w) :: m)

/-- Bytes written from `a` up. -/
def memWriteBytes (m : List Host.Cell) (a : Nat) : List Byte → List Host.Cell
  | [] => m
  | v :: vs => memWriteBytes (memWrite m a v) (a + 1) vs

/-- `n` bytes read from `a` up. -/
def memReadBytes (m : List Host.Cell) (a n : Nat) : List Byte := (List.range n).map fun i => memRead m (a + i)

/-- The little-endian word at byte address `a` (R9). -/
def memReadWord (m : List Host.Cell) (a : Nat) : Word :=
  memRead m (a + 3) ++ memRead m (a + 2) ++ memRead m (a + 1) ++ memRead m a

/-- The bytes of a word, lowest first (R9). -/
def wordBytes (w : Word) : List Byte :=
  [w.extractLsb' 0 8, w.extractLsb' 8 8, w.extractLsb' 16 8, w.extractLsb' 24 8]

/-- Words written from byte address `a` up. -/
def memWriteWords (m : List Host.Cell) (a : Nat) (ws : List Word) : List Host.Cell :=
  memWriteBytes m a (ws.flatMap wordBytes)

/-- Word `i` of a port's parcel memory. -/
def State.parcelWord (s : State) (p : Fin 4) (i : Nat) : Word := memReadWord s.hosts[p].parcel (4 * i)

/-- Words written into a port's parcel memory from word `i` up. -/
def State.parcelWrite (s : State) (p : Fin 4) (i : Nat) (ws : List Word) : State :=
  s.mapHost p fun h => { h with parcel := memWriteWords h.parcel (4 * i) ws }

/-! ### Time conversion (R24, R38 to R41) -/

/-- Units of 2^-16 ns in one second. -/
def secFrac : Int := 65536000000000

/-- The set in force now: the newest that has taken effect (R38). -/
def State.setNow (s : State) : ConvSet := s.ts.sets.headD {}

/-- The set for a stamp at `cyc`, and whether the oldest set had to serve an older stamp (R24). -/
def setFor : List ConvSet → Nat → ConvSet × Bool
  | [], _ => ({}, true)
  | [c], cyc => (c, cyc < c.cyc)
  | c :: d :: l, cyc => if c.cyc ≤ cyc then (c, false) else setFor (d :: l) cyc

/-- The time at `n` FINE steps of timebase under a set, in 2^-16 ns, truncated (R41). -/
def ConvSet.time (c : ConvSet) (n : Nat) : Int :=
  (c.offset * 163840 + (n : Int) * (2 ^ 56 + c.rate)) / (640 * 2 ^ 40)

/-- The same instant unrounded, as a fraction of 2^-16 ns. -/
def ConvSet.exact (c : ConvSet) (n : Nat) : Rat :=
  (c.offset * 163840 + (n : Int) * (2 ^ 56 + c.rate) : Int) / ((640 * 2 ^ 40 : Nat) : Rat)

/-- The FINE step nearest to a time under a set; ties round up (R41). -/
def ConvSet.inverse (c : ConvSet) (t : Int) : Int :=
  let num := (t * 2 ^ 32 - c.offset) * 163840
  let den := 2 ^ 56 + c.rate
  (2 * num + den) / (2 * den)

/-- A stamp converted with the set in force at its own CYC (R24). -/
def State.convert (s : State) (t : Stamp) : Int := ((setFor s.ts.sets t.cyc).1).time t.steps
/-- Whether a stamp is converted late (R24). -/
def State.isLate (s : State) (t : Stamp) : Bool := (setFor s.ts.sets t.cyc).2

/-- The time scale now, in 2^-16 ns. -/
def State.now (s : State) : Int := s.setNow.time (s.sys.cyc * 1024)
/-- The time scale now as whole seconds. -/
def State.nowSec (s : State) : Int := s.now / secFrac

/-- A stamp converted for a report, with CONVERT_LATE raised when it is late (R24, R77). -/
def State.noteLate (s : State) (t : Stamp) (who : Nat) : State :=
  if s.isLate t then s.raise Flt.convertLate who else s

/-- The same for a block, whose index in DETAIL the spec does not give and so is free (R77). -/
def State.noteLateBlock (s : State) (t : Stamp) : State :=
  if s.isLate t then (s.raise Flt.convertLate (s.draw % 2 ^ 16)).drawn else s

/-- Seconds of a time in 2^-16 ns (R37). -/
def tsSec (t : Int) : Nat := (t / secFrac).toNat
/-- NS of a time (R37). -/
def tsNs (t : Int) : Nat := (t % secFrac).toNat / 65536
/-- FRAC of a time (R37). -/
def tsFrac (t : Int) : Nat := (t % secFrac).toNat % 65536

/-! ### Notices and the trouble log (R444, R445, R507 to R509) -/

/-- Engine states as R28 numbers them. -/
def EngineState.code : EngineState → Nat
  | .reset => 0 | .boot => 1 | .init => 2 | .warmup => 3 | .acquire => 4 | .locked => 5 | .holdover => 6 | .safe => 7

/-- Twin roles as R392 numbers them. -/
def Role.code : Role → Nat
  | .solo => 0 | .discovering => 1 | .active => 2 | .standby => 3 | .quarantined => 4

/-- Whether the engine has reached INIT (R444, R455). -/
def State.afterBoot (s : State) : Bool := 2 ≤ s.sys.engine.code
/-- Whether INIT has completed (R455). -/
def State.afterInit (s : State) : Bool := 3 ≤ s.sys.engine.code

/-- A host's write, which before INIT is ignored (R473). -/
def State.opened (s : State) (f : State → State) : Out := .next (if s.afterBoot then f s else s)
/-- A host's read of one word; before INIT an SPI read returns 0 and a PCIe function answers only with retries (R473). -/
def State.openRead (s : State) (hp : Fin 4) (f : State → State × Word) : Out :=
  if s.afterBoot then
    let r := f s
    .next (r.1.emit (.read hp r.2))
  else if 2 ≤ hp.val then .next (s.emit (.read hp 0))
  else .next s

/-- The low word of a number. -/
def loWord (n : Nat) : Word := BitVec.ofNat 32 n
/-- The high word of a 64-bit number. -/
def hiWord (n : Nat) : Word := BitVec.ofNat 32 (n / 2 ^ 32)
/-- The low word of a signed number (R461). -/
def intLo (i : Int) : Word := BitVec.ofInt 32 i
/-- The high word of a signed 64-bit number. -/
def intHi (i : Int) : Word := BitVec.ofInt 32 (i / 2 ^ 32)

/-- The seven words after W0 that notices and log entries give a time in (R444, R508). -/
def timeWords (t : Int) (cyc : Nat) : List Word :=
  [BitVec.ofNat 32 (tsSec t / 2 ^ 32), loWord (tsSec t), BitVec.ofNat 32 (tsNs t), loWord cyc, hiWord cyc]

/-- A notice goes to one port's ring, or is lost there (R444). -/
def State.noticePort (s : State) (p : Fin 4) (code : Nat) (a0 a1 : Word) (t : Int) (cyc : Nat) : State :=
  if !s.afterBoot then s
  else
    let q := s.hosts[p].notices
    if (q.wr - q.rd).toNat ≥ 128 then
      ((s.mapHost p fun h =>
        { h with notices := { q with overflow := true, lost := q.lost + 1 }, nqLostFlag := true }).ring p 17).raise Flt.nqLost p.val
    else
      let w0 : Word := loWord (4 * 2 ^ 28 + b2n s.hosts[p].nqLostFlag * 2 ^ 27 + (code % 2048) * 2 ^ 16 + q.wr.toNat)
      let s1 := s.parcelWrite p (15360 + 8 * (q.wr.toNat % 128)) ([w0, a0, a1] ++ timeWords t cyc)
      (s1.mapHost p fun h => { h with notices := { q with wr := q.wr + 1 }, nqLostFlag := false }).ring p 16

/-- A notice goes to every port, timed at the instant it is made (R445). -/
def State.notice (s : State) (code : Nat) (a0 a1 : Word) : State :=
  let t := s.now
  let c := s.sys.cyc
  s.each allHosts fun u p => u.noticePort p code a0 a1 t c

/-- One trouble-log entry (R508): flag bits of W0 above TYPE, and RAW before INIT. -/
def State.logAt (s : State) (type flags : Nat) (a0 a1 : Word) (cyc : Nat) : State :=
  let raw := !s.afterBoot
  let t := if raw then 0 else s.convert ⟨cyc, 0⟩
  let w0 : Word := loWord (type + b2n raw * 16 + flags + s.log.boot.toNat * 256)
  let e : List Word := [w0, a0, a1, BitVec.ofNat 32 (tsNs t), loWord (tsSec t),
    BitVec.ofNat 32 (tsSec t / 2 ^ 32 % 2 ^ 16 + tsFrac t * 2 ^ 16), loWord cyc, hiWord cyc]
  { s with log.entries := ((s.log.wr.toNat, e) :: s.log.entries).take 8192, log.wr := s.log.wr + 1 }

/-- The index of the oldest entry held (R507). -/
def TroubleLog.oldest (l : TroubleLog) : Word := l.wr - BitVec.ofNat 32 l.entries.length

/-! ### MRAM checkpoints and engine states (R28, R29, R46, R177) -/

/-- The time-scale and Forecast record of now (R46, R177). -/
def State.record (s : State) : Checkpoint :=
  ⟨s.mram.nextSeq, s.nowSec * secFrac + (s.now % secFrac) / 65536 * 65536,
    s.fc.fw.toList.map Flywheel.model, s.fc.fw.toList.map Flywheel.seed, s.fc.sensors.toList.map Sensor.offset, true⟩

/-- A record goes to the next place of the ring of 64 (R177); a write that fails leaves a record whose CRC-32 does not match and raises CHECKPOINT_FAIL with the word where it failed (R46, R177, R178). -/
def State.checkpointAt (s : State) (fails : Option Nat) : State :=
  let kept := s.mram.ring.filter fun e => s.mram.nextSeq < e.1 + 64
  { s with
    mram := { s.mram with ring := (s.mram.nextSeq, { s.record with crcGood := fails.isNone }) :: kept,
                          nextSeq := s.mram.nextSeq + 1 },
    flt := match fails with
      | none => s.flt
      | some w => (s.raise Flt.checkpointFail w).flt }

/-- A checkpoint at a state change, whose write fails or not as the MRAM does (R46). -/
def State.checkpoint (s : State) : State :=
  { s.checkpointAt (Config.mramFails s.freeCtr) with freeCtr := s.freeCtr + 1 }

/-- Name of a state on the monitor (R532). -/
def EngineState.name : EngineState → String
  | .reset => "RESET" | .boot => "BOOT" | .init => "INIT" | .warmup => "WARMUP" | .acquire => "ACQUIRE"
  | .locked => "LOCKED" | .holdover => "HOLDOVER" | .safe => "SAFE"

/-- Characters on MON_TX, if the monitor runs (R520, R532). -/
def State.monOut (s : State) (text : String) : State := if s.sys.straps.monEn then s.emit (.monitor text) else s

/-- A line on the monitor; output lines end in CR LF (R532). -/
def State.print (s : State) (line : String) : State := s.monOut (line ++ "\r\n")

/-- The prompt and the input typed so far (R532). -/
def State.promptAgain (s : State) : State := s.monOut (s.mon.prompt ++ octetText (echoOf s.mon.line))

/-- A BOOT line of the ROM, which STATUS repeats while the engine is in BOOT (R528, R534). -/
def State.bootPrint (s : State) (line : String) : State := ({ s with mon.bootLine := line } : State).print line

/-- A state change of R29: the log entry, the notice, the checkpoint and the monitor's line (R28, R46, R532). The warm-up time runs from each entry to WARMUP (R30), and an observation of Forecast ends (R169). In BOOT no time scale exists that a checkpoint could hold. -/
def State.setEngine (s : State) (e : EngineState) : State :=
  if s.sys.engine = e then s
  else
    let a0 : Word := BitVec.ofNat 32 (s.sys.engine.code + e.code * 16)
    let s1 : State := { s with
      fc.obsBreak := s.sys.cyc,
      sys := { s.sys with
        engine := e, warmupStart := if e = .warmup then s.sys.cyc else s.sys.warmupStart,
        warmupOver := if e = .warmup then false else s.sys.warmupOver } }
    let s2 := (s1.logAt 2 0 a0 0 s1.sys.cyc).notice 1 a0 0
    let s3 := if e.code ≤ 1 then s2 else s2.checkpoint
    (s3.print ("STATE " ++ e.name)).promptAgain

/-! ### Handled commands (R439, R441 to R443) -/

/-- Waiting replies move into an empty outbound mailbox (R439). -/
def State.drainOmb (s : State) (p : Fin 4) (m : Fin 8) : State :=
  let h := s.hosts[p]
  match h.replies.find? (·.mb == m) with
  | none => s.mapHost p fun h => { h with stallFrom := h.stallFrom.set m none, stalled := h.stalled.set m false }
  | some r =>
    if h.ombFull[m] then
      s.mapHost p fun h => { h with stallFrom := h.stallFrom.set m (h.stallFrom[m].or (some s.sys.cyc)) }
    else
      let s1 := s.mapHost p fun h =>
        { h with omb := h.omb.set m r.word, ombFull := h.ombFull.set m true,
                 replies := h.replies.eraseP (·.mb == m), stalled := h.stalled.set m false,
                 stallFrom := h.stallFrom.set m (if (h.replies.eraseP (·.mb == m)).any (·.mb == m) then some s.sys.cyc else none) }
      s1.ring p m.val

/-- A reply is sent to the outbound mailbox of the mailbox that carried the command (R441). -/
def State.reply (s : State) (p : Fin 4) (m : Fin 8) (w : Word) : State :=
  (s.mapHost p fun h => { h with replies := h.replies ++ [⟨m, w⟩] }).drainOmb p m

/-- A reply word (R441). -/
def replyWord (kind status handle : Nat) : Word := BitVec.ofNat 32 (kind * 2 ^ 28 + status * 2 ^ 16 + handle)

/-- A result at word offset `ofs`: its count, then its words (R442). -/
def State.writeResult (s : State) (p : Fin 4) (ofs : Nat) (ws : List Word) : State :=
  s.parcelWrite p ofs (BitVec.ofNat 32 ws.length :: ws)

/-- The handle of a slot (R443). -/
def State.handleOf (s : State) (p : Fin 4) (slot : Nat) : Nat :=
  slot * 256 + s.hosts[p].slotSeq.toList.getD slot 0

/-- A handled command completes: its result and its completion reply, unless its port was reset (R441, R449), and its slot is freed (R443). -/
def State.complete (s : State) (id status : Nat) (ws : List Word) : State :=
  match s.handled.find? (·.id == id) with
  | none => s
  | some h =>
    let s1 : State := { s with handled := s.handled.filter (·.id != id) }
    let s2 := s1.mapHost h.hp fun x => { x with slotBusy := x.slotBusy.erase h.slot }
    if h.orphan then s2
    else (s2.writeResult h.hp h.ofs ws).reply h.hp h.mb (replyWord 3 status (s.handleOf h.hp h.slot))

/-- A host's command that may have completed already, by its number. -/
def State.completeOpt (s : State) (id : Option Nat) (status : Nat) (ws : List Word) : State :=
  match id with
  | none => s
  | some i => s.complete i status ws

/-- The update group's epoch as a result word (R487). -/
def State.epochWord (s : State) (g : Fin 8) : Word := s.groups[g].epoch.zeroExtend 32

end Sys2Proof.Machine
end

