-- ==== Sys2Proof/Machine/TimeOps.lean ====
section
/-! DEFINITION. Requests for and commits of conversion sets (R39 to R45), the leap second (R48 to R51) and smear ramps (R52 to R55), as operations. -/

namespace Sys2Proof.Machine

/-- The lower limit of RATE (R39). -/
def rateMin : Int := -(2 ^ 47)
/-- The upper limit of RATE (R39). -/
def rateMax : Int := 2 ^ 47 - 1

/-- A RATE held to its range (R39). -/
def limitRate (r : Int) : Int := max rateMin (min rateMax r)

/-- Which limit a RATE stands at, if any (R39, R71). -/
def atRateLimit (r : Int) : Option Bool :=
  if r ≤ rateMin then some false else if rateMax ≤ r then some true else none

/-- SCLK cycles from a commit to its effect (R42). -/
def leadCyc : Nat := 2500

/-- Whether a time lies in the range of R45. -/
def timeInRange (t : Int) : Bool := 0 ≤ t && t < 2 ^ 48 * secFrac

/-- Whether a step of `d` keeps the time scale in range at the boundary `cyc` under the set in force (R45). -/
def State.stepFits (s : State) (d : Int) (cyc : Nat) : Bool := timeInRange (s.setNow.time (cyc * 1024) + d)

/-- A step that its commit refuses (R45): the fault, and what asked for it is told. -/
def State.refuseStep (s : State) (r : StepReq) : State :=
  match r.origin with
  | .host id => (s.raise Flt.stepRefused 0).complete id 0x00B []
  | .switch _ => { s.raise Flt.stepRefused 1 with wv.switch := none }

/-- The first waiting step that fits, every earlier one refused at this commit (R42, R45). -/
def State.pickStep : List StepReq → State → Nat → Option StepReq × List StepReq × State
  | [], s, _ => (none, [], s)
  | r :: l, s, cyc =>
    if s.stepFits r.size cyc then (some r, l, s) else State.pickStep l (s.refuseStep r) cyc

/-- A commit when no change is pending and a request waits; a waiting step and RATE go into one set (R42). -/
def State.tryCommit (s : State) : State :=
  if s.ts.committed.isSome then s
  else
    let eff := s.sys.cyc + leadCyc
    let p := State.pickStep s.ts.waitSteps s eff
    if p.1.isNone && s.ts.waitRate.isNone then { p.2.2 with ts.waitSteps := [] }
    else
      { p.2.2 with ts.committed := some ⟨eff, p.1, s.ts.waitRate⟩, ts.waitSteps := p.2.1, ts.waitRate := none }

/-- A request for a step (R42, R44). -/
def State.requestStep (s : State) (r : StepReq) : State :=
  ({ s with ts.waitSteps := s.ts.waitSteps ++ [r] } : State).tryCommit

/-- A request for a RATE, held to its range (R39, R42). A later request replaces one that waits; a host's command so replaced ends as superseded (R463). -/
def State.requestRate (s : State) (r : Int) (host : Option Nat) : State :=
  let s1 := match s.ts.waitRate with
    | some w => s.completeOpt w.host 0x00A []
    | none => s
  ({ s1 with ts.waitRate := some ⟨limitRate r, host⟩ } : State).tryCommit

/-- The OFFSET that keeps the time at `cyc` when RATE changes, to within one unit of 2^-48 ns (R40). -/
def offsetAt (c : ConvSet) (rate : Int) (cyc : Nat) : Int :=
  let num := (c.rate - rate) * (cyc : Int)
  c.offset + num / 160 + (if num % 160 = 0 then 0 else if Config.roundUp num 160 then 1 else 0)

/-- The set that a commit makes from the set in force (R40, R44). -/
def Committed.newSet (k : Committed) (c : ConvSet) : ConvSet :=
  let r := (k.rate.map RateReq.rate).getD c.rate
  { offset := offsetAt c r k.effect + ((k.step.map StepReq.size).getD 0) * 2 ^ 32, rate := r, cyc := k.effect }

/-- RATE_LIMITED and its fault follow the RATE in force (R39, R77). -/
def State.followRateLimit (s : State) : State :=
  let l := atRateLimit s.setNow.rate
  let s1 : State := { s with ts.rateLimited := l }
  match l with
  | some b => (s1.causeGone Flt.rateLimit (· != b2n b)).condition Flt.rateLimit (b2n b)
  | none => s1.causeGone Flt.rateLimit fun _ => true

/-! ### UTC, leap seconds and smear -/

/-- The sign of the pending leap second: +1 insertion, -1 deletion (R50, R53). -/
def leapSign (p : Fin 3) : Int := if p = 2 then -1 else 1

/-- The change of R50. -/
def State.applyLeap (s : State) : State :=
  if s.ts.leapPending = 0 then s
  else { s with ts.utcOffset := s.ts.utcOffset + leapSign s.ts.leapPending, ts.leapPending := 0, ts.leapAt := 0 }

/-- Whether a step from `t` to `t'` takes the time scale to or past LEAP_AT (R51). -/
def State.crossesLeap (s : State) (t t' : Int) : Bool :=
  s.ts.leapPending != 0 && t < (s.ts.leapAt : Int) * secFrac && (s.ts.leapAt : Int) * secFrac ≤ t'

/-- LEAP_AT of a leap second at the end of the UTC date with this Modified Julian Day (R48). -/
def leapAtOf (mjd : Nat) (n : Int) (deletion : Bool) : Int :=
  ((mjd : Int) + 1 - 40587) * 86400 + n + (if deletion then -1 else 1)

/-- The ramp start S of a profile, in seconds times two (R52). -/
def Smear.start2 (p : Smear) (leapAt : Nat) : Int :=
  let d := p.cfg.at Ix.smearDuration
  match p.cfg.at Ix.smearPlacement with
  | 0 => 2 * (leapAt : Int) - d
  | 1 => 2 * ((leapAt : Int) - d)
  | _ => 2 * (leapAt : Int)

/-- The ramp start S in 2^-16 ns. -/
def Smear.start (p : Smear) (leapAt : Nat) : Int := p.start2 leapAt * (secFrac / 2)
/-- The ramp length D in 2^-16 ns. -/
def Smear.length (p : Smear) : Int := p.cfg.at Ix.smearDuration * secFrac

/-- Whether an enabled NTP instance uses the profile (R52, R310). -/
def State.smearUsed (s : State) (p : Fin 4) : Bool :=
  s.svc.inst.toList.any fun i => i.cfg.flag Ix.instEnable && i.cfg.at Ix.instSmear == p.val

/-- The terms of 1 - cos z from z^(2k) on, `n` of them: each is the one before times -z² / ((2k + 1)(2k + 2)). -/
def verSeries (zz : Rat) : Nat → Nat → Rat → Rat
  | 0, _, _ => 0
  | n + 1, k, term => term + verSeries zz n (k + 1) (-term * zz / ((2 * k + 1) * (2 * k + 2) : Nat))

/-- (1 - cos(πx)) / 2 for x from 0 to 1/2, to within 10^-13: nine terms of the series, with π to 20 places (R53). -/
def halfCosine (x : Rat) : Rat :=
  let z := x * (314159265358979323846 / 10 ^ 20)
  verSeries (z * z) 9 1 (z * z / 2) / 2

/-- (1 - cos(πx)) / 2 for x from 0 to 1, by its symmetry about 1/2. -/
def raisedCosine (x : Rat) : Rat := if x ≤ 1 / 2 then halfCosine x else 1 - halfCosine (1 - x)

/-- 50 ps in 2^-16 ns, less what `raisedCosine` may itself be off. -/
def cosineLimit : Int := 3276 - 8

/-- A cosine ramp as the engine evaluates it, in 2^-16 ns of one second: within 50 ps of the formula (R53, R54). -/
def cosineRamp (x len : Int) : Int :=
  (raisedCosine ((x : Rat) / len) * secFrac).floor + max (-cosineLimit) (min cosineLimit (Config.cosineError x len))

/-- UTC as a smeared instance serves it at the time `t`, in 2^-16 ns (R53, R54): from LEAP_AT on, once the ramp has ended, it is UTC. -/
def State.smearedUtc (s : State) (p : Smear) (t : Int) : Int :=
  match s.ts.smearLeap with
  | none => t - s.ts.utcOffset * secFrac
  | some (at_, d, n) =>
    let x := t - p.start at_
    if p.length < x && (at_ : Int) * secFrac ≤ t && s.ts.leapPending = 0 then t - s.ts.utcOffset * secFrac
    else
      let ramp : Int :=
        if x < 0 then 0
        else if p.length < x then secFrac
        else if p.cfg.at Ix.smearType == 1 then x * secFrac / p.length
        else cosineRamp x p.length
      t - n * secFrac - d * ramp

end Sys2Proof.Machine
end

