-- ==== Sys2Proof/Machine/Numeric.lean ====
section
/-! DEFINITION. Exact arithmetic of the spec: roundings, roots, least-squares fits, elapsed time on the time scale, and instants on a grid of the time scale. -/

namespace Sys2Proof.Machine

/-- A rounding that the spec leaves open: the integer below or the one above. -/
def looseRound (x : Rat) : Int :=
  x.floor + (if x.den = 1 then 0 else if Config.roundUp x.num x.den then 1 else 0)

/-- To the nearest integer; an exact tie goes to the even one (R100). -/
def roundEven (x : Rat) : Int :=
  let f := x.floor
  let d := x - f
  if d < 1 / 2 then f else if 1 / 2 < d then f + 1 else if f % 2 = 0 then f else f + 1

/-- To the nearest integer; a tie goes up (R41). -/
def roundNear (x : Rat) : Int := (x + 1 / 2).floor

/-- The smallest number whose square is at or above `x`. -/
def ceilSqrt (x : Rat) : Nat :=
  let c := x.ceil.toNat
  let u := Nat.sqrt c
  if u * u < c then u + 1 else u

/-- The smallest integer at or above `a + √b`. -/
def ceilAddSqrt (a b : Rat) : Int :=
  let u := a.ceil + ((ceilSqrt b : Nat) : Int)
  let ok := fun v : Int => a ≤ v && b ≤ ((v : Rat) - a) * ((v : Rat) - a)
  if ok (u - 2) then u - 2 else if ok (u - 1) then u - 1 else u

/-- sqrt_up of R57: the smallest multiple of 2^-16 at or above the root. -/
def sqrtUp (x : Rat) : Rat := (ceilSqrt (x * 2 ^ 32) : Rat) / 65536

/-- The word for "unknown" (R11). -/
def unknownWord : Word := 0xFFFFFFFF

/-- to_units of R57. -/
def toUnits (b : Rat) : Word :=
  let u := (b * 256).ceil
  if 0xFFFFFFFF ≤ u then unknownWord else BitVec.ofInt 32 u

/-- A number held to at most `m`. -/
def saturate (m : Nat) (i : Int) : Nat := min m i.toNat

/-- A signed number held to 32 bits (R187, R445, R509). -/
def saturateSigned (i : Int) : Word := BitVec.ofInt 32 (max (-(2 ^ 31)) (min (2 ^ 31 - 1) i))

/-- Mean of a list; 0 for none. -/
def meanOf (l : List Rat) : Rat := if l.isEmpty then 0 else l.sum / l.length

/-- Mean square residual of points about their least-squares line; about their mean when the line is not determined. -/
def lineVar (l : List (Rat × Rat)) : Rat :=
  let n : Rat := l.length
  let mx := meanOf (l.map Prod.fst)
  let my := meanOf (l.map Prod.snd)
  let sxx := (l.map fun p => (p.1 - mx) * (p.1 - mx)).sum
  let sxy := (l.map fun p => (p.1 - mx) * (p.2 - my)).sum
  let syy := (l.map fun p => (p.2 - my) * (p.2 - my)).sum
  if n = 0 then 0 else if sxx = 0 then syy / n else (syy - sxy * sxy / sxx) / n

/-- One row of an elimination: `pivot` row subtracted so that its first column clears. -/
def clearRow (pivot row : List Rat) : List Rat :=
  match pivot, row with
  | p :: ps, r :: rs => if p = 0 then rs else List.zipWith (fun x y => y - r / p * x) ps rs
  | _, rs => rs

/-- Solves `n` linear equations, each a row of coefficients and its right side, by elimination; none if singular. -/
def solveLinear : Nat → List (List Rat) → Option (List Rat)
  | 0, _ => some []
  | n + 1, rows =>
    match rows.find? (fun r => r.headD 0 != 0) with
    | none => none
    | some p =>
      match solveLinear n ((rows.erase p).map (clearRow p)) with
      | none => none
      | some xs =>
        let tail := p.drop 1
        let rhs := tail.getLastD 0
        some (((rhs - (List.zipWith (· * ·) tail xs).sum) / p.headD 0) :: xs)

/-- The same for equations of which some may follow from others: an unknown that they leave open takes its value from `fr`. -/
def solveAny : Nat → List (List Rat) → (Nat → Rat) → List Rat
  | 0, _, _ => []
  | n + 1, rows, fr =>
    match rows.find? (fun r => r.headD 0 != 0) with
    | none => fr n :: solveAny n (rows.map (·.drop 1)) fr
    | some p =>
      let xs := solveAny n ((rows.erase p).map (clearRow p)) fr
      let tail := p.drop 1
      ((tail.getLastD 0 - (List.zipWith (· * ·) tail xs).sum) / p.headD 0) :: xs

/-- The normal equations of weighted least squares: points of basis values, observation and weight, for `n` coefficients. -/
def normalRows (n : Nat) (pts : List (List Rat × Rat × Rat)) : List (List Rat) :=
  (List.range n).map fun i : Nat =>
    ((List.range n).map fun j => (pts.map fun p => p.2.2 * p.1.getD i 0 * p.1.getD j 0).sum) ++
      [(pts.map fun p => p.2.2 * p.1.getD i 0 * p.2.1).sum]

/-- Weighted least squares; none where the points leave a coefficient open. -/
def weightedFit (n : Nat) (pts : List (List Rat × Rat × Rat)) : Option (List Rat) := solveLinear n (normalRows n pts)

/-- Weighted least squares in which what the points leave open takes its value from `fr`, so that the answer is always a minimum. -/
def anyFit (n : Nat) (pts : List (List Rat × Rat × Rat)) (fr : Nat → Rat) : List Rat := solveAny n (normalRows n pts) fr

/-! ### Elapsed time on the time scale, phase steps left out (R97, R99) -/

/-- The integral of RATE, in 2^-56 FINE steps, from the origin to `n`, going back from the newest set whose integral is `acc`. -/
def rateIntegral : List ConvSet → Int → Int → Int
  | [], acc, _ => acc
  | [c], acc, n => acc + c.rate * (n - (c.cyc : Int) * 1024)
  | c :: d :: l, acc, n =>
    if (c.cyc : Int) * 1024 ≤ n then acc + c.rate * (n - (c.cyc : Int) * 1024)
    else rateIntegral (d :: l) (acc - d.rate * (((c.cyc : Int) - d.cyc) * 1024)) n

/-- A list of what began when, newest first, as far back as it covers from `from_` on. -/
def keepSince (from_ : Nat) : List (Nat × Int) → List (Nat × Int)
  | [] => []
  | e :: l => if e.1 ≤ from_ then [e] else e :: keepSince from_ l

/-- The integral of RATE at `n` FINE steps from the log of its values where RATE changed: RATE is constant between two. -/
def loggedIntegral : List (Nat × Int) → Int → Rat
  | [], _ => 0
  | [e], _ => e.2
  | e :: d :: l, n =>
    if (d.1 : Int) * 1024 ≤ n then
      (d.2 : Rat) + (e.2 - d.2 : Int) * (n - (d.1 : Int) * 1024 : Int) / (((e.1 : Int) - d.1) * 1024 : Int)
    else loggedIntegral (d :: l) n

/-- The integral of RATE to `n` FINE steps. -/
def State.rateIntegralAt (s : State) (n : Int) : Int := rateIntegral s.ts.sets s.ts.rateInt n

/-- Time-scale length of the span of FINE steps from `a` to `b` without phase steps, in FINE steps (R97). -/
def State.elapsed (s : State) (a b : Int) : Rat :=
  (b - a : Int) + ((s.rateIntegralAt b - s.rateIntegralAt a : Int) : Rat) / 2 ^ 56

/-- FINE steps as 2^-16 ns: 102.4 units each (R34). -/
def stepsToUnits (x : Rat) : Rat := x * 512 / 5

/-! ### Instants on the time scale (R41, R43, R90, R98) -/

/-- The sets with the committed one first, each with the FINE step at which it gives way to the next. -/
def State.spans (s : State) : List (ConvSet × Option Nat) :=
  let l := match s.ts.committed with
    | some k => k.newSet s.setNow :: s.ts.sets
    | none => s.ts.sets
  List.zip l (none :: (l.map fun c => some (c.cyc * 1024)))

/-- The FINE step of an instant, by the newest set in whose span the instant falls, else by the oldest (R41, R43). -/
def State.toRaw (s : State) (t : Int) : Int :=
  match s.spans.find? (fun p => (p.1.cyc : Int) * 1024 ≤ p.1.inverse t) with
  | some p => p.1.inverse t
  | none => ((s.ts.sets.getLastD {})).inverse t

/-- The first FINE step after `after` at which a set's span reaches an instant of phase `ph` modulo `per`, with the instant. -/
def gridIn (per ph : Int) (after : Int) (c : ConvSet) : Int × Int :=
  let from_ := max (after + 1) ((c.cyc : Int) * 1024)
  let k := (c.time from_.toNat - ph) / per
  let t0 := k * per + ph
  if from_ ≤ c.inverse t0 then (c.inverse t0, t0) else (c.inverse (t0 + per), t0 + per)

/-- The first instant `≡ ph (mod per)` of the time scale after a FINE step: its raw position and its time (R98). -/
def State.nextGrid (s : State) (per ph : Int) (after : Int) : Int × Int :=
  let ok := fun p : ConvSet × Option Nat =>
    let g := gridIn per ph after p.1
    match p.2 with
    | none => true
    | some e => g.1 < (e : Int)
  match s.spans.reverse.find? ok with
  | some p => gridIn per ph after p.1
  | none => gridIn per ph after s.setNow

end Sys2Proof.Machine
end

