-- ==== Sys2Proof/Machine/Tdc.lean ====
section
/-! DEFINITION. TDC channels: from pin to stamp, windows, intervals, gates, calibration and event records (R78 to R115). -/

namespace Sys2Proof.Machine

/-! ### Channel numbers and calibration (R78, R89, R103 to R106) -/

/-- TIO channels, the only ones with deglitch (R78). -/
def isTio (ch : Fin 88) : Bool := ch.val < 64
/-- Feedback channels, which no host configures (R78, R81). -/
def isFeedback (ch : Fin 88) : Bool := 72 ≤ ch.val

/-- The deglitch time of a channel in SCLK cycles: TIO channels only (R78). -/
def State.deglitch (s : State) (ch : Fin 88) : Nat := if isTio ch then s.tdc[ch].cfg.nat Ix.tdcDeglitch else 0

/-- σ_path in units of 0.25 ps (R89). -/
def pathSigma (ch : Fin 88) : Nat := if isTio ch then 20 else 8
/-- The square of σ_ss in ps² (R89). -/
def singleShotVar (ch : Fin 88) : Rat := if isTio ch then 144 else 49 / 4

/-- The active line's accepted table, if any: its σ and the CYC of its acceptance. -/
def TdcChan.table (c : TdcChan) : Option (Nat × Nat) :=
  if c.lineB then c.sigmaB.map fun x => (x, c.ageB) else c.sigmaA.map fun x => (x, c.ageA)

/-- CAL_SIGMA squared, in units of (0.25 ps)² (R105): doubled CAL_SIGMA during a temperature slew, the uncalibrated limit of 120 ps while stale. -/
def State.calSquare (s : State) (ch : Fin 88) : Nat :=
  let c := s.tdc[ch]
  match c.table with
  | none => 480 * 480
  | some (g, _) =>
    if c.stale then 480 * 480
    else (g * g + pathSigma ch * pathSigma ch) * (if s.calTemp then 4 else 1)

/-- CAL_SIGMA squared in ns² (R57, R106). -/
def State.calVar (s : State) (ch : Fin 88) : Rat := (s.calSquare ch : Rat) / (4000 * 4000)

/-- Seconds since the active line's table was accepted; saturates, and is so without a table (R113). -/
def State.calAge (s : State) (ch : Fin 88) : Nat :=
  match s.tdc[ch].table with
  | none => 0xFFFF
  | some (_, at_) => min 0xFFFF ((s.sys.cyc - at_) / secCyc)

/-- A calibration is accepted when no bin is wider than 8 FINE steps and every anchor lies within 2 (R104). -/
def calAccepted (r : CalResult) : Bool := r.widestBin ≤ 8 && r.anchorErr ≤ 2

/-- A line takes a new table (R104). -/
def TdcChan.accept (c : TdcChan) (lineB : Bool) (sigma now : Nat) : TdcChan :=
  if lineB then { c with sigmaB := some sigma, ageB := now } else { c with sigmaA := some sigma, ageA := now }

/-- The line whose accepted table is newer; the present one on a tie (R103, R104). -/
def TdcChan.newerLine (c : TdcChan) : Bool :=
  match c.sigmaA, c.sigmaB with
  | none, none => c.lineB
  | some _, none => false
  | none, some _ => true
  | some _, some _ => if c.ageA < c.ageB then true else if c.ageB < c.ageA then false else c.lineB

/-- Whether the active line's table is older than 10 s, or absent (R105). -/
def State.calOld (s : State) (ch : Fin 88) : Bool :=
  match s.tdc[ch].table with
  | none => true
  | some (_, at_) => decide (at_ + 10 * secCyc < s.sys.cyc)

/-- CAL_STALE and TDC_UNCAL follow the age of the active line's table (R105). -/
def State.followCal (s : State) (ch : Fin 88) : State :=
  let s1 := s.mapTdc ch fun c => { c with stale := s.calOld ch }
  if s.calOld ch then s1.condition Flt.tdcUncal ch.val else s1.causeEnds Flt.tdcUncal ch.val

/-! ### Faults that follow a counter (R115) -/

/-- The counters whose fault is limited per channel and period: 0 MISSED, 1 REJECTED, 2 GLITCH, 3 LOST. -/
def counterFault (i : Fin 4) : FaultKind :=
  match i with
  | 0 => Flt.stampMissed
  | 1 => Flt.windowReject
  | 2 => Flt.deglitchReject
  | 3 => Flt.fifoLost

/-- A counter of a channel changed: its fault, once in each period of the fixed grid (R115). -/
def State.counterChanged (s : State) (ch : Fin 88) (i : Fin 4) : State :=
  let now := s.sys.cyc / secCyc
  if s.tdc[ch].period[i] = some now then s
  else (s.mapTdc ch fun c => { c with period := c.period.set i (some now) }).raise (counterFault i) ch.val

/-- `n` more stamps rejected by window or interval rules (R92, R95). -/
def State.reject (s : State) (ch : Fin 88) (n : Nat) : State :=
  (s.mapTdc ch fun c => { c with rejected := c.rejected + BitVec.ofNat 32 n, rejSince := c.rejSince + n }).counterChanged ch 1

/-- A transition and its reverting transition are discarded by deglitch (R85). -/
def State.glitched (s : State) (ch : Fin 88) : State :=
  (s.mapTdc ch fun c => { c with glitch := c.glitch + 1, pend := none }).counterChanged ch 2

/-- A stamp enters the FIFO, or is lost there (R88). -/
def State.toFifo (s : State) (ch : Fin 88) (f : FifoStamp) : State :=
  if s.tdc[ch].fifo.length < 64 then s.mapTdc ch fun c => { c with fifo := c.fifo ++ [f] }
  else (s.mapTdc ch fun c => { c with lost := c.lost + 1, fifoLostFlag := true }).counterChanged ch 3

/-! ### Windows (R90 to R93) -/

/-- The unrounded time-scale Bound in force at a CYC, from the last 16 recomputations; for an older CYC, the largest held (R109). -/
def State.boundAt (s : State) (cyc : Nat) : Option Rat :=
  match s.bound.hist.find? (fun e => e.1 ≤ cyc) with
  | some e => e.2
  | none =>
    if s.bound.hist.any (fun e => e.2.isNone) || s.bound.hist.isEmpty then none
    else some ((s.bound.hist.filterMap Prod.snd).foldl max 0)

/-- Whether a slot's SOURCE names the channel (R465): as its pulse, clock or frame channel. -/
def Slot.usesChannel (x : Slot) (ch : Nat) : Bool :=
  x.cfg.flag Ix.slotEnable &&
    match x.cfg.nat Ix.slotKind with
    | 2 => x.cfg.nat Ix.slotSource == ch || x.cfg.nat (Ix.slotSource + 1) == ch
    | 3 => x.cfg.nat Ix.slotSource == ch
    | 4 => x.cfg.nat Ix.slotSource == ch
    | 7 => x.cfg.nat Ix.slotSource == ch || x.cfg.nat (Ix.slotSource + 1) == ch
    | _ => false

/-- Whether the channel is the slot's pulse input: PPS, IRIG-B or time-of-day pulse (R120). -/
def Slot.pulseChannel (x : Slot) (ch : Nat) : Bool :=
  x.cfg.flag Ix.slotEnable &&
    (x.cfg.nat Ix.slotKind == 2 || x.cfg.nat Ix.slotKind == 4 || x.cfg.nat Ix.slotKind == 7) &&
    x.cfg.nat Ix.slotSource == ch

/-- Whether the channel is the slot's clock component (R120, R137). -/
def Slot.clockChannel (x : Slot) (ch : Nat) : Bool :=
  x.cfg.flag Ix.slotEnable &&
    ((x.cfg.nat Ix.slotKind == 2 && x.cfg.nat (Ix.slotSource + 1) == ch) ||
     (x.cfg.nat Ix.slotKind == 3 && x.cfg.nat Ix.slotSource == ch))

/-- The slots for which `p` holds, lowest first. -/
def State.slotsWith (s : State) (p : Slot → Bool) : List (Fin 16) :=
  (List.finRange 16).filter fun i => p s.wv.slots[i]

/-- The declared uncertainty in use of a slot, in ns: DECL_UNC with what its source adds or limits (R124, R126, R128, R247, R398). -/
def Slot.declared (x : Slot) : Rat :=
  let d : Rat := (x.cfg.at Ix.slotDeclUnc : Rat) / 256
  match x.cfg.nat Ix.slotKind with
  | 1 => d + x.extra
  | 4 => max d x.extra
  | 5 => d + x.extra
  | 7 => max d x.extra
  | 8 => x.extra
  | _ => d

/-- The smaller of PERIOD / 2 and 500 ms, in ns (R91). -/
def TdcChan.widest (c : TdcChan) : Rat := min (c.cfg.at Ix.tdcPeriod / 2 : Rat) 500000000

/-- W of R91 now, in ns. -/
def State.widthNow (s : State) (ch : Fin 88) : Rat :=
  let c := s.tdc[ch]
  let decl := ((s.slotsWith (·.pulseChannel ch.val)).map fun i => s.wv.slots[i].declared).foldl max 0
  if s.bound.ts = unknownWord then c.widest
  else min c.widest (max (c.cfg.at Ix.tdcHalfWidth : Rat) ((s.bound.ts.toNat : Rat) / 256 + decl))

/-- W is evaluated anew (R91). The values of the last 2 s are kept: no open window took an older one. -/
def State.renewWidth (s : State) (ch : Fin 88) : State :=
  let l := (s.sys.cyc, s.widthNow ch) :: s.tdc[ch].widths
  let fresh := l.filter fun e => decide (s.sys.cyc ≤ e.1 + 2 * secCyc)
  s.mapTdc ch fun c => { c with widths := (l.drop fresh.length).take 1 |> (fresh ++ ·) }

/-- Whether windows of the channel's own apply: REFERENCE mode, on a channel that verifies no output (R90, R213). -/
def State.windowed (s : State) (ch : Fin 88) : Bool := s.tdc[ch].cfg.nat Ix.tdcMode == 1 && !isFeedback ch

/-- W of every channel at a Bound recomputation (R91). -/
def State.renewWidths (s : State) : State := s.each ((List.finRange 88).filter s.windowed) State.renewWidth

/-- W of the window of the instant `p` in FINE steps: the value in force at P - min(PERIOD / 2, 500 ms) (R91). -/
def State.halfWidth (s : State) (ch : Fin 88) (p : Int) : Rat :=
  let c := s.tdc[ch]
  let takes := s.toRaw (p - (c.widest * 65536).floor)
  (match c.widths.find? fun e => decide ((e.1 : Int) * 1024 ≤ takes) with
   | some e => e.2
   | none => (c.widths.getLast?.map Prod.snd).getD c.widest) * 640

/-- The instant of window `k` (R90), in 2^-16 ns. -/
def TdcChan.instant (c : TdcChan) (k : Int) : Int := (k * c.cfg.at Ix.tdcPeriod + c.cfg.at Ix.tdcPhase) * 65536

/-- A stamp corrected for DELAY, in FINE steps (R79). -/
def TdcChan.delayed (c : TdcChan) (t : Stamp) : Int := (t.steps : Int) - c.cfg.at Ix.tdcDelay

/-- The number of the window whose instant is at or before a time (R90). -/
def TdcChan.windowAt (c : TdcChan) (t : Int) : Int := (t - c.cfg.at Ix.tdcPhase * 65536) / (c.cfg.at Ix.tdcPeriod * 65536)

/-- Where window `k` closes, in FINE steps (R91). -/
def State.closesAt (s : State) (ch : Fin 88) (k : Int) : Rat :=
  let p := s.tdc[ch].instant k
  s.toRaw p + s.halfWidth ch p

/-- Whether window `k` opened in the present configuration, which ended every window then open (R83), and has not closed. -/
def State.windowOpen (s : State) (ch : Fin 88) (k : Int) : Bool :=
  let p := s.tdc[ch].instant k
  decide ((s.tdc[ch].opensFrom : Rat) ≤ s.toRaw p - s.halfWidth ch p) && decide ((s.tdc[ch].closedTo : Rat) < s.closesAt ch k)

/-- The first window, in order, that holds a position on the timebase (R90, R93). -/
def State.windowOf (s : State) (ch : Fin 88) (n : Int) : Option Int :=
  let c := s.tdc[ch]
  let k := c.windowAt ((setFor s.ts.sets (n / 1024).toNat).1.time n.toNat)
  [k - 1, k, k + 1].find? fun j =>
    let p := c.instant j
    s.windowOpen ch j && decide (s.toRaw p - s.halfWidth ch p ≤ n) && decide ((n : Rat) ≤ s.closesAt ch j)

/-- A reference-class edge: kept for its window's close, or rejected outside all windows (R92). -/
def State.referenceEdge (s : State) (ch : Fin 88) (t : Stamp) : State :=
  match s.windowOf ch (s.tdc[ch].delayed t) with
  | some k => s.mapTdc ch fun c => { c with inside := c.inside ++ [(k, t, c.stale)] }
  | none => s.reject ch 1

/-- The FINE step before which every stamp has left a channel by now: its own cycle is over, and its deglitch time (R4, R85, R93). -/
def State.stampedTo (s : State) (ch : Fin 88) : Int := ((s.sys.cyc : Int) - s.deglitch ch) * 1024

/-- The first window that has closed by now and was not closed before: its number and closing position (R91, R93). -/
def State.closingWindow (s : State) (ch : Fin 88) : Option (Int × Int) :=
  let c := s.tdc[ch]
  let a := c.windowAt ((setFor s.ts.sets (c.closedTo / 1024)).1.time c.closedTo)
  let k := c.windowAt s.now
  ([a - 1, a, a + 1, a + 2, k - 1, k, k + 1].find? fun j =>
    s.windowOpen ch j && decide ((s.closesAt ch j).floor < s.stampedTo ch)).map fun j => (j, (s.closesAt ch j).ceil)

/-! ### Gates (R98 to R101) -/

/-- A stamp taken into the accumulators (R99). -/
def Gate.add (g : Gate) (k t : Int) (stale : Bool) : Gate :=
  let k0 := if g.n = 0 then k else g.k0
  let t0 := if g.n = 0 then t else g.t0
  let dk := k - k0
  let dt := t - t0
  { g with n := g.n + 1, k0 := k0, t0 := t0, kLast := k, sk := g.sk + dk, skk := g.skk + dk * dk,
           st := g.st + dt, skt := g.skt + dk * dt, stt := g.stt + dt * dt, stale := g.stale || stale }

/-- The line t = a + b·k that fits the stamps of a gate, of which there are at least 3 (R99): a and b. -/
def Gate.fit (g : Gate) : Option (Rat × Rat) :=
  let n : Rat := g.n
  let d : Rat := n * g.skk - (g.sk : Rat) * g.sk
  if g.n < 3 || d = 0 then none
  else
    let b := (n * g.skt - (g.sk : Rat) * g.st) / d
    some (((g.st : Rat) - b * g.sk) / n, b)

/-- Y_TB of R99 from the period `b` that was fitted. -/
def yOfPeriod (spacing b : Rat) : Rat := if b = 0 then 0 else spacing / b - 1

/-- GATE in 2^-16 ns. -/
def TdcChan.gateLength (c : TdcChan) : Int := c.cfg.at Ix.tdcGate * 1000000 * 65536

/-- The boundary that ends a gate (R98): the next whole multiple of GATE after its start, also where R101 has it start between two. -/
def State.gateEndOf (s : State) (ch : Fin 88) (g : Gate) : Int := (s.nextGrid s.tdc[ch].gateLength 0 g.start).1

/-- The boundary that ends a channel's present gate. -/
def State.gateEndRaw (s : State) (ch : Fin 88) : Int := s.gateEndOf ch s.tdc[ch].gate

/-- A gate that opens at a position (R98). -/
def State.openGate (s : State) (at_ : Int) : Gate := { start := at_.toNat, rate0 := s.rateIntegralAt at_ }

/-- Spacing of the indices in FINE steps: PRESCALE / F_NOM, or PERIOD (R99). -/
def TdcChan.spacing (c : TdcChan) : Rat :=
  if c.cfg.nat Ix.tdcMode == 1 then (c.cfg.at Ix.tdcPeriod : Rat) * 640
  else (c.cfg.at Ix.tdcPrescale : Rat) * (10 ^ 15 : Nat) * 640 / (c.cfg.at Ix.tdcFNom : Rat)

/-- Y_TS of R99: Y_TB less the mean of RATE from the gate's start to `endRaw`. -/
def State.yOnScale (s : State) (g : Gate) (endRaw : Int) (yTb : Rat) : Rat :=
  let span : Rat := (endRaw - g.start : Int)
  let rAvg := if span = 0 then 0 else ((s.rateIntegralAt endRaw - g.rate0 : Int) : Rat) / 2 ^ 56 / span
  (1 + yTb) / (1 + rAvg) - 1

/-- The result of a gate (R98 to R100), by exact arithmetic. DESIGN CHOICE (log entry 46): R99 gives a gate of fewer than 3 stamps no RESID and no phase, so its record carries free values there and is not converted. -/
def State.gateResult (s : State) (ch : Fin 88) (g : Gate) (endRaw : Int) (cut limit : Bool) : Result :=
  let c := s.tdc[ch]
  let falling := c.cfg.nat Ix.tdcEdge == 1
  let stale := if g.n = 0 then c.stale else g.stale
  let stepIn := c.stepsAt.any fun e => decide ((g.start : Int) ≤ e) && decide (e ≤ endRaw)
  match g.fit with
  | none => .freq 0 0 (g.n % 2 ^ 32) none true stepIn limit falling stale
  | some (a, b) =>
    let yTb := yOfPeriod c.spacing b
    let q := ((g.stt : Rat) - a * g.st - b * g.skt) / ((g.n : Rat) - 2)
    let resid := ceilSqrt (q * (512 / 5) * (512 / 5))
    let kc := (g.k0 + g.kLast) / 2
    let phase := looseRound ((g.t0 : Rat) + a + b * ((kc - g.k0 : Int) : Rat))
    .freq (roundEven (yTb * 2 ^ 64)) (roundEven (s.yOnScale g endRaw yTb * 2 ^ 64)) (g.n % 2 ^ 32)
      (some (min 0xFFFFFFFF resid, Stamp.ofSteps phase.toNat)) cut stepIn limit falling stale

/-- The fractional frequencies of a valid gate result, in 2^-64. -/
def Result.valid? : Result → Option (Int × Int)
  | .freq yTb yTs _ _ false _ _ _ _ => some (yTb, yTs)
  | _ => none

/-- A stamp of FREQUENCY mode or an accepted edge enters the gate or gates that contain it (R98). A gate that waits after COUNT_LIMIT opens at it (R101). -/
def State.gateStamp (s : State) (ch : Fin 88) (k t : Int) (stale : Bool) : State :=
  let g := if s.tdc[ch].gate.waiting then s.openGate t else s.tdc[ch].gate
  let e := s.gateEndOf ch g
  s.mapTdc ch fun c =>
    { c with gate := if t ≤ e && (g.start : Int) ≤ t then g.add k t stale else g,
             later := if e ≤ t then c.later ++ [(k, t, stale)] else c.later }

/-- Whether the present gate has reached 2^32 stamps before its end (R101). -/
def State.gateFull (s : State) (ch : Fin 88) : Bool :=
  let g := s.tdc[ch].gate
  decide (2 ^ 32 ≤ g.n) && s.tdc[ch].later.all fun e => decide (s.gateEndRaw ch < e.2.1)

/-- The present gate ends with a result, and `next` takes its place with the stamps that it contains (R98, R101). -/
def State.endGate (s : State) (ch : Fin 88) (r : List Result) (next : Gate) (from_ : Int) : State :=
  let e := s.gateEndOf ch next
  s.mapTdc ch fun c =>
    { c with results := c.results ++ r,
             gate := if next.waiting then next
               else (c.later.filter fun x => decide (x.2.1 ≤ e)).foldl (fun g x => g.add x.1 x.2.1 x.2.2) next,
             later := if next.waiting then c.later else c.later.filter fun x => decide (e ≤ x.2.1),
             stepsAt := c.stepsAt.filter fun x => decide (from_ ≤ x) }

/-- The prescaler and the accumulators restart, with a gate that opens now; no window that is open goes on (R83, R86). -/
def State.restartChannel (s : State) (ch : Fin 88) : State :=
  s.mapTdc ch fun c =>
    { c with seen := 0, inside := [], emptyRun := 0, monitor := [], edgeNo := 0, edgeSeen := 0,
             closedTo := s.sys.cyc * 1024, opensFrom := s.sys.cyc * 1024, widths := [(s.sys.cyc, s.widthNow ch)],
             gate := s.openGate ((s.sys.cyc : Int) * 1024), later := [], stepsAt := [] }

/-! ### Intervals (R95 to R97) -/

/-- The interval unit of `ch` closes on a stop of `partner` (R95 to R97). RATE is weighted from the integral held since the start, so sets that have been given up since count as well. -/
def State.intervalStop (s : State) (ch : Fin 88) (start stop : Stamp) (partner : Fin 88) : State :=
  let coarse := stop.cyc - start.cyc
  let raw : Int := (stop.steps : Int) - start.steps
  let d := looseRound (stepsToUnits (raw + ((s.rateIntegralAt stop.steps - s.tdc[ch].armedRate : Int) : Rat) / 2 ^ 56))
  s.mapTdc ch fun c =>
    { c with armed := none,
             results := c.results ++ [.interval start coarse ((stop.fine : Int) - start.fine) d partner.val false false
               (c.cfg.nat Ix.tdcEdge == 1) (c.armedStale || s.tdc[partner].stale) (c.armedLate || s.isLate stop)] }

/-- The interval unit closes without a stop: INVALID, with COARSE as given (R83, R96). -/
def State.intervalAbort (s : State) (ch : Fin 88) (coarse : Nat) (overflow : Bool) : State :=
  match s.tdc[ch].armed with
  | none => s
  | some st =>
    s.mapTdc ch fun c =>
      { c with armed := none,
               results := c.results ++ [.interval st coarse 0 0 (c.cfg.nat Ix.tdcPartner) true overflow
                 (c.cfg.nat Ix.tdcEdge == 1) c.armedStale c.armedLate] }

/-- A stamp as a stop edge for the interval unit of channel `c`: closes it, or is ignored (R95). `own` says that the same edge is a start of that channel too. -/
def State.stopEdge (s : State) (c partner : Fin 88) (t : Stamp) (own : Bool) : State :=
  match s.tdc[c].armed with
  | some st => if st.steps ≤ t.steps then s.intervalStop c st t partner else s
  | none => if own then s else s.reject partner 1

/-- Channels whose interval unit takes stop edges of this polarity from `ch` (R95). -/
def State.stopsFor (s : State) (ch : Fin 88) (falling : Bool) : List (Fin 88) :=
  (List.finRange 88).filter fun c =>
    s.tdc[c].cfg.nat Ix.tdcMode == 4 && s.tdc[c].cfg.nat Ix.tdcPartner == ch.val &&
      (s.tdc[c].cfg.nat Ix.tdcStopEdge == 1) == falling

/-- A start edge of an INTERVAL channel (R95): arms the unit, or is counted as rejected. -/
def State.startEdge (s : State) (ch : Fin 88) (t : Stamp) : State :=
  if s.tdc[ch].armed.isSome then s.reject ch 1
  else s.mapTdc ch fun c =>
    { c with armed := some t, armedRate := s.rateIntegralAt t.steps, armedStale := c.stale, armedLate := s.isLate t }

/-! ### The path of a transition (R85 to R88, R94) -/

/-- The stamp after the factory path delay (R79). -/
def State.pathCorrected (s : State) (ch : Fin 88) (t : Stamp) : Stamp :=
  Stamp.ofSteps ((t.steps : Int) - s.mram.pathDelay[ch]).toNat

/-- Whether the channel stamps edges of this polarity (R82). -/
def TdcChan.selects (c : TdcChan) (falling : Bool) : Bool :=
  c.cfg.nat Ix.tdcMode != 0 &&
    match c.cfg.nat Ix.tdcEdge with
    | 0 => !falling
    | 1 => falling
    | _ => true

/-- The FIFO entry of a stamp, with the DELAY it leaves the channel with (R79, R88). -/
def TdcChan.entry (c : TdcChan) (t : Stamp) (falling : Bool) (rejected : Nat) (stale : Bool) : FifoStamp :=
  ⟨t, Stamp.ofSteps (c.delayed t).toNat, c.cfg.nat Ix.tdcDelayUnc, falling, rejected, stale⟩

/-- A stamp reaches the class logic of its own channel (R88, R94, R95, R98). `k` is its index in the regression. -/
def State.classStamp (s : State) (ch : Fin 88) (t : Stamp) (falling wasStop : Bool) (k : Nat) : State :=
  let c := s.tdc[ch]
  match c.cfg.nat Ix.tdcMode with
  | 1 => s.referenceEdge ch t
  | 2 => s.toFifo ch (c.entry t falling 0 c.stale)
  | 3 => s.gateStamp ch (k : Int) (c.delayed t) c.stale
  | 4 => if wasStop then s else s.startEdge ch (Stamp.ofSteps (c.delayed t).toNat)
  | _ => s

/-- A stamped edge is given to every interval unit that stops on it, and to its own channel's class logic (R85, R95). -/
def State.stamped (s : State) (ch : Fin 88) (t : Stamp) (falling offered : Bool) (k : Nat) : State :=
  let c := s.tdc[ch]
  let td := Stamp.ofSteps (c.delayed t).toNat
  let own := fun x : Fin 88 => x == ch && offered && c.selects falling
  let wasStop := c.cfg.nat Ix.tdcMode == 4 && c.armed.isSome && (s.stopsFor ch falling).contains ch
  let s1 := s.each (s.stopsFor ch falling) fun u x => u.stopEdge x ch td (own x)
  if offered then s1.classStamp ch t falling wasStop k else s1

/-- The glitch rule of a slot's clock (R138): the multiple of the spacing by which a stamp follows the last accepted one, or none for a glitch. -/
def State.clockMultiple (s : State) (spacing : Rat) (last t : Int) : Option Nat :=
  let d := s.elapsed last t
  [1, 2, 3, 4].find? fun m => (m : Rat) * spacing - spacing / 4 ≤ d && d ≤ (m : Rat) * spacing + spacing / 4

/-- The frequency over the trailing stamps of a clock, newest first, each with its index, in 2^-64 (R137). -/
def State.monitorFreq (s : State) (spacing : Rat) (l : List (Nat × Nat)) : Option Rat :=
  match l.head?, l.getLast? with
  | some a, some b =>
    if a.1 = b.1 then none
    else some ((s.elapsed b.2 a.2 / (((a.1 : Rat) - b.1) * spacing) - 1) * 2 ^ 64)
  | _, _ => none

/-- The stamps of the trailing `ms` milliseconds. -/
def trailing (ms at_ : Nat) (l : List (Nat × Nat)) : List (Nat × Nat) := l.filter fun e => at_ ≤ e.2 + ms * 640000000

/-! ### Event records (R107 to R111) -/

/-- W0 of a record (R107). -/
def recordHead (ch type fine : Nat) (falling lostB late invalid overflow stepIn limit stale : Bool) : Word :=
  BitVec.ofNat 32 (ch + b2n falling * 2 ^ 7 + type * 2 ^ 8 + fine * 2 ^ 12 + b2n lostB * 2 ^ 22 + b2n late * 2 ^ 23 +
    b2n invalid * 2 ^ 24 + b2n overflow * 2 ^ 25 + b2n stepIn * 2 ^ 26 + b2n limit * 2 ^ 27 + b2n stale * 2 ^ 28)

/-- The three words of a time in EDGE and FREQ_B records (R108). -/
def recordTime (t : Int) : List Word :=
  [BitVec.ofNat 32 (tsSec t / 2 ^ 32 % 2 ^ 16 + tsFrac t * 2 ^ 16), loWord (tsSec t), BitVec.ofNat 32 (tsNs t)]

/-- BOUND of an EDGE or FREQ_B record, with its DELAY_UNC in units of 2^-8 ns (R109). -/
def State.recordBound (s : State) (ch : Fin 88) (cyc delayUnc : Nat) : Word :=
  match s.boundAt cyc with
  | none => unknownWord
  | some b =>
    if toUnits b = unknownWord then unknownWord
    else
      let hard := b + 78 / 100000 + (delayUnc : Rat) / 256
      let var := singleShotVar ch / (1000 * 1000) + s.calVar ch
      let u := ceilAddSqrt (hard * 256) (var * ((s.bound.k * 256 : Nat) : Rat) * ((s.bound.k * 256 : Nat) : Rat))
      if 0xFFFFFFFF ≤ u then unknownWord else BitVec.ofInt 32 u

/-- EVQ_LOST changed on a port: its fault, once in each period of the fixed grid (R115). -/
def State.evqLostFault (s : State) (p : Fin 4) : State :=
  let now := s.sys.cyc / secCyc
  if s.hosts[p].evqLostPeriod = some now then s
  else (s.mapHost p fun h => { h with evqLostPeriod := some now }).raise Flt.evqLost p.val

/-- A record reaches one port's event queue, or is lost there (R111). -/
def State.pushEvq (s : State) (p : Fin 4) (ch : Fin 88) (w : List Word) : State :=
  let q := s.hosts[p].evq
  if (q.wr - q.rd).toNat ≥ 256 then
    let s1 := (s.mapHost p fun h => { h with evq := { q with overflow := true, lost := q.lost + 1 } }).mapTdc ch fun c =>
      { c with lostBefore := c.lostBefore.set p true }
    (s1.hwEvent p 1).evqLostFault p
  else
    let slot := q.wr.toNat % 256
    let s1 := s.mapHost p fun h =>
      { h with evq := { q with wr := q.wr + 1, slots := (slot, w) :: q.slots.filter (·.1 != slot) } }
    let s2 := s1.mapTdc ch fun c => { c with lostBefore := c.lostBefore.set p false }
    if q.wr = q.rd then s2.hwLevelRise p 0 else s2

/-- A record goes to every port in PORT_MASK; `f` builds it from the port's LOST_BEFORE (R111). LOST_BEFORE for a stamp lost at a full FIFO stays due until a record reaches some port (R88). -/
def State.deliver (s : State) (ch : Fin 88) (f : Bool → List Word) : State :=
  let flag := s.tdc[ch].fifoLostFlag
  let ports := allHosts.filter fun p => bitAt (s.tdc[ch].cfg.nat Ix.tdcPortMask) p.val
  let reached := ports.any fun p => decide ((s.hosts[p].evq.wr - s.hosts[p].evq.rd).toNat < 256)
  let s1 := s.each ports fun u p => u.pushEvq p ch (f (flag || u.tdc[ch].lostBefore[p]))
  if reached then s1.mapTdc ch fun c => { c with fifoLostFlag := false } else s1

/-- The EDGE record of a stamp (R108). DEDUCED (log entry 46): the stamp's CYC that picks its set and its Bound is the one after DELAY, since the time it reports is that of the stamp after DELAY. -/
def State.edgeRecord (s : State) (ch : Fin 88) (f : FifoStamp) : State :=
  let c := s.tdc[ch]
  let late := s.isLate f.delayed
  let t := s.convert f.delayed
  let s1 := s.noteLate f.delayed ch.val
  let body : List Word := [loWord f.stamp.cyc, hiWord f.stamp.cyc] ++ recordTime t ++
    [s.recordBound ch f.delayed.cyc f.delayUnc, BitVec.ofNat 32 (c.seq.toNat + (min 0xFFFF f.rejected) * 2 ^ 16)]
  (s1.deliver ch fun lb => recordHead ch.val 1 f.stamp.fine f.falling lb late false false false false f.stale :: body).mapTdc ch
    fun c => { c with seq := c.seq + 1 }

/-- The words of FREQ_B for the fitted phase, W1 to W6, and its FINE; free where nothing was fitted (R99, R108). -/
def State.phaseWords (s : State) (ch : Fin 88) (fit : Option (Nat × Stamp)) : List Word × Nat :=
  match fit with
  | some (_, ph) =>
    ([loWord ph.cyc, hiWord ph.cyc] ++ recordTime (s.convert ph) ++ [s.recordBound ch ph.cyc (s.tdc[ch].cfg.nat Ix.tdcDelayUnc)], ph.fine)
  | none => ((List.range 6).map fun i => BitVec.ofNat 32 (Config.free (s.freeCtr + i)), Config.free (s.freeCtr + 6) % 1024)

/-- The record or records of a finished interval or gate (R100, R108). -/
def State.resultRecord (s : State) (ch : Fin 88) (r : Result) : State :=
  let c := s.tdc[ch]
  let sq : Word := c.seq.zeroExtend 32
  let s1 := match r with
    | .interval st coarse df d stop invalid overflow falling stale late =>
      let body : List Word := [loWord st.cyc, hiWord st.cyc, loWord coarse, BitVec.ofNat 32 (twos 11 df), intLo d, intHi d,
        BitVec.ofNat 32 (c.seq.toNat + stop * 2 ^ 16)]
      (if late then s.raise Flt.convertLate ch.val else s).deliver ch fun lb =>
        recordHead ch.val 2 st.fine falling lb late invalid overflow false false stale :: body
    | .freq yTb yTs n fit invalid stepIn limit falling stale =>
      let late := (fit.map fun (e : Nat × Stamp) => s.isLate e.2).getD false
      let resid : Word := match fit with
        | some e => loWord e.1
        | none => BitVec.ofNat 32 (Config.free (s.freeCtr + 7))
      let a : List Word := [intLo yTb, intHi yTb, intLo yTs, intHi yTs, loWord n, resid, sq]
      let b := s.phaseWords ch fit
      let s0 : State := if fit.isNone then { s with freeCtr := s.freeCtr + 8 } else s
      let u := (if late then s0.raise Flt.convertLate ch.val else s0).deliver ch fun lb =>
        recordHead ch.val 3 0 falling lb late invalid false stepIn limit stale :: a
      u.deliver ch fun lb => recordHead ch.val 4 b.2 falling lb late invalid false stepIn limit stale :: (b.1 ++ [sq])
  s1.mapTdc ch fun c => { c with seq := c.seq + 1 }

/-! ### Configuration (R83) -/

/-- Whether a new configuration changes more than PORT_MASK (R83). -/
def TdcChan.disturbedBy (c : TdcChan) (cfg : Cfg) : Bool := c.cfg.take Ix.tdcPortMask != cfg.take Ix.tdcPortMask

/-- Whether the channel runs gates: FREQUENCY and REFERENCE modes (R98). -/
def TdcChan.gated (c : TdcChan) : Bool := c.cfg.nat Ix.tdcMode == 3 || c.cfg.nat Ix.tdcMode == 1

/-- A channel takes a new configuration; a change of PORT_MASK alone disturbs nothing (R83). -/
def State.applyTdc (s : State) (ch : Fin 88) (cfg : Cfg) : State :=
  if !s.tdc[ch].disturbedBy cfg then s.mapTdc ch fun c => { c with cfg := cfg }
  else
    let g := s.tdc[ch].gate
    let s1 := s.intervalAbort ch 0 false
    let s2 := if s.tdc[ch].gated && !g.waiting then s1.mapTdc ch fun c =>
        { c with results := c.results ++ [s1.gateResult ch g ((s.sys.cyc : Int) * 1024) true false] } else s1
    (s2.mapTdc ch fun c => { c with cfg := cfg }).restartChannel ch

/-! ### Commands -/

/-- INTERVAL_TIMEOUT (R96). -/
def execIntervalTimeout (ch : Fin 88) (s : State) : Out :=
  match s.tdc[ch].armed with
  | none => .next s
  | some st =>
    if !s.lapsed (st.cyc + 0xFFFFFFFF) then .next s
    else .next ((s.intervalAbort ch 0xFFFFFFFF true).raise Flt.intervalOverflow ch.val)

/-- TDC_CAL_COMPLETE (R104). -/
def execTdcCalComplete (ch : Fin 88) (lineB : Bool) (cal : CalResult) (s : State) : Out :=
  if calAccepted cal then .next (s.mapTdc ch fun c => c.accept lineB cal.sigma s.sys.cyc)
  else .next (s.raise Flt.tdcCalFail (ch.val + b2n lineB * 256))

/-- DELAY_LINE_SWAP (R103): due every 625,000,000 SCLK cycles; the line with the newer accepted table stamps. -/
def execDelayLineSwap (ch : Fin 88) (s : State) : Out :=
  if s.sys.cyc < s.tdc[ch].swapDue then .next s
  else .next ((s.mapTdc ch fun c => { c with lineB := c.newerLine, swapDue := c.swapDue + secCyc }).followCal ch)

/-- TDC_TABLE_STALE (R105): the active table has passed 10 s of age, or there is none. -/
def execTdcTableStale (ch : Fin 88) (s : State) : Out := .next (s.followCal ch)

/-- One degree Celsius in the units of the on-die readings, 2^-24 °C. -/
def oneDegree : Int := 2 ^ 24

/-- Whether an on-die sensor has moved by more than 1 °C since the last reading of the second before, if there was one (R105). -/
def State.slewing (s : State) : Bool :=
  match s.sys.onDiePrev with
  | none => false
  | some v => (List.finRange 4).any fun i => decide (oneDegree < (s.sys.onDie[i] - v[i]).natAbs)

/-- TEMP_SLEW_CHECK (R105): once per second of SYS_UPTIME. -/
def execTempSlewCheck (s : State) : Out :=
  if s.uptime ≤ s.sys.slewSec then .next s
  else
    .next { s with calTemp := s.slewing, sys.onDiePrev := if s.sys.onDieRead then some s.sys.onDie else none,
                   sys.slewSec := s.uptime }

/-- RECORD_BUILD (R110): one waiting record, of the lowest channel that has one. -/
def execRecordBuild (s : State) : Out :=
  match (List.finRange 88).find? fun ch => !s.tdc[ch].fifo.isEmpty || !s.tdc[ch].results.isEmpty with
  | none => .next s
  | some ch =>
    match s.tdc[ch].fifo, s.tdc[ch].results with
    | f :: fs, _ => .next ((s.mapTdc ch fun c => { c with fifo := fs }).edgeRecord ch f)
    | [], r :: rs => .next ((s.mapTdc ch fun c => { c with results := rs }).resultRecord ch r)
    | [], [] => .next s

/-- Whether a host may move a read index to `v`: not ahead of the write index, and at most `cap` behind it (R114, R444). -/
def indexFits (wr v : BitVec 16) (cap : Nat) : Bool := (wr - v).toNat ≤ cap

/-- A host's write of EVQ_RD (R114). -/
def State.writeEvqRd (s : State) (hp : Fin 4) (v : Word) : State :=
  let q := s.hosts[hp].evq
  let n := v.truncate 16
  if indexFits q.wr n 256 then s.mapHost hp fun h => { h with evq := { q with rd := n } }
  else s.raise Flt.evqIndex hp.val

/-- EVQ_RD_WRITE (R114). -/
def execEvqRdWrite (hp : Fin 4) (v : Word) (s : State) : Out := s.opened fun t => t.writeEvqRd hp v

end Sys2Proof.Machine
end

