-- ==== Sys2Proof/Machine/Forecast.lean ====
section
/-! DEFINITION. Forecast: flywheels, temperature, learning, prediction and its uncertainty, anchors (R161 to R188, R555). Frequencies are fractional, times in seconds, σ_h in ns. -/

namespace Sys2Proof.Machine

/-! ### Units -/

/-- SCLK cycles as seconds of timebase (R34). -/
def cycSeconds (n : Int) : Rat := (n : Rat) / 625000000
/-- A parameter in units of 2^-64 as a fraction. -/
def frac64 (i : Int) : Rat := (i : Rat) / 2 ^ 64
/-- A time in 2^-16 ns as seconds. -/
def unitSeconds (i : Rat) : Rat := i / 65536000000000
/-- A free rational that is not negative, by the counter. -/
def State.drawSize (s : State) (i : Nat) : Rat := |Config.freeRat (s.freeCtr + i)|
/-- The counter past `n` draws. -/
def State.drawnN (s : State) (n : Nat) : State := { s with freeCtr := s.freeCtr + n }

/-! ### Temperature (R166 to R168, R555) -/

/-- The mean of the on-die sensors, in °C. -/
def State.onDieMean (s : State) : Rat := ((s.sys.onDie.toList.map fun (i : Int) => (i : Rat)).sum) / 4 / 2 ^ 24

/-- The fallback temperature of a sensor: the on-die mean plus the offset between the two (R167). -/
def State.fallbackTemp (s : State) (x : Sensor) : Rat := s.onDieMean + x.offset

/-- Whether a sensor is absent (R167). -/
def Sensor.absent (x : Sensor) : Bool := x.addr == 0

/-- Whether a flywheel takes its temperature from SENSE sensor `i`. -/
def Flywheel.usesSensor (w : Flywheel) (i : Fin 4) : Bool := w.cfg.nat Ix.fwTempSrc == i.val

/-- TEMP_FALLBACK of a flywheel (R167). -/
def State.tempFallback (s : State) (f : Fin 3) : Bool :=
  (List.finRange 4).any fun i => (s.fc.fw[f]).usesSensor i && ((s.fc.sensors[i]).fallback || (s.fc.sensors[i]).absent)

/-- The filter of R555 takes one input, in °C. The sign of R164 turns after 0.1 °C against it. -/
def Flywheel.filter (w : Flywheel) (t : Rat) : Flywheel :=
  let lag := w.cfg.at Ix.fwTempLag
  let alpha : Rat := if lag = 0 then 1 else 1 - Config.expNeg (1 / (10 * (lag : Rat)))
  let new : Int := match w.temp with
    | none => roundNear (t * 65536)
    | some old => roundNear ((old : Rat) + alpha * (t * 65536 - old))
  let ext := match w.temp with
    | none => new
    | some _ => if w.tempSign then max w.tempExt new else min w.tempExt new
  let turn := 6554 ≤ (ext - new).natAbs
  { w with temp := some new, tempSign := if turn then !w.tempSign else w.tempSign, tempExt := if turn then new else ext }

/-- Filtered temperature in °C; 25 with no temperature input, so that its terms vanish (R164). -/
def Flywheel.tempC (w : Flywheel) : Rat :=
  if w.cfg.nat Ix.fwTempSrc == 5 then 25 else match w.temp with
    | some t => (t : Rat) / 65536
    | none => 25

/-- ∂y/∂T at a temperature (R167, R168). -/
def Model.slope (m : Model) (t : Rat) : Rat :=
  let d := t - 25
  m.c1 + 2 * m.c2 * d + 3 * m.c3 * d * d

/-- The nearest edge of the learned range when the temperature is more than 1 °C outside it (R168). -/
def Flywheel.beyond (w : Flywheel) : Option Rat :=
  match w.model with
  | none => none
  | some m =>
    if w.cfg.nat Ix.fwTempSrc == 5 then none
    else match m.tMin, m.tMax with
      | some lo, some hi => if w.tempC < lo - 1 then some lo else if hi + 1 < w.tempC then some hi else none
      | _, _ => none

/-- EXTRAPOLATING and its fault follow the temperature, once per excursion (R168). -/
def State.followExtrapolation (s : State) (f : Fin 3) : State :=
  let out := s.fc.fw[f].beyond.isSome
  let s1 := s.mapFw f fun w => { w with extrapolating := out }
  if out && !s.fc.fw[f].extrapolating then s1.raise Flt.tempExtrapolate f.val else s1

/-- A temperature input for flywheel `f`: the filter starts at the first one after INIT (R555). -/
def State.feedTemp (s : State) (f : Fin 3) (t : Rat) : State :=
  if s.afterInit then (s.mapFw f (·.filter t)).followExtrapolation f else s

/-! ### The model (R164, R165, R170, R171) -/

/-- Age of a model in seconds. -/
def Model.age (m : Model) (now : Int) : Rat :=
  match m.ta with
  | none => 0
  | some t => max 0 ((now - t : Int) : Rat)

/-- A root for the quantities of R165, to 2^-16 of 10^-18 and upwards: DESIGN CHOICE (log entry 48). -/
def rootRat (v : Rat) : Rat := sqrtUp (v * 10 ^ 36) / 10 ^ 18

/-- The square of the uncertainty of the local ageing slope dy/dt, from those of A and B with their covariance, at an age (R164, R173). -/
def Model.slopeVar (m : Model) (ageTau age : Rat) : Rat :=
  let g := 1 / (ageTau + age)
  max 0 (g * g * m.uA * m.uA + m.uB * m.uB + 2 * g * m.covAB)

/-- The prediction of R164 with the temperature `t` and sign, at the TAI second `now`. -/
def Model.predict (m : Model) (ageTau : Rat) (t : Rat) (rising : Bool) (now : Int) : Rat :=
  let d := t - 25
  let a := m.age now
  m.c0 + m.c1 * d + m.c2 * d * d + m.c3 * d * d * d + (if rising then m.h else -m.h) +
    m.a * Config.ln (1 + a / ageTau) + m.b * a

/-- y_f of R164 now; 0 with no model (R31). -/
def State.predict (s : State) (f : Fin 3) : Rat :=
  let w := s.fc.fw[f]
  match w.model with
  | none => 0
  | some m => m.predict (w.cfg.at Ix.fwAgeTau) w.tempC w.tempSign s.nowSec

/-- Whether a model is stale (R175). -/
def Flywheel.stale (w : Flywheel) : Bool := w.ageStale || w.gapStale || w.restored

/-- WIDEN while stale, else 1 (R175). -/
def Flywheel.widen (w : Flywheel) : Rat := if w.stale then w.cfg.at Ix.fwWiden else 1

/-- σ_wfm squared: DECL_ADEV stands in until there is a model (R165). -/
def Flywheel.wfmVar (w : Flywheel) : Rat :=
  match w.model with
  | some m => m.sWfm * m.sWfm
  | none => frac64 (w.cfg.at Ix.fwDeclAdev) * frac64 (w.cfg.at Ix.fwDeclAdev)

/-- σ_fl squared (R165). -/
def Flywheel.flVar (w : Flywheel) : Rat :=
  match w.model with
  | some m => m.sFl * m.sFl
  | none => 0

/-- e_T with what fallback and extrapolation add (R167, R168). -/
def State.tempError (s : State) (f : Fin 3) : Rat :=
  let w := s.fc.fw[f]
  match w.model with
  | none => 0
  | some m =>
    m.eT + (if s.tempFallback f then |m.slope w.tempC| * 2 else 0) +
      match w.beyond with
      | some edge => |m.slope edge| * |w.tempC - edge|
      | none => 0

/-- u_lin squared from an anchor variance or u_c0 squared (R173, R175). -/
def State.uLinVar (s : State) (f : Fin 3) (uy0 : Option Rat) : Rat :=
  let w := s.fc.fw[f]
  match w.model with
  | none => frac64 (w.cfg.at Ix.fwDeclY0) * frac64 (w.cfg.at Ix.fwDeclY0)
  | some m =>
    ((uy0.getD (m.uC0 * m.uC0)) + m.sFl * m.sFl + s.tempError f * s.tempError f) * w.widen * w.widen

/-- u_lin squared now: with the anchor in holdover, with u_c0 otherwise (R173). -/
def State.uLinNow (s : State) (f : Fin 3) : Rat :=
  s.uLinVar f (if s.fc.holding && s.fc.fw[f].anchor.isSome then some s.fc.fw[f].anchorVar else none)

/-- u_age squared, at the anchor in holdover and now otherwise (R173, R175). -/
def State.uAgeVar (s : State) (f : Fin 3) : Rat :=
  let w := s.fc.fw[f]
  match w.model with
  | none => frac64 (w.cfg.at Ix.fwDeclAge) * frac64 (w.cfg.at Ix.fwDeclAge) / (86400 * 86400)
  | some m =>
    let sec := if s.fc.holding && w.anchor.isSome then w.anchorSec else s.nowSec
    m.slopeVar (w.cfg.at Ix.fwAgeTau) (m.age sec) * w.widen * w.widen

/-- σ_h(τ) squared of a flywheel, in ns² (R173). -/
def State.sigmaHVar (s : State) (f : Fin 3) (tau : Rat) : Rat :=
  let w := s.fc.fw[f]
  (s.uLinNow f * tau * tau + s.uAgeVar f * tau * tau * tau * tau / 4 + w.wfmVar * tau) * (10 ^ 18 : Nat)

/-- σ_y,fw(τ) squared (R165). -/
def Flywheel.adevVar (w : Flywheel) (tau : Rat) : Rat := (if tau = 0 then 0 else w.wfmVar / tau) + w.flVar

/-- Whether a flywheel is configured (R161, R188). -/
def Flywheel.configured (w : Flywheel) (f : Fin 3) : Bool := f == 0 || w.cfg.at Ix.fwChannel != noneWord

/-- Whether a flywheel is usable (R163, R182). -/
def State.usable (s : State) (f : Fin 3) : Bool :=
  f == 0 || (s.fc.fw[f].configured f && !s.fc.fw[f].lost && !s.fc.fw[f].excluded && s.fc.fw[f].model.isSome)

/-- The latest Y_TB of an atomic flywheel's channel. -/
def Flywheel.lastGate (w : Flywheel) : Rat := (w.gates.head?.map Prod.snd).getD 0

/-- The frequency that a flywheel's RATE uses: the prediction, moved onto the anchor in holdover (R180). -/
def State.frequencyOf (s : State) (f : Fin 3) : Rat :=
  let w := s.fc.fw[f]
  match s.fc.holding, w.anchor with
  | true, some y => y + s.predict f - w.anchorModel
  | _, _ => s.predict f

/-- Measured minus predicted ratio of the two atomic flywheels (R182). DEDUCED (log entry 48): in holdover the prediction is the anchored one of R180, to which u_lin belongs. -/
def State.ratioGap (s : State) : Rat :=
  ((1 + s.fc.fw[1].lastGate) / (1 + s.fc.fw[2].lastGate) - 1) - ((1 + s.frequencyOf 1) / (1 + s.frequencyOf 2) - 1)

/-- Whether the two atomic flywheels agree (R182). -/
def State.atomsAgree (s : State) : Bool := s.ratioGap * s.ratioGap ≤ 25 * (s.uLinNow 1 + s.uLinNow 2)

/-- The choice of R163: 0 to 2 a flywheel, 3 the ensemble of the atomic ones. -/
def State.chooseFlywheel (s : State) : Nat :=
  if s.usable 1 && s.usable 2 && s.atomsAgree then 3
  else
    let better := fun (b : Fin 3) (f : Fin 3) =>
      if s.usable f && s.sigmaHVar f 86400 < s.sigmaHVar b 86400 then f else b
    ((([1, 2] : List (Fin 3)).foldl better 0).val)

/-- The flywheels that a choice names. -/
def fwOf (u : Nat) : List (Fin 3) := if u = 3 then [1, 2] else if u = 1 then [1] else if u = 2 then [2] else [0]

/-- The weights of the ensemble are renewed from σ_h of its two flywheels (R181). DEDUCED (log entry 48): τ is the one that the Bound uses, at the end of the coming 62.5 ms, and 86,400 s outside holdover, as in the choice of R163. -/
def State.renewWeights (s : State) : State :=
  let tau : Rat := if s.fc.holding then cycSeconds ((s.sys.cyc : Int) - s.fc.sigmaFrom) + 1 / 16 else 86400
  { s with fc.ensVar1 := s.sigmaHVar 1 tau, fc.ensVar2 := s.sigmaHVar 2 tau }

/-- The choice is taken up: IN_USE of the flywheels it names, and the weights of an ensemble that begins (R163, R181, R188). -/
def State.useFlywheel (s : State) (u : Nat) : State :=
  let s1 : State := { s with fc.use := u, fc.fw := Vector.ofFn fun i => { s.fc.fw[i] with inUse := (fwOf u).contains i } }
  if u = 3 && s.fc.use != 3 then s1.renewWeights else s1

/-! ### Feed-forward and holdover RATE (R172, R180, R181) -/

/-- RATE from one flywheel (R172). -/
def State.rateOf (s : State) (f : Fin 3) : Rat :=
  let y := s.frequencyOf f
  if f = 0 then 1 / (1 + y) - 1 else (1 + s.fc.fw[f].lastGate) / (1 + y) - 1

/-- τ since the anchor in seconds; 86,400 s where no anchor exists (R163, R173). -/
def State.tauNow (s : State) : Rat :=
  match s.fc.holdStart with
  | some c => if s.fc.holding then cycSeconds ((s.sys.cyc : Int) - c) else 86400
  | none => 86400

/-- The weighted mean of the ensemble (R181). -/
def weighted (y1 v1 y2 v2 : Rat) : Rat := if v1 + v2 = 0 then (y1 + y2) / 2 else (y1 * v2 + y2 * v1) / (v1 + v2)

/-- A quantity of the flywheel in use, or of the ensemble by its weights (R172, R181). -/
def State.ofUse (s : State) (q : Fin 3 → Rat) : Rat :=
  if s.fc.use = 3 then weighted (q 1) s.fc.ensVar1 (q 2) s.fc.ensVar2
  else if s.fc.use = 1 then q 1 else if s.fc.use = 2 then q 2 else q 0

/-- forecast_rate of R156: RATE of the flywheel in use or the ensemble. -/
def State.forecastRate (s : State) : Rat := s.ofUse s.rateOf

/-- NO_MODEL (R188): holdover runs on declared parameters. -/
def State.onDeclared (s : State) : Bool := s.fc.holding && (fwOf s.fc.use).any fun f => s.fc.fw[f].model.isNone

/-! ### The holdover component (R173, R181 to R184) -/

/-- The in-use flywheel's own σ_h squared at `tau`, in ns². -/
def State.useVar (s : State) (tau : Rat) : Rat :=
  if s.fc.use = 3 then
    let v1 := s.sigmaHVar 1 tau
    let v2 := s.sigmaHVar 2 tau
    if v1 + v2 = 0 then 0 else v1 * v2 / (v1 + v2)
  else if s.fc.use = 1 then s.sigmaHVar 1 tau else if s.fc.use = 2 then s.sigmaHVar 2 tau else s.sigmaHVar 0 tau

/-- The frequency aid's DECL_FREQ, if one is named (R142, R184). -/
def State.aidFreq (s : State) : Option Rat := s.wv.aid.map fun i => frac64 (s.wv.slots[i].cfg.at Ix.slotDeclFreq)

/-- σ_h squared `extra` seconds from now, in ns²: what earlier flywheels left, plus the present one's or the aid's growth, plus an unresolved disagreement, all added linearly (R173, R182 to R184). -/
def State.holdVarIn (s : State) (extra : Rat) : Rat :=
  let tau := cycSeconds ((s.sys.cyc : Int) - s.fc.sigmaFrom) + extra
  let gap := (s.fc.disagree.map fun (e : Rat × Nat) => |e.1| * (cycSeconds ((s.sys.cyc : Int) - e.2) + extra) * (10 ^ 9 : Nat)).sum
  if s.loop.aided then
    let x := s.fc.sigmaBase + s.loop.aidDecl * tau * (10 ^ 9 : Nat)
    x * x
  else
    let v := s.useVar tau
    if s.fc.sigmaBase = 0 && gap = 0 then v
    else (s.fc.sigmaBase + gap + sqrtUp v) * (s.fc.sigmaBase + gap + sqrtUp v)

/-- σ_h now, in ns, rounded up. -/
def State.sigmaHNow (s : State) : Rat := sqrtUp (s.holdVarIn 0)

/-! ### Anchors (R169, R179, R183) -/

/-- Frequency of flywheel `f` against the reference between two offsets, each a CYC, its time and φ (R169); none where there is nothing to measure it with. -/
def State.observe (s : State) (f : Fin 3) (a b : Nat × Int × Int) : Option Rat :=
  let dR : Rat := ((b.2.1 + b.2.2) - (a.2.1 + a.2.2) : Int)
  let y0 := ((b.1 : Rat) - a.1) * 8 * 65536 / 5 / dR - 1
  let g := (s.fc.fw[f].gates.filter fun g => a.1 ≤ g.1 && g.1 ≤ b.1).map Prod.snd
  if dR = 0 then none else if f = 0 then some y0 else if g.isEmpty then none else some ((1 + meanOf g) * (1 + y0) - 1)

/-- The selected slot's offsets of the 600 s that end 16 s before `loss`, after the last step, newest first (R179). -/
def State.anchorWindow (s : State) (loss : Nat) : List (Nat × Int × Int) :=
  s.fc.history.filter fun e =>
    e.1 + 16 * secCyc ≤ loss && loss ≤ e.1 + 616 * secCyc && s.ts.lastStepAt ≤ e.1

/-- A flywheel is anchored to a frequency with the square of u_y0 (R179, R183, R184). -/
def State.anchorTo (s : State) (y var : Rat) (f : Fin 3) : State :=
  s.mapFw f fun w => { w with anchor := some y, anchorModel := s.predict f, anchorSec := s.nowSec, anchorVar := var }

/-- The anchor measured over the window before a loss, where it holds 8 offsets (R179). -/
def State.measuredAnchor (s : State) (l : List (Nat × Int × Int)) (f : Fin 3) : Option Rat :=
  match l.getLast?, l.head? with
  | some a, some b => if 8 ≤ l.length then s.observe f a b else none
  | _, _ => none

/-- Forecast sets the anchor of a flywheel for a loss at `loss` (R179); `measured` is false on the way from WARMUP. -/
def State.anchorOne (s : State) (loss : Nat) (measured : Bool) (f : Fin 3) : State :=
  let l := if measured then s.anchorWindow loss else []
  let w := s.fc.fw[f]
  let refVar := (s.bound.refVar.getD 0) / (10 ^ 18 : Nat)
  match s.measuredAnchor l f with
  | some y => s.anchorTo y (12 * refVar / ((l.length : Rat) * 360000) + w.wfmVar / 600) f
  | none =>
    s.anchorTo (s.predict f) (match w.model with
      | some m => m.uC0 * m.uC0
      | none => frac64 (w.cfg.at Ix.fwDeclY0) * frac64 (w.cfg.at Ix.fwDeclY0)) f

/-- Holding over starts at `loss`: anchors, the flywheel in use, τ and σ_h from there, and NO_MODEL on declared parameters (R163, R173, R179). -/
def State.startHolding (s : State) (loss : Nat) (measured : Bool) : State :=
  if s.fc.holding then s
  else
    let s1 := s.useFlywheel s.chooseFlywheel
    let s2 := s1.each ((List.finRange 3).filter s1.usable) fun t f => t.anchorOne loss measured f
    let s3 : State := { s2 with fc.holding := true, fc.holdStart := some loss, fc.sigmaFrom := loss, fc.sigmaBase := 0,
                                fc.disagree := [], fc.apart := false, fc.obsBreak := s2.sys.cyc }
    s3.each ((fwOf s3.fc.use).filter fun f => s3.fc.fw[f].model.isNone) fun t f => t.raise Flt.noModel f.val

/-- Holding over ends: the component becomes zero and exclusions end (R182, R185). -/
def State.endHolding (s : State) : State :=
  { s with fc.holding := false, fc.holdStart := none, fc.sigmaBase := 0, fc.sigmaFrom := s.sys.cyc, fc.disagree := [],
           fc.apart := false, loop.aided := false,
           fc.fw := s.fc.fw.map fun w => { w with anchor := none, excluded := false } }

/-- σ_h goes on from its present value, into which what a disagreement has added so far is folded (R183, R184). -/
def State.rebase (s : State) (sig : Rat) : State :=
  { s with fc.sigmaBase := sig, fc.sigmaFrom := s.sys.cyc, fc.disagree := [], fc.apart := false }

/-- The flywheels in use are anchored anew so that they go on from a RATE, with the square of u_y0 (R183, R184). -/
def State.reanchor (s : State) (rate var : Rat) : State :=
  s.each (fwOf s.fc.use) fun t f =>
    t.anchorTo (if f = 0 then 1 / (1 + rate) - 1 else (1 + t.fc.fw[f].lastGate) / (1 + rate) - 1) var f

/-- The flywheel in use is lost or excluded while holding over: the next usable one goes on from its frequency and its σ_h (R183). -/
def State.changeFlywheel (s : State) (lost : Fin 3) : State :=
  if s.fc.holding && (fwOf s.fc.use).contains lost then
    let s1 := (s.useFlywheel s.chooseFlywheel).reanchor (s.rateOf lost) (s.uLinNow lost)
    (if s.loop.aided then s1 else s1.rebase s.sigmaHNow).raise Flt.flywheelLost lost.val
  else s

/-- An atomic flywheel's signal or gate fails: LOST until 16 valid gates have followed (R162, R183). -/
def State.loseFlywheel (s : State) (f : Fin 3) : State :=
  (s.mapFw f fun w => { w with lost := true, lostAt := some s.sys.cyc, goodGates := 0 }).changeFlywheel f

/-- The comparison of the two atomic flywheels at a gate (R182). DESIGN CHOICE (log entry 48): a disagreement is told once, when it begins; exclusion and the growth of σ_h belong to holdover, and the growth to flywheels that carry it. -/
def State.compareAtoms (s : State) : State :=
  if !(s.usable 1 && s.usable 2) then s
  else if s.atomsAgree then { s with fc.apart := false }
  else
    let w0 := s.fc.fw[0]
    if s.fc.holding && w0.model.isSome && !w0.stale then
      let err := fun f : Fin 3 => |(1 + s.fc.fw[f].lastGate) * (1 + s.frequencyOf 0) - 1 - s.frequencyOf f|
      let x : Fin 3 := if err 1 < err 2 then 2 else 1
      ((s.mapFw x fun w => { w with excluded := true }).changeFlywheel x).raise Flt.flywheelDisagree x.val
    else if s.fc.apart then s
    else
      ({ s with
        fc.apart := true
        fc.disagree := if s.fc.holding && !s.loop.aided then (s.ratioGap, s.sys.cyc) :: s.fc.disagree else s.fc.disagree } : State).raise
        Flt.flywheelDisagree 3

/-- A gate of an atomic flywheel's channel (R162, R169, R182). -/
def State.flywheelGate (s : State) (f : Fin 3) (y : Option Int) : State :=
  match y with
  | none => s.loseFlywheel f
  | some v =>
    let s1 := s.mapFw f fun w =>
      { w with gates := (s.sys.cyc, frac64 v) :: w.gates.filter (fun g => s.sys.cyc ≤ g.1 + 640 * secCyc),
               goodGates := w.goodGates + 1, lost := w.lost && w.goodGates + 1 < 16,
               lostAt := if w.lost then some s.sys.cyc else w.lostAt }
    s1.compareAtoms

/-- The flywheel whose channel this is (R161). -/
def State.flywheelOn (s : State) (ch : Fin 88) : Option (Fin 3) :=
  ([1, 2] : List (Fin 3)).find? fun f => s.fc.fw[f].cfg.at Ix.fwChannel == (ch.val : Int)

/-- A channel takes a new configuration (R83): a gate that it ends early is INVALID, so an atomic flywheel on the channel is LOST (R162). -/
def State.configChannel (s : State) (ch : Fin 88) (cfg : Cfg) : State :=
  let cut := s.tdc[ch].disturbedBy cfg && s.tdc[ch].gated
  match s.flywheelOn ch with
  | some f => if cut then (s.applyTdc ch cfg).flywheelGate f none else s.applyTdc ch cfg
  | none => s.applyTdc ch cfg

/-! ### Learning (R169 to R171, R175) -/

/-- The three stale bits with the flywheel, as MODEL_STALE's DETAIL (R189). -/
def Flywheel.staleDetail (w : Flywheel) (f : Fin 3) : Nat :=
  f.val + b2n w.ageStale * 4 + b2n w.gapStale * 8 + b2n w.restored * 16

/-- MODEL_STALE is raised when a model becomes stale, and its cause lasts while the model is (R175, R189, R496). -/
def State.noteStale (s : State) (f : Fin 3) : State :=
  let w := s.fc.fw[f]
  let held := s.flt.present.any fun m => m.source == Flt.modelStale.source && m.kind == Flt.modelStale.kind && m.detail % 4 == f.val
  if !w.stale then s.causeGone Flt.modelStale fun d => d % 4 == f.val
  else if held then s else s.raise Flt.modelStale (w.staleDetail f)

/-- The bin of the hour that runs (R171). -/
def State.hourBin (s : State) (f : Fin 3) : Option Bin :=
  let w := s.fc.fw[f]
  match w.hour.getLast? with
  | none => none
  | some o => some ⟨meanOf (w.hour.map Obs.y), meanOf (w.hour.map Obs.temp), o.rising, w.hour.length, s.nowSec⟩

/-- The bins that a refit uses: the hourly bins of the last 365 days with the one that runs (R171). -/
def State.fitBins (s : State) (f : Fin 3) : List Bin :=
  (s.hourBin f).toList ++ (s.mram.hourly[f]).filter fun b => s.nowSec ≤ b.time + 31536000

/-- `n` draws from the `i`-th on. -/
def State.drawList (s : State) (i n : Nat) : List Rat := (List.range n).map fun j => Config.freeRat (s.freeCtr + i + j)

/-- A refit of c0 to c3 and h (R171); with TEMP_SRC 5 of c0 alone, the rest held at 0 (R164). With no bin nothing is refitted. Coefficients that the bins leave open, and the uncertainties with their covariances, for which the spec gives no formula, are free (log entries 43 and 48). It takes 30 draws. -/
def State.fitTemp (s : State) (f : Fin 3) (m : Model) : Model :=
  let w := s.fc.fw[f]
  let flat := w.cfg.nat Ix.fwTempSrc == 5
  let pts := (s.fitBins f).map fun b =>
    let d := b.temp - 25
    let a := m.age b.time
    let y := b.freq - m.a * Config.ln (1 + a / (w.cfg.at Ix.fwAgeTau : Rat)) - m.b * a
    let weight := (b.count : Rat) / (1 + ((s.nowSec - b.time : Int) : Rat) / 86400 / 30)
    (if flat then [1] else [1, d, d * d, d * d * d, if b.rising then 1 else -1], y, weight)
  let c := anyFit (if flat then 1 else 5) pts fun i => Config.freeRat (s.freeCtr + i)
  let u := fun i : Nat => if flat && i != 0 then 0 else s.drawSize (5 + i)
  if pts.isEmpty then m
  else
    { m with c0 := c.getD 0 0, c1 := c.getD 1 0, c2 := c.getD 2 0, c3 := c.getD 3 0, h := c.getD 4 0,
             uC0 := u 0, uC1 := u 1, uC2 := u 2, uC3 := u 3, uH := u 4, cov := s.drawList 10 20 }

/-- σ_wfm and σ_fl from the Allan deviations of the observations (R165). DESIGN CHOICE (log entry 48): each octave from 16 s to 16,384 s by the differences of successive averages. -/
def Flywheel.noise (w : Flywheel) (m : Model) : Model :=
  let devs := (w.adev.filter fun l => l.n != 0).map fun l => l.sq / (2 * (l.n : Rat))
  let fl := match devs with
    | [] => 0
    | d :: l => l.foldl min d
  match w.adev.head? with
  | some l => { m with sWfm := if l.n = 0 then frac64 (w.cfg.at Ix.fwDeclAdev) else rootRat (16 * l.sq / (2 * (l.n : Rat))), sFl := rootRat fl }
  | none => m

/-- e_T, σ_wfm and σ_fl from the observations, once there is 1 h of them (R165). -/
def Flywheel.spread (w : Flywheel) (m : Model) : Model :=
  if 225 ≤ w.obsN then w.noise { m with eT := rootRat (w.obsSq / (w.obsN : Rat)) } else m

/-- The hourly refit (R171). -/
def State.refitTemp (s : State) (f : Fin 3) : State :=
  match s.fc.fw[f].model with
  | none => s
  | some m => (s.drawnN 30).mapFw f fun w => { w with model := some (w.spread (s.fitTemp f m)) }

/-- A model becomes present: its first fit, with e_T from the residuals of the observations that make it (R165, R171). -/
def State.firstFit (s : State) (f : Fin 3) : State :=
  let w := s.fc.fw[f]
  let m := s.fitTemp f w.seed
  let resid := w.hour.map fun o => o.y - m.predict (w.cfg.at Ix.fwAgeTau) o.temp o.rising o.sec
  let sq := (resid.map fun r => r * r).sum
  (s.drawnN 30).mapFw f fun w =>
    { w with obsN := resid.length, obsSq := sq,
             model := some (w.noise { m with eT := rootRat (sq / (resid.length : Rat)) }) }

/-- The daily refit of A and B over all daily bins since ta (R171). Its 15 draws are for what the bins leave open and for the uncertainties. -/
def State.refitAge (s : State) (f : Fin 3) : State :=
  let w := s.fc.fw[f]
  match w.model with
  | none => s
  | some m =>
    let pts := ((s.mram.daily[f]).filter fun b => (m.ta.getD 0) ≤ b.time).map fun b =>
      let a := m.age b.time
      ([Config.ln (1 + a / (w.cfg.at Ix.fwAgeTau : Rat)), a], b.freq - m.c0, (b.count : Rat))
    let c := anyFit 2 pts fun i => Config.freeRat (s.freeCtr + i)
    if pts.isEmpty then s
    else
      (s.drawnN 15).mapFw f fun w =>
        { w with model := some { m with
          a := c.getD 0 0, b := c.getD 1 0, uA := s.drawSize 2, uB := s.drawSize 3, covAB := Config.freeRat (s.freeCtr + 4),
          cov := m.cov.take 10 ++ s.drawList 5 10 } }

/-- An observation enters the octaves (R165): each octave's averages are those of pairs of the octave below. -/
def feedAdev : List AdevLevel → Rat → List AdevLevel
  | [], _ => []
  | x :: l, y =>
    let x1 : AdevLevel := match x.last with
      | some z => { x with last := some y, n := x.n + 1, sq := x.sq + (y - z) * (y - z) }
      | none => { x with last := some y }
    match x.half with
    | some z => { x1 with half := none } :: feedAdev l ((z + y) / 2)
    | none => { x1 with half := some y } :: l

/-- A period without an accepted observation: the next average has no neighbour. -/
def Flywheel.breakAdev (w : Flywheel) : Flywheel := { w with adev := w.adev.map fun l => { l with last := none, half := none } }

/-- The ageing origin of an empty model, and the range of temperatures, at an observation (R164, R168). -/
def Model.seen (m : Model) (sec : Int) (t : Rat) : Model :=
  { m with ta := m.ta.or (some sec), tMin := some (min (m.tMin.getD t) t), tMax := some (max (m.tMax.getD t) t) }

/-- The observations in a flywheel's bins, the running hour's included (R171). -/
def State.binned (s : State) (f : Fin 3) : Nat := ((s.mram.hourly[f]).map Bin.count).sum + s.fc.fw[f].hour.length

/-- An accepted observation (R169, R171, R175): binned, counted for the stale bits, and with 225 in the bins a model. -/
def State.acceptObservation (s : State) (f : Fin 3) (y : Rat) : State :=
  let r := y - s.predict f
  let s1 := s.mapFw f fun w =>
    let had := w.model.isSome
    { w with rejects := [], lastAccept := some s.sys.cyc, hour := w.hour ++ [⟨y, w.tempC, w.tempSign, s.nowSec⟩], day := w.day ++ [y],
             ageRun := w.ageRun + 1, gapRun := w.gapRun + 1, restoredRun := w.restoredRun + 1,
             ageStale := w.ageStale && w.ageRun + 1 < 225, gapStale := w.gapStale && w.gapRun + 1 < 225,
             restored := w.restored && w.restoredRun + 1 < 225, adev := feedAdev w.adev y,
             obsN := if had then w.obsN + 1 else w.obsN, obsSq := if had then w.obsSq + r * r else w.obsSq,
             seed := if had then w.seed else w.seed.seen s.nowSec w.tempC,
             model := w.model.map fun m => m.seen s.nowSec w.tempC }
  let s2 := s1.noteStale f
  if s2.fc.fw[f].model.isNone && 225 ≤ s2.binned f then s2.firstFit f else s2

/-- A rejected observation; the sixteenth in a row moves c0 (R170). -/
def State.rejectObservation (s : State) (f : Fin 3) (y : Rat) : State :=
  let w := s.fc.fw[f]
  let l := w.rejects ++ [y]
  let s1 := s.mapFw f fun w =>
    { w.breakAdev with rejects := l, rejectCount := w.rejectCount + 1, ageRun := 0, gapRun := 0, restoredRun := 0 }
  if l.length < 16 then s1
  else
    (s1.mapFw f fun w =>
      { w with rejects := [], model := w.model.map fun m =>
          { m with c0 := m.c0 + meanOf l - s.predict f, uC0 := m.uC0 * (w.cfg.at Ix.fwWiden : Rat) } }).raise Flt.modelJump f.val

/-- One observation of a flywheel, tested against the model's prediction once there is one (R170). -/
def State.takeObservation (s : State) (f : Fin 3) (y : Rat) : State :=
  let w := s.fc.fw[f]
  match w.model with
  | none => s.acceptObservation f y
  | some m =>
    let d := y - s.predict f
    if 25 * (s.tempError f * s.tempError f + m.sWfm * m.sWfm / 16 + m.sFl * m.sFl) < d * d then s.rejectObservation f y
    else s.acceptObservation f y

/-- Whether a slot's frequency dispute is open (R143, R169). -/
def State.disputeOpen (s : State) : Bool :=
  s.wv.slots.toList.any fun x => x.state == .disputed && x.freqDispute

/-- The latest offset that Forecast can observe with: of the selected slot in LOCKED (R169), of the lowest QUALIFIED time slot in WARMUP (R33). -/
def State.obsPoint (s : State) : Option (Fin 16 × Nat × Int × Int) :=
  let p := match s.sys.engine with
    | .locked =>
      match s.wv.selected, s.fc.history.head? with
      | some i, some e => some (i, e)
      | _, _ => none
    | .warmup =>
      match (List.finRange 16).find? fun (i : Fin 16) => s.wv.slots[i].state == SlotState.qualified && !s.wv.slots[i].offsets.isEmpty with
      | some i => (s.wv.slots[i].offsets.head?).map fun (e : Nat × Int) => (i, e.1, s.convert ⟨e.1, 0⟩, e.2)
      | none => none
    | _ => none
  if s.wv.switch.isNone && !s.disputeOpen then p.filter fun (e : Fin 16 × Nat × Int × Int) => decide (s.fc.obsBreak ≤ e.2.1) else none

/-- The observation of one flywheel over the window from `a` to `b`, if it was not LOST in it (R169). -/
def State.observeOver (s : State) (a b : Nat × Int × Int) (f : Fin 3) : Option Rat :=
  let w := s.fc.fw[f]
  let there := w.configured f && !w.lost && match w.lostAt with
    | some c => decide (c ≤ a.1)
    | none => true
  if there then s.observe f a b else none

/-- FORECAST_OBSERVATION (R169): every 16 s, between two offsets of one slot, while its conditions hold throughout; and the point of R174. -/
def execForecastObservation (s : State) : Out :=
  if s.sys.cyc < s.fc.obsDue then .next s
  else
    let b := s.obsPoint
    let s0 : State := { s with
      fc.obsDue := s.fc.obsDue + 16 * secCyc, fc.predictions := ((s.sys.cyc, s.ofUse s.predict) :: s.fc.predictions).take 626,
      fc.obsStart := b }
    let start := s.fc.obsStart.filter fun (e : Fin 16 × Nat × Int × Int) => decide (s.fc.obsBreak ≤ e.2.1)
    let look := fun f : Fin 3 => match start, b with
      | some x, some y => if x.1 = y.1 && decide (x.2.1 < y.2.1) then s.observeOver x.2 y.2 f else none
      | _, _ => none
    .next (s0.each (List.finRange 3) fun t f => match look f with
      | some y => t.takeObservation f y
      | none => t.mapFw f Flywheel.breakAdev)

/-- One flywheel's hour ends: its bin is written and the temperature terms refitted, but in holdover nothing is learnt (R171, R177, R185). -/
def State.endHour (s : State) (f : Fin 3) : State :=
  let t := match s.hourBin f with
    | none => s
    | some b =>
      ({ s with mram.hourly := upd s.mram.hourly f (fun l => (b :: l).take 8760) } : State).mapFw f fun w => { w with hour := [] }
  if s.fc.holding then t else t.refitTemp f

/-- HOURLY_REFIT (R171). -/
def execHourlyRefit (s : State) : Out :=
  if s.sys.cyc < s.fc.hourDue then .next s
  else .next (({ s with fc.hourDue := s.fc.hourDue + 3600 * secCyc } : State).each (List.finRange 3) State.endHour)

/-- One flywheel's day ends: its bin is written and the ageing terms refitted, but in holdover nothing is learnt (R171, R177, R185). -/
def State.endDay (s : State) (f : Fin 3) : State :=
  let w := s.fc.fw[f]
  let b : Bin := ⟨meanOf w.day, w.tempC, w.tempSign, w.day.length, s.nowSec⟩
  let t := if w.day.isEmpty then s
    else ({ s with mram.daily := upd s.mram.daily f (fun l => (b :: l).take 7320) } : State).mapFw f fun w => { w with day := [] }
  if s.fc.holding then t else t.refitAge f

/-- DAILY_REFIT (R171). -/
def execDailyRefit (s : State) : Out :=
  if s.sys.cyc < s.fc.dayDue then .next s
  else .next (({ s with fc.dayDue := s.fc.dayDue + 86400 * secCyc } : State).each (List.finRange 3) State.endDay)

/-- MODEL_AGE_EXPIRY (R175). -/
def execModelAgeExpiry (f : Fin 3) (s : State) : Out :=
  let w := s.fc.fw[f]
  if w.model.isSome && (w.lastAccept.getD 0) + w.cfg.nat Ix.fwMaxAge * 86400 * secCyc < s.sys.cyc then
    .next ((s.mapFw f fun w => { w with ageStale := true, ageRun := 0 }).noteStale f)
  else .next s

/-- TEMP_GAP_EXPIRY (R175): no good reading of the temperature input for more than 1 h. -/
def execTempGapExpiry (f : Fin 3) (s : State) : Out :=
  let w := s.fc.fw[f]
  if w.model.isSome && w.cfg.nat Ix.fwTempSrc ≤ 3 && w.lastGood + 3600 * secCyc < s.sys.cyc then
    .next ((s.mapFw f fun w => { w with gapStale := true, gapRun := 0 }).noteStale f)
  else .next s

/-! ### The SENSE bus (R166, R167) -/

/-- OVERTEMP is raised above 110 °C and ends when every sensor reads below 105 °C (R495). -/
def State.followOvertemp (s : State) : State :=
  match (List.finRange 4).find? fun i => 110 * oneDegree < s.sys.onDie[i] with
  | some i => if s.sys.overTemp then s else ({ s with sys.overTemp := true } : State).raise Flt.overtemp i.val
  | none =>
    if s.sys.onDie.toList.all (· < 105 * oneDegree) then
      ({ s with sys.overTemp := false } : State).causeGone Flt.overtemp fun _ => true
    else s

/-- The input of a flywheel whose temperature does not come from a good SENSE read: the on-die sensors, or the fallback temperature (R161, R167). -/
def State.feedIdle (s : State) (f : Fin 3) : State :=
  let w := s.fc.fw[f]
  if w.cfg.nat Ix.fwTempSrc == 4 then
    (s.feedTemp f s.onDieMean).mapFw f fun w => { w with lastGood := s.sys.cyc }
  else
    match (List.finRange 4).find? (fun i => w.usesSensor i) with
    | some i =>
      let x := s.fc.sensors[i]
      if x.absent || x.fallback then s.feedTemp f (if x.absent then s.onDieMean else s.fallbackTemp x) else s
    | none => s

/-- A read of a sensor starts on the SENSE bus. -/
def State.startSense (s : State) (i : Fin 4) : State :=
  ({ s with fc.sensors := upd s.fc.sensors i fun x => { x with reading := true } } : State).emit (.sense i.val)

/-- SENSE_READ_CYCLE (R166): the on-die sensors are read, and a read of every configured sensor that is not in fallback starts. -/
def execSenseReadCycle (onDie : List Int) (s : State) : Out :=
  let s1 : State := { s with sys.onDie := Vector.ofFn fun i => onDie.getD i.val (s.sys.onDie[i]), sys.onDieRead := true }
  let s2 := s1.followOvertemp.each (List.finRange 3) State.feedIdle
  .next (s2.each ((List.finRange 4).filter fun i => !(s.fc.sensors[i]).absent && !(s.fc.sensors[i]).fallback) State.startSense)

/-- SENSE_RETRY (R167): every second, a sensor in fallback is tried again. -/
def execSenseRetry (i : Fin 4) (s : State) : Out :=
  if (s.fc.sensors[i]).fallback && !(s.fc.sensors[i]).absent then .next (s.startSense i) else .next s

/-- The value of a read in °C if it is good: acknowledged, not stretched, in range, and within 2 °C of the reference of the jump test (R167). -/
def State.goodRead (s : State) (x : Sensor) (r : SenseRead) : Option Rat :=
  match r with
  | .value raw =>
    let v : Rat := (raw.toInt * x.lsb : Int) / ((2 ^ 24 : Nat) : Rat)
    let ref : Option Rat := if x.fallback then some (s.fallbackTemp x) else x.lastGood
    let jump := match ref with
      | some t => 2 < |v - t|
      | none => false
    if v < -55 || 125 < v || jump then none else some v
  | _ => none

/-- A good read: the filter takes it, and ten in a row end the fallback (R167, R555). -/
def State.senseGood (s : State) (i : Fin 4) (v : Rat) : State :=
  let x := s.fc.sensors[i]
  let users := (List.finRange 3).filter fun f => s.fc.fw[f].usesSensor i
  let marked := s.each users fun t f => t.mapFw f fun w => { w with lastGood := s.sys.cyc }
  if x.fallback then
    let back := 10 ≤ x.goods + 1
    let t : State := { marked with fc.sensors := upd marked.fc.sensors i fun x =>
      { x with reading := false, goods := if back then 0 else x.goods + 1, fails := 0, fallback := !back,
               lastGood := if back then some v else x.lastGood } }
    if back then (t.causeEnds Flt.senseFail i.val).each users fun u f => u.feedTemp f v else t
  else
    let t : State := { marked with fc.sensors := upd marked.fc.sensors i fun x =>
      { x with reading := false, fails := 0, lastGood := some v,
               diffs := (s.sys.cyc, v - s.onDieMean) :: x.diffs.filter (fun d => s.sys.cyc ≤ d.1 + 3600 * secCyc) } }
    t.each users fun u f => u.feedTemp f v

/-- A failed read: the last good value serves twice, and the third failure in a row starts the fallback (R167). -/
def State.senseBad (s : State) (i : Fin 4) : State :=
  let x := s.fc.sensors[i]
  let users := (List.finRange 3).filter fun f => s.fc.fw[f].usesSensor i
  if x.fallback then { s with fc.sensors := upd s.fc.sensors i fun x => { x with reading := false, goods := 0 } }
  else if x.fails < 2 then
    let t : State := { s with fc.sensors := upd s.fc.sensors i fun x => { x with reading := false, fails := x.fails + 1 } }
    match x.lastGood with
    | some v => t.each users fun u f => u.feedTemp f v
    | none => t
  else
    let off := if x.diffs.isEmpty then x.offset else meanOf (x.diffs.map Prod.snd)
    let t : State := { s with fc.sensors := upd s.fc.sensors i fun x =>
      { x with reading := false, fails := 3, goods := 0, fallback := true, offset := off } }
    (t.raise Flt.senseFail i.val).each users fun u f => u.feedTemp f (s.onDieMean + off)

/-- SENSE_READ_RESULT (R167): the result of a read that was started. -/
def execSenseReadResult (i : Fin 4) (r : SenseRead) (s : State) : Out :=
  if !(s.fc.sensors[i]).reading then .next s
  else
    match s.goodRead s.fc.sensors[i] r with
    | some v => .next (s.senseGood i v)
    | none => .next (s.senseBad i)

end Sys2Proof.Machine
end

