-- ==== Sys2Proof/Machine/Bound.lean ====
section
/-! DEFINITION. The Bound calculator: components, the time-scale Bound, every consumer's Bound, thresholds, clockClass, HOLD_REMAIN (R56 to R68, R160, R186, R213 to R216, R324). -/

namespace Sys2Proof.Machine

/-! ### Synthesizers and pins as Bound sees them -/

/-- The synthesizer that drives a pin: OUT pins take theirs by position, TIO outputs by SOURCE (R200, R466). -/
def sourceOs (s : State) (p : Fin 80) : Fin 4 :=
  if h : p.val < 16 then ⟨p.val / 4, by omega⟩ else Fin.ofNat 4 (s.outs.pins[p].cfg.nat Ix.outSource)

/-- M of a synthesizer now, in 2^-16 ns: during a walk it has moved by w times the elapsed time scale (R198, R219). -/
def State.mis (s : State) (o : Fin 4) : Rat :=
  let x := s.outs.os[o]
  if x.walk = 0 then x.mis
  else x.mis - frac64 x.walk * stepsToUnits (s.elapsed (x.walkFrom * 1024) ((s.sys.cyc : Int) * 1024))

/-- Whether the pin's pulses are counted on M: pulse and frame outputs (R60, R211). -/
def OutPin.pulsed (p : OutPin) : Bool := 2 ≤ p.cfg.nat Ix.outMode && p.cfg.nat Ix.outMode ≤ 4

/-- VERIFY_LIMIT in 2^-16 ns. -/
def OutPin.verifyLimit (p : OutPin) : Rat := (p.cfg.at Ix.outVerifyLimit : Rat) * 65536 / 1000

/-- σ_v squared in ns² (R214): VERIFY_LIMIT until 8 residuals exist. -/
def OutPin.verifyVar (p : OutPin) : Rat :=
  if p.residuals.length < 8 then p.verifyLimit * p.verifyLimit / 2 ^ 32
  else ((p.residuals.map fun r => (r * r : Int)).sum : Rat) / p.residuals.length / 2 ^ 32

/-- k as an exact number. -/
def State.kRat (s : State) : Rat := (s.bound.k : Nat)

/-- to_units of hard + k σ, with σ given by its square in ns² (R60). -/
def toUnitsWith (hard k var : Rat) : Word :=
  let u := ceilAddSqrt (hard * 256) (var * k * k * 65536)
  if 0xFFFFFFFF ≤ u then unknownWord else BitVec.ofInt 32 u

/-- Bound of an OUT pin from the unrounded time-scale Bound (R60, R213 to R216). DESIGN CHOICE (log entry 27): R60 names no components for a pin in MODE OFF or serving as a time-of-day frame pin; its Bound here is the time-scale Bound plus the pin's declared calibration. -/
def State.pinBound (s : State) (exact : Option Rat) (n : Fin 80) : Word :=
  let p := s.outs.pins[n]
  match exact with
  | none => unknownWord
  | some b =>
    if p.unknown then unknownWord
    else
      let cal : Rat := (p.cfg.at Ix.outCalDecl : Rat) / 256
      if p.pulsed then toUnitsWith (b + |s.mis (sourceOs s n)| / 65536 + cal) s.kRat p.verifyVar
      else if p.cfg.nat Ix.outMode == 1 then toUnitsWith (b + cal) s.kRat (625 / 10000 / (1000 * 1000))
      else toUnitsWith (b + cal) s.kRat 0

/-- Transmit jitter squared by SPEED, in ns² (R273). -/
def jitterVar (speed : Nat) : Rat :=
  (match speed with
   | 0 => 4
   | 1 => 25 / 4
   | _ => 9) / (1000 * 1000)

/-- Bound of an Ethernet port (R60). -/
def State.portBound (s : State) (exact : Option Rat) (p : Fin 8) : Word :=
  match exact with
  | none => unknownWord
  | some b =>
    toUnitsWith (b + (s.ports[p].cfg.at Ix.portCalDecl : Rat) / 256) s.kRat (jitterVar (s.ports[p].cfg.nat Ix.portSpeed))

/-! ### Components of the time-scale Bound (R56 to R59, R106, R160) -/

/-- Bandwidth of a loop phase in Hz (R155). -/
def Loop.bandwidth (l : Loop) : Rat :=
  match l.phase with
  | .off => 0
  | .acquire => 1 / 10
  | .settle => 1 / 100
  | .track => (l.cfg.at Ix.steerTrackBw : Rat) / 1000000

/-- The loop time constant τ_L in seconds (R160). -/
def Loop.tau (l : Loop) : Rat := 1 / (2 * Config.pi * ((l.cfg.at Ix.steerTrackBw : Rat) / 1000000))

/-- The mean interval between a slot's offsets, in seconds (R160). -/
def Slot.meanInterval (x : Slot) : Rat :=
  match x.offsets.head?, x.offsets.getLast? with
  | some a, some b => if x.offsets.length < 2 then 0 else cycSeconds ((a.1 : Int) - b.1) / ((x.offsets.length : Rat) - 1)
  | _, _ => 0

/-- loop_sigma squared in ns² (R160). DESIGN CHOICE (log entry 48): while the ensemble is in use, σ_y,fw is that of flywheel 1, the first of its two. -/
def State.loopVar (s : State) (x : Slot) : Rat :=
  let tau := s.loop.tau
  let use : Fin 3 := (fwOf s.fc.use).headD 0
  (x.var.getD 0) * min 1 (7854 / 1000 * s.loop.bandwidth * x.meanInterval) +
    s.fc.fw[use].adevVar tau * tau * tau * (10 ^ 18 : Nat)

/-- tdc_cal_sigma squared of a slot, in ns² (R106, R121, R247, R398). -/
def State.slotTdcVar (s : State) (x : Slot) : Rat :=
  let chan := fun (n : Nat) => s.calVar (Fin.ofNat 88 n)
  match x.cfg.nat Ix.slotKind with
  | 2 => max (chan (x.cfg.nat Ix.slotSource)) (chan (x.cfg.nat (Ix.slotSource + 1)))
  | 4 => chan (x.cfg.nat Ix.slotSource)
  | 7 => chan (x.cfg.nat Ix.slotSource)
  | _ => x.tdcVar

/-- The components follow the selected slot, and stay as they are with none (R57, R59). The switch residue ends after 10 τ_L in TRACK (R160). -/
def State.followComponents (s : State) : State :=
  match s.wv.selected with
  | none => s
  | some i =>
    let x := s.wv.slots[i]
    let settled := match s.loop.trackSince with
      | some c => decide (10 * s.loop.tau ≤ cycSeconds ((s.sys.cyc : Int) - c))
      | none => false
    { s with
      bound.refDecl := some x.declared, bound.refVar := x.var, bound.loopVar := s.loopVar x,
      bound.tdcVar := s.slotTdcVar x, bound.switchVar := if settled then 0 else s.bound.switchVar }

/-- The hard part of the time-scale Bound in ns (R57). -/
def BoundCalc.hard (_b : BoundCalc) (decl : Rat) : Rat := decl + 78 / 100000 + 78 / 100000

/-- bound_ts of R57 before to_units, with the holdover component given by its square; `none` is unknown. -/
def State.exactWith (s : State) (holdVar : Rat) : Option Rat :=
  match s.bound.refDecl, s.bound.refVar with
  | some d, some v =>
    if s.ts.rateLimited.isSome || s.flt.degraded then none
    else
      let b := s.bound.hard d + s.kRat * sqrtUp (v + s.bound.loopVar + s.bound.tdcVar + s.bound.switchVar + holdVar)
      if toUnits b = unknownWord then none else some b
  | _, _ => none

/-- The unrounded time-scale Bound now, its growing component taken at the end of the coming 62.5 ms (R57, R58). -/
def State.exactBound (s : State) : Option Rat :=
  s.exactWith (if s.fc.holding then s.holdVarIn (1 / 16) else 0)

/-! ### Thresholds and the fault for unknown (R63) -/

/-- The reported Bound of a consumer, numbered as the DETAIL of BOUND_HIGH (R77). -/
def BoundCalc.consumer (b : BoundCalc) (i : Fin 26) : Word :=
  if i.val = 0 then b.ts
  else if h : i.val < 17 then b.out[i.val - 1]
  else if h2 : i.val < 25 then b.port[i.val - 17]
  else b.twin

/-- One consumer against its threshold: BOUND_HIGH when it goes above (R63). -/
def State.checkThreshold (s : State) (i : Fin 26) : State :=
  let high : Bool := s.bound.consumer i == unknownWord || s.bound.threshold[i] < (s.bound.consumer i).toNat
  let s1 : State := { s with bound.above := s.bound.above.set i high }
  if high then (if s.bound.above[i] then s1 else s1.raise Flt.boundHigh i.val) else s1.causeEnds Flt.boundHigh i.val

/-- BOUND_UNKNOWN when the time-scale Bound goes from finite to unknown (R63). -/
def State.followUnknown (s : State) (old : Word) : State :=
  if s.bound.ts = unknownWord then (if old = unknownWord then s else s.raise Flt.boundUnknown 0)
  else s.causeGone Flt.boundUnknown fun _ => true

/-! ### clockClass (R64, R67, R68, R324) -/

/-- The Bound of a message that a PRP pair sends on both LANs: the larger of its two ports' Bounds; that of a port outside a pair is its own (R64, R281). -/
def State.pairBound (s : State) (p : Fin 8) : Word :=
  let q : Fin 8 := Fin.ofNat 8 (p.val ^^^ 1)
  let pair : Fin 4 := ⟨p.val / 2, by omega⟩
  if s.pairs[pair].cfg.flag Ix.prpOn && s.bound.port[p].toNat < s.bound.port[q].toNat then s.bound.port[q] else s.bound.port[p]

/-- Whether a cosine ramp runs for an instance (R54). -/
def State.cosineRuns (s : State) (x : Inst) : Bool :=
  (List.finRange 4).any fun i =>
    x.cfg.at Ix.instSmear == i.val && s.ts.smear[i].running && s.ts.smear[i].cfg.at Ix.smearType == 2

/-- The served Bound B of an instance on a port, plus the losses of its format, plus 50 ps during a cosine ramp, in whole units (R64, R54, R319). A pair sends NTP as one duplicated frame; each LAN's port sends its own PTP messages (R285). -/
def State.servedBound (s : State) (i : Fin 16) (p : Fin 8) : Word :=
  let x := s.svc.inst[i]
  let b := if x.cfg.flag Ix.instService then s.bound.port[p] else s.pairBound p
  if b = unknownWord then unknownWord
  else
    let u := b.toNat + (if x.cfg.flag Ix.instService then 1 else 60 + (if s.cosineRuns x then 13 else 0))
    if 0xFFFFFFFF ≤ u then unknownWord else BitVec.ofNat 32 u

/-- Ports that an instance serves (R310). -/
def Inst.ports (x : Inst) : List (Fin 8) := (List.finRange 8).filter fun p => bitAt (x.cfg.nat Ix.instPortMask) p.val

/-- B of an instance: the largest over its ports. -/
def State.instBound (s : State) (i : Fin 16) : Word :=
  (s.svc.inst[i].ports.map fun p => s.servedBound i p).foldl (fun a b => if a.toNat < b.toNat then b else a) 0

/-- The clockClass above the limit by profile (R324). -/
def oosClass (x : Inst) : Nat :=
  match x.cfg.nat Ix.instProfile with
  | 0 => 52
  | 5 => 52
  | _ => x.cfg.nat Ix.instOosClass

/-- LOCK_LIMIT or HOLD_LIMIT in units of 2^-8 ns, by engine state (R67). -/
def State.classLimit (s : State) (x : Inst) : Nat :=
  (if s.sys.engine = .holdover then x.cfg.nat Ix.instHoldLimit else x.cfg.nat Ix.instLockLimit) * 256

/-- The clockClass that state and B call for (R67, R324). -/
def State.wantedClass (s : State) (x : Inst) (b : Word) : Nat :=
  match s.sys.engine with
  | .acquire | .locked => if b = unknownWord then 248 else if b.toNat ≤ s.classLimit x then 6 else oosClass x
  | .holdover => if b = unknownWord then 248 else if b.toNat ≤ s.classLimit x then 7 else oosClass x
  | _ => 248

/-- Better classes are lower (R68). -/
def betterClass (a b : Nat) : Bool := a < b

/-- One instance's clockClass at a recomputation: worse at once, better after 16 in a row at or below 0.9 of the limit (R68). -/
def State.stepClass (s : State) (i : Fin 16) : State :=
  let x := s.svc.inst[i]
  let b := s.instBound i
  let want := s.wantedClass x b
  if want = x.clockClass then s.mapInst i fun x => { x with betterRun := 0 }
  else if betterClass want x.clockClass then
    let near : Bool := b != unknownWord && 10 * b.toNat ≤ 9 * s.classLimit x
    let run := if near then x.betterRun + 1 else 0
    if 16 ≤ run then s.mapInst i fun x => { x with clockClass := want, betterRun := 0 }
    else s.mapInst i fun x => { x with betterRun := run }
  else s.mapInst i fun x => { x with clockClass := want, betterRun := 0 }

/-- A change of engine state applies to every clockClass at once (R68). -/
def State.classesNow (s : State) : State :=
  { s with svc.inst := Vector.ofFn fun i => { s.svc.inst[i] with clockClass := s.wantedClass s.svc.inst[i] (s.instBound i), betterRun := 0 } }

/-! ### HOLD_REMAIN (R186) -/

/-- Whether the Bound is at or below HOLD_TARGET `n` seconds into a holdover from here (R186). -/
def State.holdsFor (s : State) (n : Nat) : Bool :=
  let v := if s.fc.holding then s.holdVarIn n else s.useVar n
  match s.exactWith v with
  | none => false
  | some b => (toUnits b).toNat ≤ s.bound.holdTarget * 256

/-- The largest number of seconds below `2 ^ bits` added to `base` for which the target holds. -/
def State.searchHold (s : State) : Nat → Nat → Nat
  | 0, base => base
  | b + 1, base => if s.holdsFor (base + 2 ^ b) then s.searchHold b (base + 2 ^ b) else s.searchHold b base

/-- HOLD_REMAIN (R186). -/
def State.holdRemain (s : State) : Word :=
  match s.exactBound with
  | none => 0
  | some b => if s.bound.holdTarget * 256 < (toUnits b).toNat then 0 else BitVec.ofNat 32 (s.searchHold 32 0)

/-! ### Recomputation (R27, R61, R62) -/

/-- SYNCED (R411): the bulk transfer is complete and the TWIN slot is selected with the loop in TRACK. -/
def State.synced (s : State) : Bool :=
  s.follower && s.twin.bulkDone && s.wv.selected == some 15 && s.loop.phase == .track

/-- BOUND_TWIN (R400): the standby's reported Bound while a peer or this unit is STANDBY with SYNCED set. -/
def State.twinBound (s : State) : Word :=
  if s.twin.role = .standby && s.synced then s.bound.ts
  else if s.twin.role != .standby && s.twin.peer.valid && s.twin.peer.role == 3 && bitAt s.twin.peer.flags 4 then
    BitVec.ofNat 32 s.twin.peer.bound
  else unknownWord

/-- The new values of every Bound (R57, R60). -/
def State.computeBounds (s : State) : State :=
  let e := s.exactBound
  let t : Word := match e with
    | some b => toUnits b
    | none => unknownWord
  let s1 : State := { s with
    bound.exact := e, bound.ts := t, bound.hist := ((s.sys.cyc, e) :: s.bound.hist).take 16,
    bound.out := Vector.ofFn fun n => s.pinBound e ⟨n.val, by omega⟩,
    bound.tio := Vector.ofFn fun n => s.pinBound e ⟨n.val + 16, by omega⟩,
    bound.port := Vector.ofFn fun p => s.portBound e p,
    bound.holdSigma := if s.fc.holding then s.sigmaHNow else 0 }
  { s1 with bound.twin := s1.twinBound }

/-- STEP_BLOCKED ends while the time-scale Bound is unknown (R147). -/
def State.unblock (s : State) : State :=
  if s.bound.ts = unknownWord && s.wv.slots.toList.any Slot.stepBlocked then
    { s with wv.slots := s.wv.slots.map fun x => { x with stepBlocked := false } }
  else s

/-- One recomputation of every Bound: the ensemble's weights, epoch, hardware status, thresholds, clockClass, window widths, STEP_BLOCKED, HOLD_REMAIN (R62, R63, R68, R91, R147, R181, R186). -/
def State.renewBounds (s : State) : State :=
  let old := s.bound.ts
  let s1 := s.renewWeights.followComponents.computeBounds
  let s2 : State := { s1 with bound.epoch := s1.bound.epoch + 1, bound.due := s1.sys.cyc + 39062500 }
  let s3 := (s2.hwEventAll 13).followUnknown old
  let s4 := s3.each (List.finRange 26) State.checkThreshold
  let s5 := (s4.each (List.finRange 16) State.stepClass).renewWidths.unblock
  { s5 with bound.holdRemain := s5.holdRemain }

/-- The reported time-scale Bound in force at a CYC (R73). -/
def State.tsBoundAt (s : State) (cyc : Nat) : Word :=
  match s.bound.hist.find? (fun e => decide (e.1 ≤ cyc)) with
  | some (_, some b) => toUnits b
  | _ => unknownWord

/-- A pin's Bound is set to unknown in the cycle of its cause, a recomputation of that pin alone, after which it is compared with its threshold (R62, R63). -/
def State.pinUnknown (s : State) (n : Fin 80) : State :=
  let s1 := s.mapPin n fun p => { p with unknown := true, goods := 0 }
  if h : n.val < 16 then
    (({ s1 with bound.out := s1.bound.out.set n.val unknownWord, bound.epoch := s1.bound.epoch + 1 } : State).hwEventAll 13).checkThreshold
      ⟨n.val + 1, by omega⟩
  else { s1 with bound.tio := s1.bound.tio.set (n.val - 16) unknownWord }

/-! ### COVERAGE (R61, R479, R483) -/

/-- Whether member `m` of group `g` has IMMEDIATE set (R483). -/
def State.immediate (s : State) (g : Fin 8) (m : Nat) : Bool := s.groups[g].immediate.getLsbD m

/-- The members of a group, in index order. -/
def membersOf (g : Fin 8) : List Nat := (List.range 16).filter fun m => groupMembers[g].getLsbD m

/-- The update group that stages a direct-window group's registers (R489). -/
def directStage (group : Nat) : Option (Fin 8) :=
  match group with
  | 0x02 => some 0 | 0x03 => some 6 | 0x04 => some 6 | 0x06 => some 1 | 0x07 => some 5 | 0x08 => some 2 | 0x09 => some 2
  | 0x0A => some 3 | 0x0C => some 4 | 0x0D => some 7 | _ => none

/-- The member that holds a staged direct register: the spec gives no offsets, so which one is open (log entry 11). -/
def directMember (g : Fin 8) (group offset : Nat) : Nat :=
  (membersOf g).getD (Config.directMember group offset % (membersOf g).length) 0

/-- Whether a direct register is staged in member `m` of group `g`. -/
def directIn (g : Fin 8) (m : Nat) (e : (Nat × Nat) × Word) : Bool :=
  directStage e.1.1 == some g && directMember g e.1.1 e.1.2 == m

/-- Words written over those of the same locations. -/
def overlay (new old : List ((Nat × Nat) × Word)) : List ((Nat × Nat) × Word) :=
  new ++ old.filter fun e => !new.any (·.1 == e.1)

/-- A member takes its pending direct values (R479, R489). -/
def Direct.take (d : Direct) (g : Fin 8) (m : Nat) : Direct :=
  { d with taken := overlay (d.pending.filter (directIn g m)) d.taken, pending := d.pending.filter fun e => !directIn g m e }

/-- The staged direct values of a group become its pending values (R479). -/
def Direct.strobe (d : Direct) (g : Fin 8) : Direct :=
  { d with pending := overlay (d.words.filter fun e => directStage e.1.1 == some g) d.pending }

/-- A member of a group has applied, its pending direct values included (R479, R481). -/
def State.applied (s : State) (g : Fin 8) (m : Nat) : State :=
  { s.mapGroup g (fun x => { x with applied := x.applied ||| (BitVec.ofNat 16 (2 ^ m) &&& groupMembers[g]) }) with
    direct := s.direct.take g m }

end Sys2Proof.Machine
end

