-- ==== Sys2Proof/Machine/Outputs.lean ====
section
/-! DEFINITION. Synthesizers and output pins: ratios, locks, misalignment, alignments, pulses, IRIG-B and time-of-day frames, closed-loop verification (R190 to R227). -/

namespace Sys2Proof.Machine

/-! ### Synthesizer parameters (R191, R192, R194, R199) -/

/-- fPFD in Hz of a configuration (R191). -/
def fPfd (c : Cfg) : Rat :=
  (2500000000 : Rat) / (c.at Ix.synthRdiv : Rat) *
    (match c.nat Ix.synthRefMode with
     | 1 => 2
     | 2 => 1 / 2
     | _ => 1)

/-- FVCO in Hz. -/
def fVco (c : Cfg) : Rat := (c.at Ix.synthFvco : Rat) / 2 ^ 24

/-- Whether fPFD lies in its range (R191). -/
def pfdInRange (c : Cfg) : Bool := 12500000 ≤ fPfd c && fPfd c ≤ 250000000

/-- LOOP_BW in Hz (R190). -/
def loopBwHz (c : Cfg) : Rat :=
  match c.nat Ix.synthLoopBw with
  | 0 => 200000
  | 1 => 500000
  | _ => 1000000

/-- NEAR_INTEGER of an enabled synthesizer (R194). -/
def nearInteger (c : Cfg) : Bool :=
  let q := fVco c / fPfd c
  let d := q - q.floor
  c.flag Ix.synthEnable && min d (1 - d) * fPfd c < 4 * loopBwHz c

/-- FVCO is a whole number of hertz (R199). -/
def wholeHertz (c : Cfg) : Bool := c.at Ix.synthFvco % 2 ^ 24 == 0

/-- The feedback ratio under RATE and the walk rate, split into N, F and FX with its remainder carried (R192). -/
def State.retune (s : State) (o : Fin 4) : State :=
  s.mapOs o fun x =>
    if x.cfg.flag Ix.synthEnable then
      let w : Rat := frac64 x.walk
      let r : Rat := fVco x.cfg / fPfd x.cfg * (1 + (s.setNow.rate : Rat) / 2 ^ 56) * (1 + w) * 2 ^ 64 + x.remainder
      let q := r.floor.toNat
      { x with n := q / 2 ^ 64 % 1024, f := q / 2 ^ 32 % 2 ^ 32, fx := q % 2 ^ 32, remainder := r - q }
    else x

/-- Every synthesizer follows RATE (R192). -/
def State.retuneAll (s : State) : State := s.each (List.finRange 4) State.retune

/-- Pins of a synthesizer: its OUT pins and the TIO outputs sourced from it (R200, R211). -/
def State.pinsOf (s : State) (o : Fin 4) : List (Fin 80) :=
  (List.finRange 80).filter fun p => sourceOs s p == o && (p.val < 16 || s.outs.pins[p].cfg.nat Ix.outMode != 0)

/-! ### Pins: nominal instants and muting (R202, R203, R207, R223) -/

/-- PERIOD of a pin's pulses in 2^-16 ns: 1 s for IRIG-B and time-of-day pins (R202, R204, R207). -/
def OutPin.period (p : OutPin) : Int :=
  if p.cfg.nat Ix.outMode == 2 then p.cfg.at Ix.outPeriod * 65536 else secFrac

/-- PHASE in 2^-16 ns. -/
def OutPin.phase (p : OutPin) : Int := if p.cfg.nat Ix.outMode == 2 then p.cfg.at Ix.outPhase * 65536 else 0

/-- Whether PERIOD and PHASE are counted on UTC (R200, R204). -/
def OutPin.onUtc (p : OutPin) : Bool :=
  p.cfg.nat Ix.outMode == 3 || (p.cfg.nat Ix.outMode == 2 && p.cfg.nat Ix.outScale == 1)

/-- COMP in 2^-16 ns: FINE steps of 1.5625 ps (R200). -/
def OutPin.comp (p : OutPin) : Rat := stepsToUnits (p.cfg.at Ix.outComp : Rat)

/-- UTC_OFFSET in force at a time: the new one from LEAP_AT on (R50, R203). -/
def State.utcOffsetAt (s : State) (t : Int) : Int :=
  s.ts.utcOffset + (if s.ts.leapPending != 0 && (s.ts.leapAt : Int) * secFrac ≤ t then leapSign s.ts.leapPending else 0)

/-- The latest instant at or before `t` of a pin's grid, `off` later than the grid of TAI (R202). -/
def OutPin.gridBefore (p : OutPin) (off t : Int) : Int := (t - off - p.phase) / p.period * p.period + p.phase + off

/-- The first nominal instant at or after LEAP_AT under the new UTC_OFFSET (R203). -/
def State.firstAfterLeap (s : State) (p : OutPin) : Int :=
  let off : Int := (s.ts.utcOffset + leapSign s.ts.leapPending) * secFrac
  p.gridBefore off ((s.ts.leapAt : Int) * secFrac - 1) + p.period

/-- The latest nominal instant at or before `t` (R202). While a leap second is pending, the old UTC_OFFSET places the pulses before LEAP_AT and the new one the first at or after it; at an insertion the interval before that pulse is a second longer, so the old grid's instants of its last second are not nominal ones unless PERIOD divides a second (R203). -/
def State.nominalBefore (s : State) (p : OutPin) (t : Int) : Int :=
  let old : Int := s.ts.utcOffset * secFrac
  if !p.onUtc then p.gridBefore 0 t
  else if s.ts.leapPending = 0 then p.gridBefore old t
  else
    let first := s.firstAfterLeap p
    if first ≤ t then p.gridBefore ((s.ts.utcOffset + leapSign s.ts.leapPending) * secFrac) t
    else
      let q := p.gridBefore old (min t ((s.ts.leapAt : Int) * secFrac - 1))
      if s.ts.leapPending = 1 && secFrac % p.period != 0 && first - secFrac ≤ q then first - secFrac - p.period else q

/-- Whether the pulse at `P` is omitted because a deletion shortens the interval after it too far (R203). -/
def State.omitted (s : State) (p : OutPin) (at_ : Int) : Bool :=
  p.onUtc && s.ts.leapPending == 2 && secFrac % p.period != 0 && at_ < (s.ts.leapAt : Int) * secFrac &&
    (s.ts.leapAt : Int) * secFrac ≤ at_ + p.period &&
    s.firstAfterLeap p - at_ < (p.cfg.at Ix.outWidth + 10) * 65536

/-- Whether a pin's function needs a pulse-capable synthesizer that it does not have (R199). DESIGN CHOICE (log entry 17): a SYNTH_CONFIG that makes FVCO no whole number of hertz is not refused, and mutes these pins. -/
def State.pinIncapable (s : State) (n : Fin 80) : Bool :=
  2 ≤ s.outs.pins[n].cfg.nat Ix.outMode && !wholeHertz s.outs.os[sourceOs s n].cfg

/-- Whether a pin is muted or held (R191, R199, R200, R223, R226). -/
def State.pinMuted (s : State) (n : Fin 80) : Bool :=
  let p := s.outs.pins[n]
  s.outs.startupMute || p.cfg.nat Ix.outMode == 0 || p.muted || (s.outs.safe && p.cfg.nat Ix.outMode != 1) || s.pinIncapable n

/-- A pulse that is high ends; a frame under way goes on unseen (R196, R218). -/
def OutPin.cut (p : OutPin) : OutPin := if p.cfg.nat Ix.outMode = 3 then p else { p with pulse := none }

/-- The pins of a synthesizer are muted while it is not locked; a pulse that is high ends (R191, R196, R197). -/
def State.followMute (s : State) (o : Fin 4) : State :=
  let m := s.outs.os[o].lock != .locked
  s.each (s.pinsOf o) fun t n => t.mapPin n fun p =>
    if m then { p.cut with muted := true, mutedAt := if p.muted then p.mutedAt else s.sys.cyc } else { p with muted := false }

/-! ### Feedback and output channels held by the engine (R81, R212, R213, R215) -/

/-- F_NOM of a CLOCK pin, in the unit of F_NOM, 10^-6 Hz. -/
def clockFNom (os pin : Cfg) : Int := looseRound (fVco os / (pin.at Ix.outOdiv : Rat) * 1000000)

/-- The smallest PRESCALE that keeps the stamp rate at or below 1 MHz (R215). -/
def clockPrescale (os pin : Cfg) : Int := max 1 (fVco os / (pin.at Ix.outOdiv : Rat) / 1000000).ceil

/-- The TDC channel that verifies a pin: feedback channel 72 + n, or the TIO channel (R213). -/
def verifyChannel (n : Fin 80) : Fin 88 :=
  if h : n.val < 16 then ⟨72 + n.val, by omega⟩ else ⟨n.val - 16, by omega⟩

/-- The edge of the leading polarity: 0 rising, 1 falling. -/
def leadingEdge (c : Cfg) : Int := if c.flag Ix.outPolarity then 1 else 0

/-- The channel configuration that the engine holds for a pin (R212, R215). -/
def State.heldConfig (s : State) (n : Fin 80) : Cfg :=
  let p := s.outs.pins[n].cfg
  let old := s.tdc[verifyChannel n].cfg
  let mode := p.nat Ix.outMode
  if n.val < 16 then
    if mode = 1 then
      let o := s.outs.os[sourceOs s n].cfg
      ((((old.set Ix.tdcMode 3).set Ix.tdcEdge 0).set Ix.tdcFNom (clockFNom o p)).set Ix.tdcPrescale (clockPrescale o p)).set Ix.tdcGate 1000
    else if mode = 0 then old.set Ix.tdcMode 0
    else
      let per : Int := if mode = 2 then p.at Ix.outPeriod else 1000000000
      let ph : Int := if mode = 2 then p.at Ix.outPhase else 0
      ((((old.set Ix.tdcMode 1).set Ix.tdcEdge (leadingEdge p)).set Ix.tdcPrescale 1).set Ix.tdcPeriod per).set Ix.tdcPhase ph
  else if mode = 5 then old.set Ix.tdcMode 0
  else if mode = 0 then old
  else (((old.set Ix.tdcMode 2).set Ix.tdcEdge (leadingEdge p)).set Ix.tdcPrescale 1).set Ix.tdcDeglitch 0

/-- Where a pin's edge for an instant leaves, P + M - COMP (R202). -/
def State.edgeOf (s : State) (n : Fin 80) (at_ : Int) : Rat := (at_ : Rat) + s.mis (sourceOs s n) - s.outs.pins[n].comp

/-- The instants whose edges lie behind a pin are passed, so that the next to leave is the first still ahead (R202, R203, R224). -/
def State.passPin (s : State) (n : Fin 80) : State :=
  s.mapPin n fun p => { p with lastPulse := some (s.nominalBefore p (((s.now : Rat) - s.mis (sourceOs s n) + p.comp).ceil - 1)) }

/-- A change of UTC_OFFSET; pins counted on UTC go on with the first instant of the new grid still ahead (R203). -/
def State.changeUtc (s : State) (change : State → State) : State :=
  (change s).each ((List.finRange 80).filter fun n => s.outs.pins[n].pulsed && s.outs.pins[n].onUtc) State.passPin

/-- A pin takes a configuration; its pulses are those still ahead, and its channel follows (R202, R212, R213, R215). -/
def State.applyPin (s : State) (n : Fin 80) : State :=
  match s.outs.pins[n].pending with
  | none => s
  | some c =>
    if c = s.outs.pins[n].cfg then s.mapPin n fun p => { p with pending := none }
    else
      let s1 := s.mapPin n fun p =>
        { p with cfg := c, pending := none, residuals := [], fails := 0, goods := 0, pulse := none, emitted := none,
                 frame := [], serial := [], mutedAt := s.sys.cyc,
                 muted := s.outs.os[if h : n.val < 16 then (⟨n.val / 4, by omega⟩ : Fin 4) else Fin.ofNat 4 (c.nat Ix.outSource)].lock != .locked }
      (s1.passPin n).configChannel (verifyChannel n) (s1.heldConfig n)

/-! ### Applying a configuration (R193, R195, R196, R483) -/

/-- Whether a change relocks: RDIV or REF_MODE changes, or FVCO leaves the present band. Which FVCO lies in which band the spec does not give, so that is free (R196). -/
def State.relocks (s : State) (o : Fin 4) (new : Cfg) : Bool :=
  let old := s.outs.os[o].cfg
  old.at Ix.synthRdiv != new.at Ix.synthRdiv || old.at Ix.synthRefMode != new.at Ix.synthRefMode ||
    (old.at Ix.synthFvco != new.at Ix.synthFvco && s.draw % 2 == 1)

/-- A synthesizer starts a band search (R193, R196). -/
def State.startSearch (s : State) (o : Fin 4) : State :=
  (s.mapOs o fun x => { x with lock := .searching }).followMute o

/-- The causes of a synthesizer's lock faults end. -/
def State.endLockFaults (s : State) (o : Fin 4) : State :=
  ((s.causeEnds Flt.osBandFail o.val).causeEnds Flt.osUnlock o.val).causeEnds Flt.osUnlock (o.val + 16)

/-- A synthesizer and its pins take their pending settings; the channels of CLOCK pins follow a new FVCO (R195, R196, R215). -/
def State.applySynth (s : State) (o : Fin 4) : State :=
  match s.outs.os[o].pending with
  | none => s
  | some c =>
    let x := s.outs.os[o]
    let re := x.lock == .locked && s.relocks o c
    let s0 := if c.at Ix.synthFvco = x.cfg.at Ix.synthFvco then s else s.drawn
    let changed := c != x.cfg
    let wasOn := x.cfg.flag Ix.synthEnable
    let s1 := s0.mapOs o fun x =>
      { x with cfg := c, pending := none, relocked := false, dirty := false,
               mis := if wasOn then x.mis else 0, remainder := if changed then 0 else x.remainder }
    let targets := (List.finRange 80).filter fun n =>
      match s1.outs.pins[n].pending with
      | none => false
      | some d => if n.val < 16 then n.val / 4 == o.val else d.nat Ix.outSource == o.val
    let s2 :=
      if !c.flag Ix.synthEnable then
        ((s1.mapOs o fun x => { x with lock := .off }).endLockFaults o).followMute o
      else if re then
        ((s1.mapOs o fun x => { x with relocks := x.relocks + 1, relocked := true }).startSearch o).raise Flt.osRelock o.val
      else if x.lock == .locked then s1
      else if changed || x.dirty then
        ((s1.mapOs o fun x => { x with attempts := 0 }).endLockFaults o).startSearch o
      else s1
    let s3 := s2.each targets State.applyPin
    let clocks := if c.at Ix.synthFvco = x.cfg.at Ix.synthFvco then [] else
      (s3.pinsOf o).filter fun n => n.val < 16 && s3.outs.pins[n].cfg.nat Ix.outMode == 1
    (s3.each clocks fun t n => t.configChannel (verifyChannel n) (t.heldConfig n)).retune o

/-! ### Alignments (R217 to R221) -/

/-- M removed by an alignment is 0 where there is nothing to remove; the ALIGN record and notice (R221, R445, R509). -/
def State.alignRecord (s : State) (o : Fin 4) (walk : Bool) (removed : Rat) : State :=
  let a0 : Word := BitVec.ofNat 32 (o.val + b2n walk * 16)
  let logged := saturateSigned (looseRound (removed / 256))
  let noted := saturateSigned (looseRound (removed / 65536))
  (s.logAt 6 0 a0 logged s.sys.cyc).notice 5 a0 noted

/-- The synthesizers that an ALIGN_PULSES command names. -/
def Handled.maskOf (h : Handled) : Nat := (h.data.getD 0 0).toNat

/-- ALIGN_PULSES `id` completes once every synthesizer it names has (R464). -/
def State.alignDone (s : State) (id : Nat) : State :=
  match s.handled.find? (·.id == id) with
  | none => s
  | some h =>
    let got := fun o : Fin 4 =>
      match s.outs.aligned[o] with
      | some (i, m) => if i = id then some m else none
      | none => none
    if (List.finRange 4).all fun o => !bitAt h.maskOf o.val || (got o).isSome then
      let ws := (List.finRange 4).flatMap fun o =>
        let m : Int := looseRound ((got o).getD 0)
        [intLo m, intHi m]
      s.complete id 0 ws
    else s

/-- The command that an alignment serves. -/
def Align.cmd : Align → Nat
  | .step _ c => c
  | .walkWait _ c => c
  | .walk _ c _ => c

/-- A synthesizer's alignment stops where it is; the command it served completes as superseded (R220, R464). -/
def State.stopAlign (s : State) (o : Fin 4) : State :=
  match s.outs.os[o].align with
  | none => s
  | some a =>
    ((s.mapOs o fun x => { x with mis := s.mis o, walk := 0, align := none }).retune o).complete a.cmd 0x00A []

/-- An alignment of a synthesizer ends with `removed` of M removed (R216, R221); `renew` follows its record and notice. -/
def State.closeAlign (s : State) (o : Fin 4) (walk : Bool) (cmd : Nat) (removed : Rat) (renew : State → State) : State :=
  let s1 := (s.mapOs o fun x => { x with mis := 0, walk := 0, align := none }).retune o
  let s2 := renew (s1.alignRecord o walk removed)
  ({ s2 with outs.aligned := s2.outs.aligned.set o (some (cmd, removed)) } : State).alignDone cmd

/-- A walk starts at a Bound recomputation (R219); one with nothing to remove ends there. -/
def State.startWalk (s : State) (o : Fin 4) : State :=
  match s.outs.os[o].align with
  | some (.walkWait r c) =>
    let m := s.mis o
    if m = 0 then s.closeAlign o true c 0 id
    else
      (s.mapOs o fun x =>
        { x with align := some (.walk r c m), walk := if 0 < m then (r : Int) else -(r : Int), walkFrom := s.sys.cyc, mis := m }).retune o
  | _ => s

/-- One recomputation of every Bound, at which walks that wait start (R62, R219). -/
def State.recompute (s : State) : State := s.renewBounds.each (List.finRange 4) State.startWalk

/-- An alignment ends, and every Bound is recomputed (R27, R216, R221). -/
def State.finishAlign (s : State) (o : Fin 4) (walk : Bool) (cmd : Nat) (removed : Rat) : State :=
  s.closeAlign o walk cmd removed State.recompute

/-- A written K: staged, or in force at once under IMMEDIATE; outside 3 to 8 it is ignored (R61). -/
def State.writeCoverage (s : State) (v : Nat) : State :=
  let k := v % 16
  if 3 ≤ k && k ≤ 8 then
    let s1 : State := { s with bound.kStaged := k }
    if s.immediate 0 0 then (({ s1 with bound.k := k } : State).recompute).repl (.coverage k) else s1
  else s.raise Flt.coverageRange k

/-- A phase step of `d` reaches every M (R198); a walk goes on toward 0 (R219). -/
def State.stepMis (s : State) (d : Int) : State :=
  s.each (List.finRange 4) fun t o =>
    let m := t.mis o + d
    (t.mapOs o fun x =>
      match x.align with
      | some (.walk r c m0) =>
        { x with mis := m, walkFrom := t.sys.cyc, align := some (.walk r c (m0 + d)),
                 walk := if 0 < m then (r : Int) else if m < 0 then -(r : Int) else x.walk }
      | _ => { x with mis := m }).retune o

/-- The instant A of a STEP alignment (R218), in 2^-16 ns. -/
def State.alignInstant (s : State) (o : Fin 4) (at_ : Nat) : Int :=
  ((at_ : Int) * secFrac + min 0 (s.mis o).floor) - secFrac / 1000

/-- One pin at instant A of a STEP alignment: a pulse that is high ends, and an instant passed over is skipped (R218). -/
def State.pinAtStep (s : State) (m : Rat) (n : Fin 80) : State :=
  let p := s.outs.pins[n]
  let s1 := s.mapPin n OutPin.cut
  if !p.pulsed || s.pinMuted n then s1
  else
    let now : Rat := s.now
    let last := s.nominalBefore p (now + p.comp).floor
    let passed : Bool := (now : Rat) < last + m - p.comp && p.lastPulse != some last
    if passed then (s1.mapPin n fun p => { p with lastPulse := some last }).raise Flt.pulseSkipped n.val else s1

/-- ALIGN_STEP_EXECUTE (R218): due at A. -/
def execAlignStepExecute (os : Fin 4) (s : State) : Out :=
  match s.outs.os[os].align with
  | some (.step at_ cmd) =>
    if s.now < s.alignInstant os at_ then .next s
    else
      let m := s.mis os
      .next ((s.each (s.pinsOf os) fun t n => t.pinAtStep m n).finishAlign os false cmd m)
  | _ => .next s

/-- WALK_COMPLETE (R219): due when M has reached 0. -/
def execWalkComplete (os : Fin 4) (s : State) : Out :=
  match s.outs.os[os].align with
  | some (.walk _ cmd m0) =>
    let w := s.outs.os[os].walk
    let m := s.mis os
    if (0 < w && 0 < m) || (w < 0 && m < 0) then .next s else .next (s.finishAlign os true cmd m0)
  | _ => .next s

/-! ### Pulses (R196, R202, R203, R223, R224) -/

/-- The nominal instant whose edge is due by now on a pin, if it has not been emitted or passed (R202). -/
def State.dueInstant (s : State) (n : Fin 80) : Option Int :=
  let p := s.outs.pins[n]
  let at_ := s.nominalBefore p ((s.now : Rat) - s.mis (sourceOs s n) + p.comp).floor
  match p.lastPulse with
  | some l => if l < at_ then some at_ else none
  | none => some at_

/-- PULSE_EDGE (R202): the pulse of the latest due instant, unless the pin is muted, held, or the pulse is omitted. It is high for WIDTH, in the pin's polarity (R200). -/
def execPulseEdge (pin : Fin 80) (s : State) : Out :=
  let p := s.outs.pins[pin]
  let mode := p.cfg.nat Ix.outMode
  if mode != 2 && mode != 4 then .next s
  else
    match s.dueInstant pin with
    | none => .next s
    | some at_ =>
      let s1 := s.mapPin pin fun p => { p with lastPulse := some at_ }
      if s.outs.startupMute || s.outs.safe || s.pinIncapable pin then .next s1
      else if p.muted then
        .next (if s.outs.os[sourceOs s pin].lock = .searching then s1.raise Flt.pulseSkipped pin.val else s1)
      else if s.omitted p at_ then .next (s1.raise Flt.pulseSkipped pin.val)
      else
        .next ((s1.mapPin pin fun p => { p with pulse := some at_, emitted := some at_ }).emit
          (.pulse pin (s.edgeOf pin at_) (p.cfg.nat Ix.outWidth) (p.cfg.flag Ix.outPolarity)))

/-! ### IRIG-B output (R204 to R206) -/

/-- Whether a civil year has 366 days. -/
def leapYear (y : Nat) : Bool := (y % 4 == 0 && y % 100 != 0) || y % 400 == 0

/-- The year and zero-based day of the year of a day count from the start of a year, `fuel` years at most. -/
def yearOf : Nat → Nat → Nat → Nat × Nat
  | 0, y, d => (y, d)
  | k + 1, y, d =>
    let n := if leapYear y then 366 else 365
    if d < n then (y, d) else yearOf k (y + 1) (d - n)

/-- The civil year and day of the year of a day number since 1970-01-01. -/
def civilOf (days : Nat) : Nat × Nat :=
  let c := days / 146097
  let p := yearOf 400 1970 (days % 146097)
  (p.1 + 400 * c, p.2 + 1)

/-- Bits of a number, least significant first. -/
def bitsLsb (n w : Nat) : List Bool := (List.range w).map fun i => bitAt n i

/-- A BCD group: units and tens with the given widths. -/
def bcd (n wu wt : Nat) : List Bool × List Bool := (bitsLsb (n % 10) wu, bitsLsb (n / 10 % 10) wt)

/-- The local second that a frame encodes: local seconds since 1970, and whether it is the inserted leap second (R205, R206). -/
def State.irigSecond (s : State) (p : OutPin) (at_ : Int) : Int × Bool :=
  let t := at_ / secFrac
  let utc := t - s.utcOffsetAt at_
  let ls := s.ts.leapPending == 1 && t == (s.ts.leapAt : Int) - 1
  ((if ls then utc - 1 else utc) + p.cfg.at Ix.outLocalOffset * 1800, ls)

/-- Time quality of a Bound (R205). -/
def timeQuality (b : Word) : Nat :=
  if b = unknownWord then 0xF
  else match (List.range 11).find? (fun v => b.toNat ≤ 10 ^ v * 256) with
    | some v => v + 1
    | none => 0xF

/-- Continuous time quality of a Bound (R205). -/
def continuousQuality (b : Word) : Nat :=
  if b = unknownWord then 7
  else match (List.range 6).find? (fun v => b.toNat ≤ 10 ^ (v + 2) * 256) with
    | some v => v + 1
    | none => 7

/-- The Bound of a pin at the latest recomputation. -/
def State.latestPinBound (s : State) (n : Fin 80) : Word :=
  if h : n.val < 16 then s.bound.out[n.val] else s.bound.tio[n.val - 16]

/-- The 100 elements of the frame whose Pr is at `at_`: 0, 1, or 2 for a marker (R204, R205). -/
def State.irigFrame (s : State) (n : Fin 80) (at_ : Int) : List Nat :=
  let p := s.outs.pins[n]
  let code := p.cfg.nat Ix.outIrigCode
  let sec := s.irigSecond p at_
  let days := (sec.1 / 86400).toNat
  let sod := (sec.1 % 86400).toNat
  let ls := b2n sec.2
  let d := civilOf days
  let ss := bcd (sod % 60 + ls) 4 3
  let mm := bcd (sod / 60 % 60) 4 3
  let hh := bcd (sod / 3600) 4 2
  let dd := bcd (d.2 % 100) 4 4
  let yy := bcd (d.1 % 100) 4 4
  let t := at_ / secFrac
  let sign := leapSign s.ts.leapPending
  let lsp := s.ts.leapPending != 0 && (s.ts.leapAt : Int) - (60 + sign) ≤ t && t < s.ts.leapAt
  let lo := p.cfg.at Ix.outLocalOffset
  let b := s.latestPinBound n
  let withCf := code == 0 || code == 1 || code == 4 || code == 5
  let withSbs := code == 0 || code == 3 || code == 4 || code == 7
  let withYear := 4 ≤ code
  let z := fun k : Nat => List.replicate k false
  let year := if withYear then yy.1 ++ [false] ++ yy.2 else z 9
  let first : List Bool := [false] ++ ss.1 ++ [false] ++ ss.2 ++ [false] ++ mm.1 ++ [false] ++ mm.2 ++ [false] ++ [false] ++
    hh.1 ++ [false] ++ hh.2 ++ z 3 ++ dd.1 ++ [false] ++ dd.2 ++ [false] ++ bitsLsb (d.2 / 100) 2 ++ z 8 ++ year ++ [false]
  let cf1 : List Bool := [lsp, lsp && s.ts.leapPending == 2, false, false, decide (lo < 0)] ++ bitsLsb (lo.natAbs / 2) 4 ++ [false] ++
    [lo.natAbs % 2 == 1] ++ bitsLsb (timeQuality b) 4
  let body1 := first ++ (if withCf then cf1 else z 15)
  let parity := withCf && (body1.filter id).length % 2 == 1
  let body2 := body1 ++ [parity] ++ (if withCf then bitsLsb (continuousQuality b) 3 else z 3) ++ [false]
  let sbs := sod + ls
  let tail := if withSbs then bitsLsb sbs 9 ++ [false] ++ bitsLsb (sbs / 512) 8 ++ z 2 else z 20
  (List.range 100).map fun i =>
    if i = 0 || i % 10 = 9 then 2 else b2n ((body2 ++ tail).getD i false)

/-- High time of an element in milliseconds (R204). -/
def irigHigh (symbol : Nat) : Nat := if symbol = 0 then 2 else if symbol = 1 then 5 else 8

/-- IRIGB_OUTPUT_FRAME (R204): the frame whose Pr is due, from P + M - COMP on, in the pin's polarity. In a mute of a relock it goes on unseen, and the edges that fall in the mute are lost (R196). -/
def execIrigbOutputFrame (pin : Fin 80) (s : State) : Out :=
  let p := s.outs.pins[pin]
  if p.cfg.nat Ix.outMode != 3 then .next s
  else
    match s.dueInstant pin with
    | none => .next s
    | some at_ =>
      let s1 := s.mapPin pin fun p => { p with lastPulse := some at_ }
      let lock := s.outs.os[sourceOs s pin].lock
      if s.outs.startupMute || s.outs.safe || s.pinIncapable pin || lock == .off then .next s1
      else
        let l := s.irigFrame pin at_
        let s2 := s1.mapPin pin fun p => { p with pulse := some at_, emitted := some at_, frame := l }
        .next (s2.emit (.irig pin (s.edgeOf pin at_) (l.map irigHigh) (p.cfg.flag Ix.outPolarity)))

/-! ### The time-of-day frame (R207 to R210) -/

/-- One bit of the reflected CRC-32 of R209. -/
def crcBit (c : BitVec 32) : BitVec 32 := if c.getLsbD 0 then (c >>> 1) ^^^ 0xEDB88320#32 else c >>> 1

/-- One octet into the CRC. -/
def crcOctet (c : BitVec 32) (b : Nat) : BitVec 32 :=
  (List.range 8).foldl (fun x _ => crcBit x) (c ^^^ BitVec.ofNat 32 (b % 256))

/-- CRC-32 over octets (R209). -/
def crc32 (l : List Nat) : BitVec 32 := (l.foldl crcOctet 0xFFFFFFFF#32) ^^^ 0xFFFFFFFF#32

/-- A number as `n` octets in network order. -/
def netOctets (n v : Nat) : List Nat := (List.range n).map fun i => v / 256 ^ (n - 1 - i) % 256

/-- The state flags that time-of-day frames carry: UNLOCKED, HOLDOVER, MISALIGNED (R209, R210). -/
def State.todFlags (s : State) (b : Word) (m : Rat) : Nat :=
  s.ts.leapPending.val + b2n (s.sys.engine == .warmup || s.sys.engine == .safe || b == unknownWord) * 4 +
    b2n (s.sys.engine == .holdover) * 8 + b2n (m != 0) * 16

/-- The frame that names the pulse at TAI second `sec` (R209). -/
def State.todFrame (s : State) (pulse : Fin 80) (sec : Nat) (seq : BitVec 16) : List Nat :=
  let b := s.pinBound s.bound.exact pulse
  let m := s.mis (sourceOs s pulse)
  let l := [0x51, 0x54, 1, 32] ++ netOctets 6 sec ++ netOctets 2 (twos 16 (s.utcOffsetAt ((sec : Int) * secFrac))) ++
    [s.todFlags b m, s.sys.engine.code] ++ netOctets 6 (if s.ts.leapPending = 0 then 0 else s.ts.leapAt) ++
    netOctets 4 b.toNat ++ netOctets 2 seq.toNat ++ [0, 0]
  l ++ netOctets 4 (crc32 l).toNat

/-- The pin of a TIO output. -/
def tioPin (t : Fin 64) : Fin 80 := ⟨t.val + 16, by omega⟩

/-- Characters a second (R207). -/
def baudOf (c : Cfg) : Nat :=
  match c.nat Ix.outBaud with
  | 0 => 9600
  | 2 => 921600
  | _ => 115200

/-- An octet as an asynchronous character: a start bit, 8 data bits with the least significant first, one stop bit; the line idles high (R207). -/
def serialChar (b : Nat) : List Bool := [false] ++ bitsLsb b 8 ++ [true]

/-- Length of a frame of `n` bits at a baud rate, in 2^-16 ns. -/
def serialLength (n baud : Nat) : Rat := (n : Rat) * secFrac / baud

/-- The pulse pin of a frame pin (R207, R466). -/
def OutPin.pulsePin (p : OutPin) : Fin 80 := tioPin (Fin.ofNat 64 (p.cfg.nat Ix.outPulsePin))

/-- Where the frame after the pulse at `at_` starts: FRAME_DELAY after the pulse, on the source synthesizer's phase (R208). -/
def State.frameStart (s : State) (p : OutPin) (at_ : Int) : Rat :=
  s.edgeOf p.pulsePin at_ + (p.cfg.at Ix.outFrameDelay * (secFrac / 1000) : Int)

/-- Whether a frame sent from `start` on is valid: its last stop bit ends at least 10 ms after the preceding pulse and at least 50 ms before the pulse that it names (R208). -/
def State.frameValid (s : State) (p : OutPin) (at_ : Int) (start : Rat) : Bool :=
  let end_ := start + serialLength 320 (baudOf p.cfg)
  let pulse := s.edgeOf p.pulsePin at_
  decide (pulse + secFrac / 100 ≤ end_ ∧ end_ + secFrac / 20 ≤ pulse + secFrac)

/-- TOD_FRAME_SEND (R208): due FRAME_DELAY after a pulse that the pulse pin has emitted. A frame that falls in a mute is lost, and one that can no longer be valid is not sent (R196, R224). -/
def execTodFrameSend (tio : Fin 64) (s : State) : Out :=
  let n := tioPin tio
  let p := s.outs.pins[n]
  match s.outs.pins[p.pulsePin].emitted with
  | none => .next s
  | some at_ =>
    if p.cfg.nat Ix.outMode != 5 || s.outs.pins[p.pulsePin].cfg.nat Ix.outMode != 4 || p.lastPulse == some at_ ||
      decide ((s.now : Rat) < s.frameStart p at_) then .next s
    else
      let s1 := s.mapPin n fun p => { p with lastPulse := some at_ }
      if s.outs.startupMute || s.outs.safe || !s.frameValid p at_ s.now then .next s1
      else if s.pinMuted n then
        .next (if s.outs.os[sourceOs s n].lock = .searching then s1.raise Flt.pulseSkipped n.val else s1)
      else
        let bits := (s.todFrame p.pulsePin ((at_ / secFrac).toNat + 1) p.todSeq).flatMap serialChar
        .next ((s1.mapPin n fun p => { p with todSeq := p.todSeq + 1, serial := bits, serialAt := s.frameStart p at_ }).emit
          (.serial tio (s.frameStart p at_) (baudOf p.cfg) bits))

/-! ### Edges lost in a mute (R196) -/

/-- Where the edges of a pin's IRIG-B frame leave: the leading and the trailing edge of each element. -/
def State.frameEdges (s : State) (n : Fin 80) : List Rat :=
  match s.outs.pins[n].pulse with
  | none => []
  | some at_ =>
    (List.zip (List.range 100) s.outs.pins[n].frame).flatMap fun (e : Nat × Nat) =>
      let lead := s.edgeOf n at_ + (e.1 : Rat) * secFrac / 100
      [lead, lead + (irigHigh e.2 : Rat) * secFrac / 1000]

/-- Whether a frame of a pin has lost an edge to the mute that lasts since `mutedAt`. -/
def State.lostEdge (s : State) (n : Fin 80) : Bool :=
  let p := s.outs.pins[n]
  let from_ : Rat := s.convert ⟨p.mutedAt, 0⟩
  match p.cfg.nat Ix.outMode with
  | 3 => (s.frameEdges n).any fun e => decide (from_ ≤ e ∧ e < s.now)
  | 5 => decide (p.serialAt < s.now ∧ from_ < p.serialAt + serialLength p.serial.length (baudOf p.cfg))
  | _ => false

/-- A band search ends: PULSE_SKIPPED for each frame pin of the synthesizer that has lost an edge (R196). -/
def State.reportLost (s : State) (o : Fin 4) : State :=
  s.each ((s.pinsOf o).filter s.lostEdge) fun t n => t.raise Flt.pulseSkipped n.val

/-! ### What a pin drives (R199 to R201, R204, R207, R223) -/

/-- Whether the element or bit of a frame under way is high at `t`; none outside a frame. -/
def State.frameLevel (s : State) (n : Fin 80) (t : Rat) : Option Bool :=
  let p := s.outs.pins[n]
  if p.cfg.nat Ix.outMode = 5 then
    if p.serialAt ≤ t then p.serial[((t - p.serialAt) * (baudOf p.cfg : Rat) / secFrac).floor.toNat]? else none
  else
    match p.pulse with
    | none => none
    | some at_ =>
      let x := t - s.edgeOf n at_
      let i := (x * 100 / secFrac).floor
      match p.frame[i.toNat]? with
      | some v => if 0 ≤ i then some (decide (x - (i : Rat) * secFrac / 100 < (irigHigh v : Rat) * secFrac / 1000)) else none
      | none => none

/-- The logic level that a running pulse, IRIG-B or frame pin drives at a time of the time scale, polarity included. -/
def State.pinLevel (s : State) (n : Fin 80) (t : Rat) : Bool :=
  let p := s.outs.pins[n]
  let high : Bool := match p.cfg.nat Ix.outMode with
    | 5 => (s.frameLevel n t).getD true
    | 3 => (s.frameLevel n t).getD false
    | _ =>
      match p.pulse with
      | some at_ => decide (s.edgeOf n at_ ≤ t ∧ t < s.edgeOf n at_ + p.cfg.at Ix.outWidth * 65536)
      | none => false
  if p.cfg.nat Ix.outMode = 5 then high else high != p.cfg.flag Ix.outPolarity

/-- What a pin's driver does (R223): nothing in RESET and BOOT, and on a TIO pin that is an input; a static logic 0 when muted or held, a frame pin's idle level; a clock of some VCO periods, high for some of them, with a fixed phase to the second marker or not (R201); else a level. -/
def State.pinDrive (s : State) (n : Fin 80) : Drive :=
  let p := s.outs.pins[n]
  let mode := p.cfg.nat Ix.outMode
  if !s.afterBoot || (16 ≤ n.val && (s.outs.startupMute || mode == 0)) then .highZ
  else if s.pinMuted n then .level (mode == 5)
  else if mode = 1 then
    let d := p.cfg.nat Ix.outOdiv
    .clock d ((d + 1) / 2) (decide ((fVco s.outs.os[sourceOs s n].cfg / d).den = 1))
  else .level (s.pinLevel n s.now)

/-! ### Verification (R213 to R215) -/

/-- The fault of a pin's verification (R214). -/
def verifyFault (n : Fin 80) : FaultKind := if n.val < 16 then Flt.outVerify else Flt.tioVerify

/-- One failed edge or gate of a pin (R214). -/
def State.verifyFail (s : State) (n : Fin 80) : State :=
  let p := s.outs.pins[n]
  let s1 := s.mapPin n fun p =>
    { p with fails := p.fails + 1, goods := 0, verifyFails := min 255 (p.verifyFails + 1) }
  if p.fails + 1 = 3 then (s1.pinUnknown n).condition (verifyFault n) n.val else s1

/-- One good edge or gate: eight in a row bring the pin back (R214). -/
def State.verifyGood (s : State) (n : Fin 80) : State :=
  let p := s.outs.pins[n]
  let s1 := s.mapPin n fun p => { p with fails := 0, goods := p.goods + 1 }
  if p.unknown && 8 ≤ p.goods + 1 then
    (s1.mapPin n fun p => { p with unknown := false }).causeEnds (verifyFault n) n.val
  else s1

/-- The residual of an edge of a pin, in 2^-16 ns (R213, R214). -/
def State.verifyEdge (s : State) (n : Fin 80) (r : Rat) : State :=
  let s1 := s.mapPin n fun p => { p with residuals := (looseRound r :: p.residuals).take 64 }
  if s.outs.pins[n].verifyLimit < |r| then s1.verifyFail n else s1.verifyGood n

/-- The residual of a stamp against the nearest nominal instant: t - (P + M - COMP) (R213). -/
def State.residual (s : State) (n : Fin 80) (t : Rat) : Rat :=
  let p := s.outs.pins[n]
  let m := s.mis (sourceOs s n)
  let before := s.nominalBefore p (t - m + p.comp).floor
  let r0 := t - (before + m - p.comp)
  if (p.period : Rat) < 2 * r0 then r0 - p.period else r0

/-- A gate of a CLOCK pin's feedback channel (R215). -/
def State.verifyGate (s : State) (n : Fin 80) (y : Option Int) : State :=
  match y with
  | none => s.verifyFail n
  | some v =>
    let w := s.outs.os[sourceOs s n].walk
    if 184467441 ≤ (v - w).natAbs then s.verifyFail n else s.verifyGood n

/-- SAFE outputs start or end: a pulse that is high ends at once (R223, R224). -/
def State.safeOutputs (s : State) (on : Bool) : State :=
  { s with
    outs.safe := on
    outs.pins := if on then s.outs.pins.map fun p => { p with pulse := none, frame := [], serial := [] } else s.outs.pins }

end Sys2Proof.Machine
end

