-- ==== Sys2Proof/Machine/Steering.lean ====
section
/-! DEFINITION. The steering loop and the engine's states that follow it (R29, R154 to R160, R179 to R185). -/

namespace Sys2Proof.Machine

/-- The engine moves to a state, and every clockClass follows at once (R29, R68). -/
def State.moveEngine (s : State) (e : EngineState) : State :=
  if s.sys.engine = e then s else (s.setEngine e).classesNow

/-- The state that selection and loop phase give (R29, R158). -/
def State.loopState (s : State) : EngineState :=
  match s.loop.phase with
  | .acquire => .acquire
  | .settle => .acquire
  | .track => .locked
  | .off => if s.fc.holding then .holdover else .warmup

/-- The engine follows the loop phase between ACQUIRE, LOCKED and HOLDOVER; SAFE stays (R29, R158). -/
def State.followPhase (s : State) : State :=
  match s.sys.engine with
  | .warmup | .acquire | .locked | .holdover => s.moveEngine s.loopState
  | _ => s

/-- Loop phases as LOOP_STATUS numbers them (R188). -/
def LoopPhase.code : LoopPhase → Nat
  | .off => 0 | .acquire => 1 | .settle => 2 | .track => 3

/-- A rate in fractional units as RATE, and the request of it with the integrator's freeze (R39, R157). -/
def State.loopRequest (s : State) (r : Rat) : State :=
  let v := looseRound (r * 2 ^ 56)
  let lim : Option Bool := if rateMax < v then some true else if v < rateMin then some false else none
  let s1 : State := { s with loop.frozen := lim }
  let s2 := match lim with
    | some b => (s1.causeGone Flt.loopClamp (· != b2n b)).condition Flt.loopClamp (b2n b)
    | none => s1.causeGone Flt.loopClamp fun _ => true
  s2.requestRate v none

/-- The loop enters a phase (R158, R160). -/
def State.enterPhase (s : State) (p : LoopPhase) : State :=
  { s with loop.phase := p, loop.runStart := none,
           loop.trackSince := if p = .track then some s.sys.cyc else none }

/-- SLEW_LIMITED of an offset (R157, R189). -/
def State.slewFlag (s : State) (b : Bool) : State :=
  if b then { s with loop.slewLimited := true, loop.slewSince := if s.loop.slewLimited then s.loop.slewSince else s.sys.cyc }
  else ({ s with loop.slewLimited := false } : State).causeGone Flt.loopSlew fun _ => true

/-- The residual from the offsets of the trailing 16 s, in ns (R158). -/
def residOf (l : List (Nat × Int)) : Rat := meanOf (l.map fun e => (e.2 : Rat)) / 65536

/-- A run of evaluations within the limit, and whether it has lasted `hold` seconds (R158). -/
def State.holdRun (s : State) (within : Bool) (hold : Int) : Option Nat × Bool :=
  if within then
    let st := s.loop.runStart.getD s.sys.cyc
    (some st, decide (st + hold.toNat * secCyc ≤ s.sys.cyc))
  else (none, false)

/-- The loop falls to a lower phase (R158, R189). -/
def State.fallPhase (s : State) (p : LoopPhase) : State := (s.enterPhase p).raise Flt.loopFallback p.code

/-- The evaluation of the phase at an offset (R158). -/
def State.evalPhase (s : State) : State :=
  let a := |s.loop.resid|
  let p := fun i : Nat => ((s.loop.cfg.at i : Int) : Rat)
  match s.loop.phase with
  | .off => s
  | .acquire =>
    let r := s.holdRun (a ≤ p Ix.steerAcqLimit) (s.loop.cfg.at Ix.steerAcqHold)
    if r.2 then s.enterPhase .settle else { s with loop.runStart := r.1 }
  | .settle =>
    if p Ix.steerSettleExit < a then s.fallPhase .acquire
    else
      let r := s.holdRun (a ≤ p Ix.steerSettleLimit) (s.loop.cfg.at Ix.steerSettleHold)
      if r.2 then s.enterPhase .track else { s with loop.runStart := r.1 }
  | .track => if p Ix.steerTrackExit < a then s.fallPhase .settle else s

/-- The loop at an offset of the selected slot, `dt` seconds after the previous one (R156 to R158). -/
def State.loopOffset (s : State) (phi : Int) (at_ : Nat) (dt : Rat) : State :=
  let x := unitSeconds (phi : Rat)
  let wn := 2 * Config.pi * s.loop.bandwidth
  let integ := if s.loop.frozen.isSome then s.loop.integ else s.loop.integ + wn * wn * x * dt
  let target := 2 * wn * x + integ
  let slew := frac64 (s.loop.cfg.at Ix.steerSlewLimit) * dt
  let d := target - s.loop.corr
  let cut := max (-slew) (min slew d)
  let win := ((at_, phi) :: s.loop.window).filter fun e => at_ ≤ e.1 + 16 * secCyc
  let s1 : State := { s with
    loop.integ := integ, loop.corr := s.loop.corr + cut, loop.window := win, loop.resid := residOf win }
  ((s1.slewFlag (cut != d)).loopRequest (s1.loop.ff + s1.loop.corr)).evalPhase.followPhase

/-! ### Holdover (R141, R179, R184) -/

/-- HOLDOVER is entered: the loop goes OFF, the flywheels are anchored unless they were at the loss, and every Bound is recomputed (R27, R141, R179). -/
def State.enterHoldover (s : State) (measured : Bool) : State :=
  let s1 : State := { s with loop.phase := .off, loop.runStart := none, loop.trackSince := none }
  let s2 := (s1.slewFlag false).startHolding s.sys.cyc measured
  s2.recompute.followPhase

/-- An aid of DECL_FREQ `a` is taken up: σ_h so far stays, and RATE starts from the one in force (R184). -/
def State.takeAid (s : State) (a : Rat) : State :=
  { s.rebase s.sigmaHNow with loop.aided := true, loop.aidRate := (s.setNow.rate : Rat) / 2 ^ 56, loop.aidSlot := s.wv.aid, loop.aidDecl := a }

/-- The aid ends: the flywheel in use goes on from the aided frequency with the aid's DECL_FREQ as u_y0, and from σ_h at this moment (R184). -/
def State.dropAid (s : State) : State :=
  if s.loop.aided then
    { (s.reanchor s.loop.aidRate (s.loop.aidDecl * s.loop.aidDecl)).rebase s.sigmaHNow with loop.aided := false, loop.aidSlot := none }
  else s

/-- The aid's Y_TS moves the aided RATE in a frequency loop of bandwidth TRACK_BW (R184). -/
def State.aidMeasurement (s : State) (y : Int) (dt : Rat) : State :=
  if s.loop.aided then
    let w := 2 * Config.pi * ((s.loop.cfg.at Ix.steerTrackBw : Rat) / 1000000)
    { s with loop.aidRate := s.loop.aidRate + w * frac64 y * dt }
  else s

/-- The aid serves while its DECL_FREQ is below the u_lin of the flywheel in use (R184). -/
def State.followAid (s : State) : State :=
  if !s.fc.holding then s
  else
    match s.aidFreq with
    | none => s.dropAid
    | some a =>
      let s1 := if s.loop.aidSlot = s.wv.aid && s.loop.aidDecl = a then s else s.dropAid
      if a * a < s1.uLinNow ((fwOf s1.fc.use).headD 0) then (if s1.loop.aided then s1 else s1.takeAid a) else s1.dropAid


/-- FEEDFORWARD_UPDATE (R156, R163, R172, R180, R184, R192): every 100 ms. -/
def execFeedforwardUpdate (s : State) : Out :=
  if s.sys.cyc < s.loop.ffDue then .next s
  else
    let s0 := (({ s with loop.ffDue := s.sys.cyc + 62500000 } : State).applied 6 1).retuneAll
    if !s.afterInit then .next s0
    else if s0.fc.holding then
      let s1 := s0.followAid
      .next (s1.loopRequest (if s1.loop.aided then s1.loop.aidRate else s1.forecastRate))
    else
      let s1 := s0.useFlywheel s0.chooseFlywheel
      if s1.loop.phase = .off || s1.wv.selected.isNone || s1.wv.switch.isSome then .next s1
      else
        let s2 : State := { s1 with loop.ff := s1.forecastRate }
        .next (s2.loopRequest (s2.loop.ff + s2.loop.corr))

/-- LOOP_SLEW_PERSIST (R189): SLEW_LIMITED has read 1 for 60 s. -/
def execLoopSlewPersist (s : State) : Out :=
  if s.loop.slewLimited && decide (s.loop.slewSince + 60 * secCyc ≤ s.sys.cyc) && !s.hasCause Flt.loopSlew then
    .next (s.condition Flt.loopSlew s.loop.phase.code)
  else .next s

/-- WARMUP_TIME_EXPIRY (R29, R30): it comes once for each entry to WARMUP. With a model present it leads to HOLDOVER; otherwise WARMUP goes on until a slot is selected. -/
def execWarmupTimeExpiry (s : State) : Out :=
  if s.sys.engine = .warmup && !s.sys.warmupOver && s.lapsed (s.sys.warmupStart + s.sys.warmupTime * secCyc) then
    let s1 : State := { s with sys.warmupOver := true }
    if s.wv.selected.isNone && s.fc.fw.toList.any (fun w => w.model.isSome) then
      .next ((s1.raise Flt.noReference 0).enterHoldover false)
    else .next s1
  else .next s

end Sys2Proof.Machine
end

