-- ==== Sys2Proof/Machine/Weathervane.lean ====
section
/-! DEFINITION. Weathervane: slots, monitors, qualification, selection, switches and disputes (R116 to R153). -/

namespace Sys2Proof.Machine

/-! ### Slot states (R130 to R135, R152) -/

/-- Slot states as R130 numbers them. -/
def SlotState.code : SlotState → Nat
  | .disqualified => 0 | .qualifying => 1 | .qualified => 2 | .disputed => 3 | .lockedOut => 4

/-- Kinds that deliver offsets (R120). -/
def timeKind (k : Nat) : Bool := k == 1 || k == 2 || k == 4 || k == 5 || k == 7 || k == 8
/-- Kinds that deliver only frequency (R120). -/
def freqKind (k : Nat) : Bool := k == 3 || k == 6

/-- KIND of a slot. -/
def Slot.kind (x : Slot) : Nat := x.cfg.nat Ix.slotKind

/-- The Bound contribution of a slot (R140). -/
def State.contribution (s : State) (i : Fin 16) : Word :=
  let x := s.wv.slots[i]
  match x.var with
  | none => unknownWord
  | some v => toUnitsWith x.declared s.kRat v

/-- A slot as the active's follower sees it; a slot without an offset shows none (R402). -/
def State.viewOf (s : State) (i : Fin 16) : SlotView :=
  let x := s.wv.slots[i]
  let o := x.offsets.head?
  ⟨i, (o.map fun e => s.convert ⟨e.1, 0⟩ / secFrac).getD (-1), (o.map Prod.snd).getD 0, x.state.code, (s.contribution i).toNat, (toUnits x.declared).toNat⟩

/-- The active sends a slot's state and contribution (R401, R402). -/
def State.replSlot (s : State) (i : Fin 16) : State := s.repl (.slotView (s.viewOf i))

/-- A slot takes a state: the log entry and the notice of a change (R152); STEP_BLOCKED ends when it leaves QUALIFIED (R147). -/
def State.setSlot (s : State) (i : Fin 16) (new : SlotState) (cause : Nat) : State :=
  let old := s.wv.slots[i].state
  let s1 := s.mapSlot i fun x =>
    { x with state := new, cause := cause, stepBlocked := x.stepBlocked && (old != .qualified || new == .qualified) }
  if old = new then s1
  else
    let a0 : Word := BitVec.ofNat 32 (i.val + old.code * 16 + new.code * 256 + cause * 4096)
    ((s1.logAt 4 0 a0 0 s1.sys.cyc).notice 3 a0 0).replSlot i

/-- Timers, force and a switch that waits for φ end when a slot falls out (R131, R148, R149). -/
def State.dropSlot (s : State) (i : Fin 16) : State :=
  let s1 := s.mapSlot i fun x => { x with timerStart := none, wtrDone := false, forced := false }
  match s.wv.switch with
  | some w => if w.target = i && !w.committed then { s1 with wv.switch := none } else s1
  | none => s1

/-- A slot is locked out (R131, R153). -/
def State.lockOut (s : State) (i : Fin 16) (cause : Nat) : State :=
  ((s.dropSlot i).setSlot i .lockedOut cause).condition Flt.refLockedOut (i.val + b2n (cause == 7) * 16)

/-- Alarms of the trailing 3,600 s (R131, R151). -/
def State.flapsOf (s : State) (x : Slot) : List Nat := x.flaps.filter fun c => s.sys.cyc ≤ c + 3600 * secCyc

/-- An alarm on a slot (R131, R135): it is disqualified, and locked out at FLAP_LIMIT alarms. DESIGN CHOICE (log entry 47): R131 gives an alarm no transition from DISQUALIFIED, so one that arises there raises no fault and changes no cause; the condition itself is kept and holds the slot back. -/
def State.alarm (s : State) (i : Fin 16) (cause : Nat) : State :=
  let x := s.wv.slots[i]
  match x.state with
  | .qualifying | .qualified | .disputed =>
    let fl := s.sys.cyc :: s.flapsOf x
    let s1 := (((s.dropSlot i).setSlot i .disqualified cause).mapSlot i fun y => { y with flaps := fl }).raise
      Flt.refDisqualified (i.val + cause * 16)
    let lim := x.cfg.nat Ix.slotFlapLimit
    if lim != 0 && lim ≤ fl.length then s1.lockOut i 7 else s1
  | _ => s

/-- Whether an alarm condition of the slot holds (R131, R135). -/
def Slot.alarmed (x : Slot) : Bool :=
  x.pulseLost || x.clockLost || x.frameLost || x.esmcLost || x.freqBad || x.kindBad

/-- A slot enters QUALIFYING with no offset before, and WTR starts (R131, R134, R139). -/
def State.startQualifying (s : State) (i : Fin 16) : State :=
  let s1 := s.mapSlot i fun x =>
    { x with offsets := [], phasePrev := none, var := none,
             timerStart := some s.sys.cyc, wtrDone := x.cfg.at Ix.slotWtr == 0 }
  s1.setSlot i .qualifying s1.wv.slots[i].cause

/-- The phase check of R133, in ns. -/
def State.phaseCheck (s : State) (i : Fin 16) : Bool :=
  let x := s.wv.slots[i]
  if s.bound.ts = unknownWord then true
  else
    let phi : Rat := |(((x.offsets.head?.map Prod.snd).getD (x.lastOffset.getD 0) : Int) : Rat)| / 65536
    phi ≤ (s.bound.ts.toNat : Rat) / 256 + x.declared

/-- A QUALIFYING slot whose WTR is over qualifies, is disputed, or waits for σ_ref (R131, R134). -/
def State.tryQualify (s : State) (i : Fin 16) : State :=
  let x := s.wv.slots[i]
  if x.state != .qualifying || !x.wtrDone then s
  else if freqKind x.kind then
    (s.mapSlot i fun y => { y with timerStart := none }).setSlot i .qualified x.cause
  else if x.var.isNone then s
  else if s.phaseCheck i then (s.mapSlot i fun y => { y with timerStart := none }).setSlot i .qualified x.cause
  else
    (((s.mapSlot i fun y => { y with timerStart := some s.sys.cyc, freqDispute := false }).setSlot i .disputed x.cause)).raise
      Flt.refDisputed i.val

/-! ### Selection (R140 to R142, R146, R148) -/

/-- Whether a slot is selectable (R140). -/
def Slot.selectable (x : Slot) : Bool :=
  x.forced || (x.cfg.flag Ix.slotEnable && timeKind x.kind && x.state == .qualified && !x.stepBlocked)

/-- The order of R140: RANK, contribution, index. -/
def State.orderKey (s : State) (i : Fin 16) : Nat × Nat × Nat :=
  (s.wv.slots[i].cfg.nat Ix.slotRank, (s.contribution i).toNat, i.val)

/-- Lexicographic order of two keys. -/
def keyLess (a b : Nat × Nat × Nat) : Bool :=
  a.1 < b.1 || (a.1 == b.1 && (a.2.1 < b.2.1 || (a.2.1 == b.2.1 && a.2.2 < b.2.2)))

/-- The first of some slots in the order of R140. -/
def State.firstOf (s : State) (l : List (Fin 16)) : Option (Fin 16) :=
  l.foldl (fun b i => match b with
    | none => some i
    | some j => if keyLess (s.orderKey i) (s.orderKey j) then some i else b) none

/-- Slots that may be selected. -/
def State.candidates (s : State) : List (Fin 16) := s.slotsWith Slot.selectable

/-- The frequency aid (R142). -/
def State.aidChoice (s : State) : Option (Fin 16) :=
  s.firstOf (s.slotsWith fun x =>
    x.cfg.flag Ix.slotEnable && x.state == .qualified && (freqKind x.kind || x.kind == 2))

/-- The aid named by Weathervane, after an aid that ends has been let go (R142, R184). -/
def State.nameAid (s : State) : State :=
  let a := s.aidChoice
  if a = s.wv.aid then s else { s.dropAid with wv.aid := a }

/-- Same-rank slots whose contribution is at or below (1 - CONTRIB_MARGIN) of the selected one's, with the CYC since when (R141). -/
def State.betterNow (s : State) (j : Fin 16) : List (Fin 16 × Nat) :=
  let lim := (100 - s.wv.cfg.nat Ix.wvContribMargin) * (s.contribution j).toNat
  let good := s.candidates.filter fun i =>
    i != j && s.wv.slots[i].cfg.at Ix.slotRank == s.wv.slots[j].cfg.at Ix.slotRank && 100 * (s.contribution i).toNat ≤ lim
  good.map fun i => (i, ((s.wv.betterSince.find? (·.1 == i)).map Prod.snd).getD s.sys.cyc)

/-- The slot that Weathervane wants, and the contribution records it keeps (R141, R149). -/
def State.wanted (s : State) : Option (Fin 16) × List (Fin 16 × Nat) :=
  match s.wv.selected with
  | none => (s.firstOf (if (s.candidates.filter fun i => s.wv.slots[i].forced).isEmpty then s.candidates
      else s.candidates.filter fun i => s.wv.slots[i].forced), [])
  | some j =>
    let b := s.betterNow j
    if s.wv.slots[j].forced then (some j, b)
    else
      let forced := s.candidates.filter fun i => s.wv.slots[i].forced
      if !forced.isEmpty then (s.firstOf forced, b)
      else
        let higher := s.candidates.filter fun i => s.wv.slots[i].cfg.nat Ix.slotRank < s.wv.slots[j].cfg.nat Ix.slotRank
        if !higher.isEmpty then (s.firstOf higher, b)
        else
          let held := b.filter fun e => decide (e.2 + s.wv.cfg.nat Ix.wvContribHold * secCyc ≤ s.sys.cyc)
          if held.isEmpty then (some j, b) else (s.firstOf (held.map Prod.fst), b)

/-- The selected slot is let go once it is no longer selectable; RATE follows Forecast from the loss (R141, R146). -/
def State.letGo (s : State) : State :=
  match s.wv.selected with
  | none => s
  | some j =>
    if s.wv.slots[j].selectable then s
    else
      let s1 : State := { s with wv.selected := none, wv.betterSince := [] }
      if s1.wv.switch.isSome then s1.startHolding s.sys.cyc true else s1

/-- A switch to a slot starts (R145, R146). -/
def State.startSwitch (s : State) (i : Fin 16) : State :=
  let lost := s.wv.selected.isNone
  let s1 : State := { s with wv.switch := some ⟨i, false⟩, fc.obsBreak := s.sys.cyc }
  if lost && s.loop.phase != .off then s1.startHolding s.sys.cyc true else s1

/-- Weathervane evaluates its selection (R141, R142, R144, R148). -/
def State.evaluate (s : State) : State :=
  if !s.afterInit then s
  else
    let s1 := s.nameAid.letGo
    if s1.wv.switch.isSome then s1
    else
      let w := s1.wanted
      let s2 : State := { s1 with wv.betterSince := w.2 }
      match w.1 with
      | some i => if s2.wv.selected = some i then s2 else s2.startSwitch i
      | none =>
        if s2.wv.selected.isNone && s2.loop.phase != .off then (s2.condition Flt.noReference 0).enterHoldover true else s2

/-! ### Switching (R145 to R148, R159) -/

/-- The phase a switch enters (R159), with |REFn_FREQ| in 2^-64. -/
def State.switchPhase (s : State) (i : Fin 16) (warm : Bool) : LoopPhase :=
  let x := s.wv.slots[i]
  if warm || !x.freqSeen then .acquire
  else if x.freq.natAbs ≤ 184467440 then .track
  else if x.freq.natAbs ≤ 18446744073 then .settle
  else .acquire

/-- A switch completes at its step's effective boundary (R145, R152, R159, R185). -/
def State.completeSwitch (s : State) (i : Fin 16) (phi : Int) : State :=
  let old := s.loop.phase
  let new := s.switchPhase i (s.loopState == .warmup)
  let prev := s.wv.lastSelected
  let a0 : Word := BitVec.ofNat 32 (i.val + (match prev with
    | some j => j.val * 16 + 256
    | none => 0))
  let s1 := s.endHolding
  let s2 : State := { s1 with
    wv.selected := some i, wv.lastSelected := some i, wv.switch := none, wv.switchCount := s1.wv.switchCount + 1,
    wv.lastStep := phi, wv.betterSince := [], sys.selectedSinceInit := true, fc.obsBreak := s1.sys.cyc,
    bound.switchVar := (s1.wv.slots[i].var).getD 0,
    loop.window := s1.wv.slots[i].offsets.filter fun e => s1.sys.cyc ≤ e.1 + 16 * secCyc }
  let keep := old != .off
  let ff := s2.forecastRate
  let r : Rat := (s2.setNow.rate : Rat) / 2 ^ 56 - ff
  let s3 : State := if keep then s2 else { s2 with loop.ff := ff, loop.integ := r, loop.corr := r }
  let s4 := s3.enterPhase new
  let s5 := if keep && new.code < old.code then s4.raise Flt.loopFallback new.code else s4
  let s6 := ((s5.causeGone Flt.noReference fun _ => true).logAt 5 0 a0 (saturateSigned (phi / 256)) s5.sys.cyc).notice 4 a0
    (s5.wv.switchCount.zeroExtend 32)
  s6.recompute.followPhase.evaluate

/-- The offset φ of the target arrives: the step is checked and committed, or the switch refused (R45, R145, R147). -/
def State.phiArrives (s : State) (i : Fin 16) (phi : Int) : State :=
  let x := s.wv.slots[i]
  let ceiling := s.wv.cfg.at Ix.wvStepCeiling * 65536
  if ceiling < phi.natAbs && s.bound.ts != unknownWord && !x.forced then
    ((({ s with wv.switch := none } : State).mapSlot i fun y => { y with stepBlocked := true }).raise Flt.switchRefused i.val).evaluate
  else
    let s1 : State := { s with wv.switch := s.wv.switch.map fun w => { w with committed := true } }
    s1.requestStep ⟨phi, .switch i⟩

/-! ### Measurements (R121, R131, R137 to R139) -/

/-- Mean frequency over DISPUTE_TAU, from the frequencies of the trailing span (R143, R150). -/
def State.takeFrequency (s : State) (i : Fin 16) (y : Int) (at_ : Nat) : State :=
  let span := s.wv.cfg.nat Ix.wvDisputeTau * secCyc
  s.mapSlot i fun x =>
    let l := ((at_, y) :: x.freqs).filter fun e => at_ ≤ e.1 + span
    { x with freqs := l, freqSeen := true, lastFreq := y, freq := looseRound (meanOf (l.map fun e => (e.2 : Rat))) }

/-- A frequency measurement (R131, R134, R184). The last one predicts the phase, and REFn_FREQ is the mean over DISPUTE_TAU (R139, R143). -/
def State.takeFreq (s : State) (i : Fin 16) (y : Int) (at_ : Nat) : State :=
  let x := s.wv.slots[i]
  if !x.cfg.flag Ix.slotEnable || x.state == .lockedOut then s
  else
    let s1 := if x.state == .disqualified && freqKind x.kind && !x.alarmed then s.startQualifying i else s
    let dt := match x.freqs.head? with
      | some e => cycSeconds ((at_ : Int) - e.1)
      | none => 0
    let s2 := if s1.wv.aid = some i then s1.aidMeasurement y dt else s1
    ((s2.takeFrequency i y at_).tryQualify i).evaluate

/-- The offset departs from what the slot's last frequency predicts by more than PHASE_LIMIT (R139). -/
def Slot.phaseJump (x : Slot) (phi : Int) (at_ : Nat) : Bool :=
  match x.phasePrev with
  | none => false
  | some p =>
    let y := frac64 x.lastFreq
    let moved : Rat := y * cycSeconds ((at_ : Int) - p.1) * 65536000000000
    (x.cfg.at Ix.slotPhaseLimit : Rat) * 65536 < |((phi - p.2 : Int) : Rat) - moved|

/-- σ_ref squared in ns² from the last 64 offsets about their line; unknown below 8 (R121). -/
def refVarOf (l : List (Nat × Int)) : Option Rat :=
  if l.length < 8 then none
  else
    let at0 : Int := ((l.head?.map Prod.fst).getD 0 : Nat)
    some (lineVar (l.map fun e => (cycSeconds ((e.1 : Int) - at0), (e.2 : Rat) / 65536)))

/-- Kinds whose frequency nothing of the engine measures: GNSS, PTP and TWIN (R98, R120, R122). -/
def offsetsOnly (k : Nat) : Bool := k == 1 || k == 5 || k == 8

/-- An offset that passed the monitors enters the slot's history (R121, R150). DESIGN CHOICE (log entry 47): the frequency of a slot whose kind has no channel is the difference of its successive offsets over their interval. -/
def State.storeOffset (s : State) (i : Fin 16) (phi : Int) (at_ : Nat) (extra : Rat) : State :=
  let x := s.wv.slots[i]
  let s1 := s.mapSlot i fun x =>
    let l := ((at_, phi) :: x.offsets).take 64
    { x with offsets := l, lastOffset := some phi, phasePrev := some (at_, phi), var := refVarOf l, extra := extra,
             stepBlocked := x.stepBlocked && decide (s.wv.cfg.at Ix.wvStepCeiling * 65536 < phi.natAbs) }
  let s2 := s1.replSlot i
  match x.phasePrev, x.kind with
  | some p, k =>
    if offsetsOnly k && p.1 < at_ then
      let dt := cycSeconds ((at_ : Int) - p.1)
      s2.takeFrequency i (looseRound (unitSeconds ((phi - p.2 : Int) : Rat) / dt * 2 ^ 64)) at_
    else s2
  | none, _ => s2

/-- The loop and Forecast take an offset of the selected slot (R154, R156, R169). -/
def State.steerWith (s : State) (i : Fin 16) (phi : Int) (at_ : Nat) : State :=
  let dt := match s.wv.slots[i].offsets with
    | a :: b :: _ => cycSeconds ((a.1 : Int) - b.1)
    | _ => 0
  let t := s.convert ⟨at_, 0⟩
  let s1 : State := { s with fc.history := ((at_, t, phi) :: s.fc.history).filter fun e => at_ ≤ e.1 + 640 * secCyc }
  (s1.applied 6 1).loopOffset phi at_ dt

/-- An offset measurement (R131, R139, R145, R154). -/
def State.takeOffset (s : State) (i : Fin 16) (phi : Int) (at_ : Nat) (extra : Rat) : State :=
  let x := s.wv.slots[i]
  if !x.cfg.flag Ix.slotEnable || x.state == .lockedOut || !timeKind x.kind then s
  else
    let s0 := s.mapSlot i fun y => { y with lastOffset := some phi }
    if x.state == .disqualified && x.alarmed then s0
    else if x.state != .disqualified && x.phaseJump phi at_ then (s0.alarm i 3).evaluate
    else
      let s1 := if x.state == .disqualified then s0.startQualifying i else s0
      let s2 := (s1.storeOffset i phi at_ extra).tryQualify i
      match s2.wv.switch with
      | some w =>
        if w.target = i && !w.committed then s2.phiArrives i phi
        else s2.evaluate
      | none => if s2.wv.selected = some i then (s2.steerWith i phi at_).evaluate else s2.evaluate

/-- One measurement of a slot. -/
def State.takeMeas (s : State) (i : Fin 16) : Meas → State
  | .offset phi at_ extra => s.takeOffset i phi at_ extra
  | .freq y at_ => s.takeFreq i y at_
  | .alarm c => (s.alarm i c).evaluate

/-- A measurement waits for its slot. -/
def State.deliverMeas (s : State) (i : Fin 16) (m : Meas) : State := s.mapSlot i fun x => { x with meas := x.meas ++ [m] }

/-- WTR_EXPIRY (R131, R134). -/
def execWtrExpiry (slot : Fin 16) (s : State) : Out :=
  let x := s.wv.slots[slot]
  match x.state, x.timerStart with
  | .qualifying, some c =>
    if x.wtrDone || !s.lapsed (c + x.cfg.nat Ix.slotWtr * secCyc) then .next s
    else .next (((s.mapSlot slot fun y => { y with wtrDone := true, timerStart := none }).tryQualify slot).evaluate)
  | _, _ => .next s

/-- CONFIRM_EXPIRY (R131). -/
def execConfirmExpiry (slot : Fin 16) (s : State) : Out :=
  let x := s.wv.slots[slot]
  match x.state, x.timerStart with
  | .disputed, some c =>
    if x.freqDispute || !s.lapsed (c + x.cfg.nat Ix.slotConfirm * secCyc) then .next s
    else .next (((s.mapSlot slot fun y => { y with timerStart := none }).setSlot slot .qualified x.cause).evaluate)
  | _, _ => .next s

/-- WV_EVALUATE (R141, R480). -/
def execWvEvaluate (s : State) : Out := .next ((s.applied 6 0).evaluate)

/-! ### Disputes (R143, R144, R174, R176) -/

/-- The integral of RATE to a FINE step of the past (R174). -/
def State.pastIntegral (s : State) (n : Int) : Rat :=
  if (s.setNow.cyc : Int) * 1024 ≤ n then s.rateIntegralAt n else loggedIntegral s.ts.rateLog n

/-- yF and the square of uF over `tau` seconds (R174): none without a model that is present and not stale (R176). DEDUCED (log entry 48): the predictions are those of R164 for the flywheel in use, as R174 says, and uF has its e_T with what R167 and R168 add; of an ensemble, uF is its first flywheel's. -/
def State.opinionOver (s : State) (tau : Nat) : Option (Rat × Rat) :=
  let f : Fin 3 := (fwOf s.fc.use).headD 0
  let w := s.fc.fw[f]
  match w.model with
  | none => none
  | some m =>
    if w.stale then none
    else
      let pts := (s.fc.predictions.filter fun e => s.sys.cyc ≤ e.1 + tau * secCyc).map Prod.snd
      let y := if pts.isEmpty then s.ofUse s.predict else meanOf pts
      let n1 : Int := (s.sys.cyc : Int) * 1024
      let n0 : Int := max 0 (n1 - (tau : Int) * secCyc * 1024)
      let r : Rat := if n1 = n0 then 0 else (s.pastIntegral n1 - s.pastIntegral n0) / 2 ^ 56 / ((n1 - n0 : Int) : Rat)
      let e := s.tempError f
      some (1 / ((1 + r) * (1 + y)) - 1, m.uC0 * m.uC0 + e * e + m.sWfm * m.sWfm / tau + m.sFl * m.sFl)

/-- The third opinion of a dispute, over DISPUTE_TAU (R143). -/
def State.thirdOpinion (s : State) : Option (Rat × Rat) := s.opinionOver (s.wv.cfg.nat Ix.wvDisputeTau)

/-- Whether two slots disagree by more than DISPUTE_THRESH. -/
def State.disagrees (s : State) (i j : Fin 16) : Bool :=
  s.wv.cfg.nat Ix.wvDisputeThresh < (s.wv.slots[i].freq - s.wv.slots[j].freq).natAbs

/-- A slot loses a dispute (R143, R153). -/
def State.dispute (s : State) (i : Fin 16) : State :=
  ({ (s.mapSlot i fun x => { x with freqDispute := true, timerStart := none }).setSlot i .disputed s.wv.slots[i].cause with
     fc.obsBreak := s.sys.cyc } : State).raise Flt.refDisputed (i.val + 16)

/-- |y - yF| ≤ k uF (R143). -/
def State.withinOpinion (s : State) (i : Fin 16) (o : Rat × Rat) : Bool :=
  let d := frac64 s.wv.slots[i].freq - o.1
  d * d ≤ s.kRat * s.kRat * o.2

/-- One rank's dispute (R143). DESIGN CHOICE (log entry 47): a QUALIFIED slot with no frequency measured yet has no y to compare and is left out of the group. -/
def State.disputeRank (s : State) (r : Nat) : State :=
  let group := s.slotsWith fun x =>
    x.cfg.flag Ix.slotEnable && x.state == .qualified && !x.forced && x.cfg.nat Ix.slotRank == r && x.freqSeen
  let inPair := group.filter fun i => group.any fun j => s.disagrees i j
  let mask := (inPair.map fun i => 2 ^ i.val).sum
  if inPair.isEmpty then s
  else
    match s.thirdOpinion with
    | none => (s.each inPair State.dispute).raise Flt.disputeUnresolved mask
    | some o =>
      let dist := fun i : Fin 16 => |frac64 s.wv.slots[i].freq - o.1|
      let best := group.foldl (fun b i => match b with
        | none => some i
        | some j => if dist i < dist j then some i else b) (none : Option (Fin 16))
      match best with
      | none => s
      | some b =>
        if s.withinOpinion b o then s.each (group.filter fun i => s.disagrees i b) State.dispute
        else (s.each inPair State.dispute).raise Flt.disputeUnresolved mask

/-- A frequency-disputed slot returns (R143). -/
def State.disputeReturn (s : State) (i : Fin 16) : State :=
  let x := s.wv.slots[i]
  if x.state != .disputed || !x.freqDispute then s
  else
    match s.thirdOpinion with
    | none => s
    | some o =>
      let others := s.slotsWith fun y => y.state == .qualified && y.cfg.at Ix.slotRank == x.cfg.at Ix.slotRank
      if s.withinOpinion i o && !(others.any fun j => s.disagrees i j) then s.setSlot i .qualified x.cause else s

/-- DISPUTE_EVALUATE (R143): once per second. -/
def execDisputeEvaluate (s : State) : Out :=
  if s.sys.cyc < s.wv.disputeDue then .next s
  else
    let s0 : State := { s with wv.disputeDue := s.sys.cyc + secCyc }
    let s1 := s0.each (List.range 16) State.disputeRank
    .next ((s1.each (List.finRange 16) State.disputeReturn).evaluate)

/-! ### Losses of signal (R120, R127, R136, R183) -/

/-- Slots that lose their signal are alarmed with cause 1 (R135). -/
def State.signalLost (s : State) (l : List (Fin 16)) : State :=
  (s.each l fun t i => t.alarm i 1).evaluate

/-- SYNCE slots on a port. -/
def State.synceSlots (s : State) (p : Fin 8) : List (Fin 16) :=
  s.slotsWith fun y => y.cfg.flag Ix.slotEnable && y.kind == 6 && y.cfg.nat Ix.slotSource == p.val

/-- Slots whose clock input has lost its signal (R136). -/
def State.clockGone (s : State) (l : List (Fin 16)) : State :=
  (s.each l fun t i => t.mapSlot i fun x => { x with clockLost := true, clock := [] }).signalLost l

/-- CLOCK_SIGNAL_LOSS (R4, R136, R183): no edge for 4 nominal periods, in the cycle that ends them included. -/
def execClockSignalLoss (c : ClockInput) (s : State) : Out :=
  match c with
  | .channel ch =>
    let k : Fin 88 := ⟨ch.val, by omega⟩
    let x := s.tdc[k]
    let four : Rat := 4 * (10 ^ 15 : Nat) * 640 / (x.cfg.at Ix.tdcFNom : Rat)
    if ((s.sys.cyc : Rat) - x.seenAt - 1) * 1024 < four then .next s
    else
      let s1 := match s.flywheelOn k with
        | some f => s.loseFlywheel f
        | none => s
      let s2 := s1.mapTdc k fun y => { y with monitor := [] }
      .next (s2.clockGone (s2.slotsWith fun y => y.clockChannel ch.val))
  | .port p => .next (s.clockGone (s.synceSlots p))

/-- An ESMC information PDU on a port (R120, R127). -/
def State.esmcPdu (s : State) (port : Fin 8) (ssm : Fin 16) : State :=
  let s1 : State := { s with wv.esmcLast := s.wv.esmcLast.set port s.sys.cyc }
  (s1.each (s1.synceSlots port) fun t i =>
    let bad := !bitAt (t.wv.slots[i].cfg.nat (Ix.slotSource + 1)) ssm.val
    let u := t.mapSlot i fun x => { x with esmcLost := false, kindBad := bad }
    if bad then u.alarm i 4 else u).evaluate

/-- ESMC_PDU_RECEIVE (R120, R127). -/
def execEsmcPduReceive (port : Fin 8) (ssm : Fin 16) (s : State) : Out := .next (s.esmcPdu port ssm)

/-- ESMC_TIMEOUT (R120): 5 s without an information PDU. -/
def execEsmcTimeout (port : Fin 8) (s : State) : Out :=
  if !s.lapsed (s.wv.esmcLast[port] + 5 * secCyc) then .next s
  else
    .next ((s.each (s.synceSlots port) fun t i => t.mapSlot i fun x => { x with esmcLost := true }).signalLost (s.synceSlots port))

/-! ### The recovered clock of a SYNCE slot (R120, R127, R137, R138, R293) -/

/-- The spacing of a recovered clock's stamps in FINE steps: 10.3125 MHz at every speed (R293). -/
def recoveredSpacing : Rat := 640000000000 / 10312500

/-- The frequency monitor of one slot at a stamped edge (R137): y over the trailing MON_GATE, against FREQ_LIMIT. -/
def State.monitorSlot (s : State) (i : Fin 16) (spacing : Rat) (l : List (Nat × Nat)) (at_ : Nat) : State :=
  let x := s.wv.slots[i]
  match s.monitorFreq spacing (trailing (x.cfg.nat Ix.slotMonGate) at_ l) with
  | some y =>
    let bad := decide ((x.cfg.at Ix.slotFreqLimit : Rat) < |y|)
    let s1 := s.mapSlot i fun z => { z with freqBad := bad }
    if bad then (s1.alarm i 2).evaluate else s1
  | none => s

/-- A stamp of a SYNCE slot's recovered clock, with the gate it belongs to: a glitch is counted, any other enters the gate and the monitor. -/
def State.recoveredEdge (s : State) (i : Fin 16) (g : Gate) (t : Nat) : State × Gate :=
  let x := s.wv.slots[i]
  let m : Option Nat := match x.clock.head? with
    | none => some 0
    | some (k, l) => (s.clockMultiple recoveredSpacing l t).map (k + ·)
  match m with
  | none => (s.mapSlot i fun y => { y with glitch := y.glitch + 1 }, g)
  | some k =>
    let l := trailing (x.cfg.nat Ix.slotMonGate) t ((k, t) :: x.clock)
    ((s.mapSlot i fun y => { y with clock := l, clockLost := false }).monitorSlot i recoveredSpacing l t, g.add k t false)

/-- The stamps of one gate of a SYNCE slot's recovered clock: the regression of R99, and its Y_TS as the slot's frequency. DESIGN CHOICE (log entry 47): R127 gives this gate no length, so it ends with the stamps that the measurement brings. -/
def State.recoveredGate (s : State) (i : Fin 16) (stamps : List Nat) : State :=
  let t0 : Int := (stamps.headD 0 : Nat)
  let tEnd : Int := (stamps.getLastD 0 : Nat)
  let r := stamps.foldl (fun (a : State × Gate) t => a.1.recoveredEdge i a.2 t) (s, s.openGate t0)
  match r.2.fit with
  | none => r.1
  | some (_, b) =>
    r.1.takeFreq i (roundEven (r.1.yOnScale r.2 tEnd (yOfPeriod recoveredSpacing b) * 2 ^ 64)) r.1.sys.cyc

/-! ### IRIG-B and time-of-day frames (R123 to R125, R128) -/

/-- A symbol by its high time in whole microseconds (R123): 0, 1, 2 for a marker, none for a frame error. -/
def irigSymbol (us : Nat) : Option Nat :=
  if us < 1000 then none else if us < 3500 then some 0 else if us < 6500 then some 1 else if us ≤ 9500 then some 2 else none

/-- The symbols of a frame, if every pulse is one. -/
def irigSymbols : List Nat → Option (List Nat)
  | [] => some []
  | u :: l =>
    match irigSymbol u, irigSymbols l with
    | some v, some r => some (v :: r)
    | _, _ => none

/-- `n` bits from position `p`, least significant first. -/
def irigField (l : List Nat) (p n : Nat) : Nat := ((List.range n).map fun i => l.getD (p + i) 0 * 2 ^ i).sum

/-- A decoded frame (R123, R124): UTC seconds, quality, leap bits. -/
structure IrigTime where
  utc : Int
  leapSecond : Bool
  quality : Nat
  lsp : Bool
  ls : Bool

/-- Days from 1970-01-01 to the start of a year. -/
def daysToYear (y : Nat) : Int :=
  let p := (y : Int) - 1
  p * 365 + p / 4 - p / 100 + p / 400 - 719162

/-- The year of a frame without one: the time scale's while its Bound is finite, else the host's (R124). -/
def State.irigYear (s : State) (i : Fin 16) (yy : Nat) (present : Bool) : Nat :=
  let here := if s.bound.ts = unknownWord then s.wv.slots[i].cfg.nat (Ix.slotSource + 1)
    else (civilOf ((s.nowSec - s.ts.utcOffset) / 86400).toNat).1
  if present then
    let base := if s.bound.ts = unknownWord then 2000 else here / 100 * 100
    base + yy
  else here

/-- Decoding of 100 symbols; none for a marker out of place, a digit out of range or a failed parity (R123, R124). -/
def State.decodeIrig (s : State) (i : Fin 16) (l : List Nat) : Option IrigTime :=
  let markers := (List.range 100).all fun p => (l.getD p 0 == 2) == (p == 0 || p % 10 == 9)
  let su := irigField l 1 4
  let st := irigField l 6 3
  let mu := irigField l 10 4
  let mt := irigField l 15 3
  let hu := irigField l 20 4
  let ht := irigField l 25 2
  let du := irigField l 30 4
  let dt := irigField l 35 4
  let dh := irigField l 40 2
  let yu := irigField l 50 4
  let yt := irigField l 55 4
  let digits := su ≤ 9 && mu ≤ 9 && hu ≤ 9 && du ≤ 9 && dt ≤ 9 && yu ≤ 9 && yt ≤ 9 && mt ≤ 5 && st * 10 + su ≤ 60 &&
    ht * 10 + hu ≤ 23 && 1 ≤ dh * 100 + dt * 10 + du && dh * 100 + dt * 10 + du ≤ 366
  let cf := (List.range 19).any fun p => p != 9 && l.getD (60 + p) 0 == 1
  let ones := ((List.range 75).map fun p => if (p + 1) % 10 = 9 then 0 else l.getD (p + 1) 0).sum
  let year := s.irigYear i (yt * 10 + yu) (yt * 10 + yu != 0)
  let off : Int := (irigField l 65 4 : Int) * 3600 + (irigField l 70 1 : Int) * 1800
  let sec := st * 10 + su
  let sod : Int := ((ht * 10 + hu) * 3600 + (mt * 10 + mu) * 60 + min 59 sec : Nat)
  let days := daysToYear year + ((dh * 100 + dt * 10 + du : Nat) : Int) - 1
  let loc := days * 86400 + sod
  if markers && digits && (!cf || ones % 2 == 0) then
    some { utc := loc - (if irigField l 64 1 = 1 then -off else off), leapSecond := sec == 60,
           quality := irigField l 71 4, lsp := irigField l 60 1 == 1, ls := irigField l 61 1 == 1 }
  else none

/-- The TAI second that a frame names: UTC plus UTC_OFFSET, one more in an inserted second (R124). -/
def State.irigTai (s : State) (t : IrigTime) : Int := t.utc + s.ts.utcOffset + (if t.leapSecond then 1 else 0)

/-- A bad frame (R120, R123, R153). -/
def State.badFrame (s : State) (i : Fin 16) : State :=
  let x := s.wv.slots[i]
  let lost := decide (x.cfg.nat Ix.slotEmptyLimit ≤ x.badRun + 1)
  let s1 := s.mapSlot i fun y => { y with badRun := y.badRun + 1, goodRun := 0, lastFrame := none, frameLost := lost }
  let s2 := if s.spaced x.frameFault (10 * secCyc) then
      (s1.mapSlot i fun y => { y with frameFault := some s.sys.cyc }).raise Flt.irigFrame i.val else s1
  if lost then (s2.alarm i 1).evaluate else s2

/-- LEAP_MISMATCH in the last 59 s before a UTC midnight, once for that midnight (R125). DEDUCED (log entry 47): a code that carries no control functions has its leap-second bits 0, which disagree while a leap second is pending. -/
def State.checkLeapBits (s : State) (i : Fin 16) (t : IrigTime) : State :=
  let day := t.utc / 86400
  let agree := if s.ts.leapPending = 0 then !t.lsp else t.lsp && t.ls == (s.ts.leapPending == 2)
  if 86400 - 59 ≤ t.utc % 86400 && !agree && s.wv.leapWarned != some day then
    ({ s with wv.leapWarned := some day } : State).raise Flt.leapMismatch i.val
  else s

/-- The limit of a time-quality value in ns (R124). -/
def qualityLimit (v : Nat) : Rat := if v = 0 then 0 else (10 ^ (v - 1) : Nat)

/-- A good IRIG-B frame (R123 to R125): from the second good frame in a row, the edge of its Pr gives an offset if the window accepted that edge (R92). -/
def State.goodIrig (s : State) (i : Fin 16) (pr : Stamp) (t : IrigTime) : State :=
  let x := s.wv.slots[i]
  let tai := s.irigTai t
  let follows := x.goodRun == 0 || x.lastFrame == some (tai - 1)
  if !follows then (s.badFrame i).mapSlot i fun y => { y with lastFrame := none }
  else
    let s1 := (s.mapSlot i fun y =>
      { y with badRun := 0, goodRun := y.goodRun + 1, lastFrame := some tai, frameLost := false, kindBad := decide (12 ≤ t.quality) }).checkLeapBits i t
    if 12 ≤ t.quality then (s1.alarm i 4).evaluate
    else if s1.wv.slots[i].goodRun < 2 || x.edge != some pr then s1
    else
      let ch : Fin 88 := Fin.ofNat 88 (x.cfg.nat Ix.slotSource)
      let td := Stamp.ofSteps (s1.tdc[ch].delayed pr).toNat
      (s1.noteLate td ch.val).deliverMeas i (.offset (tai * secFrac - s1.convert td) td.cyc (qualityLimit t.quality))

/-- IRIGB_FRAME_DECODE (R123). -/
def execIrigbFrameDecode (slot : Fin 16) (f : IrigPulses) (s : State) : Out :=
  let x := s.wv.slots[slot]
  if !x.cfg.flag Ix.slotEnable || x.kind != 4 then .next s
  else
    match (irigSymbols f.highUs).bind (s.decodeIrig slot) with
    | some t => .next (s.goodIrig slot f.pr t)
    | none => .next (s.badFrame slot)

/-- A number from octets in network order. -/
def octetsNat (l : List Byte) : Nat := l.foldl (fun n b => n * 256 + b.toNat) 0

/-- A second, ten milliseconds and 950 ms in FINE steps (R208). -/
def secSteps : Int := 640000000000

/-- Whether a frame's last stop bit ends at least 10 ms after the pulse before it and at least 50 ms before the next, both ends included (R3, R128, R208). DEDUCED (log entry 47): the pulses lie whole seconds from the last edge stamped on the pulse channel; with no edge yet there is nothing to judge by. -/
def State.frameInTime (s : State) (pulse : Fin 88) (ended : Int) : Bool :=
  match s.tdc[pulse].last with
  | none => true
  | some l =>
    let since := s.elapsed (l - s.tdc[pulse].cfg.at Ix.tdcDelay) ended
    let into := since - ((since / secSteps).floor : Rat) * secSteps
    decide ((6400000000 : Rat) ≤ into) && decide (into ≤ 608000000000)

/-- Whether the octets are a time-of-day frame with a good check (R209). -/
def todGood (bytes : List Byte) : Bool :=
  let n := bytes.map BitVec.toNat
  bytes.length == 32 && n.take 4 == [0x51, 0x54, 1, 32] && octetsNat (bytes.drop 28) == (crc32 (n.take 28)).toNat

/-- TOD_FRAME_DECODE (R128, R208, R209): a good frame names the next pulse; a bad one leaves that pulse without an offset. -/
def execTodFrameDecode (slot : Fin 16) (bytes : List Byte) (framingOk : Bool) (ended : Stamp) (s : State) : Out :=
  let x := s.wv.slots[slot]
  if !x.cfg.flag Ix.slotEnable || x.kind != 7 then .next s
  else
    let good := framingOk && todGood bytes && s.frameInTime (Fin.ofNat 88 (x.cfg.nat Ix.slotSource)) ended.steps
    let named := fun v : Option Int => s.mapSlot slot fun y => { y with frames := ((ended.steps, v) :: y.frames).take 4 }
    if !good then .next ((named none).badFrame slot)
    else
      let unlocked := bitAt ((bytes.map BitVec.toNat).getD 12 0) 2
      let bound := octetsNat ((bytes.drop 20).take 4)
      let s1 := (named (some (octetsNat ((bytes.drop 4).take 6)))).mapSlot slot fun y =>
        { y with badRun := 0, goodRun := y.goodRun + 1, frameLost := false, kindBad := unlocked, extra := (bound : Rat) / 256 }
      .next (if unlocked then (s1.alarm slot 4).evaluate else s1)

end Sys2Proof.Machine
end

