-- ==== Sys2Proof/Machine/TimeEvents.lean ====
section
/-! DEFINITION. Events of the time scale: conversion sets taking effect, leap seconds, smear ramps, checkpoints, routine Bound recomputations, captures and PTM (R42 to R55, R61, R62, R73, R76, R177). -/

namespace Sys2Proof.Machine

/-! ### Conversion sets (R40 to R45) -/

/-- Offsets that wait or are kept move with a step of `d` of the time scale (R44, R145). -/
def Slot.shift (x : Slot) (d : Int) : Slot :=
  { x with offsets := x.offsets.map fun e => (e.1, e.2 - d), phasePrev := x.phasePrev.map fun e => (e.1, e.2 - d),
           meas := x.meas.map fun m => match m with
             | .offset phi at_ extra => .offset (phi - d) at_ extra
             | o => o }

/-- A channel that runs gates keeps the boundary of a step, which marks every gate that contains it (R98). -/
def State.markGate (s : State) (cyc : Nat) (ch : Fin 88) : State :=
  if s.tdc[ch].gated then s.mapTdc ch fun c => { c with stepsAt := c.stepsAt ++ [(cyc : Int) * 1024] } else s

/-- The parts of a phase step of `d` at the boundary `cyc` (R44, R50, R51, R198). -/
def State.doStep (s : State) (d : Int) (cyc : Nat) (before : Int) : State :=
  let leap := s.crossesLeap before (before + d)
  let flags := if leap then 64 + b2n (s.ts.leapPending == 2) * 128 else 0
  let s1 := if leap then s.changeUtc State.applyLeap else s
  let s2 : State := { s1 with
    ts.stepCount := s1.ts.stepCount + 1, ts.lastStepAt := cyc, fc.obsBreak := cyc,
    wv.slots := s1.wv.slots.map fun x => x.shift d,
    loop.window := s1.loop.window.map fun e => (e.1, e.2 - d) }
  let s3 := (s2.stepMis d).each (List.finRange 88) fun t ch => t.markGate cyc ch
  let s4 := s3.logAt 3 flags (intLo d) (intHi d) cyc
  let t := s4.convert ⟨cyc, 0⟩
  s4.each allHosts fun u p => u.noticePort p 2 (intLo d) (intHi d) t cyc

/-- The words of an effective boundary (R464). -/
def cycWords (n : Nat) : List Word := [loWord n, hiWord n]

/-- A committed set takes effect (R40, R42, R44, R145). -/
def State.setEffect (s : State) (k : Committed) : State :=
  let c := s.setNow
  let before := c.time (k.effect * 1024)
  let s1 : State := { s with
    ts.rateInt := s.rateIntegralAt ((k.effect : Int) * 1024), ts.sets := (k.newSet c :: s.ts.sets).take 16, ts.committed := none,
    ts.rateLog := (k.effect, s.rateIntegralAt ((k.effect : Int) * 1024)) :: keepSince (k.effect - 10016 * secCyc) s.ts.rateLog }
  let s2 := s1.followRateLimit.retuneAll
  let s3 := match k.step with
    | some r => s2.doStep r.size k.effect before
    | none => s2
  let s4 := match k.rate with
    | some r => s3.completeOpt r.host 0 (cycWords k.effect)
    | none => s3
  let s5 := match k.step with
    | some r =>
      match r.origin with
      | .host id => (s4.recompute).complete id 0 (cycWords k.effect)
      | .switch i => s4.completeSwitch i r.size
    | none => s4
  s5.tryCommit

/-- CONVERSION_SET_EFFECT (R42): due at the committed set's boundary. -/
def execConversionSetEffect (s : State) : Out :=
  match s.ts.committed with
  | none => .next s
  | some k => if s.sys.cyc < k.effect then .next s else .next (s.setEffect k)

/-! ### Leap second and smear (R48 to R55) -/

/-- LEAP_AT_REACHED (R50). -/
def execLeapAtReached (s : State) : Out :=
  if s.ts.leapPending != 0 && (s.ts.leapAt : Int) * secFrac ≤ s.now then .next (s.changeUtc State.applyLeap) else .next s

/-- The profile `p` changed by `f`. -/
def State.mapSmear (s : State) (p : Fin 4) (f : Smear → Smear) : State := { s with ts.smear := upd s.ts.smear p f }

/-- SMEAR_RAMP_START (R53). -/
def execSmearRampStart (p : Fin 4) (s : State) : Out :=
  let x := s.ts.smear[p]
  match s.ts.smearLeap with
  | none => .next s
  | some (at_, _, _) =>
    if x.cfg.at Ix.smearType != 0 && !x.running && !x.skipped && x.start at_ ≤ s.now && s.now < x.start at_ + x.length then
      .next (s.mapSmear p fun y => { y with running := true })
    else .next s

/-- SMEAR_RAMP_END (R53). The leap second of the ramp is kept, since a step may take the time scale back into it (R51). -/
def execSmearRampEnd (p : Fin 4) (s : State) : Out :=
  let x := s.ts.smear[p]
  match s.ts.smearLeap with
  | none => .next s
  | some (at_, _, _) =>
    if x.running && x.start at_ + x.length ≤ s.now then .next (s.mapSmear p fun y => { y with running := false })
    else .next s

/-! ### Checkpoints and the Bound's cadence (R46, R62, R177, R178, R219) -/

/-- The active sends the model of a SHARED flywheel at every checkpoint (R402). -/
def State.replModel (s : State) (f : Fin 3) : State :=
  match s.fc.fw[f].model with
  | some m =>
    s.repl (.flywheelModel f ([m.c0, m.c1, m.c2, m.c3, m.h, m.a, m.b, m.uC0, m.uC1, m.uC2, m.uC3, m.uH, m.uA, m.uB, m.eT, m.sWfm, m.sFl, m.covAB] ++ m.cov)
      m.ta (match m.tMin, m.tMax with
        | some a, some b => some (a, b)
        | _, _ => none))
  | none => s

/-- CHECKPOINT_WRITE (R177, R178): every 16 s; a failed record only passes its place. -/
def execCheckpointWrite (ok : Bool) (word : Nat) (s : State) : Out :=
  if s.sys.cyc < s.fc.checkpointDue || !s.afterInit then .next s
  else
    let s1 : State := { s with fc.checkpointDue := s.sys.cyc + 16 * secCyc }
    if ok then .next ((s1.checkpointAt none).each (([1, 2] : List (Fin 3)).filter fun f => s1.fc.fw[f].cfg.flag Ix.fwShared && s1.fc.fw[f].model.isSome)
      State.replModel)
    else .next (s1.checkpointAt (some word))

/-- Group 0 applies at a routine recomputation (R61, R480). -/
def State.applyK (s : State) : State :=
  match s.bound.kPending with
  | some k => (({ s with bound.k := k, bound.kPending := none } : State).applied 0 0).repl (.coverage k)
  | none => s.applied 0 0

/-- BOUND_RECOMPUTE (R62, R219): every 62.5 ms. Weathervane evaluates anew where a slot is no longer STEP_BLOCKED (R147). -/
def execBoundRecompute (s : State) : Out :=
  if s.sys.cyc < s.bound.due then .next s
  else
    let t := s.applyK.recompute
    .next (if s.wv.slots.toList.any Slot.stepBlocked && !t.wv.slots.toList.any Slot.stepBlocked then t.evaluate else t)

/-! ### Captures and PTM (R73, R76, R433) -/

/-- A capture is requested; while one is under way the write is ignored (R73). -/
def State.requestCapture (s : State) (hp : Fin 4) (v : Word) : State :=
  if v.getLsbD 0 && !s.hosts[hp].cap.busy then
    s.mapHost hp fun h => { h with cap := { h.cap with valid := false, busy := true, edge := s.sys.cyc + 1 } }
  else s

/-- CAPTURE_REQUEST (R73). -/
def execCaptureRequest (hp : Fin 4) (v : Word) (s : State) : Out := s.opened fun t => t.requestCapture hp v

/-- CAPTURE_COMPLETE (R73): CYC, the time and the time-scale Bound of the edge after the request are published. -/
def execCaptureComplete (hp : Fin 4) (s : State) : Out :=
  let c := s.hosts[hp].cap
  if !c.busy || decide (s.sys.cyc < c.edge) then .next s
  else
    .next ((s.mapHost hp fun h => { h with cap :=
      { c with valid := true, busy := false, count := c.count + 1, cyc := c.edge, ts := s.convert ⟨c.edge, 0⟩,
               bound := s.tsBoundAt c.edge } }).hwEvent hp 14)

/-- The Bound of a PTM response: the unrounded time-scale Bound plus 4 ns (R76). -/
def State.ptmBound (s : State) : Word :=
  match s.bound.exact with
  | some b => toUnits (b + 4)
  | none => unknownWord

/-- PTM_REQUEST (R76, R433): HP0 and HP1 answer from INIT on with TAI nanoseconds in 64 bits, at a granularity of 2 ns. -/
def execPtmRequest (hp : Fin 4) (s : State) : Out :=
  if hp.val < 2 && s.hosts[hp].pcieUp && s.afterBoot then
    .next ((s.mapHost hp fun h => { h with ptm := h.ptm + 1 }).emit
      (.ptm hp (BitVec.ofNat 64 (tsSec s.now * 1000000000 + tsNs s.now)) 2 s.ptmBound))
  else .next s

end Sys2Proof.Machine
end

