-- ==== Sys2Proof/Machine/HostPorts.lean ====
section
/-! DEFINITION. Host ports: rights, mailboxes, doorbells, masks, the notice ring's index, port resets, locks (R421 to R454, R538). -/

namespace Sys2Proof.Machine

/-! ### Rights (R423 to R428) -/

/-- The grants of R424. -/
inductive Right where
  | time | tdc | reference | holdover | outputs | gnss | ports | service | keys | grid | converter | twin | log | firmware | reset | direct
  deriving DecidableEq, Repr

/-- The grant's bit (R424). -/
def Right.bit : Right → Nat
  | .time => 0 | .tdc => 1 | .reference => 2 | .holdover => 3 | .outputs => 4 | .gnss => 5 | .ports => 6 | .service => 7
  | .keys => 8 | .grid => 9 | .converter => 10 | .twin => 11 | .log => 12 | .firmware => 13 | .reset => 14 | .direct => 15

/-- Whether a port may act on a grant: the OWNER holds every one but DIRECT (R423, R424). -/
def State.may (s : State) (hp : Fin 4) (r : Right) : Bool :=
  (s.sys.owner == hp && r.bit != 15) || bitAt s.sys.grants[hp] r.bit

/-- A write without its rights is ignored (R428). -/
def State.denied (s : State) (addr : Nat) : State := s.raise Flt.writeDenied addr

/-- A bus error of a port (R471, R487): its address, its cause, whether it was a write, and its region. -/
def State.busError (s : State) (hp : Fin 4) (addr cause : Nat) (write : Bool) (region : Nat) : State :=
  let word := if region = 2 then 0 else addr / 4 % 2 ^ 16
  (s.mapHost hp fun h =>
    { h with busErr := BitVec.ofNat 32 (word * 4 + cause * 2 ^ 18 + b2n write * 2 ^ 20 + region * 2 ^ 21 + 2 ^ 31),
             busErrCount := h.busErrCount + 1, spiErr := h.spiErr || decide (2 ≤ hp.val) }).raise Flt.busError (addr / 4 % 2 ^ 16)

/-- Grants as HP_GRANTSp shows them (R423, R452). -/
def State.grantsOf (s : State) (hp : Fin 4) : Nat :=
  if s.sys.owner = hp then 0x7FFF + s.sys.grants[hp] / 2 ^ 15 % 2 * 2 ^ 15 else s.sys.grants[hp] % 2 ^ 16

/-- COVERAGE written by a host: rights, follower lock, range (R61, R70, R402). -/
def State.hostCoverage (s : State) (hp : Fin 4) (v : Nat) : State :=
  if !s.may hp .time then s.denied 0x2044
  else if s.follower then s.raise Flt.writeLocked 0x2044
  else s.writeCoverage v

/-- COVERAGE_WRITE (R61). -/
def execCoverageWrite (hp : Fin 4) (v : Word) (s : State) : Out := s.opened fun t => t.hostCoverage hp v.toNat

/-! ### Hardware status (R437, R447) -/

/-- The level sources of a port as bits of HW_STATUS (R447). -/
def State.hwLevels (s : State) (hp : Fin 4) : Nat :=
  let h := s.hosts[hp]
  let lane := if hp.val = 0 then s.svc.lanes[0].cfgErr || s.svc.lanes[0].dmaErr
    else if hp.val = 1 then s.svc.lanes[1].cfgErr || s.svc.lanes[1].dmaErr else false
  b2n (h.evq.wr != h.evq.rd) + b2n (h.gq.wr != h.gq.rd) * 4 + b2n (h.half.toList.any (· != 0)) * 16 +
    b2n (s.ports.toList.any fun p => p.tsq.wr != p.tsq.rd) * 32 + b2n lane * 2 ^ 10 + b2n s.flt.first.isSome * 2 ^ 11 +
    b2n (s.sys.engine == .safe) * 2 ^ 12 + b2n (h.imbColl != 0) * 2 ^ 15

/-- HW_STATUS (R447, R453). -/
def State.hwStatus (s : State) (hp : Fin 4) : Word :=
  let ev := s.hosts[hp].hwEvents &&& (if hp.val < 2 then 0x000063CA#32 else 0x000060CA#32)
  ev ||| BitVec.ofNat 32 (s.hwLevels hp)

/-- HIRQn_N asserted (R437). -/
def State.hirq (s : State) (hp : Fin 4) : Bool :=
  (s.hosts[hp].db &&& ~~~s.hosts[hp].dbMask) != 0 || (s.hwStatus hp &&& ~~~s.hosts[hp].hwMask) != 0

/-! ### Mailboxes (R438, R439) -/

/-- A command word's place in the order of R429: its CCLK cycle, then its port, then its mailbox. -/
def cmdBefore (a b : Nat × Fin 4 × Fin 8) : Bool :=
  a.1 < b.1 || (a.1 == b.1 && (a.2.1 < b.2.1 || (a.2.1 == b.2.1 && a.2.2 < b.2.2)))

/-- A command word joins the queue (R429). -/
def insertCmd (c : Nat × Fin 4 × Fin 8) : List (Nat × Fin 4 × Fin 8) → List (Nat × Fin 4 × Fin 8)
  | [] => [c]
  | d :: l => if cmdBefore c d then c :: d :: l else d :: insertCmd c l

/-- The queue without the word of a mailbox. -/
def dropCmd (l : List (Nat × Fin 4 × Fin 8)) (hp : Fin 4) (m : Fin 8) : List (Nat × Fin 4 × Fin 8) :=
  l.filter fun c => !(c.2.1 == hp && c.2.2 == m)

/-- A host writes an inbound mailbox (R438); the word joins the command queue, and a word that it overwrites leaves it (R429). -/
def State.writeImb (s : State) (hp : Fin 4) (m : Fin 8) (v : Word) : State :=
  let h := s.hosts[hp]
  let s0 : State := { s with cmds := insertCmd (s.sys.cyc * 4 / 25, hp, m) (dropCmd s.cmds hp m) }
  let s1 := s0.mapHost hp fun h => { h with imb := h.imb.set m v, imbFull := h.imbFull.set m true }
  if h.imbFull[m] then
    let s2 := s1.mapHost hp fun h => { h with imbColl := h.imbColl ||| BitVec.ofNat 8 (2 ^ m.val) }
    let s3 := if h.imbColl = 0 then s2.hwLevelRise hp 15 else s2
    s3.raise Flt.mbCollision (m.val + hp.val * 16)
  else s1

/-- The firmware takes a command word (R438, R455). -/
def State.takeImb (s : State) (hp : Fin 4) (m : Fin 8) : State :=
  (({ s with cmds := dropCmd s.cmds hp m } : State).mapHost hp fun h => { h with imbFull := h.imbFull.set m false }).ring hp (8 + m.val)

/-- A host reads an outbound mailbox: the word, which is cleared, and the next reply moves in (R439). -/
def State.readOmb (s : State) (hp : Fin 4) (m : Fin 8) : State × Word :=
  let w := s.hosts[hp].omb[m]
  if s.hosts[hp].ombFull[m] then
    (((s.mapHost hp fun h => { h with omb := h.omb.set m 0, ombFull := h.ombFull.set m false }).drainOmb hp m), w)
  else (s, 0)

/-- OMB_READ (R439). -/
def execOmbRead (hp : Fin 4) (mb : Fin 8) (s : State) : Out :=
  s.openRead hp fun t => t.readOmb hp mb

/-- MB_STALL_TIMEOUT (R4, R439): once for each stall of 1 s; a read in the cycle in which it expires prevents it. -/
def execMbStallTimeout (hp : Fin 4) (mb : Fin 8) (s : State) : Out :=
  let h := s.hosts[hp]
  match h.stallFrom[mb] with
  | some c =>
    if !s.lapsed (c + secCyc) || h.stalled[mb] then .next s
    else .next ((s.mapHost hp fun h => { h with stalled := h.stalled.set mb true }).raise Flt.mbStall (mb.val + hp.val * 16))
  | none => .next s

/-! ### Notices, doorbells and masks (R431, R444, R448) -/

/-- A host's write of NQ_RD (R444). -/
def State.writeNqRd (s : State) (hp : Fin 4) (v : Word) : State :=
  let q := s.hosts[hp].notices
  let n := v.truncate 16
  if indexFits q.wr n 128 then s.mapHost hp fun h => { h with notices := { q with rd := n } }
  else s.raise Flt.nqIndex hp.val

/-- NQ_RD_WRITE (R444). -/
def execNqRdWrite (hp : Fin 4) (v : Word) (s : State) : Out := s.opened fun t => t.writeNqRd hp v

/-- A host rings a peer (R448). -/
def State.writePeerRing (s : State) (hp : Fin 4) (v : Word) : State := s.ring (Fin.ofNat 4 (v.toNat % 4)) (24 + hp.val)

/-- PEER_RING_WRITE (R448). -/
def execPeerRingWrite (hp : Fin 4) (v : Word) (s : State) : Out := s.opened fun t => t.writePeerRing hp v

/-- A mask takes a value; a bit unmasked while its source is set sends the vector's message (R431). -/
def State.writeMask (s : State) (hp : Fin 4) (reg : MaskReg) (v : Word) : State :=
  match reg with
  | .db =>
    let fresh := s.hosts[hp].db &&& s.hosts[hp].dbMask &&& ~~~v
    let s1 := s.mapHost hp fun h => { h with dbMask := v }
    if fresh = 0 then s1 else s1.msix hp 0
  | .hw =>
    let fresh := s.hwStatus hp &&& s.hosts[hp].hwMask &&& ~~~v
    let s1 := s.mapHost hp fun h => { h with hwMask := v }
    if fresh = 0 then s1 else s1.msix hp 1

/-- MASK_WRITE (R431). -/
def execMaskWrite (hp : Fin 4) (reg : MaskReg) (v : Word) (s : State) : Out := s.opened fun t => t.writeMask hp reg v

/-! ### Port resets (R432, R449, R538) -/

/-- A queue emptied, its indices at 0 (R449). -/
def Queue.emptied (q : Queue) : Queue := { q with wr := 0, rd := 0, slots := [] }

/-- A host lane is disabled (R333, R449). -/
def Lane.off (l : Lane) : Lane :=
  { l with enabled := false, rxProd := 0, rxCons := 0, txProd := 0, txCons := 0, inFlight := [] }

/-- A port reset (R449, R513). -/
def State.portReset (s : State) (hp : Fin 4) : State :=
  let s1 := s.mapHost hp fun h =>
    { h with imb := Vector.replicate 8 0, imbFull := Vector.replicate 8 false, omb := Vector.replicate 8 0,
             ombFull := Vector.replicate 8 false, replies := [], stallFrom := Vector.replicate 8 none,
             stalled := Vector.replicate 8 false, imbColl := 0, db := 0, dbMask := 0xFFFFFFFF, hwEvents := 0,
             hwMask := 0xFFFFFFFF, notices := h.notices.emptied, evq := h.evq.emptied, gq := h.gq.emptied,
             cap := {}, half := Vector.replicate 8 0, dumpInterval := 0 }
  let s2 : State := { s1 with
    locks := s1.locks.map fun l => if l = some hp then none else l,
    cmds := s1.cmds.filter fun c => c.2.1 != hp,
    flash.writing := s1.flash.writing.map fun w => if w.hp = hp then { w with orphan := true } else w,
    handled := s1.handled.map fun x => if x.hp = hp then { x with orphan := true } else x }
  if h : hp.val < 2 then s2.mapLane ⟨hp.val, h⟩ Lane.off else s2

/-- A write of HP_RESET (R449). -/
def State.writeHpReset (s : State) (hp : Fin 4) (v : Word) : State := if v = 0x0000A5A5 then s.portReset hp else s

/-- HP_RESET_WRITE (R449). -/
def execHpResetWrite (hp : Fin 4) (v : Word) (s : State) : Out := s.opened fun t => t.writeHpReset hp v

/-- PCIE_FLR (R432). -/
def execPcieFlr (hp : Fin 4) (s : State) : Out := if hp.val < 2 then .next (s.portReset hp) else .next s

/-- PCIE_LINK_LOSS (R432): unplanned. -/
def execPcieLinkLoss (hp : Fin 4) (s : State) : Out :=
  if hp.val < 2 && s.hosts[hp].pcieUp then
    .next (((s.mapHost hp fun h => { h with pcieUp := false }).portReset hp).condition Flt.hpLinkDown hp.val)
  else .next s

/-- HP_PERST (R538): the link is held in reset, and the port is reset; planned, so no fault. -/
def execHpPerst (hp : Fin 4) (s : State) : Out :=
  if hp.val < 2 then .next ((s.mapHost hp fun h => { h with perst := true, pcieUp := false }).portReset hp) else .next s

/-- HP_PERST_RELEASE (R538). -/
def execHpPerstRelease (hp : Fin 4) (s : State) : Out := .next (s.mapHost hp fun h => { h with perst := false })

/-- PCIE_LINK_UP (R430): the link of a port that is not held in reset comes up, which ends HP_LINK_DOWN. -/
def execPcieLinkUp (hp : Fin 4) (s : State) : Out :=
  if hp.val < 2 && !s.hosts[hp].perst then
    .next ((s.mapHost hp fun h => { h with pcieUp := true }).causeEnds Flt.hpLinkDown hp.val)
  else .next s

/-! ### Locks (R450, R451) -/

/-- A read of a lock: a free one is taken and reads 0 (R450). -/
def State.readLock (s : State) (hp : Fin 4) (n : Fin 16) : State × Word :=
  match s.locks[n] with
  | none => ({ s with locks := s.locks.set n (some hp) }, 0)
  | some p => (s, BitVec.ofNat 32 (p.val + 1))

/-- LOCK_READ (R450). -/
def execLockRead (hp : Fin 4) (lock : Fin 16) (s : State) : Out :=
  s.openRead hp fun t => t.readLock hp lock

/-- A write of a lock (R451). -/
def State.writeLock (s : State) (hp : Fin 4) (n : Fin 16) (v : Word) : State :=
  let free : State := { s with locks := s.locks.set n none }
  match s.locks[n], decide (v = 0) with
  | some p, true =>
    if p = hp then free
    else if s.sys.owner = hp then free.raise Flt.lockForced (n.val + p.val * 16)
    else s.denied (0x10C0 + 4 * n.val)
  | none, true => if s.sys.owner = hp then s else s.denied (0x10C0 + 4 * n.val)
  | _, false => s.denied (0x10C0 + 4 * n.val)

/-- LOCK_WRITE (R451). -/
def execLockWrite (hp : Fin 4) (lock : Fin 16) (v : Word) (s : State) : Out := s.opened fun t => t.writeLock hp lock v

end Sys2Proof.Machine
end

