-- ==== Sys2Proof/Machine/Grid.lean ====
section
/-! DEFINITION. The grid monitor: crossings, regression, thresholds, mains loss, latched values, records (R364 to R380, R390). -/

namespace Sys2Proof.Machine

/-! ### Units -/

/-- NOMINAL in Hz (R364). -/
def Feed.nominal (x : Feed) : Rat := if x.cfg.flag Ix.feedNominal then 60 else 50
/-- CYCLES. -/
def Feed.cyclesN (x : Feed) : Nat := x.cfg.nat Ix.feedCycles
/-- The latest fitted period, or 1/NOMINAL before the first fit, in 2^-16 ns (R369). -/
def Feed.periodB (x : Feed) : Rat :=
  match x.fit with
  | some f => f.b
  | none => (secFrac : Rat) / x.nominal
/-- Frequency in Hz of a period in 2^-16 ns. -/
def hertzOf (b : Rat) : Rat := if b = 0 then 0 else (secFrac : Rat) / b

/-! ### Records (R379, R380) -/

/-- A grid record reaches one port's queue, or is lost there (R380). -/
def State.pushGq (s : State) (p : Fin 4) (f : Fin 6) (w : List Word) : State :=
  let q := s.hosts[p].gq
  if (q.wr - q.rd).toNat ≥ 32 then
    let s1 := (s.mapHost p fun h => { h with gq := { q with overflow := true, lost := q.lost + 1 } }).mapFeed f fun x =>
      { x with lostBefore := x.lostBefore.set p true }
    (s1.hwEvent p 3).raise Flt.gqLost p.val
  else
    let slot := q.wr.toNat % 32
    let s1 := s.mapHost p fun h =>
      { h with gq := { q with wr := q.wr + 1, slots := (slot, w) :: q.slots.filter (·.1 != slot) } }
    let s2 := s1.mapFeed f fun x => { x with lostBefore := x.lostBefore.set p false }
    if q.wr = q.rd then s2.hwLevelRise p 2 else s2

/-- BOUND of a grid record (R109, R379): with the edge channel's terms, or none for a sample feed. -/
def State.gridBound (s : State) (f : Fin 6) (cyc : Nat) : Word :=
  let x := s.feeds[f]
  if x.cfg.flag Ix.feedSrc then
    match s.boundAt cyc with
    | none => unknownWord
    | some b => toUnits (b + 78 / 100000)
  else s.recordBound (Fin.ofNat 88 (x.cfg.nat Ix.feedChannel)) cyc (s.tdc[Fin.ofNat 88 (x.cfg.nat Ix.feedChannel)].cfg.nat Ix.tdcDelayUnc)

/-- A record of a feed goes to the ports of PORT_MASK (R379, R380). -/
def State.gridRecord (s : State) (f : Fin 6) (kind : Nat) (set : Bool) (t : Stamp) (value : Word) : State :=
  let x := s.feeds[f]
  let late := s.isLate t
  let ports := allHosts.filter fun p => bitAt (x.cfg.nat Ix.feedPortMask) p.val
  let words := fun p : Fin 4 =>
    BitVec.ofNat 32 (f.val + kind * 16 + b2n set * 2 ^ 8 + b2n late * 2 ^ 9 + b2n x.lostBefore[p] * 2 ^ 10 + x.seq.toNat * 2 ^ 16) ::
      ([loWord t.cyc, hiWord t.cyc] ++ recordTime (s.convert t) ++ [value, s.gridBound f t.cyc])
  let s0 := if x.cfg.flag Ix.feedSrc then s.noteLateBlock t else s.noteLate t (x.cfg.nat Ix.feedChannel)
  let s1 := s0.each ports fun u p => u.pushGq p f (words p)
  s1.mapFeed f fun x => { x with seq := x.seq + 1 }

/-! ### Restart, losses and returns (R364, R372, R374, R376, R377) -/

/-- A feed's regression restarts; set conditions end without records, and the gap is kept for GTE (R372, R374, R376). -/
def State.restartFeed (s : State) (f : Fin 6) : State :=
  s.mapFeed f fun x =>
    { x with crossings := [], fit := none, fits := [], freqValid := false, range := false, underFreq := {}, overFreq := {},
             rocof := {}, returns := [], lastCross := none,
             gap := match x.lastCross, x.fit with
               | some c, some g => some (c.2, hertzOf g.b)
               | some c, none => x.gap.or (some (c.2, x.nominal))
               | none, _ => x.gap }

/-- A sample feed enters DATA_LOST (R377, R382, R387). -/
def State.dataLost (s : State) (f : Fin 6) : State :=
  if s.feeds[f].dataLost || !s.feeds[f].cfg.flag Ix.feedEnable then s
  else
    let s1 := s.restartFeed f
    ((s1.mapFeed f fun x => { x with dataLost := true, armed := false, prevSample := none })).raise Flt.gridDataLost f.val

/-- The enabled sample feeds on a converter port. -/
def State.sampleFeeds (s : State) (cp : Fin 8) : List (Fin 6) :=
  (List.finRange 6).filter fun f =>
    s.feeds[f].cfg.flag Ix.feedEnable && s.feeds[f].cfg.flag Ix.feedSrc && s.feeds[f].cfg.nat Ix.feedCp == cp.val

/-- A feed returns from its loss at the last of 4 good crossings, the first of which is `t` (R377, R378). -/
def State.feedReturns (s : State) (f : Fin 6) (t : Int × Stamp) (now : Int × Stamp) : State :=
  let x := s.feeds[f]
  let from_ := match x.gap with
    | some g => g.1
    | none => t.1
  let ms : Word := BitVec.ofNat 32 (max 0 ((t.1 - from_) / (secFrac / 1000))).toNat
  let s1 := if x.mainsLoss then s.gridRecord f 6 true t.2 ms else s
  let s2 := s1.mapFeed f fun y =>
    { y with mainsLoss := false, dataLost := false, returns := [], lostSamples := 0, lostTime := 0, crossings := [(0, now.1, now.2)],
             lastCross := some (0, now.1), lossAt := s.sys.cyc }
  if x.mainsLoss && x.cfg.flag Ix.feedSupply then
    ((s2.notice 6 (BitVec.ofNat 32 (f.val + 16)) 0).causeEnds Flt.mainsLoss f.val).raise Flt.mainsReturn f.val
  else s2

/-- A stamp that BLANK or the index rule discards is counted (R366, R369). -/
def State.rejectCrossing (s : State) (f : Fin 6) : State := s.mapFeed f fun y => { y with rejects := y.rejects + 1 }

/-- Whether a stamp of an edge feed lies inside BLANK after a crossing (R366). -/
def Feed.blanked (x : Feed) (t0 t : Int) : Bool := !x.cfg.flag Ix.feedSrc && decide (t - t0 < x.cfg.at Ix.feedBlank * (secFrac / 1000))

/-- A crossing while the feed is lost: 4 in a row, each 1/70 s to 1/40 s after its predecessor, bring it back (R366, R377). -/
def State.lostCrossing (s : State) (f : Fin 6) (t : Int × Stamp) : State :=
  let x := s.feeds[f]
  let last := x.returns.getLast?
  let good := match last with
    | some p => decide (secFrac ≤ 70 * (t.1 - p.1)) && decide (40 * (t.1 - p.1) ≤ secFrac)
    | none => true
  let l := if good then x.returns ++ [t] else [t]
  if last.any fun p => x.blanked p.1 t.1 then s.rejectCrossing f
  else if l.length < 5 then s.mapFeed f fun y => { y with returns := l }
  else s.feedReturns f (l.getD 1 t) t

/-! ### Fits (R370, R371, R374, R376) -/

/-- Least squares of t = a + b k over crossings, newest first (R370). -/
def fitOf (l : List (Nat × Int × Stamp)) : Option GridFit :=
  let n : Rat := l.length
  let k0 : Int := (l.getLast?.map fun c => (c.1 : Int)).getD 0
  let t0 : Int := (l.getLast?.map fun c => c.2.1).getD 0
  let ks := l.map fun c => (((c.1 : Int) - k0 : Int) : Rat)
  let ts := l.map fun c => ((c.2.1 - t0 : Int) : Rat)
  let sk := ks.sum
  let st := ts.sum
  let skk := (ks.map fun k => k * k).sum
  let skt := (List.zipWith (· * ·) ks ts).sum
  let stt := (ts.map fun t => t * t).sum
  let d := n * skk - sk * sk
  if d = 0 then none
  else
    let b := (n * skt - sk * st) / d
    let a := (st - b * sk) / n
    let q := if n ≤ 2 then 0 else max 0 ((stt - a * st - b * skt) / (n - 2))
    some { a := t0 + a - b * k0, b := b, kLast := (l.head?.map Prod.fst).getD 0, mean := t0 + st / n,
           resid := min 0xFFFFFFFF (ceilSqrt (q / (256 * 256))) }

/-- ROCOF in Hz/s of the newest fit, if fit j exists (R371). -/
def Feed.rocofNow (x : Feed) : Option Rat :=
  match x.fits with
  | i :: l =>
    match l.find? (fun j => j.kLast + x.cyclesN == i.kLast) with
    | some j => if i.mean = j.mean then none else some ((hertzOf i.b - hertzOf j.b) / ((i.mean - j.mean) / secFrac))
    | none => none
  | [] => none

/-- One evaluation of a condition: the new condition, and whether a record is due (R376). -/
def GridCond.eval (c : GridCond) (sets clears : Bool) (persist : Nat) (t : Stamp) : GridCond × Option Stamp :=
  if (if c.isSet then clears else sets) then
    let st := if c.run = 0 then t else c.runStamp.getD t
    if persist ≤ c.run + 1 then ({ isSet := !c.isSet }, some st)
    else ({ c with run := c.run + 1, runStamp := some st }, none)
  else ({ c with run := 0, runStamp := none }, none)

/-- The record of a condition, with GRID_EVENT when it sets (R376, R391). -/
def State.condRecord (s : State) (f : Fin 6) (kind : Nat) (set : Bool) (due : Option Stamp) (v : Word) : State :=
  match due with
  | none => s
  | some t =>
    let s1 := s.gridRecord f kind set t v
    if set then s1.raise Flt.gridEvent (f.val + kind * 16) else s1

/-- Frequency in units of 2^-24 Hz. -/
def freqWord (f : Rat) : Word := BitVec.ofInt 32 (looseRound (f * 2 ^ 24))
/-- Rate of change of frequency in units of 2^-16 Hz/s. -/
def rocofWord (r : Rat) : Word := BitVec.ofInt 32 (looseRound (r * 2 ^ 16))

/-- Thresholds at a fit (R376). -/
def State.gridThresholds (s : State) (f : Fin 6) (t : Stamp) : State :=
  let x := s.feeds[f]
  match x.fit with
  | none => s
  | some g =>
    let hz := hertzOf g.b
    let lim := fun i : Nat => (x.cfg.at i : Rat) / 2 ^ 24
    let uf := lim Ix.feedUfLimit
    let of_ := lim Ix.feedOfLimit
    let hy := lim Ix.feedFHyst
    let n := x.cfg.nat Ix.feedPersist
    let u := x.underFreq.eval (hz < uf) (uf + hy ≤ hz && hz != uf) n t
    let o := x.overFreq.eval (of_ < hz) (hz ≤ of_ - hy && hz != of_) n t
    let rl := (x.cfg.at Ix.feedRocofLimit : Rat) / 2 ^ 16
    let r := match x.rocofNow with
      | some v => x.rocof.eval (rl < |v|) (|v| ≤ 8 / 10 * rl) n t
      | none => (x.rocof, none)
    let s1 := s.mapFeed f fun y => { y with underFreq := u.1, overFreq := o.1, rocof := r.1 }
    let s2 := (s1.condRecord f 1 u.1.isSet u.2 (freqWord hz)).condRecord f 2 o.1.isSet o.2 (freqWord hz)
    s2.condRecord f 3 r.1.isSet r.2 (rocofWord (x.rocofNow.getD 0))

/-- Cycles since the epoch after a crossing: counted, or bridged over a gap of up to 10 s at the first fit after it (R374). -/
def Feed.countCycles (x : Feed) (k : Nat) (t : Int) : Feed :=
  match x.gap, x.fit with
  | some g, some h =>
    let first := (x.crossings.getLast?.map fun c => c.2.1).getD t
    let k0 := (x.crossings.getLast?.map Prod.fst).getD 0
    let sec : Rat := ((first - g.1 : Int) : Rat) / secFrac
    { x with cycles := x.cycles + roundNear (sec * ((g.2 + hertzOf h.b) / 2)) + ((k : Rat) - k0), gap := none }
  | some _, none => x
  | none, _ => { x with cycles := x.cycles + ((k : Rat) - ((x.lastCross.map Prod.fst).getD k)) }

/-- φ(S) in units of 180° / 2^31 (R373). -/
def phaseWord (g : GridFit) (sec : Int) : Word :=
  let z := g.a + g.b * roundNear ((sec * secFrac - g.a) / g.b)
  let turn := (sec * secFrac - z) / g.b - 1 / 4
  let w := turn - (turn - 1 / 2).ceil
  BitVec.ofInt 32 (looseRound (w * 2 ^ 32))

/-- The grid time error in ns at a whole second, whose cycles are counted up to the crossing at `counted` (R374). -/
def Feed.gteAt (x : Feed) (g : GridFit) (sec counted : Int) : BitVec 64 :=
  let n := x.cycles + ((sec * secFrac - counted : Int) : Rat) / g.b
  BitVec.ofInt 64 (looseRound (x.gte0 + (n / x.nominal - ((sec - x.epochS0 : Int) : Rat)) * 1000000000))

/-- The values latched at the first crossing after a whole second (R373, R374): those that no fit gives yet stay as they are. -/
def State.gridLatch (s : State) (f : Fin 6) (t counted : Int) : State :=
  let x := s.feeds[f]
  let sec := t / secFrac
  if sec ≤ x.latSec then s
  else
    let y : Feed := { x with latSec := sec, seconds := x.seconds + 1 }
    s.mapFeed f fun _ =>
      match x.fit with
      | none => y
      | some g =>
        { y with latFreq := freqWord (hertzOf g.b), latRocof := (x.rocofNow.map rocofWord).getD x.latRocof,
                 latPhase := phaseWord g sec, latGte := if x.gteValid && x.gap.isNone then x.gteAt g sec counted else x.latGte }

/-- The newest CYCLES + 1 crossings, when their indices span at most 2 CYCLES (R370). -/
def Feed.window (x : Feed) : Option (List (Nat × Int × Stamp)) :=
  let l := x.crossings.take (x.cyclesN + 1)
  let span := ((l.head?.map Prod.fst).getD 0) - ((l.getLast?.map Prod.fst).getD 0)
  if l.length = x.cyclesN + 1 && span ≤ 2 * x.cyclesN then some l else none

/-- The fit at an accepted crossing, its thresholds and latches (R370, R373, R376). -/
def State.gridFit (s : State) (f : Fin 6) (k : Nat) (t : Int) (st : Stamp) : State :=
  let x := s.feeds[f]
  let g := x.window.bind fitOf
  let s1 := match g with
    | none => s
    | some g =>
      s.mapFeed f fun y =>
        { y with fit := some g, fits := (g :: y.fits).take 64, freqValid := true,
                 range := decide (hertzOf g.b < 40) || decide (70 < hertzOf g.b),
                 resid := BitVec.ofNat 32 g.resid }
  let s2 := s1.mapFeed f fun y => { y.countCycles k t with lastCross := some (k, t) }
  let s3 := if g.isSome then s2.gridThresholds f st else s2
  s3.gridLatch f t t

/-- A crossing that the feed's index rule takes (R369 to R372). -/
def State.acceptCrossing (s : State) (f : Fin 6) (k : Nat) (t : Int) (st : Stamp) : State :=
  let x := s.feeds[f]
  let s0 := s.mapFeed f fun y => { y with lossAt := s.sys.cyc, lostSamples := 0, lostTime := 0 }
  let ang := match x.fit with
    | some g => 360 * ((t : Rat) - (g.a + g.b * k)) / g.b
    | none => 0
  if (x.cfg.at Ix.feedPhaseJump : Rat) / 65536 < |ang| then
    let s1 := (s0.gridRecord f 4 true st (BitVec.ofInt 32 (looseRound (ang * 65536)))).raise Flt.gridEvent (f.val + 64)
    let s2 := s1.gridLatch f t ((x.lastCross.map Prod.snd).getD t)
    (s2.restartFeed f).mapFeed f fun y => { y with crossings := [(0, t, st)], lastCross := some (0, t) }
  else
    (s0.mapFeed f fun y => { y with crossings := ((k, t, st) :: y.crossings).take 64 }).gridFit f k t st

/-- A crossing of a feed: counted, rejected, or part of a return (R366, R369, R377). DEDUCED (log entry 33): the ±25 % of R369 are of b. -/
def State.crossing (s : State) (f : Fin 6) (t : Int) (st : Stamp) : State :=
  let x := s.feeds[f]
  if x.mainsLoss || x.dataLost then s.lostCrossing f (t, st)
  else
    match x.lastCross with
    | none => s.acceptCrossing f 0 t st
    | some (k, t0) =>
      let m := ((t - t0 : Int) : Rat) / x.periodB
      let w := roundNear m
      if x.blanked t0 t then s.rejectCrossing f
      else if 1 ≤ w && w ≤ 3 && |m - w| ≤ 1 / 4 then s.acceptCrossing f (k + w.toNat) t st
      else s.rejectCrossing f

/-- The enabled edge feeds on a channel (R365). -/
def State.edgeFeeds (s : State) (ch : Fin 88) : List (Fin 6) :=
  (List.finRange 6).filter fun f =>
    s.feeds[f].cfg.flag Ix.feedEnable && !s.feeds[f].cfg.flag Ix.feedSrc && s.feeds[f].cfg.nat Ix.feedChannel == ch.val

/-! ### Configuration (R364, R365, R480, R481) -/

/-- Whether a change restarts the regression (R364). -/
def feedRestarts (a b : Cfg) : Bool :=
  [Ix.feedEnable, Ix.feedSrc, Ix.feedChannel, Ix.feedCp, Ix.feedSlot, Ix.feedNominal, Ix.feedCycles].any fun i => a.at i != b.at i

/-- An edge feed holds its channel in EVENT mode (R365). -/
def State.holdFeedChannel (s : State) (f : Fin 6) : State :=
  let c := s.feeds[f].cfg
  if c.flag Ix.feedEnable && !c.flag Ix.feedSrc then
    let ch : Fin 88 := Fin.ofNat 88 (c.nat Ix.feedChannel)
    s.configChannel ch (((s.tdc[ch].cfg.set Ix.tdcMode 2).set Ix.tdcEdge (c.at Ix.feedPol)).set Ix.tdcPrescale 1)
  else s

/-- A feed takes its pending settings (R364). -/
def State.applyFeed (s : State) (f : Fin 6) : State :=
  match s.feeds[f].pending with
  | none => s
  | some c =>
    let re := feedRestarts s.feeds[f].cfg c
    let s1 := if re then s.restartFeed f else s
    let s2 := s1.mapFeed f fun x =>
      { x with cfg := c, pending := none,
               lossAt := if re then s.sys.cyc else x.lossAt, lostTime := if re then 0 else x.lostTime,
               mainsLoss := x.mainsLoss && c.flag Ix.feedEnable && !re, dataLost := x.dataLost && c.flag Ix.feedEnable && !re,
               armed := x.armed && !re, prevSample := if re then none else x.prevSample }
    let s3 := if s2.feeds[f].mainsLoss then s2 else s2.causeEnds Flt.mainsLoss f.val
    s3.holdFeedChannel f

/-- Whether a feed applies at once (R464, R481). -/
def State.feedAtOnce (s : State) (f : Fin 6) : Bool :=
  !s.feeds[f].cfg.flag Ix.feedEnable || s.feeds[f].mainsLoss || s.feeds[f].dataLost

/-! ### Commands -/

/-- 3 nominal periods without a crossing; lost samples do not count, and a crossing in the cycle in which they end is in time (R4, R377, R378). -/
def State.mainsTimeout (s : State) (feed : Fin 6) : State :=
  let x := s.feeds[feed]
  if !x.cfg.flag Ix.feedEnable || x.mainsLoss || x.dataLost ||
      decide (cycSeconds ((s.sys.cyc : Int) - x.lossAt) ≤ 3 / x.nominal + x.lostTime) then s
  else
    let s1 := s.gridRecord feed 5 true ⟨s.sys.cyc, 0⟩ 0
    let s2 := (s1.restartFeed feed).mapFeed feed fun y => { y with mainsLoss := true }
    if x.cfg.flag Ix.feedSupply then (s2.notice 6 (BitVec.ofNat 32 feed.val) 0).condition Flt.mainsLoss feed.val else s2

/-- GTE_GAP_EXPIRY (R374): no accepted crossing for more than 10 s. -/
def execGteGapExpiry (feed : Fin 6) (s : State) : Out :=
  let x := s.feeds[feed]
  if x.gteValid && decide (x.lossAt + 10 * secCyc < s.sys.cyc) then
    .next ((s.mapFeed feed fun y => { y with gteValid := false }).raise Flt.gteInvalid feed.val)
  else .next s

/-- A host's write of GQ_RD (R380). -/
def State.writeGqRd (s : State) (hp : Fin 4) (v : Word) : State :=
  let q := s.hosts[hp].gq
  let n := v.truncate 16
  if indexFits q.wr n 32 then s.mapHost hp fun h => { h with gq := { q with rd := n } } else s.raise Flt.gqIndex hp.val

/-- GQ_RD_WRITE (R380). -/
def execGqRdWrite (hp : Fin 4) (v : Word) (s : State) : Out := s.opened fun t => t.writeGqRd hp v

end Sys2Proof.Machine
end

