-- ==== Sys2Proof/Machine/Converter.lean ====
section
/-! DEFINITION. Converter ports: rings, blocks, frame syncs, rates, starts and stops (R381 to R390). -/

namespace Sys2Proof.Machine

/-! ### Shape of blocks and rings (R381, R383) -/

/-- Selected slots of a mask. -/
def slotsOf (mask : Nat) : List Nat := (List.range 16).filter fun i => bitAt mask i

/-- Octets of a block with `n` slots per frame. -/
def blockBytes (c : Cfg) (n : Nat) : Nat := 16 + c.nat Ix.cpBlockFrames * n * 4
/-- Octets of a receive block. -/
def rxBlockBytes (c : Cfg) : Nat := blockBytes c (slotsOf (c.nat Ix.cpRxMask)).length
/-- Octets of a transmit block. -/
def txBlockBytes (c : Cfg) : Nat := blockBytes c (slotsOf (c.nat Ix.cpTxMask)).length
/-- Buffer offset of receive block `i`. -/
def rxBlockAt (c : Cfg) (i : Nat) : Nat := c.nat Ix.cpRxBase + (if c.nat Ix.cpRxBlocks = 0 then 0 else i % c.nat Ix.cpRxBlocks) * rxBlockBytes c
/-- Buffer offset of transmit block `i`. -/
def txBlockAt (c : Cfg) (i : Nat) : Nat := c.nat Ix.cpTxBase + (if c.nat Ix.cpTxBlocks = 0 then 0 else i % c.nat Ix.cpTxBlocks) * txBlockBytes c

/-- Receive and transmit direction. -/
def Cfg.receives (c : Cfg) : Bool := bitAt (c.nat Ix.cpDir) 0
/-- Transmit direction. -/
def Cfg.transmits (c : Cfg) : Bool := bitAt (c.nat Ix.cpDir) 1

/-- f_CONV of OS2 in Hz (R381). -/
def State.fConv (s : State) : Rat :=
  let c := s.outs.os[2].cfg
  fVco c / (max 1 (c.at Ix.synthConvDiv) : Int)

/-- Nominal frame rate of a port's configuration (R381, R387). -/
def State.frameRate (s : State) (c : Cfg) : Rat :=
  if c.flag Ix.cpClkMode then (c.at Ix.cpNomFs : Rat) / 2 ^ 24
  else s.fConv / ((c.nat Ix.cpBdiv : Rat) * 32 * (c.nat Ix.cpSlots : Rat))

/-- Bit clock in Hz of a master port. -/
def State.bitClock (s : State) (c : Cfg) : Rat := s.fConv / (c.nat Ix.cpBdiv : Rat)

/-! ### Stops and starts (R381, R382, R387, R388) -/

/-- Every port that a CP_STOP names has stopped: the command completes (R464). -/
def State.stopsDone (s : State) (id : Nat) : State :=
  if s.cps.toList.any fun c => c.stopCmds.contains id then s else s.complete id 0 []

/-- A port stops; a stop command that waited for it is served (R381, R382, R387). -/
def State.stopPort (s : State) (n : Fin 8) : State :=
  let cmds := s.cps[n].stopCmds
  let s1 := s.mapCp n fun c =>
    { c with running := false, waiting := false, writing := false, sending := none, stopCmds := [], frame := 0, rate := {} }
  let s2 := s1.each (s1.sampleFeeds n) State.dataLost
  s2.each cmds State.stopsDone

/-- OS2 loses lock: running ports stop, and starts that wait fail (R382, R464). -/
def State.stopConverters (s : State) : State :=
  let s1 := s.each ((List.finRange 8).filter fun n => s.cps[n].running) State.stopPort
  s1.each (List.finRange 8) fun t n =>
    match t.cps[n].startAt with
    | some (_, cmd) => (t.mapCp n fun c => { c with startAt := none, waiting := false }).complete cmd 0x00B []
    | none => t

/-- Whether a change stops the port (R381). -/
def cpStops (a b : Cfg) : Bool :=
  [Ix.cpEnable, Ix.cpClkMode, Ix.cpBdiv, Ix.cpSlots, Ix.cpFsMode, Ix.cpRxBase, Ix.cpRxBlocks, Ix.cpTxBase, Ix.cpTxBlocks].any
    fun i => a.at i != b.at i

/-- Whether a change moves a ring. -/
def cpRings (a b : Cfg) : Bool := [Ix.cpRxBase, Ix.cpRxBlocks, Ix.cpTxBase, Ix.cpTxBlocks, Ix.cpBlockFrames, Ix.cpRxMask, Ix.cpTxMask].any
    fun i => a.at i != b.at i

/-- A port takes its pending settings (R381, R387): a ring that changes starts empty; an enabled follower starts its first measurement; a foreign port is so no longer. -/
def State.applyCp (s : State) (n : Fin 8) : State :=
  match s.cps[n].pending with
  | none => s
  | some c =>
    let x := s.cps[n]
    let stop := x.running && cpStops x.cfg c
    let rings := cpRings x.cfg c
    let s1 := if stop then s.stopPort n else s
    let follow := c.flag Ix.cpEnable && c.flag Ix.cpClkMode && !s1.cps[n].running
    let s2 := s1.mapCp n fun y =>
      { y with cfg := c, pending := none, stopped := stop, foreign := false,
               rxWr := if rings then 0 else y.rxWr, rxRd := if rings then 0 else y.rxRd,
               txWr := if rings then 0 else y.txWr, txRd := if rings then 0 else y.txRd,
               running := y.running || follow, waiting := if follow then true else y.waiting,
               measured := y.measured && !follow, frame := if follow then 0 else y.frame,
               blockSeq := if follow then 0 else y.blockSeq, lostRun := y.lostRun && !follow, lostFlag := y.lostFlag && !follow,
               rateFrom := if follow then s.sys.cyc else y.rateFrom }
    (s2.causeEnds Flt.cpForeign n.val).causeEnds Flt.cpForeign (n.val + 8)

/-! ### Transmit (R386) -/

/-- BLOCK_SEQ in the header of a transmit block. -/
def State.txSeq (s : State) (c : Cfg) (i : Nat) : Nat := (memReadWord s.cpBuf (txBlockAt c i + 12)).toNat / 2 ^ 16

/-- An underrun is counted, and its fault raised at most once a second (R386, R391). -/
def State.underrun (s : State) (n : Fin 8) : State :=
  let s1 := s.mapCp n fun c => { c with underrun := c.underrun + 1 }
  if s.spaced s.cps[n].underrunAt secCyc then
    (s1.mapCp n fun c => { c with underrunAt := some s.sys.cyc }).raise Flt.cpUnderrun n.val
  else s1

/-- The oldest unsent block at a block start (R386). -/
def State.pickTx : Nat → State → Fin 8 → State
  | 0, s, n => s.underrun n
  | k + 1, s, n =>
    let x := s.cps[n]
    if x.txRd = x.txWr then (s.mapCp n fun c => { c with sending := none }).underrun n
    else
      let d := (s.txSeq x.cfg x.txRd.toNat + 65536 - x.blockSeq.toNat) % 65536
      if d = 0 then s.mapCp n fun c => { c with sending := some x.txRd.toNat }
      else if d < 32768 then (s.mapCp n fun c => { c with sending := none }).underrun n
      else State.pickTx k ((s.mapCp n fun c => { c with txRd := c.txRd + 1 }).underrun n) n

/-- Bits of a word, the most significant first (R381). -/
def wordBits (w : Word) : List Bool := (List.range 32).map fun j => w.getLsbD (31 - j)

/-- The words that a port sends in its present frame: the block's, or zeros (R386). -/
def State.txWords (s : State) (n : Fin 8) : List Word :=
  let x := s.cps[n]
  let k := (slotsOf (x.cfg.nat Ix.cpTxMask)).length
  match x.sending with
  | some i => (List.range k).map fun j => memReadWord s.cpBuf (txBlockAt x.cfg i + 16 + (x.frame * k + j) * 4)
  | none => List.replicate k 0

/-- The bits that leave CPn_DO in a frame, slot by slot (R381). DESIGN CHOICE (log entry 34): a slot outside TX_MASK carries zeros. -/
def State.frameBits (s : State) (n : Fin 8) : List Bool :=
  let c := s.cps[n].cfg
  let l := (slotsOf (c.nat Ix.cpTxMask)).zip (s.txWords n)
  (List.range (c.nat Ix.cpSlots)).flatMap fun i => wordBits (((l.find? (·.1 == i)).map Prod.snd).getD 0)

/-- Bit clocks for which the engine drives the frame sync active: the one before slot 0, or all of slot 0; none for a follower (R381). -/
def syncClocks (c : Cfg) : Nat := if c.flag Ix.cpClkMode then 0 else if c.flag Ix.cpFsMode then 32 else 1

/-- A frame leaves a port: its sync and its bits (R381). -/
def State.sendBits (s : State) (n : Fin 8) : State :=
  let c := s.cps[n].cfg
  if c.transmits || !c.flag Ix.cpClkMode then
    s.emit (.converter n (if c.transmits then s.frameBits n else []) (syncClocks c) (c.flag Ix.cpFsPol))
  else s

/-! ### Receive (R383 to R385) -/

/-- The stamp of a frame sync (R383): from the phase of OS2 for a master, whose frames lie k / fs after a second marker; for a follower, the cycle in which the edge was sampled. -/
def State.frameStamp (s : State) (c : Cfg) : Stamp :=
  if c.flag Ix.cpClkMode then ⟨s.sys.cyc, 0⟩
  else
    let m : Rat := s.mis 2
    let fs := s.frameRate c
    let k := roundNear (((s.now : Rat) - m) / secFrac * fs)
    Stamp.ofSteps (s.toRaw (m + k * secFrac / fs).floor).toNat

/-- SMPCNT of a frame at the time `t`: counted from OS2's second marker, or from the whole second for a follower (R384). -/
def State.smpCount (s : State) (c : Cfg) (t : Rat) : BitVec 16 :=
  let fs := s.frameRate c
  let m : Rat := if c.flag Ix.cpClkMode then 0 else s.mis 2
  let x := t - m
  let part := x - ((x / secFrac).floor : Rat) * secFrac
  let n := roundNear (part / secFrac * fs)
  if fs ≤ n then 0 else BitVec.ofInt 16 n

/-- The header of a block (R383). -/
def blockHeader (n : Fin 8) (x : ConvPort) (st : Stamp) (smp : BitVec 16) (under : Bool) : List Word :=
  [loWord st.cyc, hiWord st.cyc, BitVec.ofNat 32 (smp.toNat + b2n x.lostFlag * 2 ^ 16 + b2n under * 2 ^ 17 + n.val * 2 ^ 24),
   BitVec.ofNat 32 (st.fine + x.blockSeq.toNat * 2 ^ 16)]

/-- A receive block is lost (R385, R391). -/
def State.loseBlock (s : State) (n : Fin 8) : State :=
  let x := s.cps[n]
  let k := (slotsOf (x.cfg.nat Ix.cpRxMask)).length * x.cfg.nat Ix.cpBlockFrames
  let s1 := s.mapCp n fun c => { c with lost := c.lost + BitVec.ofNat 32 k, writing := false, lostRun := true, lostFlag := true }
  if !x.lostRun && s.spaced x.overrunAt secCyc then
    (s1.mapCp n fun c => { c with overrunAt := some s.sys.cyc }).raise Flt.cpOverrun n.val
  else s1

/-- Whether received blocks go to the ring: there is one, and a follower has been measured (R381, R387). -/
def ConvPort.stores (x : ConvPort) : Bool :=
  x.cfg.receives && x.cfg.nat Ix.cpRxBlocks != 0 && (!x.cfg.flag Ix.cpClkMode || x.measured)

/-- The start of a block (R385, R386): the transmit block is chosen, and room in the receive ring is decided. DEDUCED (log entry 34): UNDERRUN in a block's header says that zeros go out in the place of the transmit block of the same BLOCK_SEQ. -/
def State.blockStart (s : State) (n : Fin 8) (st : Stamp) (smp : BitVec 16) : State :=
  let c := s.cps[n].cfg
  let s1 := if c.transmits then State.pickTx (c.nat Ix.cpTxBlocks + 1) s n else s
  let x := s1.cps[n]
  if x.stores then
    if (x.rxWr - x.rxRd).toNat < c.nat Ix.cpRxBlocks then
      { s1.mapCp n fun y => { y with writing := true, lostRun := false, lostFlag := false } with
        cpBuf := memWriteWords s1.cpBuf (rxBlockAt c x.rxWr.toNat) (blockHeader n x st smp (c.transmits && x.sending.isNone)) }
    else s1.loseBlock n
  else s1.mapCp n fun y => { y with writing := false }

/-- One sample for a feed (R367): arming, crossing by linear interpolation. `t` is its instant less ADC_DELAY, in 2^-16 ns. -/
def State.feedSample (s : State) (f : Fin 6) (x : Int) (t : Rat) : State :=
  let y := s.feeds[f]
  let level : Int := y.cfg.at Ix.feedArmLevel
  let s1 := s.mapFeed f fun z => { z with prevSample := some (x, t), lostSamples := 0, armed := z.armed || decide (x ≤ -level) }
  match y.prevSample with
  | some (x0, t0) =>
    if y.armed && x0 < 0 && 0 ≤ x then
      let at_ := t0 + (t - t0) * (-(x0 : Rat)) / ((x - x0 : Int) : Rat)
      let s2 := s1.mapFeed f fun z => { z with armed := false }
      s2.crossing f at_.floor (Stamp.ofSteps (s2.toRaw at_.floor).toNat)
    else s1
  | none => s1

/-- A LOST sample for a feed (R367, R377): the time that it covers does not count toward a mains loss. -/
def State.feedLostSample (s : State) (f : Fin 6) (fs : Rat) : State :=
  let y := s.feeds[f]
  let s1 := s.mapFeed f fun z => { z with prevSample := none, lostSamples := z.lostSamples + 1, lostTime := z.lostTime + 1 / fs }
  if 3 / y.nominal < ((y.lostSamples + 1 : Nat) : Rat) / fs then s1.dataLost f else s1

/-- The samples of a frame reach the grid monitor: real ones, or LOST zeros where the block is lost (R367, R385). -/
def State.feedFrame (s : State) (n : Fin 8) (samples : List Word) (lost : Bool) (t : Rat) : State :=
  s.each (s.sampleFeeds n) fun u f =>
    let w := samples.getD (u.feeds[f].cfg.nat Ix.feedSlot) 0
    if lost then u.feedLostSample f (u.frameRate u.cps[n].cfg)
    else u.feedSample f w.toInt (t - (u.feeds[f].cfg.at Ix.feedAdcDelay : Rat) * 256)

/-- One frame of a running port (R383 to R387). Sample j of a block lies at the block's stamp plus j / fs. -/
def State.frameBody (s : State) (n : Fin 8) (st : Stamp) (samples : List Word) : State :=
  let x0 := s.cps[n]
  let t : Rat := (setFor s.ts.sets st.cyc).1.exact st.steps
  let smp := s.smpCount x0.cfg t
  let s1 := if x0.frame = 0 then s.blockStart n st smp else s
  let s2 := s1.mapCp n fun c =>
    { c with smpCnt := smp, blockTime := if c.frame = 0 then t else c.blockTime,
             rate := c.rate.add c.rate.n (s.convert st) false }
  let x := s2.cps[n]
  let c := x.cfg
  let picked := (slotsOf (c.nat Ix.cpRxMask)).map fun i => samples.getD i 0
  let s3 : State := if x.writing then
      { s2 with cpBuf := memWriteWords s2.cpBuf (rxBlockAt c x.rxWr.toNat + 16 + x.frame * picked.length * 4) picked }
    else s2
  let s4 := s3.sendBits n
  let s5 := if c.receives then s4.feedFrame n samples (x.stores && !x.writing) (x.blockTime + x.frame * secFrac / s.frameRate c) else s4
  if x.frame + 1 < c.nat Ix.cpBlockFrames then s5.mapCp n fun y => { y with frame := y.frame + 1 }
  else
    s5.mapCp n fun y =>
      { y with frame := 0, blockSeq := y.blockSeq + 1, rxWr := if x.writing then y.rxWr + 1 else y.rxWr,
               txRd := if x.sending.isSome then y.txRd + 1 else y.txRd, writing := false, sending := none }

/-- A frame sync of a port (R381, R383, R388): pending settings apply, a commanded stop is taken at a block boundary, and the frame moves. -/
def State.frameSync (s : State) (n : Fin 8) (samples : List Word) : State :=
  let s1 := s.applyCp n
  let x := s1.cps[n]
  if !x.running then s1
  else if !x.stopCmds.isEmpty && x.frame = 0 then s1.stopPort n
  else s1.frameBody n (s1.frameStamp x.cfg) samples

/-! ### Commands -/

/-- The deviation of a port's frame rate from nominal, by the regression of R99 over the frame-sync stamps of its present second (R387). -/
def State.deviation (s : State) (n : Fin 8) : Option Rat :=
  (s.cps[n].rate.fit).map fun l => (secFrac : Rat) / l.2 / s.frameRate s.cps[n].cfg - 1

/-- The deviation fitted over a second is kept, or stops the port when it lies beyond ±50 × 10^-6 (R387). -/
def State.takeRate (s : State) (n : Fin 8) (dev : Rat) : State :=
  let x := s.cps[n]
  if 50 / 1000000 < |dev| then
    ((s.stopPort n).mapCp n fun c => { c with foreign := true }).condition Flt.cpForeign (n.val + b2n (x.cfg.flag Ix.cpClkMode) * 8)
  else
    let s1 := s.mapCp n fun c => { c with measured := true, waiting := false }
    let d := looseRound (dev * 2 ^ 40)
    if x.cfg.nat Ix.cpFsTol < (d - x.fsDev).natAbs * 2 ^ 24 then (s1.mapCp n fun c => { c with fsDev := d }).hwEventAll 7 else s1

/-- A second of a running port's stamps is over: it is measured, and the next second begins (R387). -/
def State.rateMeasured (s : State) (cp : Fin 8) : State :=
  let x := s.cps[cp]
  if !x.running || s.sys.cyc < x.rateFrom + secCyc then s
  else
    let s1 := s.mapCp cp fun c => { c with rate := {}, rateFrom := c.rateFrom + secCyc }
    match s.deviation cp with
    | some d => s1.takeRate cp d
    | none => s1

/-- One port of a common start (R388). -/
def State.startPort (s : State) (n : Fin 8) : State :=
  ((s.mapCp n fun c =>
    { c with running := true, waiting := false, foreign := false, startAt := none, frame := 0, blockSeq := 0, smpCnt := 0,
             writing := false, sending := none, lostRun := false, lostFlag := false, measured := true, rate := {},
             rateFrom := s.sys.cyc }).causeEnds Flt.cpForeign n.val)

/-- CP_START_EXECUTE (R388): due at OS2's marker AT + M. -/
def execCpStartExecute (s : State) : Out :=
  let due := (List.finRange 8).filter fun n =>
    match s.cps[n].startAt with
    | some (at_, _) => decide ((at_ : Rat) * secFrac + s.mis 2 ≤ s.now)
    | none => false
  let cmds := (due.filterMap fun n => s.cps[n].startAt.map Prod.snd).dedup
  .next ((s.each due State.startPort).each cmds fun t id => t.complete id 0 [])

/-- CPn_RX_RD written by a host (R385, R389). -/
def State.writeCpRxRd (s : State) (hp : Fin 4) (n : Fin 8) (v : Word) : State :=
  if !s.may hp .converter then s.denied (0x7A0C + 0x20 * n.val)
  else
    let i := v.truncate 16
    if indexFits s.cps[n].rxWr i (s.cps[n].cfg.nat Ix.cpRxBlocks) then s.mapCp n fun c => { c with rxRd := i }
    else s.raise Flt.cpIndex n.val

/-- CP_RX_RD_WRITE (R385). -/
def execCpRxRdWrite (hp : Fin 4) (cp : Fin 8) (v : Word) (s : State) : Out := s.opened fun t => t.writeCpRxRd hp cp v

/-- CPn_TX_WR written by a host (R385, R389). -/
def State.writeCpTxWr (s : State) (hp : Fin 4) (n : Fin 8) (v : Word) : State :=
  if !s.may hp .converter then s.denied (0x7A10 + 0x20 * n.val)
  else
    let i : BitVec 16 := v.truncate 16
    if (i - s.cps[n].txRd).toNat ≤ s.cps[n].cfg.nat Ix.cpTxBlocks then s.mapCp n fun c => { c with txWr := i }
    else s.raise Flt.cpIndex (n.val + 16)

/-- CP_TX_WR_WRITE (R385). -/
def execCpTxWrWrite (hp : Fin 4) (cp : Fin 8) (v : Word) (s : State) : Out := s.opened fun t => t.writeCpTxWr hp cp v

end Sys2Proof.Machine
end

