-- ==== Sys2Proof/Machine/Frames.lean ====
section
/-! DEFINITION. Frames as octets in network order (R9): what classification reads from a received frame, and the headers, checksums, messages, TLVs and trailers of a frame that leaves (R69, R280, R283, R285, R287, R288, R303, R320, R325 to R327, R330, R331, R347, R354). Layouts that the spec takes from the published standards are those of log entry 50. -/

namespace Sys2Proof.Machine

/-! ### Octets -/

/-- A number as `n` octets. -/
def octs (n v : Nat) : List Byte := (netOctets n v).map (BitVec.ofNat 8)
/-- A signed number as `n` octets. -/
def octsInt (n : Nat) (v : Int) : List Byte := octs n (twos (8 * n) v)
/-- The number in the `n` octets from place `i` on. -/
def field (l : List Byte) (i n : Nat) : Nat := octetsNat ((l.drop i).take n)
/-- Octets written over those from place `i` on. -/
def putAt (l : List Byte) (i : Nat) (v : List Byte) : List Byte := l.take i ++ v ++ l.drop (i + v.length)
/-- Octets up to the next multiple of 4. -/
def pad4 (n : Nat) : Nat := (n + 3) / 4 * 4

/-- The FCS of an Ethernet frame as it follows the octets, the CRC's low octet first. -/
def fcsOf (l : List Byte) : List Byte := wordBytes (crc32 (l.map BitVec.toNat))
/-- The CRC-32 of a Balandou link frame as it follows the octets (R9, R209, R396). -/
def linkCrc (l : List Byte) : List Byte := octs 4 (crc32 (l.map BitVec.toNat)).toNat
/-- A frame without FCS padded to the shortest length that Ethernet carries. -/
def padded (l : List Byte) : List Byte := l ++ List.replicate (60 - l.length) 0

/-! ### Ethernet -/

/-- Whether a VLAN tag follows the addresses. -/
def tagged (l : List Byte) : Bool := field l 12 2 == 0x8100
/-- Octets of the Ethernet header with its tag. -/
def headLen (l : List Byte) : Nat := if tagged l then 18 else 14
/-- The EtherType behind the tag. -/
def typeOf (l : List Byte) : Nat := field l (headLen l - 2) 2

/-! ### IP -/

/-- The IP header fields that classification uses, and what follows the header (R304, R306). -/
structure IpInfo where
  v6 : Bool
  src : Nat
  dst : Nat
  proto : Nat
  sport : Nat
  dport : Nat
  data : List Byte
  deriving DecidableEq, Repr

/-- The IP packet behind an EtherType. A fragment that is not the first has no ports. -/
def ipOf (etherType : Nat) (l : List Byte) : Option IpInfo :=
  let v := field l 0 1
  let mk := fun (v6 : Bool) (src dst proto : Nat) (first : Bool) (b : List Byte) =>
    some (⟨v6, src, dst, proto, if first then field b 0 2 else 0, if first then field b 2 2 else 0, b⟩ : IpInfo)
  if etherType = 0x0800 && v / 16 = 4 && decide (5 ≤ v % 16) && decide (v % 16 * 4 ≤ l.length) then
    mk false (field l 12 4) (field l 16 4) (field l 9 1) (field l 6 2 % 8192 == 0) ((l.take (field l 2 2)).drop (v % 16 * 4))
  else if etherType = 0x86DD && v / 16 = 6 && decide (40 ≤ l.length) then
    mk true (field l 8 16) (field l 24 16) (field l 6 1) true ((l.drop 40).take (field l 4 2))
  else none

/-- The data of a UDP datagram. -/
def udpData (b : List Byte) : List Byte := (b.take (field b 4 2)).drop 8

/-- The sum of 16-bit words of octets. -/
def wordSum : List Byte → Nat
  | a :: b :: l => a.toNat * 256 + b.toNat + wordSum l
  | [a] => a.toNat * 256
  | [] => 0

/-- The Internet checksum: the complement of the one's complement sum. -/
def inetSum (l : List Byte) : Nat :=
  let n := wordSum l
  0xFFFF - (if n = 0 then 0 else (n - 1) % 0xFFFF + 1)

/-- The pseudo header of a transport's checksum. -/
def pseudoHead (v6 : Bool) (src dst proto len : Nat) : List Byte :=
  if v6 then octs 16 src ++ octs 16 dst ++ octs 4 len ++ octs 4 proto else octs 4 src ++ octs 4 dst ++ octs 2 proto ++ octs 2 len

/-- A checksum as UDP carries it: zero is sent as all ones. -/
def udpSum (n : Nat) : Nat := if n = 0 then 0xFFFF else n

/-- The IP header before a transport of so many octets. -/
def ipHeader (h : IpHead) (proto len : Nat) : List Byte :=
  let hop := Config.hopLimit.toNat
  if h.v6 then octs 4 (6 * 2 ^ 28 + h.dscp * 2 ^ 22) ++ octs 2 len ++ octs 1 proto ++ octs 1 hop ++ octs 16 h.src ++ octs 16 h.dst
  else
    let l := octs 1 0x45 ++ octs 1 (h.dscp * 4) ++ octs 2 (20 + len) ++ octs 2 h.ident ++ octs 2 0 ++ octs 1 hop ++ octs 1 proto ++ octs 2 0 ++
      octs 4 h.src ++ octs 4 h.dst
    putAt l 10 (octs 2 (inetSum l))

/-- A UDP datagram with its IP header. -/
def udpPacket (h : IpHead) (b : List Byte) : List Byte :=
  let n := b.length + 8
  let u := octs 2 h.sport ++ octs 2 h.dport ++ octs 2 n ++ octs 2 0 ++ b
  ipHeader h 17 n ++ putAt u 6 (octs 2 (udpSum (inetSum (pseudoHead h.v6 h.src h.dst 17 n ++ u))))

/-- A message in its envelope, without padding, RCT and FCS. -/
def Envelope.wrap (e : Envelope) (b : List Byte) : List Byte :=
  let ty := match e.ip with
    | some h => if h.v6 then 0x86DD else 0x0800
    | none => e.etherType
  octs 6 e.da ++ octs 6 e.sa ++ (match e.tag with
    | some t => octs 2 0x8100 ++ octs 2 t
    | none => []) ++ octs 2 ty ++ (match e.ip with
    | some h => udpPacket h b
    | none => b)

/-! ### Redundancy control trailer (R280, R284) -/

/-- A redundancy control trailer: SeqNr and LanId. -/
structure Rct where
  seq : Nat
  lan : Nat
  deriving DecidableEq, Repr

/-- LSDUsize of a frame whose octets, RCT included, number `n` after a header of `h`. -/
def lsduSize (n h : Nat) : Nat := (n - h) % 4096

/-- The RCT that a frame without FCS ends in, if its suffix and LSDUsize are those of one (R284). -/
def rctOf (l : List Byte) : Option Rct :=
  let t := l.drop (l.length - 6)
  if headLen l + 6 ≤ l.length && field t 4 2 == 0x88FB && field t 2 2 % 4096 == lsduSize l.length (headLen l) then
    some ⟨field t 0 2, field t 2 1 / 16⟩
  else none

/-- A frame with its RCT (R280). -/
def withRct (lan : Nat) (seq : BitVec 16) (l : List Byte) : List Byte :=
  let p := padded l
  p ++ octs 2 seq.toNat ++ octs 2 (lan * 4096 + lsduSize (p.length + 6) (headLen p)) ++ octs 2 0x88FB

/-! ### NTP (R320, R347) -/

/-- An extension field (R347): type, length of the whole field in octets, body. -/
structure NtpExt where
  ftype : Nat
  len : Nat
  body : List Byte
  deriving DecidableEq, Repr

/-- An NTP datagram (R320, R347). `fills` says that the extension fields fill the datagram exactly. -/
structure NtpReq where
  data : List Byte
  exts : List NtpExt
  fills : Bool
  deriving DecidableEq, Repr

/-- The extension fields of some octets, at most `n`, and whether they fill them. -/
def extFields : Nat → List Byte → List NtpExt × Bool
  | 0, l => ([], l.isEmpty)
  | n + 1, l =>
    let k := field l 2 2
    if l.isEmpty then ([], true)
    else if k < 4 || l.length < k then ([], false)
    else
      let r := extFields n (l.drop k)
      (⟨field l 0 2, k, (l.take k).drop 4⟩ :: r.1, r.2)

/-- A datagram as NTP. -/
def ntpOf (d : List Byte) : NtpReq :=
  let r := extFields d.length (d.drop 48)
  ⟨d, r.1, r.2⟩

/-- VN of a request. -/
def NtpReq.vn (q : NtpReq) : Nat := field q.data 0 1 / 8 % 8
/-- Mode. -/
def NtpReq.mode (q : NtpReq) : Nat := field q.data 0 1 % 8
/-- Poll. -/
def NtpReq.poll (q : NtpReq) : Nat := field q.data 2 1
/-- The transmit timestamp. -/
def NtpReq.xmt (q : NtpReq) : Nat := field q.data 40 8

/-- An extension field as octets. -/
def NtpExt.octets (x : NtpExt) : List Byte := octs 2 x.ftype ++ octs 2 x.len ++ x.body
/-- A field of a type with its body. -/
def extOf (t : Nat) (body : List Byte) : List Byte := (⟨t, 4 + body.length, body⟩ : NtpExt).octets

/-- The nonce in an authenticator's body (RFC 8915). -/
def authNonce (b : List Byte) : List Byte := (b.drop 4).take (field b 0 2)
/-- Its ciphertext, the SIV tag first. -/
def authSealed (b : List Byte) : List Byte := (b.drop (4 + pad4 (field b 0 2))).take (field b 2 2)
/-- Whether the body holds both whole. -/
def authWhole (b : List Byte) : Bool := decide (4 + pad4 (field b 0 2) + pad4 (field b 2 2) ≤ b.length)

/-! ### AES-SIV (R345, R346) -/

/-- Octets of a 128-bit value. -/
def octs16 (v : BitVec 128) : List Byte := octs 16 v.toNat

/-- The key stream of AES-SIV from its tag: bits 63 and 31 are cleared (R346). -/
def sivStream (k2 : List Byte) (v : BitVec 128) (p : List Byte) : List Byte :=
  let q := v &&& ~~~((1 : BitVec 128) <<< 63 ||| (1 : BitVec 128) <<< 31)
  p.mapIdx fun i b => b ^^^ Config.aesCtr k2 q i

/-- AES-SIV under a key whose halves are K1 and K2: the tag, then the encrypted text (R346). -/
def sivSeal (key ad nonce plain : List Byte) : List Byte :=
  let h := key.length / 2
  let v := Config.s2v (key.take h) [ad, nonce, plain]
  octs16 v ++ sivStream (key.drop h) v plain

/-- The text under a tag, if the tag is its own (R346). -/
def sivOpen (key ad nonce box : List Byte) : Option (List Byte) :=
  let h := key.length / 2
  let v := BitVec.ofNat 128 (field box 0 16)
  let p := sivStream (key.drop h) v (box.drop 16)
  if 16 ≤ box.length && Config.s2v (key.take h) [ad, nonce, p] == v then some p else none

/-- What a cookie's seal covers: KEY_ID and the AEAD identifier (R346). -/
def cookieAd (keyId : Nat) : List Byte := octs 4 keyId ++ octs 2 0x000F

/-- A cookie minted under a master key (R346). -/
def mintCookie (keyId : Nat) (key nonce c2s s2c : List Byte) : List Byte :=
  octs 4 keyId ++ nonce ++ sivSeal key (cookieAd keyId) nonce (c2s ++ s2c)

/-- A cookie opened under a master key: C2S and S2C (R346). -/
def openWith (key cookie : List Byte) : Option (List Byte × List Byte) :=
  (sivOpen key (cookieAd (field cookie 0 4)) ((cookie.drop 4).take 16) (cookie.drop 20)).map fun p => (p.take 32, p.drop 32)

/-! ### PTP (R322 to R327, R354) -/

/-- A TLV of a message: its type, value, and the place of the octet after it. -/
structure Tlv where
  ttype : Nat
  value : List Byte
  stop : Nat
  deriving DecidableEq, Repr

/-- The TLVs of a message from place `i` on, at most `n`. -/
def tlvsFrom (m : List Byte) : Nat → Nat → List Tlv
  | 0, _ => []
  | n + 1, i =>
    let k := field m (i + 2) 2
    if m.length < i + 4 + k then [] else ⟨field m i 2, (m.drop (i + 4)).take k, i + 4 + k⟩ :: tlvsFrom m n (i + 4 + k)

/-- An AUTHENTICATION TLV as received (R354, R356): `covered` holds the octets that its ICV covers (R355). -/
structure AuthTlv where
  spp : Nat
  indicator : Byte
  keyId : Nat
  len : Nat
  iv : Nat
  icv : BitVec 128
  covered : List Byte
  deriving DecidableEq, Repr

/-- The octets after its lengthField by algorithm (R354). -/
def authLen (alg : Nat) : Nat := if alg = 0 then 22 else 34

/-- The AUTHENTICATION TLV among some. -/
def authTlv (m : List Byte) (l : List Tlv) : Option AuthTlv :=
  (l.find? (·.ttype == 0x8009)).map fun t =>
    let v := t.value
    ⟨field v 0 1, BitVec.ofNat 8 (field v 1 1), field v 2 4, v.length, if v.length = 34 then field v 6 12 else 0,
      BitVec.ofNat 128 (field v (v.length - 16) 16), m.take (t.stop - 16)⟩

/-- A unicast TLV of a Signaling message (R327): a request, or a cancel. -/
structure UniTlv where
  cancel : Bool
  msgType : Nat
  logPeriod : Int
  duration : Nat
  deriving DecidableEq, Repr

/-- The unicast TLV that a TLV is, if it is one. -/
def uniTlvOf (t : Tlv) : Option UniTlv :=
  if t.ttype = 0x0004 && decide (6 ≤ t.value.length) then
    some ⟨false, field t.value 0 1 / 16, signedOf 8 (field t.value 1 1), field t.value 2 4⟩
  else if t.ttype = 0x0006 && decide (1 ≤ t.value.length) then some ⟨true, field t.value 0 1 / 16, 0, 0⟩
  else none

/-- The PTP message kinds that the engine handles (R126, R322, R326, R327). An Announce keeps its organization extensions: organizationId, organizationSubType, and the four octets after them. -/
inductive PtpKind where
  | announce (gmId : Nat) (cls acc variance prio1 prio2 steps : Nat) (orgs : List (Nat × Nat × Nat))
  | sync (twoStep : Bool) (origin : Int)
  | followUp (origin : Int)
  | delayReq
  | delayResp (receive : Int) (toId toPort : Nat)
  | pdelayReq
  | signaling (tlvs : List UniTlv)
  | other
  deriving DecidableEq, Repr

/-- A PTP message (R322 to R327). Times are in 2^-16 ns. -/
structure PtpMsg where
  kind : PtpKind
  domain : Nat
  sdoId : Nat
  sourceId : Nat
  sourcePort : Nat
  seq : Nat
  corr : Int
  auth : Option AuthTlv
  deriving DecidableEq, Repr

/-- A PTP timestamp in 2^-16 ns. -/
def stampField (m : List Byte) (i : Nat) : Int := (field m i 6 : Int) * secFrac + (field m (i + 6) 4 : Int) * 65536

/-- Octets of a message before its TLVs, by messageType. -/
def bodyEnd (ty : Nat) : Nat :=
  match ty with
  | 0x0 => 44
  | 0x1 => 44
  | 0x2 => 54
  | 0x3 => 54
  | 0x8 => 44
  | 0x9 => 54
  | 0xA => 54
  | 0xB => 64
  | 0xC => 44
  | _ => 48

/-- What a message of a type says. -/
def ptpKindOf (ty : Nat) (m : List Byte) (l : List Tlv) : PtpKind :=
  match ty with
  | 0x0 => .sync (bitAt (field m 6 1) 1) (stampField m 34)
  | 0x1 => .delayReq
  | 0x2 => .pdelayReq
  | 0x8 => .followUp (stampField m 34)
  | 0x9 => .delayResp (stampField m 34) (field m 44 8) (field m 52 2)
  | 0xB => .announce (field m 53 8) (field m 48 1) (field m 49 1) (field m 50 2) (field m 47 1) (field m 52 1) (field m 61 2)
      ((l.filter fun t => t.ttype == 0x0003 && decide (10 ≤ t.value.length)).map fun t => (field t.value 0 3, field t.value 3 3, field t.value 6 4))
  | 0xC => .signaling (l.filterMap uniTlvOf)
  | _ => .other

/-- The PTP message in some octets: version 2, whole, and long enough for its type. -/
def ptpOf (d : List Byte) : Option PtpMsg :=
  let n := field d 2 2
  let m := d.take n
  let ty := field m 0 1 % 16
  let l := tlvsFrom m m.length (bodyEnd ty)
  if field d 1 1 % 16 == 2 && decide (n ≤ d.length) && decide (bodyEnd ty ≤ n) then
    some ⟨ptpKindOf ty m l, field m 4 1, field m 0 1 / 16, field m 20 8, field m 28 2, field m 30 2, signedOf 64 (field m 8 8), authTlv m l⟩
  else none

/-- Octets that a signature adds to a message (R354). -/
def Sign.octets (k : Sign) : Nat := authLen k.alg + 4

/-- A message with its AUTHENTICATION TLV, the ICV over all that stands before it (R354, R355). -/
def Sign.close (k : Sign) (m : List Byte) : List Byte :=
  let c := m ++ octs 2 0x8009 ++ octs 2 (authLen k.alg) ++ octs 1 k.spp ++ (if k.alg = 1 then [Config.resAnnounced] else [0]) ++ octs 4 k.keyId ++
    (if k.alg = 1 then octs 12 k.iv else [])
  c ++ octs16 (Config.mac k.alg k.key k.iv c)

/-- The controlField of a messageType (IEEE 1588). -/
def controlOf (ty : Nat) : Nat :=
  match ty with
  | 0x0 => 0
  | 0x1 => 1
  | 0x8 => 2
  | 0x9 => 3
  | _ => 5

/-- A message: its header, what follows it, and the AUTHENTICATION TLV of a signed one, which messageLength counts (R326, R355). -/
def PtpHead.message (h : PtpHead) (rest : List Byte) (k : Option Sign) : List Byte :=
  let n := 34 + rest.length + (k.map Sign.octets).getD 0
  let m := octs 1 h.msgType ++ octs 1 0x12 ++ octs 2 n ++ octs 1 h.domain ++ octs 1 0 ++ octs 2 h.flags ++ octsInt 8 h.corr ++ octs 4 0 ++
    octs 8 h.clockId ++ octs 2 h.port ++ octs 2 h.seq ++ octs 1 (controlOf h.msgType) ++ octsInt 1 h.logInterval ++ rest
  match k with
  | some x => x.close m
  | none => m

/-- Whole seconds and nanoseconds of a time as a PTP timestamp (R326). -/
def stampOctets (t : Int) : List Byte := octs 6 (tsSec t) ++ octs 4 (tsNs t)
/-- An organization extension TLV. -/
def orgTlv (org sub : Nat) (data : List Byte) : List Byte := octs 2 0x0003 ++ octs 2 (6 + data.length) ++ octs 3 org ++ octs 3 sub ++ data

/-- An Announce built with its BOUND (R69). -/
def Fresh.octets (x : Fresh) (b : Word) : List Byte := x.env.wrap (x.head.message (putAt x.rest x.boundAt (octs 4 b.toNat)) x.sign)

/-! ### Addresses and other frames (R283, R330, R331) -/

/-- Octets of an ARP packet: the operation, the sender's and the target's addresses. -/
def arpOctets (op sha spa tha tpa : Nat) : List Byte :=
  octs 2 1 ++ octs 2 0x0800 ++ octs 1 6 ++ octs 1 4 ++ octs 2 op ++ octs 6 sha ++ octs 4 spa ++ octs 6 tha ++ octs 4 tpa

/-- An IPv6 packet with a Neighbor Advertisement whose S and O flags are set (R330). -/
def advertisement (src dst target mac : Nat) : List Byte :=
  let b := octs 1 136 ++ octs 1 0 ++ octs 2 0 ++ octs 4 0x60000000 ++ octs 16 target ++ octs 1 2 ++ octs 1 1 ++ octs 6 mac
  let h := octs 4 (6 * 2 ^ 28) ++ octs 2 b.length ++ octs 1 58 ++ octs 1 255 ++ octs 16 src ++ octs 16 dst
  h ++ putAt b 2 (octs 2 (inetSum (pseudoHead true src dst 58 b.length ++ b)))

/-- An ESMC PDU of G.8264 without extended TLVs (R331). -/
def esmcOctets (event : Bool) (ssm : Nat) : List Byte :=
  octs 1 0x0A ++ octs 3 0x0019A7 ++ octs 2 1 ++ octs 1 (0x10 + 8 * b2n event) ++ octs 3 0 ++ octs 1 1 ++ octs 2 4 ++ octs 1 (ssm % 16)

/-- A PRP supervision frame's payload (R283): the version, the supervision sequence number, the duplicate-discard TLV with the pair's MAC, and the end of the TLVs. -/
def supervisionOctets (seq mac : Nat) : List Byte :=
  octs 2 1 ++ octs 2 seq ++ octs 1 20 ++ octs 1 6 ++ octs 6 mac ++ octs 2 0

/-! ### Segments of a host send (R287, R288) -/

/-- Whether a header is of the form of R287: Ethernet with at most one tag, IPv4 or IPv6, and UDP or TCP, and nothing after them. -/
def segmentable (h : List Byte) : Bool :=
  let l3 := headLen h
  let v := field h l3 1
  let l4 := l3 + (if typeOf h = 0x0800 then v % 16 * 4 else 40)
  let proto := if typeOf h = 0x0800 then field h (l3 + 9) 1 else field h (l3 + 6) 1
  ((typeOf h == 0x0800 && v / 16 == 4 && decide (5 ≤ v % 16)) || (typeOf h == 0x86DD && v / 16 == 6)) &&
    ((proto == 17 && l4 + 8 == h.length) || (proto == 6 && decide (20 ≤ field h (l4 + 12) 1 / 16 * 4) && l4 + field h (l4 + 12) 1 / 16 * 4 == h.length))

/-- Segment j of a send: its header with the fields of R288 changed, then its data. -/
def segment (h : List Byte) (mss j : Nat) (last : Bool) (data : List Byte) : List Byte :=
  let l3 := headLen h
  let v4 := typeOf h == 0x0800
  let l4 := l3 + (if v4 then field h l3 1 % 16 * 4 else 40)
  let proto := if v4 then field h (l3 + 9) 1 else field h (l3 + 6) 1
  let n := h.length - l3 + data.length
  let h1 := if v4 then putAt (putAt (putAt h (l3 + 2) (octs 2 n)) (l3 + 4) (octs 2 ((field h (l3 + 4) 2 + j) % 65536))) (l3 + 10) (octs 2 0)
    else putAt h (l3 + 4) (octs 2 (n - 40))
  let h2 := if v4 then putAt h1 (l3 + 10) (octs 2 (inetSum ((h1.take l4).drop l3))) else h1
  let tl := h.length - l4 + data.length
  let src := if v4 then field h (l3 + 12) 4 else field h (l3 + 8) 16
  let dst := if v4 then field h (l3 + 16) 4 else field h (l3 + 24) 16
  let sum := fun x : List Byte => inetSum (pseudoHead (!v4) src dst proto tl ++ x.drop l4 ++ data)
  if proto = 17 then
    let h3 := putAt (putAt h2 (l4 + 4) (octs 2 tl)) (l4 + 6) (octs 2 0)
    putAt h3 (l4 + 6) (octs 2 (udpSum (sum h3))) ++ data
  else
    let flags := BitVec.ofNat 8 (field h (l4 + 13) 1)
    let h3 := putAt (putAt (putAt h2 (l4 + 4) (octs 4 ((field h (l4 + 4) 4 + j * mss) % 2 ^ 32))) (l4 + 13) [if last then flags else flags &&& 0xF6#8])
      (l4 + 16) (octs 2 0)
    putAt h3 (l4 + 16) (octs 2 (sum h3)) ++ data

/-- The segments of a send: the payload cut into MSS octets, the last the remainder (R287). -/
def segmentsOf (l : List Byte) (hdr mss : Nat) : List (List Byte) :=
  let h := l.take hdr
  let d := l.drop hdr
  let n := (d.length + mss - 1) / mss
  (List.range n).map fun j => segment h mss j (j + 1 == n) ((d.drop (j * mss)).take mss)

end Sys2Proof.Machine

namespace Sys2Proof

/-! ### Received frames (R273 to R285, R303, R304) -/

/-- Octets from the destination address through the FCS. -/
def RxFrame.len (f : RxFrame) : Nat := f.octets.length
/-- The frame without its FCS. -/
def RxFrame.bare (f : RxFrame) : List Byte := f.octets.take (f.len - 4)
/-- The destination address. -/
def RxFrame.da (f : RxFrame) : Nat := Machine.field f.octets 0 6
/-- The source address. -/
def RxFrame.sa (f : RxFrame) : Nat := Machine.field f.octets 6 6
/-- The VID of its tag, if it has one. -/
def RxFrame.vlan (f : RxFrame) : Option Nat := if Machine.tagged f.octets then some (Machine.field f.octets 14 2 % 4096) else none
/-- The EtherType behind the tag. -/
def RxFrame.etherType (f : RxFrame) : Nat := Machine.typeOf f.octets
/-- Whether the FCS fails. -/
def RxFrame.fcsErr (f : RxFrame) : Bool := f.octets.drop (f.len - 4) != Machine.fcsOf f.bare
/-- Its RCT, if it is valid (R284). -/
def RxFrame.rct (f : RxFrame) : Option Machine.Rct := Machine.rctOf f.bare
/-- What follows the Ethernet header. -/
def RxFrame.lsdu (f : RxFrame) : List Byte := f.bare.drop (Machine.headLen f.octets)
/-- Its IP packet, if it carries one. -/
def RxFrame.ip (f : RxFrame) : Option Machine.IpInfo := Machine.ipOf f.etherType f.lsdu

/-! ### Frames of the Balandou link (R396, R397, R404) -/

/-- Whether the CRC-32 at the end of a link frame is good. -/
def linkGood (l : List Byte) : Bool := decide (4 ≤ l.length) && l.drop (l.length - 4) == Machine.linkCrc (l.take (l.length - 4))

/-- The octets that a heartbeat's ICV covers. -/
def Heartbeat.covered (h : Heartbeat) : List Byte := h.octets.take 28
/-- ICV. -/
def Heartbeat.icv (h : Heartbeat) : BitVec 128 := BitVec.ofNat 128 (Machine.field h.octets 28 16)
/-- UNIT_ID. -/
def Heartbeat.unitId (h : Heartbeat) : Nat := Machine.field h.octets 1 1 % 2
/-- MODE. -/
def Heartbeat.mode (h : Heartbeat) : Bool := bitAt (Machine.field h.octets 1 1) 1
/-- The role, as R392 numbers it. -/
def Heartbeat.role (h : Heartbeat) : Nat := bitsOf (Machine.field h.octets 1 1) 4 2
/-- STATE. -/
def Heartbeat.state (h : Heartbeat) : Nat := Machine.field h.octets 2 1 % 8
/-- FLAGS [4:0]. -/
def Heartbeat.flags (h : Heartbeat) : Nat := Machine.field h.octets 3 1 % 32
/-- RELEASE. -/
def Heartbeat.release (h : Heartbeat) : Bool := bitAt h.flags 0
/-- HANDOVER. -/
def Heartbeat.handover (h : Heartbeat) : Bool := bitAt h.flags 1
/-- EPOCH. -/
def Heartbeat.epoch (h : Heartbeat) : Nat := Machine.field h.octets 4 4
/-- HB_SEQ. -/
def Heartbeat.seq (h : Heartbeat) : Nat := Machine.field h.octets 8 4
/-- BOUND. -/
def Heartbeat.bound (h : Heartbeat) : Nat := Machine.field h.octets 12 4
/-- SEC and NS as a time in 2^-16 ns. -/
def Heartbeat.time (h : Heartbeat) : Int :=
  (Machine.field h.octets 16 6 : Int) * Machine.secFrac + (Machine.field h.octets 22 4 % 2 ^ 30 : Nat) * 65536
/-- Whether its CRC is good on the link, or the port has passed its FCS, and it has the length of R404. -/
def Heartbeat.good (h : Heartbeat) (net : Bool) : Bool :=
  if net then h.octets.length == 44 else h.octets.length == 48 && linkGood h.octets

/-- Whether a TT frame carries the peer's stamps of the previous exchange. -/
def TtFrame.complete (f : TtFrame) : Bool := f.octets.length == 28
/-- A stamp in a TT frame, in 2^-16 ns: seconds, nanoseconds and FRAC from place `i` on. -/
def TtFrame.stampFrom (f : TtFrame) (i : Nat) : Int :=
  (Machine.field f.octets i 6 : Int) * Machine.secFrac + (Machine.field f.octets (i + 6) 4 : Int) * 65536 + Machine.field f.octets (i + 10) 2
/-- The peer's departure in the previous exchange. -/
def TtFrame.peerDepart (f : TtFrame) : Int := f.stampFrom 0
/-- The peer's arrival in the previous exchange. -/
def TtFrame.peerArrive (f : TtFrame) : Int := f.stampFrom 12

end Sys2Proof

namespace Sys2Proof.Machine

/-- A stamp as a TT frame carries it: seconds, nanoseconds and FRAC. -/
def ttStamp (t : Int) : List Byte := stampOctets t ++ octs 2 (tsFrac t)

/-- What a frame carries above Ethernet and IP (R303). -/
inductive Payload where
  | ntp (q : NtpReq)
  | ptp (m : PtpMsg)
  | arpRequest (sender senderIp target : Nat)
  | neighborSolicit (target : Nat)
  | esmc (info : Bool) (ssm : Fin 16)
  | data
  deriving DecidableEq, Repr

/-- The octets of a PTP message in a frame: behind EtherType 0x88F7, or in a UDP datagram to port 319 or 320 (R285). -/
def ptpPart (ty : Nat) (l : List Byte) : Option (List Byte) :=
  if ty = 0x88F7 then some l
  else match ipOf ty l with
    | some h => if h.proto == 17 && (h.dport == 319 || h.dport == 320) then some (udpData h.data) else none
    | none => none

/-- Whether a frame without FCS is a PTP frame (R285). -/
def isPtp (l : List Byte) : Bool := (ptpPart (typeOf l) (l.drop (headLen l))).isSome

/-- What an IP packet carries for the engine. -/
def ipPayload (h : IpInfo) : Payload :=
  if h.proto = 17 && h.dport = 123 then .ntp (ntpOf (udpData h.data))
  else if h.v6 && h.proto = 58 && field h.data 0 1 = 135 && decide (24 ≤ h.data.length) then .neighborSolicit (field h.data 8 16)
  else .data

/-- What a frame's octets behind the Ethernet header carry (R303). -/
def payloadOf (ty : Nat) (l : List Byte) : Payload :=
  match ptpPart ty l with
  | some d => ((ptpOf d).map Payload.ptp).getD .data
  | none =>
    if ty = 0x0806 && field l 0 8 = 0x0001080006040001 then .arpRequest (field l 8 6) (field l 14 4) (field l 24 4)
    else if ty = 0x8809 && field l 0 1 = 0x0A then .esmc (!bitAt (field l 6 1) 3) (Fin.ofNat 16 (field l 13 1))
    else ((ipOf ty l).map ipPayload).getD .data

/-- What a received frame carries. -/
def payloadIn (f : RxFrame) : Payload := payloadOf f.etherType f.lsdu

end Sys2Proof.Machine
end

