-- ==== Sys2Proof/Machine/Ports.lean ====
section
/-! DEFINITION. Ethernet ports and PRP: filtering, statistics, duplicate discard, links, transmit stamps, transmission and the reservation of launch instants (R266 to R297, R315 to R318). -/

namespace Sys2Proof.Machine

/-! ### Pairs and addresses (R267, R268, R275) -/

/-- The pair of a port. -/
def pairOf (p : Fin 8) : Fin 4 := ⟨p.val / 2, by omega⟩
/-- LAN A of a pair. -/
def lanA (q : Fin 4) : Fin 8 := ⟨2 * q.val, by omega⟩
/-- LAN B of a pair. -/
def lanB (q : Fin 4) : Fin 8 := ⟨2 * q.val + 1, by omega⟩
/-- The other port of a port's pair. -/
def partnerPort (p : Fin 8) : Fin 8 := if p.val % 2 = 0 then lanB (pairOf p) else lanA (pairOf p)
/-- LanId of a port of a pair (R280). -/
def lanNibble (p : Fin 8) : Nat := if p.val % 2 = 0 then 0xA else 0xB
/-- Whether a port's pair has PRP on. -/
def State.prpOn (s : State) (p : Fin 8) : Bool := s.pairs[pairOf p].cfg.flag Ix.prpOn
/-- The ports on which a frame of port `p` leaves (R280, R281). -/
def State.portsFor (s : State) (p : Fin 8) : List (Fin 8) :=
  if s.prpOn p then [lanA (pairOf p), lanB (pairOf p)] else [p]
/-- The MAC that a port transmits with (R268). -/
def State.portMac (s : State) (p : Fin 8) : Nat :=
  if s.prpOn p then s.ports[lanA (pairOf p)].cfg.nat Ix.portMac else s.ports[p].cfg.nat Ix.portMac

/-- The Ethernet group address of an IPv4 or IPv6 group or solicited node. -/
def ipv6Group (a : Nat) : Nat := 0x333300000000 + a % 2 ^ 32
/-- The solicited-node group of an IPv6 address. -/
def solicitedGroup (a : Nat) : Nat := 0x3333FF000000 + a % 2 ^ 24

/-- The modified EUI-64 link-local address of a port (R330). -/
def linkLocal (mac : Nat) : Nat :=
  0xFE80 * 2 ^ 112 + ((mac / 2 ^ 24 ^^^ 0x020000) * 2 ^ 40 + 0xFFFE000000 + mac % 2 ^ 24)

/-- IPv4 addresses of an instance (R310). -/
def Inst.ipv4 (x : Inst) : List Nat := (List.range (x.cfg.nat Ix.instIpv4Count)).map fun j => x.cfg.nat (Ix.instIpv4 + j)
/-- IPv6 addresses of an instance. -/
def Inst.ipv6 (x : Inst) : List Nat := (List.range (x.cfg.nat Ix.instIpv6Count)).map fun j => x.cfg.nat (Ix.instIpv6 + j)

/-- Whether an instance is in service on a port. -/
def Inst.serves (x : Inst) (p : Fin 8) : Bool := x.cfg.flag Ix.instEnable && bitAt (x.cfg.nat Ix.instPortMask) p.val

/-- Multicast groups of an instance as Ethernet addresses: the IP groups of R323, and the solicited-node groups of its IPv6 addresses (R330). -/
def Inst.groupsOf (x : Inst) : List Nat :=
  let ptp := if x.cfg.flag Ix.instService then
      match x.cfg.nat Ix.instTransport with
      | 1 => [0x01005E000181, 0x01005E00006B]
      | 2 => [ipv6Group 0x00000181, ipv6Group 0x0000006B]
      | _ => []
    else []
  ptp ++ x.ipv6.map solicitedGroup

/-- Whether a port accepts a destination address (R268, R275); the ports of HB_PAIR accept HB_GROUP (R394). -/
def State.acceptsDa (s : State) (p : Fin 8) (da : Nat) : Bool :=
  let c := s.ports[p].cfg
  da == c.nat Ix.portMac || da == s.portMac p || da == 0xFFFFFFFFFFFF || da == 0x011B19000000 || da == 0x0180C200000E ||
    da == 0x0180C2000002 || da == 0x01154E000100 || da == solicitedGroup (linkLocal (s.portMac p)) ||
    (s.sys.straps.twinEn && da != 0 && da == s.twin.cfg.nat Ix.twinHbGroup && (pairOf p).val == s.twin.cfg.nat Ix.twinHbPair) ||
    ((List.range (c.nat Ix.portMcastCount)).any fun j => c.nat (Ix.portMcast + j) == da) ||
    (List.finRange 16).any fun i => s.svc.inst[i].serves p && s.svc.inst[i].groupsOf.contains da

/-! ### Statistics (R278, R279) -/

/-- Counter `i` of a port advances by `n`; a change of its bit 47 sets HALF on every host port (R278, R279). -/
def State.portCount (s : State) (p : Fin 8) (i : Fin 45) (n : Nat) : State :=
  let old := s.ports[p].counters[i]
  let new := old + BitVec.ofNat 48 n
  let s1 := s.mapPort p fun x => { x with counters := x.counters.set i new }
  if old.getLsbD 47 = new.getLsbD 47 then s1
  else
    s1.each allHosts fun t h =>
      let was := t.hosts[h].half.toList.any (· != 0)
      let t1 := t.mapHost h fun y => { y with half := y.half.set p (y.half[p] ||| BitVec.ofNat 45 (2 ^ i.val)) }
      if was then t1 else t1.hwLevelRise h 4

/-- The place of a frame's length among the seven size bins (R278). -/
def sizeBin (len : Nat) : Nat :=
  if len ≤ 64 then 0 else if len ≤ 127 then 1 else if len ≤ 255 then 2 else if len ≤ 511 then 3
  else if len ≤ 1023 then 4 else if len ≤ 1518 then 5 else 6

/-- Address types: 0 unicast, 1 multicast, 2 broadcast. -/
def castOf (da : Nat) : Nat := if da = 0xFFFFFFFFFFFF then 2 else if bitAt da 40 then 1 else 0

/-- A fault of a port that is raised at most once in a time: the CYC of the last, and the lens that holds it. -/
def State.portFault (s : State) (p : Fin 8) (last : Option Nat) (k : FaultKind) (keep : Port → Option Nat → Port) : State :=
  if s.spaced last secCyc then (s.mapPort p fun x => keep x (some s.sys.cyc)).raise k p.val else s

/-! ### Duplicate discard (R284, R285) -/


/-- What the discard table does with a sequence number: the new entry, the verdict and the counter it advances. -/
def PrpEntry.take (e : PrpEntry) (seq now : Nat) : PrpEntry × Bool × Option (Fin 45) :=
  let d := (e.top + 65536 - seq) % 65536
  let keep := fun top : Nat => e.seen.filter fun q => (top + 65536 - q) % 65536 < 2048
  if d < 2048 then
    if e.seen.contains seq then ({ e with last := now }, false, some 21)
    else ({ e with seen := seq :: e.seen, last := now }, true, none)
  else if 32768 ≤ d then ({ e with top := seq, seen := seq :: keep seq, last := now }, true, none)
  else ({ e with top := seq, seen := [seq], last := now }, true, some 23)

/-- The discard table of a pair handles a frame with a valid trailer (R284): whether it is delivered. -/
def State.prpDiscard (s : State) (p : Fin 8) (f : RxFrame) (r : Rct) : State × Bool :=
  let q := pairOf p
  let wrong := r.lan != lanNibble p
  let s1 := if wrong then
      (s.portCount p 22 1).portFault p s.ports[p].wrongLanAt Flt.prpWrongLan fun x c => { x with wrongLanAt := c }
    else s
  let t := s1.pairs[q]
  match t.entries.find? (·.source == f.sa) with
  | none =>
    if 4096 ≤ t.entries.length then
      let s2 := s1.portCount p 24 1
      let s3 := if s2.spaced t.fullAt secCyc then
          (s2.mapPair q fun y => { y with fullAt := some s2.sys.cyc }).raise Flt.prpTableFull q.val else s2
      (s3, true)
    else (s1.mapPair q fun y => { y with entries := ⟨f.sa, r.seq, [r.seq], s.sys.cyc⟩ :: y.entries }, true)
  | some e =>
    let v := e.take r.seq s.sys.cyc
    let s2 := s1.mapPair q fun y => { y with entries := v.1 :: y.entries.filter (·.source != f.sa) }
    let s3 := match v.2.2 with
      | some i => s2.portCount p i 1
      | none => s2
    (s3, v.2.1)

/-! ### Reception (R276, R277) -/

/-- Octets that wait in a port's receive buffer. -/
def Port.rxFill (x : Port) : Nat := (x.rxBuf.map RxFrame.len).sum

/-- The counter of R276 under which a frame is dropped, if it is. -/
def State.dropReason (s : State) (p : Fin 8) (f : RxFrame) : Option (Fin 45) :=
  let x := s.ports[p]
  let most := x.cfg.nat Ix.portMaxLen + (if s.prpOn p then 6 else 0)
  if f.pcsErr then some 17
  else if f.fcsErr then some (if f.len < 64 then 15 else 13)
  else if f.len < 64 then some 14
  else if most < f.len then some 16
  else if !s.acceptsDa p f.da then some 18
  else if f.etherType = 0x8808 then some 19
  else if 262144 < x.rxFill + f.len then some 20
  else none

/-- The FEC and block counters that come with a frame (R278, R297). -/
def State.lineCounts (s : State) (p : Fin 8) (f : RxFrame) : State :=
  let s1 := if f.fecCorrected = 0 then s else s.portCount p 25 f.fecCorrected
  let s2 := if f.fecLost = 0 then s1
    else (s1.portCount p 26 f.fecLost).portFault p s1.ports[p].fecAt Flt.fecUncorr fun x c => { x with fecAt := c }
  if f.blockErr = 0 then s2 else s2.portCount p 27 f.blockErr

/-- An accepted frame is counted (R278, R511). -/
def State.countRx (s : State) (p : Fin 8) (f : RxFrame) : State :=
  let s1 := (s.portCount p 0 1).portCount p 1 f.len
  let s2 := s1.portCount p (Fin.ofNat 45 (2 + castOf f.da)) 1
  let s3 := if f.vlan.isSome then s2.portCount p 5 1 else s2
  let s4 := s3.portCount p (Fin.ofNat 45 (6 + sizeBin f.len)) 1
  { s4 with perf.rxOctets := upd s4.perf.rxOctets p (· + f.len) }

/-- A frame with its arrival at the connector: the ball's stamp less RX_COMP (R273). -/
def State.atPlane (s : State) (p : Fin 8) (f : RxFrame) : RxFrame :=
  { f with arrival := Stamp.ofSteps (f.arrival.steps - s.ports[p].cfg.nat Ix.portRxComp) }

/-- FRAME_RECEIVE (R273, R276): filtering, counters, the PRP unit, and the receive buffer. -/
def execFrameReceive (port : Fin 8) (f : RxFrame) (s : State) : Out :=
  if !s.ports[port].linkUp then .next s
  else
    let s1 := s.lineCounts port f
    match s1.dropReason port f with
    | some i =>
      let s2 := s1.portCount port i 1
      .next (if i = 20 then s2.portFault port s2.ports[port].overloadAt Flt.rxOverload fun x c => { x with overloadAt := c } else s2)
    | none =>
      let s2 := s1.countRx port f
      let put := fun t : State => t.mapPort port fun x => { x with rxBuf := x.rxBuf ++ [s.atPlane port f] }
      match f.rct with
      | none => .next (put s2)
      | some r =>
        if !s2.prpOn port || isPtp f.bare then .next (put s2)
        else
          let v := s2.prpDiscard port f r
          .next (if v.2 then put v.1 else v.1)

/-- PRP_ENTRY_FORGET (R284): an entry idle for ENTRY_FORGET. -/
def execPrpEntryForget (pair : Fin 4) (source : Nat) (s : State) : Out :=
  let t := s.pairs[pair]
  let idle := t.cfg.nat Ix.prpEntryForget * msCyc
  .next (s.mapPair pair fun y =>
    { y with entries := y.entries.filter fun e => !(e.source == source && s.lapsed (e.last + idle)) })

/-! ### Transmission (R272, R280, R286, R290) -/

/-- Kinds of frames in the model's record of what a port sends. -/
abbrev Kind.ntp : Nat := 1
abbrev Kind.announce : Nat := 2
abbrev Kind.sync : Nat := 3
abbrev Kind.followUp : Nat := 4
abbrev Kind.delayResp : Nat := 5
abbrev Kind.pdelayResp : Nat := 6
abbrev Kind.pdelayFollowUp : Nat := 7
abbrev Kind.signaling : Nat := 8
abbrev Kind.arp : Nat := 9
abbrev Kind.neighbour : Nat := 10
abbrev Kind.esmc : Nat := 11
abbrev Kind.supervision : Nat := 12
abbrev Kind.host : Nat := 13
abbrev Kind.delayReq : Nat := 14

/-- Octets from the destination address through the FCS (R278, R290). -/
def TxFrame.len (f : TxFrame) : Nat := f.octets.length + 4

/-- A frame enters a port's transmit buffer, or is discarded while the link is down (R271, R282). With no MAC of its own a port sends only what carries a source address (R266). -/
def State.queueFrame (s : State) (p : Fin 8) (f : TxFrame) : State :=
  if s.ports[p].linkUp && (f.kind == Kind.host || field f.octets 6 6 != 0) then s.mapPort p fun x => { x with txBuf := x.txBuf ++ [f] } else s

/-- A frame is sent on a port; on a PRP pair on both ports, with a trailer of the next SeqNr, unless it is a PTP frame, which belongs to one LAN (R280, R282, R285). -/
def State.sendFrame (s : State) (p : Fin 8) (f : TxFrame) : State :=
  if !s.prpOn p || isPtp f.octets then s.queueFrame p { f with octets := padded f.octets }
  else
    let q := pairOf p
    let copy := fun r : Fin 8 => ({ f with rct := true, octets := withRct (lanNibble r) s.pairs[q].seqNr f.octets } : TxFrame)
    ((s.queueFrame (lanA q) (copy (lanA q))).queueFrame (lanB q) (copy (lanB q))).mapPair q fun y => { y with seqNr := y.seqNr + 1 }

/-- The length that a frame will have on the wire when it leaves through a port (R278, R280). -/
def State.wireLen (s : State) (p : Fin 8) (l : List Byte) : Nat :=
  max 60 l.length + (if s.prpOn p && !isPtp l then 6 else 0) + 4

/-- One bit in FINE steps at the port's speed (R315). -/
def Port.bit (x : Port) : Rat :=
  match x.cfg.nat Ix.portSpeed with
  | 0 => 32 / 5
  | 1 => 128 / 5
  | _ => 64

/-- The largest gap between legal slots in FINE steps (R273, R274). -/
def Port.slotGap (x : Port) : Nat :=
  match x.cfg.nat Ix.portSpeed with
  | 0 => if x.cfg.flag Ix.portFec then 10496 else 8602
  | 1 => 1639
  | _ => 4096

/-- The launches that a port has reserved, in its transmit buffer and for work in hand, as FINE steps and octets (R316). -/
def State.reserved (s : State) (p : Fin 8) : List (Nat × Nat) :=
  (s.ports[p].txBuf.filterMap fun f => f.slot.map fun l => (l, f.len)) ++
    (s.svc.squall.toList.flatMap fun e => e.work.filterMap fun w =>
      if w.port == p || ((s.portsFor w.port).contains p && !(w.ready.any fun f => isPtp f.octets)) then
        w.slot.map fun l => (l, ((w.ready.head?.map fun f => s.wireLen w.port f.octets).getD 64))
      else none)

/-- FINE steps from the SFD of a frame to the first SFD that its inter-packet gap lets follow (R272, R315). -/
def Port.span (x : Port) (len : Nat) : Nat := (x.bit * ((160 + 8 * len : Nat) : Rat)).ceil.toNat

/-- Whether a frame of `len` octets fits at `l` among the reserved ones (R316). -/
def State.launchFits (s : State) (p : Fin 8) (l len : Nat) : Bool :=
  (s.reserved p).all fun r =>
    decide (l + s.ports[p].span len ≤ r.1) || decide (r.1 + s.ports[p].span r.2 ≤ l)

/-- The first free legal slot at or after `lt` on some ports, and the first legal one: one that no frame under way occupies. Where the legal slots lie the spec leaves to the link, so the distance to the next is a free value within the slot spacing (R274, R281, R316). -/
def State.findLaunch (s : State) (ps : List (Fin 8)) (p : Fin 8) (lt len : Nat) : Nat × Nat :=
  let d := s.draw % (s.ports[p].slotGap + 1)
  let first := (ps.map fun q => s.ports[q].busyTo).foldl max lt + d
  let ends := ps.flatMap fun q => (s.reserved q).map fun r => r.1 + s.ports[q].span r.2 + d
  let ok := fun l : Nat => ps.all fun q => s.launchFits q l len
  let cands := (first :: ends.filter (first ≤ ·)).filter ok
  (cands.foldl min (cands.headD first), first)

/-- Four microseconds in FINE steps (R43, R317). -/
def fourUs : Nat := 2560000

/-- The last launch instant of this cycle at the connector (R273). -/
def State.lastLaunch (s : State) (p : Fin 8) : Nat := s.sys.cyc * 1024 + 1023 + s.ports[p].cfg.nat Ix.portTxComp

/-- When a frame without a slot leaves in this cycle: within the cycle, and after the frame before it and its gap. -/
def State.hostLaunch (s : State) (p : Fin 8) : Nat :=
  max s.ports[p].busyTo (s.sys.cyc * 1024 + s.draw % 1024 + s.ports[p].cfg.nat Ix.portTxComp)

/-- Whether a frame without a slot may start now: the line is free, and it ends before the next reserved slot (R272). -/
def State.hostMayStart (s : State) (p : Fin 8) (len : Nat) : Bool :=
  decide (s.ports[p].busyTo ≤ s.lastLaunch p) && (s.reserved p).all fun r => decide (s.hostLaunch p + s.ports[p].span len ≤ r.1)

/-- The next frame that may leave now: a timed frame whose slot has come, else the oldest frame without a slot (R272, R273). -/
def State.nextFrame (s : State) (p : Fin 8) : Option TxFrame :=
  match s.ports[p].txBuf.find? fun f => match f.slot with
      | some l => decide (l ≤ s.lastLaunch p)
      | none => false with
  | some f => some f
  | none =>
    match s.ports[p].txBuf.find? fun f => f.slot.isNone with
    | some f => if s.hostMayStart p f.len then some f else none
    | none => none

/-- A stamp entry of a frame that left with STAMP (R290, R291). -/
def State.stampEntry (s : State) (p : Fin 8) (f : TxFrame) (id hp : Nat) (t : Stamp) : State :=
  let s0 := (s.portCount p 44 1).noteLateBlock t
  let q := s0.ports[p].tsq
  if (q.wr - q.rd).toNat ≥ 64 then
    let s1 := s0.mapPort p fun x => { x with tsq := { q with overflow := true, lost := q.lost + 1 } }
    if q.overflow then s1 else s1.raise Flt.tsqOverflow p.val
  else
    let at_ := s0.convert t
    let w : List Word :=
      [BitVec.ofNat 32 (id + hp * 2 ^ 16 + b2n (s0.isLate t) * 2 ^ 18 + t.fine * 2 ^ 20), loWord t.cyc, hiWord t.cyc] ++
        recordTime at_ ++ [s0.bound.port[p], BitVec.ofNat 32 (f.len % 2 ^ 14)]
    let slot := q.wr.toNat % 64
    let none_ := s0.ports.toList.all fun x => x.tsq.wr == x.tsq.rd
    let s1 := s0.mapPort p fun x =>
      { x with tsq := { q with wr := q.wr + 1, slots := (slot, w) :: q.slots.filter (·.1 != slot) } }
    if none_ then s1.hwLevelAll 5 else s1

/-- A transmitted frame is counted (R278, R511). -/
def State.countTx (s : State) (p : Fin 8) (f : TxFrame) : State :=
  let s1 := (s.portCount p 28 1).portCount p 29 f.len
  let s2 := s1.portCount p (Fin.ofNat 45 (30 + castOf (field f.octets 0 6))) 1
  let s3 := s2.portCount p (Fin.ofNat 45 (33 + sizeBin f.len)) 1
  let s4 := if f.rct then s3.portCount p 40 1 else s3
  let s5 := if f.kind = Kind.supervision then s4.portCount p 41 1 else s4
  { s5 with perf.txOctets := upd s5.perf.txOctets p (· + f.len) }

/-- The octets of a frame as it leaves: a bound TLV states B of that instant (R69). -/
def State.launched (s : State) (p : Fin 8) (f : TxFrame) : List Byte :=
  match f.fresh with
  | some x => padded (x.octets (s.servedBound x.inst p))
  | none => f.octets

/-- FRAME_LAUNCH (R273): the next frame leaves with its FCS. A host frame's FINE is free within the cycle. -/
def execFrameLaunch (port : Fin 8) (s : State) : Out :=
  if !s.ports[port].linkUp then .next s
  else
    match s.nextFrame port with
    | none => .next s
    | some f =>
      let n := f.slot.getD (s.hostLaunch port)
      let s0 := if f.slot.isNone then s.drawn else s
      let s1 := (s0.mapPort port fun x => { x with txBuf := x.txBuf.erase f, busyTo := n + x.span f.len }).countTx port f
      let l := s.launched port f
      let s2 := s1.emit (.frame port n (l ++ fcsOf l) f.late)
      .next (match f.stampId with
        | some (id, hp) => s2.stampEntry port f id hp (Stamp.ofSteps n)
        | none => s2)

/-! ### Links (R269, R271, R281, R282, R294) -/

/-- PRP_SINGLE_LAN follows the links of a pair; the discard table empties when neither port is up (R282, R284). -/
def State.followPair (s : State) (q : Fin 4) : State :=
  let a := s.ports[lanA q].linkUp
  let b := s.ports[lanB q].linkUp
  let on := s.pairs[q].cfg.flag Ix.prpOn
  let single := on && a != b
  let s1 := s.mapPair q fun y =>
    { y with singleLan := single, entries := if a || b then y.entries else [] }
  let d := q.val + 4 * b2n (!b)
  let s2 := s1.causeGone Flt.prpSingleLan fun x => x % 4 == q.val && !(single && x == d)
  if single then s2.condition Flt.prpSingleLan d else s2

/-- A port's link goes down: frames queued for it are discarded without being counted (R271). -/
def State.linkDown (s : State) (p : Fin 8) (planned : Bool) : State :=
  let was := s.ports[p].linkUp
  let s1 := s.mapPort p fun x =>
    { x with linkUp := false, txBuf := [],
             linkDowns := if was && !planned then x.linkDowns + 1 else x.linkDowns }
  let s2 := if was && !planned then s1.condition Flt.linkDown p.val else s1
  s2.followPair (pairOf p)

/-- A link is declared up (R271, R281, R330). -/
def State.linkIsUp (s : State) (p : Fin 8) : State :=
  let s1 := s.mapPort p fun x => { x with linkUp := true, hiBer := false, fault := 0 }
  ((s1.causeEnds Flt.linkDown p.val).causeEnds Flt.hiBer p.val).followPair (pairOf p)

/-- Whether OS3 serves as a SyncE transmit clock (R222). -/
def State.os3Ready (s : State) : Bool :=
  s.outs.os[3].lock == .locked && s.outs.os[3].cfg.at Ix.synthFvco == 6250000000 * 2 ^ 24

/-- The ports that use OS3. -/
def State.os3Ports (s : State) : List (Fin 8) :=
  (List.finRange 8).filter fun p => s.ports[p].cfg.flag Ix.portEnable && s.ports[p].cfg.flag Ix.portTxClk

/-- OS3 loses lock: its ports move to SREF with a planned restart (R294). -/
def State.os3Lost (s : State) : State :=
  s.each (s.os3Ports.filter fun p => !s.ports[p].fallback) fun t p =>
    (t.linkDown p true).mapPort p fun x => { x with fallback := true }

/-- OS3 relocks at 6.25 GHz: its ports move back with a second planned restart (R294). -/
def State.os3Back (s : State) : State :=
  if s.os3Ready then
    s.each (s.os3Ports.filter fun p => s.ports[p].fallback) fun t p =>
      (t.linkDown p true).mapPort p fun x => { x with fallback := false }
  else s

/-- Whether a change restarts the link (R269). -/
def portRestarts (a b : Cfg) : Bool :=
  [Ix.portEnable, Ix.portSpeed, Ix.portFec, Ix.portTxClk].any fun i => a.at i != b.at i

/-- A pair's PRP configuration comes into force (R280, R284). -/
def State.applyPair (s : State) (q : Fin 4) : State :=
  match s.pairs[q].pending with
  | none => s
  | some c =>
    let on := c.flag Ix.prpOn && !s.pairs[q].cfg.flag Ix.prpOn
    (s.mapPair q fun y =>
      { y with cfg := c, pending := none, entries := if on then [] else y.entries, seqNr := if on then 0 else y.seqNr }).followPair q

/-- A port takes its pending settings; its pair takes its own when both ports have (R269). -/
def State.applyPort (s : State) (p : Fin 8) : State :=
  let q := pairOf p
  let old := s.ports[p].cfg
  let c := s.ports[p].pending.getD old
  let prp := match s.pairs[q].pending with
    | some d => d.flag Ix.prpOn != s.pairs[q].cfg.flag Ix.prpOn
    | none => false
  let s1 := s.mapPort p fun x =>
    { x with cfg := c, pending := none, fallback := c.flag Ix.portTxClk && !s.os3Ready }
  let s2 := if portRestarts old c || prp then s1.linkDown p true else s1
  let s3 := if c.flag Ix.portEnable then s2 else s2.causeEnds Flt.linkDown p.val
  if s3.groups[2].applied.getLsbD (partnerPort p).val then s3.applyPair q else s3

/-! ### The transmit stamp queue's index (R292) -/

/-- A host's write of Pp_TSQ_RD (R292). -/
def State.writeTsqRd (s : State) (hp : Fin 4) (p : Fin 8) (v : Word) : State :=
  if !s.may hp .ports then s.denied (0x8008 + 0x400 * p.val)
  else
    let q := s.ports[p].tsq
    let n := v.truncate 16
    if indexFits q.wr n 64 then s.mapPort p fun x => { x with tsq := { q with rd := n } }
    else s.raise Flt.tsqIndex (p.val + hp.val * 16)

/-- TSQ_RD_WRITE (R292). -/
def execTsqRdWrite (hp : Fin 4) (port : Fin 8) (v : Word) (s : State) : Out := s.opened fun t => t.writeTsqRd hp port v

end Sys2Proof.Machine
end

