-- ==== Sys2Proof/Machine/Auth.lean ====
section
/-! DEFINITION. The key store, the random generator, authentication of NTP and PTP, and the source sketch (R335 to R363). -/

namespace Sys2Proof.Machine

/-! ### Slots (R335, R338, R348, R358) -/

/-- A slot of either table; an NTS slot number counts modulo 4. -/
def State.key (s : State) (sa : Bool) (n : Fin 64) : KeySlot := if sa then s.auth.sa[n] else s.auth.nts[Fin.ofNat 4 n.val]

/-- A slot changed by `f`. -/
def State.mapKey (s : State) (sa : Bool) (n : Fin 64) (f : KeySlot → KeySlot) : State :=
  if sa then { s with auth.sa := upd s.auth.sa n f } else { s with auth.nts := upd s.auth.nts (Fin.ofNat 4 n.val) f }

/-- Whether a slot's key verifies and decrypts (R335). -/
def KeySlot.usable (k : KeySlot) : Bool := k.state == .accept || k.state == .current

/-- The CURRENT NTS slot, if any. -/
def State.currentNts (s : State) : Option (Fin 4) := (List.finRange 4).find? fun k => s.auth.nts[k].state == .current

/-- The CURRENT SA of an SPP, if any. -/
def State.currentSa (s : State) (spp : Nat) : Option (Fin 64) :=
  (List.finRange 64).find? fun k => s.auth.sa[k].state == .current && s.auth.sa[k].spp == spp

/-- The SPP that an instance names, if it names one (R353). -/
def Inst.spp (x : Inst) : Option Nat :=
  let v := x.cfg.nat Ix.instAuth % 256
  if v = 255 then none else some v

/-- An instance whose SPP has no CURRENT SA: the fault once on the transition (R358). -/
def State.followInstAuth (s : State) (i : Fin 16) : State :=
  let x := s.svc.inst[i]
  let lacks := match x.spp with
    | some v => x.cfg.flag Ix.instEnable && x.cfg.flag Ix.instService && (s.currentSa v).isNone
    | none => false
  let s1 := s.mapInst i fun y => { y with noCurrent := lacks }
  if lacks then (if x.noCurrent then s1 else s1.raise Flt.authNoCurrent (i.val + (x.spp.getD 0) * 256))
  else s1.causeGone Flt.authNoCurrent fun d => d % 16 == i.val

/-- What follows a change of the key store (R348, R358). -/
def State.followAuth (s : State) : State :=
  let cur := s.currentNts.isSome
  let s1 : State := { s with auth.hadCurrent := s.auth.hadCurrent || cur }
  let s2 := if cur then s1.causeGone Flt.ntsNoCurrent fun _ => true else s1
  s2.each (List.finRange 16) State.followInstAuth

/-- Whether a request in hand uses a slot (R338). -/
def State.keyInUse (s : State) (sa : Bool) (n : Fin 64) : Bool :=
  s.svc.squall.toList.any fun e => e.work.any fun w => w.keys.any fun k => k.1 == sa && k.2 == n

/-- A slot enters DRAINING (R337, R339). -/
def State.drainKey (s : State) (sa : Bool) (n : Fin 64) : State :=
  (s.mapKey sa n fun k => { k with state := .draining }).followAuth

/-- Key slot states as R335 numbers them. -/
def KeyState.code : KeyState → Nat
  | .empty => 0 | .accept => 1 | .current => 2 | .draining => 3

/-- The active sends the state that a slot has taken; without the pair key nothing of the keys is replicated (R402, R403). -/
def State.replState (s : State) (sa : Bool) (slot : Fin 64) : State :=
  if s.auth.pairKey.isSome then s.repl (.keyState sa slot (Fin.ofNat 4 (s.key sa slot).state.code)) else s

/-- An emptied slot keeps only the FORM of its last load (R335, R362). -/
def KeySlot.emptied (k : KeySlot) : KeySlot := { form := k.form }

/-- KEY_EXPIRY (R339): the time scale has reached EXPIRY. -/
def execKeyExpiry (sa : Bool) (slot : Fin 64) (s : State) : Out :=
  let k := s.key sa slot
  if k.usable && k.expiry != 0 && decide ((k.expiry : Int) ≤ s.nowSec) then
    .next (((s.raise Flt.keyExpired (slot.val + b2n sa * 64)).drainKey sa slot).replState sa slot)
  else .next s

/-- KEY_DRAIN_COMPLETE (R338). -/
def execKeyDrainComplete (sa : Bool) (slot : Fin 64) (s : State) : Out :=
  if (s.key sa slot).state == .draining && !s.keyInUse sa slot then .next ((s.mapKey sa slot KeySlot.emptied).replState sa slot) else .next s

/-! ### Loading and state changes (R336, R337, R342) -/

/-- The key material and attributes of a load. -/
structure KeyRecord where
  keyId : Nat
  expiry : Nat
  spp : Nat
  alg : Nat
  key : List Byte

/-- Octets of a wrapped record (R342). -/
def KeyRecord.octets (r : KeyRecord) (sa : Bool) : List Byte :=
  ([(if sa then 2 else 1 : Nat), r.alg, r.spp, 0] ++ netOctets 4 r.keyId ++ netOctets 6 r.expiry ++ [0, 0]).map (BitVec.ofNat 8) ++ r.key

/-- The record of an unwrapped blob; none when its kind or length does not match the table (R337, R342). -/
def parseRecord (sa : Bool) (b : List Byte) : Option KeyRecord :=
  let n := b.map BitVec.toNat
  if b.length = (if sa then 48 else 80) && n.getD 0 0 == (if sa then 2 else 1) then
    some ⟨octetsNat ((b.drop 4).take 4), octetsNat ((b.drop 8).take 6), n.getD 2 0, n.getD 1 0, b.drop 16⟩
  else none

/-- The key that opens blobs of a form, if it is enabled and present (R341, R342). -/
def State.wrapKey (s : State) (form : Nat) : Option (List Byte) :=
  if form = 1 then (if s.auth.kekEnabled then some Config.deviceKey else none) else s.auth.pairKey

/-- Whether a KEY_ID is taken in the NTS table, or within the SPP in the SA table (R336). -/
def State.keyIdTaken (s : State) (sa : Bool) (r : KeyRecord) : Bool :=
  if sa then s.auth.sa.toList.any fun k => k.state != .empty && k.keyId == r.keyId && k.spp == r.spp
  else s.auth.nts.toList.any fun k => k.state != .empty && k.keyId == r.keyId

/-- A load's record, or its reason of refusal (R337). -/
def State.checkLoad (s : State) (sa : Bool) (slot : Fin 64) (form : Nat) (plain : KeyRecord) (blob : List Byte) : Except Nat KeyRecord :=
  if (s.key sa slot).state != .empty then .error 1
  else
    let rec_ : Except Nat KeyRecord :=
      if form = 0 then .ok plain
      else match (s.wrapKey form).bind fun k => Config.keyUnwrap k blob with
        | none => .error 4
        | some b => match parseRecord sa b with
          | none => .error 5
          | some r => .ok r
    match rec_ with
    | .error e => .error e
    | .ok r =>
      if r.keyId = 0 || s.keyIdTaken sa r then .error 2
      else if r.expiry != 0 && decide ((r.expiry : Int) ≤ s.nowSec) then .error 3
      else .ok r

/-- A slot takes a record and enters ACCEPT; a GMAC SA draws its IV (R336, R355). -/
def State.storeKey (s : State) (sa : Bool) (slot : Fin 64) (form : Nat) (r : KeyRecord) : State :=
  (s.mapKey sa slot fun _ =>
    { state := .accept, form := form, keyId := r.keyId, expiry := r.expiry, spp := r.spp, alg := r.alg, key := r.key,
      iv := s.draw % 2 ^ 96 }).drawn.followAuth

/-- KEY_LOAD_REFUSED (R337, R363). -/
def State.keyRefused (s : State) (sa : Bool) (slot : Fin 64) (reason : Nat) : State :=
  s.raise Flt.keyLoadRefused (slot.val + b2n sa * 64 + reason * 256)

/-- A slot becomes CURRENT; the one before it in its table or SPP goes back to ACCEPT (R337). -/
def State.makeCurrent (s : State) (sa : Bool) (slot : Fin 64) : State :=
  let s1 := match (if sa then s.currentSa (s.key sa slot).spp else s.currentNts.map fun n => ⟨n.val, by omega⟩ : Option (Fin 64)) with
    | some o => s.mapKey sa o fun x => { x with state := .accept }
    | none => s
  (s1.mapKey sa slot fun x => { x with state := .current }).followAuth

/-- MAKE_CURRENT or REMOVE, or its reason of refusal (R337). -/
def State.changeKey (s : State) (sa : Bool) (slot : Fin 64) (current : Bool) : Except Nat State :=
  let k := s.key sa slot
  if current then
    if k.state != .accept then .error 7 else .ok (s.makeCurrent sa slot)
  else
    match k.state with
    | .accept => .ok (s.drainKey sa slot)
    | .current => .error 6
    | _ => .error 7

/-! ### Zeroisation and the generator (R343, R344) -/

/-- Work that holds a key makes no response; its slot stays empty (R343). -/
def Work.discard (w : Work) : Work := { w with ready := [], keys := [] }

/-- Responses in hand that hold a key. -/
def State.keyedWork (s : State) : Nat :=
  (s.svc.squall.toList.map fun e => (e.work.filter fun w => !w.keys.isEmpty && !w.ready.isEmpty).length).sum

/-- The key store is zeroised (R343). -/
def State.zeroiseKeys (s : State) (why : Nat) : State :=
  let n := s.keyedWork
  let s1 : State := { s with
    auth.nts := s.auth.nts.map KeySlot.emptied, auth.sa := s.auth.sa.map KeySlot.emptied,
    auth.drbgSeed := s.draw, auth.hashKey := s.drawn.draw, auth.zeroisations := s.auth.zeroisations + 1,
    auth.discard := s.auth.discard + BitVec.ofNat 32 n,
    svc.squall := s.svc.squall.map fun e => { e with work := e.work.map fun w => if w.keys.isEmpty then w else w.discard } }
  (s1.drawn.drawn.raise Flt.keyZeroised why).followAuth

/-- DEBUG_UNLOCK (R343). -/
def execDebugUnlock (s : State) : Out :=
  .next { (s.zeroiseKeys 1).repl .zeroise with auth.kekEnabled := false, auth.pairKey := none }

/-- The generator takes a new seed (R344). -/
def State.reseed (s : State) : State :=
  ({ s with auth.drbgSeed := s.draw, auth.requests := 0, auth.reseedAt := s.sys.cyc } : State).drawn

/-- DRBG_RESEED (R344): due every 2^20 requests and every 1 s. -/
def execDrbgReseed (s : State) : Out :=
  if s.auth.requests < 2 ^ 20 && decide (s.sys.cyc < s.auth.reseedAt + secCyc) then .next s else .next s.reseed

/-- ENTROPY_TEST_FAIL (R344). -/
def execEntropyTestFail (adaptive : Bool) (s : State) : Out :=
  .next (({ s with auth.drbgOk := false, auth.testsFrom := some s.sys.cyc } : State).raise Flt.drbgFail (b2n adaptive))

/-- DRBG_RESUME (R344): the source has passed its tests for 1 s. -/
def execDrbgResume (s : State) : Out :=
  match s.auth.testsFrom with
  | some c =>
    if s.sys.cyc < c + secCyc then .next s
    else .next (({ s.reseed with auth.drbgOk := true, auth.testsFrom := none } : State).causeGone Flt.drbgFail fun _ => true)
  | none => .next s

/-! ### The source sketch (R359) -/

/-- A counter of a bank. -/
def sketchGet (l : List (Nat × Nat)) (k : Nat) : Nat := ((l.find? (·.1 == k)).map Prod.snd).getD 0

/-- The four counters of an instance's source, by row. -/
def State.sketchKeys (s : State) (i : Fin 16) (src : Nat) : List Nat :=
  (List.range 4).map fun r => r * 16384 + Config.sketchHash s.auth.hashKey r i.val src % 16384

/-- A request enters the sketch: the state and whether it is over SRC_RATE (R359). -/
def State.sketch (s : State) (i : Fin 16) (src : Nat) : State × Bool :=
  let rate := s.svc.inst[i].cfg.nat Ix.instSrcRate
  let f := (s.sys.cyc % secCyc) * 16 / secCyc
  let ks := s.sketchKeys i src
  let vals := ks.map fun k => sketchGet s.auth.cur k + sketchGet s.auth.prev k * (16 - f) / 16
  let est := vals.foldl min (vals.headD 0)
  let now := ks.map (sketchGet s.auth.cur)
  let m := now.foldl min (now.headD 0)
  let cur := ks.foldl (fun l k =>
    if sketchGet s.auth.cur k = m then (k, min (m + 1) 65535) :: l.filter (·.1 != k) else l) s.auth.cur
  ({ s with auth.cur := cur }, decide (rate ≤ est))

/-- SKETCH_ROLLOVER (R359): at each whole CCLK second. -/
def execSketchRollover (s : State) : Out :=
  let sec := s.sys.cyc / secCyc
  if sec ≤ s.auth.sketchSec then .next s
  else .next { s with auth.prev := if sec = s.auth.sketchSec + 1 then s.auth.cur else [], auth.cur := [], auth.sketchSec := sec }

/-! ### PTP authentication (R353 to R356) -/


/-- What verification of a received message under an AUTH setting says: 0 passes, 1 no TLV where one is required, 2 a failing TLV (R356). With no SPP named nothing is verified. -/
def State.verifyPtp (s : State) (spp : Option Nat) (required : Bool) (m : PtpMsg) : Nat :=
  match spp, m.auth with
  | none, _ => 0
  | some _, none => if required then 1 else 0
  | some v, some t =>
    match s.auth.sa.toList.find? (fun k => k.usable && k.spp == v && k.keyId == t.keyId) with
    | none => 2
    | some k =>
      if t.spp != v || t.indicator != (if k.alg = 1 then Config.resAnnounced else 0) || t.len != authLen k.alg then 2
      else if t.icv = Config.mac k.alg k.key t.iv t.covered then 0 else 2

/-- A message that fails verification is counted; PTP_AUTH_FAIL at most once a second, `who` 15 for the PTP slot (R356, R363). -/
def State.authFailed (s : State) (verdict who : Nat) : State :=
  let s1 : State := if verdict = 1 then { s with auth.ptpMissing := s.auth.ptpMissing + 1 } else { s with auth.ptpBad := s.auth.ptpBad + 1 }
  if who = 15 then
    if s1.spaced s1.auth.slotAuthAt secCyc then ({ s1 with auth.slotAuthAt := some s1.sys.cyc } : State).raise Flt.ptpAuthFail 15 else s1
  else
    let i : Fin 16 := Fin.ofNat 16 who
    if s1.spaced s1.svc.inst[i].authAt secCyc then
      (s1.mapInst i fun x => { x with authAt := some s1.sys.cyc }).raise Flt.ptpAuthFail who
    else s1

/-- Whether a message of an SPP may be signed now: its SA, if it has one that may send (R344, R358). -/
def State.signer (s : State) (spp : Nat) : Option (Fin 64) :=
  match s.currentSa spp with
  | some k => if s.auth.sa[k].alg == 1 && !s.auth.drbgOk then none else some k
  | none => none

/-- What the next message under an SA is signed with (R354, R355). -/
def State.signWith (s : State) (k : Fin 64) : Sign :=
  let x := s.auth.sa[k]
  ⟨x.alg, x.spp, x.keyId, x.iv, x.key⟩

/-- One message is signed with an SA: its IV advances under GMAC (R355). -/
def State.signed (s : State) (k : Fin 64) : State :=
  if s.auth.sa[k].alg = 1 then s.mapKey true k fun x => { x with iv := (x.iv + 1) % 2 ^ 96 } else s

end Sys2Proof.Machine
end

