-- ==== Sys2Proof/Machine/PtpSlot.lean ====
section
/-! DEFINITION. The PTP reference slot: masters, exchanges and timeouts (R120, R126, R323, R353, R356, R465). -/

namespace Sys2Proof.Machine

/-- The enabled PTP slot, of which there is at most one (R126). -/
def State.ptpSlotIx (s : State) : Option (Fin 16) :=
  (List.finRange 16).find? fun i => s.wv.slots[i].cfg.flag Ix.slotEnable && s.wv.slots[i].kind == 5

/-- Word `n` of a slot's SOURCE (R465). -/
def Slot.source (x : Slot) (n : Nat) : Nat := x.cfg.nat (Ix.slotSource + n)
/-- The PTP slot's port. -/
def Slot.ptpPort (x : Slot) : Fin 8 := Fin.ofNat 8 (bitsOf (x.source 0) 2 0)
/-- The PTP slot's domain. -/
def Slot.ptpDomain (x : Slot) : Nat := bitsOf (x.source 0) 15 8
/-- The PTP slot's profile. -/
def Slot.ptpProfile (x : Slot) : Nat := bitsOf (x.source 0) 18 16
/-- The organizationId of the slot's bound TLV, whose octets its SOURCE word holds in network order (R461, R465). -/
def Slot.ptpOrg (x : Slot) : Nat := x.source 3 % 256 * 65536 + x.source 3 / 256 % 256 * 256 + x.source 3 / 65536 % 256
/-- The SPP that the slot names, if any (R353). -/
def Slot.ptpSpp (x : Slot) : Option Nat := if x.source 5 % 256 = 255 then none else some (x.source 5 % 256)

/-- The intervals of a profile in seconds, Announce and Sync (R323); the longest where the profile gives a range without a default. -/
def profileIntervals : Nat → Rat × Rat
  | 0 => (2, 1)
  | 1 => (1 / 8, 1 / 16)
  | 2 => (1, 1)
  | 5 => (8, 16)
  | _ => (1, 1)

/-- Whether list `a` comes before `b`, element by element. -/
def listLess : List Nat → List Nat → Bool
  | a :: l, b :: m => a < b || (a == b && listLess l m)
  | _, _ => false

/-- The order of a profile's best master clock algorithm over a dataset (R126). By IEEE 1588-2019 it is priority1, clockClass, clockAccuracy, variance, priority2, identity, stepsRemoved. PRESUMED (log entry 47): by the alternate algorithm of the telecom profiles G.8275.1 and G.8275.2 priority1 takes no part, and grandmasters of clockClass 127 or below go by stepsRemoved before identity. -/
def PtpMaster.order (m : PtpMaster) (profile : Nat) : List Nat :=
  if profile = 1 || profile = 2 then
    [m.cls, m.acc, m.variance, m.prio2] ++ (if m.cls ≤ 127 then [m.steps, m.gmId] else [m.gmId, m.steps]) ++ [m.id, m.port]
  else [m.prio1, m.cls, m.acc, m.variance, m.prio2, m.gmId, m.steps, m.id, m.port]

/-- The best of some masters. -/
def bestMaster (profile : Nat) (l : List PtpMaster) : Option PtpMaster :=
  l.foldl (fun b m => match b with
    | none => some m
    | some x => if listLess (m.order profile) (x.order profile) then some m else b) none

/-- An Announce for the PTP slot: the master's dataset, the choice of a master, and the kind's alarms (R126). -/
def State.ptpAnnounce (s : State) (i : Fin 16) (m : PtpMaster) : State :=
  let x := s.wv.slots[i]
  let p := s.wv.ptp
  let lim := cycSeconds (s.sys.cyc : Int) - 3 * (profileIntervals x.ptpProfile).1
  let live := (m :: p.masters.filter fun o => !(o.id == m.id && o.port == m.port)).filter fun o => lim ≤ cycSeconds (o.seen : Int)
  match bestMaster x.ptpProfile live with
  | none => s
  | some b =>
    let s1 : State := { s with
      wv.ptp.masters := live, wv.ptp.master := some (b.id, b.port), wv.ptp.gmId := some b.gmId,
      wv.ptp.lastAnnounce := if b.id = m.id && b.port = m.port then s.sys.cyc else p.lastAnnounce }
    let changed := match p.gmId with
      | some g => g != b.gmId
      | none => false
    let bad := decide (x.source 2 < b.cls)
    let s2 := s1.mapSlot i fun y => { y with kindBad := bad }
    if bad || changed then (s2.alarm i 4).evaluate else s2

/-- The bound of the slot's master in ns, added to DECL_UNC (R126). -/
def State.ptpBoundAdd (s : State) : Rat :=
  match s.wv.ptp.master with
  | none => 0
  | some (a, b) => match s.wv.ptp.masters.find? fun m => m.id == a && m.port == b with
    | some m => ((m.bound.getD 0 : Nat) : Rat) / 256
    | none => 0

/-- The receive stamp σ of a port in ns (R273). -/
def stampSigma (speed : Nat) : Rat := if speed = 0 then 8 / 1000 else if speed = 1 then 10 / 1000 else 15 / 1000

/-- A whole exchange gives an offset less ASYMMETRY (R120, R121, R126, R465). DEDUCED (log entry 47): R126 writes ((t2 - t1) - (t4 - t3)) / 2, which with t1 and t4 the master's times and t2 and t3 the engine's is the time scale minus the reference; R120 defines every slot's offset as the reference minus the time scale, so that is what the slot delivers. -/
def State.ptpOffset (s : State) (i : Fin 16) (at_ : Nat) : State :=
  let p := s.wv.ptp
  let x := s.wv.slots[i]
  match p.t1, p.t2, p.t3, p.t4 with
  | some t1, some t2, some t3, some t4 =>
    let off := looseRound (((t4 - t3) - (t2 - t1) : Int) / (2 : Rat)) - signedOf 32 (x.source 1)
    let sg := stampSigma (s.ports[x.ptpPort].cfg.nat Ix.portSpeed)
    let s1 : State := { s with wv.ptp.t1 := none, wv.ptp.t2 := none, wv.ptp.t3 := none, wv.ptp.t4 := none }
    (s1.mapSlot i fun y => { y with tdcVar := 2 * sg * sg }).deliverMeas i (.offset off at_ s.ptpBoundAdd)
  | _, _, _, _ => s

/-- A message of the slot's domain that passed verification (R126). -/
def State.ptpMessage (s : State) (i : Fin 16) (m : PtpMsg) (arrival : Stamp) : State :=
  let x := s.wv.slots[i]
  let p := s.wv.ptp
  let fromMaster := p.master == some (m.sourceId, m.sourcePort)
  match m.kind with
  | .announce gm cls acc var p1 p2 steps orgs =>
    let bound := (orgs.find? fun t => t.1 == x.ptpOrg && t.2.1 == x.source 4).map fun t => t.2.2
    s.ptpAnnounce i ⟨m.sourceId, m.sourcePort, gm, cls, acc, var, p1, p2, steps, bound, s.sys.cyc⟩
  | .sync two origin =>
    if !fromMaster then s
    else
      let t2 := s.convert arrival
      let s1 := s.noteLateBlock arrival
      if two then { s1 with wv.ptp.lastSync := s.sys.cyc, wv.ptp.twoStep := some (m.seq, t2, m.corr) }
      else { s1 with wv.ptp.lastSync := s.sys.cyc, wv.ptp.t1 := some (origin + m.corr), wv.ptp.t2 := some t2, wv.ptp.twoStep := none }
  | .followUp origin =>
    match p.twoStep with
    | some (q, t2, c) =>
      if fromMaster && q = m.seq then
        { s with wv.ptp.t1 := some (origin + c + m.corr), wv.ptp.t2 := some t2, wv.ptp.twoStep := none }
      else s
    | none => s
  | .delayResp receive id port =>
    if fromMaster && p.t3.isSome && m.seq = (p.seq - 1).toNat && id = s.svc.clockId && port = x.ptpPort.val + 1 then
      ({ s with wv.ptp.t4 := some (receive - m.corr) } : State).ptpOffset i arrival.cyc
    else s
  | _ => s

/-- The kinds that the slot verifies (R353). -/
def verifiedKind : PtpKind → Bool
  | .announce .. => true
  | .sync .. => true
  | .followUp .. => true
  | .delayResp .. => true
  | _ => false

/-- A message for the PTP slot (R126, R356): one that fails verification counts as none. -/
def State.ptpSlotMsg (s : State) (m : PtpMsg) (arrival : Stamp) : State :=
  match s.ptpSlotIx with
  | none => s
  | some i =>
    let x := s.wv.slots[i]
    if m.domain != x.ptpDomain || !verifiedKind m.kind then s
    else
      let v := s.verifyPtp x.ptpSpp (bitAt (x.source 5) 8) m
      if v = 0 then s.ptpMessage i m arrival else s.authFailed v 15

/-- PTP_SLOT_MESSAGE (R126): the octets of a message, from its header on; octets that are no whole message of version 2 are none. -/
def execPtpSlotMessage (octets : List Byte) (arrival : Stamp) (s : State) : Out :=
  .next (match ptpOf octets with
    | some m => s.ptpSlotMsg m arrival
    | none => s)

/-- PTP_SLOT_TIMEOUT (R120): no Announce for three Announce intervals, or no Sync for four Sync intervals. -/
def execPtpSlotTimeout (s : State) : Out :=
  match s.ptpSlotIx with
  | none => .next s
  | some i =>
    let iv := profileIntervals s.wv.slots[i].ptpProfile
    let since := fun c : Nat => cycSeconds ((s.sys.cyc : Int) - c)
    if 3 * iv.1 < since s.wv.ptp.lastAnnounce || 4 * iv.2 < since s.wv.ptp.lastSync then
      .next (({ s with wv.ptp := { seq := s.wv.ptp.seq, lastSync := s.sys.cyc, lastAnnounce := s.sys.cyc } } : State).signalLost [i])
    else .next s

/-- Where the slot's Delay_Req goes (R323, R465): to the group of its profile and transport. Over IPv4 its source address is free, since the spec gives the slot none; over IPv6 it is the port's link-local one. -/
def State.delayReqEnvelope (s : State) (x : Slot) : Envelope :=
  let mac := s.portMac x.ptpPort
  let ip := fun (v6 : Bool) (src dst : Nat) => some (⟨v6, src, dst, 0, s.drawn.draw % 65536, 319, 319⟩ : IpHead)
  match bitsOf (x.source 0) 21 20 with
  | 1 => ⟨0x01005E000181, mac, none, 0x88F7, ip false (s.draw % 2 ^ 32) 0xE0000181⟩
  | 2 => ⟨ipv6Group (0xFF0E * 2 ^ 112 + 0x181), mac, none, 0x88F7, ip true (linkLocal mac) (0xFF0E * 2 ^ 112 + 0x181)⟩
  | _ => ⟨if x.ptpProfile = 1 then 0x0180C200000E else 0x011B19000000, mac, none, 0x88F7, none⟩

/-- The Delay_Req of the slot (R126), from its port's identity. -/
def State.delayReqOctets (s : State) (i : Fin 16) : List Byte :=
  let x := s.wv.slots[i]
  let h : PtpHead := ⟨1, 0, x.ptpDomain, 0, s.svc.clockId, x.ptpPort.val + 1, s.wv.ptp.seq.toNat, 0x7F⟩
  (s.delayReqEnvelope x).wrap (h.message (octs 10 0) none)

/-- DELAY_REQ_SEND (R126): the Delay_Req leaves at `departure`, which is t3. A follower sends none, since it carries the shared clockIdentity (R393). -/
def execDelayReqSend (departure : Stamp) (s : State) : Out :=
  match s.ptpSlotIx, s.wv.ptp.master with
  | some i, some _ =>
    let p := s.wv.slots[i].ptpPort
    if !s.ports[p].linkUp || s.follower then .next s
    else
      let l := padded (s.delayReqOctets i)
      let f : TxFrame := ⟨some departure.steps, Kind.delayReq, l, false, none, false, none⟩
      let s1 := (s.drawn.drawn.countTx p f).emit (.frame p departure.steps (l ++ fcsOf l) false)
      .next { s1 with wv.ptp.t3 := some (s.convert departure), wv.ptp.t4 := none, wv.ptp.seq := s.wv.ptp.seq + 1 }
  | _, _ => .next s

end Sys2Proof.Machine
end

