-- ==== Sys2Proof/Machine/HostLanes.lean ====
section
/-! DEFINITION. Host lanes: receive rules, rings, sends and their refusals (R286 to R289, R305 to R309, R333). -/

namespace Sys2Proof.Machine

/-! ### Receive rules (R306, R307) -/

/-- Whether a host-lane rule matches a frame received on a port (R306). -/
def ruleMatches (c : Cfg) (p : Fin 8) (f : RxFrame) : Bool :=
  let ports := c.at Ix.ruleDstPorts
  c.flag Ix.ruleEnable && bitAt (c.nat Ix.rulePortMask) p.val &&
    (c.at Ix.ruleEtherType == noneWord || c.nat Ix.ruleEtherType == f.etherType) &&
    (c.at Ix.ruleIpProto == noneWord || (match f.ip with
      | some h => h.proto == c.nat Ix.ruleIpProto
      | none => false)) &&
    (ports == noneWord || (match f.ip with
      | some h => (h.proto == 6 || h.proto == 17) && decide (ports.toNat % 2 ^ 16 ≤ h.dport) && decide (h.dport ≤ ports.toNat / 2 ^ 16)
      | none => false))

/-- Descriptors of a ring of size n. -/
def ringSize (n : Nat) : Nat := 2 ^ n

/-- A lane drops a received frame (R307). -/
def State.laneDrop (s : State) (l : Fin 2) : State :=
  let s1 := s.mapLane l fun x => { x with rxDrop := x.rxDrop + 1 }
  if s1.spaced s1.svc.lanes[l].dropAt secCyc then
    (s1.mapLane l fun x => { x with dropAt := some s1.sys.cyc }).raise Flt.hostLaneDrop l.val
  else s1

/-- A frame goes to an enabled lane, within its descriptors and its load of any 1 ms, both ends included (R3, R307). -/
def State.toLane (s : State) (l : Fin 2) (p : Fin 8) (rule : Nat) (f : RxFrame) : State :=
  let x := s.svc.lanes[l]
  let live := x.recent.filter fun e => s.sys.cyc ≤ e.1 + msCyc
  let posted := (x.rxProd - x.rxCons).toNat
  let n := f.bare.length
  if posted ≤ x.inFlight.length || 8000 ≤ live.length || 2500000 < (live.map Prod.snd).sum + n then s.laneDrop l
  else s.mapLane l fun y => { y with inFlight := y.inFlight ++ [(f, rule, p)], recent := (s.sys.cyc, n) :: live }

/-- A frame goes to a lane, or is counted in HL_UNMATCHED where the lane is disabled (R306). -/
def State.laneOrUnmatched (s : State) (l : Fin 2) (p : Fin 8) (rule : Nat) (f : RxFrame) : State :=
  if s.svc.lanes[l].enabled then s.toLane l p rule f else { s with svc.unmatched := s.svc.unmatched + 1 }

/-- The host-lane receive rules (R306). -/
def State.hostRules (s : State) (p : Fin 8) (f : RxFrame) : State :=
  match (List.finRange 16).find? fun r => ruleMatches s.svc.rules[r] p f with
  | none => { s with svc.unmatched := s.svc.unmatched + 1 }
  | some r =>
    match s.svc.rules[r].nat Ix.ruleAction with
    | 0 => s
    | 1 => s.laneOrUnmatched 0 p r.val f
    | 2 => s.laneOrUnmatched 1 p r.val f
    | _ => (s.laneOrUnmatched 0 p r.val f).laneOrUnmatched 1 p r.val f

/-! ### Rings and control (R305, R307, R309, R333) -/

/-- The lane of a PCIe port. -/
def laneOf (hp : Fin 4) : Option (Fin 2) := if h : hp.val < 2 then some ⟨hp.val, h⟩ else none

/-- Whether a producer index lies in its ring (R309). -/
def prodFits (cons v : BitVec 16) (n : Nat) : Bool := (v - cons).toNat ≤ ringSize n

/-- A host's write of HL_RX_PROD or HL_TX_PROD (R307 to R309). -/
def State.writeProd (s : State) (l : Fin 2) (tx : Bool) (v : Word) : State :=
  let x := s.svc.lanes[l]
  let n := v.truncate 16
  let fits := if tx then prodFits x.txCons n x.txSize else prodFits x.rxCons n x.rxSize
  if fits then s.mapLane l fun y => if tx then { y with txProd := n } else { y with rxProd := n }
  else s.raise Flt.hostLaneIndex (l.val + b2n tx * 16)

/-- Whether a lane's level source asserts newly (R447). -/
def State.laneError (s : State) (l : Fin 2) (f : Lane → Lane) : State :=
  let x := s.svc.lanes[l]
  let s1 := s.mapLane l f
  if x.cfgErr || x.dmaErr then s1 else s1.hwLevelRise ⟨l.val, by omega⟩ 10

/-- A host's write of HL_CTRL (R305, R333). -/
def State.writeHlCtrl (s : State) (l : Fin 2) (v : Word) : State :=
  let x := s.svc.lanes[l]
  let on := v.getLsbD 0
  let rx := bitsOf v.toNat 11 8
  let tx := bitsOf v.toNat 15 12
  if x.enabled then
    let s1 := s.mapLane l fun y => { y with enabled := on }
    if rx = x.rxSize && tx = x.txSize then s1 else s1.raise Flt.writeLocked 0xE400
  else
    let s1 := s.mapLane l fun y => { y with rxSize := rx, txSize := tx }
    if !on then s1
    else if 6 ≤ rx && rx ≤ 12 && 6 ≤ tx && tx ≤ 12 then s1.mapLane l fun y => { y with enabled := true }
    else s1.laneError l fun y => { y with cfgErr := true }

/-- The same write as a port's access: a port without a lane has no such register. -/
def State.hostRxProd (s : State) (hp : Fin 4) (v : Word) : State :=
  match laneOf hp with
  | some l => s.writeProd l false v
  | none => s.busError hp 0xE410 1 true 0

/-- HL_RX_PROD_WRITE (R307). -/
def execHlRxProdWrite (hp : Fin 4) (v : Word) (s : State) : Out := s.opened fun t => t.hostRxProd hp v

/-- The same write as a port's access: a port without a lane has no such register. -/
def State.hostTxProd (s : State) (hp : Fin 4) (v : Word) : State :=
  match laneOf hp with
  | some l => s.writeProd l true v
  | none => s.busError hp 0xE420 1 true 0

/-- HL_TX_PROD_WRITE (R308). -/
def execHlTxProdWrite (hp : Fin 4) (v : Word) (s : State) : Out := s.opened fun t => t.hostTxProd hp v

/-- The same write as a port's access: a port without a lane has no such register. -/
def State.hostHlCtrl (s : State) (hp : Fin 4) (v : Word) : State :=
  match laneOf hp with
  | some l => s.writeHlCtrl l v
  | none => s.busError hp 0xE400 1 true 0

/-- HL_CTRL_WRITE (R333). -/
def execHlCtrlWrite (hp : Fin 4) (v : Word) (s : State) : Out := s.opened fun t => t.hostHlCtrl hp v

/-- The descriptor words that the engine writes back for a received frame (R307): the length is the frame's, also where the buffer takes less. -/
def rxWriteBack (f : RxFrame) (rule : Nat) (p : Fin 8) (bufferLen : Nat) : List Word :=
  let n := f.bare.length
  [BitVec.ofNat 32 (n % 2 ^ 14 + p.val * 2 ^ 14 + rule * 2 ^ 17 + b2n (decide (bufferLen < n)) * 2 ^ 21 + 2 ^ 31),
    loWord f.arrival.cyc, hiWord f.arrival.cyc, BitVec.ofNat 32 f.arrival.fine, 0, 0]

/-- HL_DMA_COMPLETE (R307, R309): the oldest frame in flight is written as received, with any RCT and without its FCS, as far as the buffer of its descriptor takes it, or the lane stops on an error. -/
def execHlDmaComplete (lane : Fin 2) (ok : Bool) (bufferAddr bufferLen : Nat) (s : State) : Out :=
  let x := s.svc.lanes[lane]
  if !x.enabled then .next s
  else if !ok then
    .next ((s.laneError lane fun y => { y with enabled := false, dmaErr := true, inFlight := [] }).condition Flt.hostLaneDma lane.val)
  else
    match x.inFlight with
    | [] => .next s
    | (f, r, p) :: l =>
      let at_ := x.rxBase.toNat + 32 * (x.rxCons.toNat % ringSize x.rxSize) + 8
      let hp : Fin 4 := ⟨lane.val, by omega⟩
      .next (((s.mapLane lane fun y => { y with inFlight := l, rxCons := y.rxCons + 1 }).emit
        (.hostOctets hp bufferAddr (f.bare.take bufferLen))).emit (.hostMem hp at_ (rxWriteBack f r p bufferLen)))

/-! ### Sends (R286 to R289, R308) -/

/-- The ports on which a frame leaves (R280, R285). -/
def State.portsOf (s : State) (p : Fin 8) (l : List Byte) : List (Fin 8) := if isPtp l then [p] else s.portsFor p

/-- Whether a send is refused under TX_DROP (R286, R287, R288, R308). -/
def State.sendRefused (s : State) (d : SendDesc) : Bool :=
  let most := s.ports[d.port].cfg.nat Ix.portMaxLen
  let n := d.octets.length
  let down := (s.portsOf d.port d.octets).all fun p => !s.ports[p].linkUp
  if down then true
  else if d.seg then
    d.stamp || decide (d.hdrLen < 14) || decide (128 < d.hdrLen) || d.mss == 0 || decide (most < d.hdrLen + d.mss + 4) ||
      decide (n < d.hdrLen) || decide (262144 < n - d.hdrLen) || !segmentable (d.octets.take d.hdrLen)
  else decide (9600 < n) || decide (most < n + 4)

/-- A STAMP frame takes its identifier, on a PRP pair one for both ports (R289). -/
def State.takeId (s : State) (p : Fin 8) : State :=
  let id := s.ports[p].nextId
  s.each (s.portsFor p) fun t q => t.mapPort q fun x => { x with nextId := id + 1 }

/-- HL_TX_FETCH (R308): one send descriptor, its buffer read. -/
def execHlTxFetch (lane : Fin 2) (d : SendDesc) (s : State) : Out :=
  let x := s.svc.lanes[lane]
  if !x.enabled || x.txProd = x.txCons then .next s
  else
    let hp : Fin 4 := ⟨lane.val, by omega⟩
    let id := s.ports[d.port].nextId.toNat
    let refused := s.sendRefused d
    let s1 := if d.stamp then s.takeId d.port else s
    let frame := fun l : List Byte => ({ slot := none, kind := Kind.host, octets := l, stampId := if d.stamp then some (id, hp.val) else none } : TxFrame)
    let s2 := if refused then s1.portCount d.port 43 1
      else if d.seg then
        let l := segmentsOf d.octets d.hdrLen d.mss
        (s1.each l fun t o => t.sendFrame d.port (frame o)).portCount d.port 42 l.length
      else s1.sendFrame d.port (frame d.octets)
    let w4 : Word := BitVec.ofNat 32 ((if d.stamp then id else 0) + b2n refused * 2 ^ 16 + 2 ^ 31)
    let at_ := x.txBase.toNat + 32 * (x.txCons.toNat % ringSize x.txSize) + 16
    .next ((s2.mapLane lane fun y => { y with txCons := y.txCons + 1 }).emit (.hostMem hp at_ [w4]))

end Sys2Proof.Machine
end

