-- ==== Sys2Proof/Machine/Service.lean ====
section
/-! DEFINITION. Squall engines, classification, the launch scheduler, the NTP server with NTS, the PTP grandmaster, unicast grants, address resolution and ESMC (R298 to R331, R345 to R351). -/

namespace Sys2Proof.Machine

/-! ### Squall engines (R299, R300) -/

/-- The Squall engine that takes the next request: in dispatch, fewer than 8 in hand, the fewest, then the lower index (R299). -/
def State.freeEngine (s : State) : Option (Fin 16) :=
  ((List.finRange 16).filter fun e => s.svc.squall[e].inDispatch && decide (s.svc.squall[e].work.length < 8)).foldl
    (fun b e => match b with
      | none => some e
      | some f => if s.svc.squall[e].work.length < s.svc.squall[f].work.length then some e else some f) none

/-- A Squall engine changed by `f`; the CYCs in which it holds a request are counted (R511). -/
def State.mapSquall (s : State) (e : Fin 16) (f : Squall → Squall) : State :=
  let y := f s.svc.squall[e]
  let z : Squall := match y.work.isEmpty, y.busySince with
    | false, none => { y with busySince := some s.sys.cyc }
    | true, some c => { y with busySince := none, busy := y.busy + (s.sys.cyc - c) }
    | _, _ => y
  { s with svc.squall := s.svc.squall.set e z }

/-- A Squall engine leaves dispatch until reset; what it held is dropped (R300). -/
def State.removeEngine (s : State) (e : Fin 16) (parity : Bool) : State :=
  (s.mapSquall e fun x => { x with inDispatch := false, work := [] }).condition Flt.squallHang (e.val + b2n parity * 16)

/-- SQUALL_HOLD_TIMEOUT (R300): more than 4,096 ECLK cycles. -/
def execSquallHoldTimeout (engine : Fin 16) (s : State) : Out :=
  if s.svc.squall[engine].work.any fun w => decide (w.start + eclkCyc 4096 < s.sys.cyc) then .next (s.removeEngine engine false)
  else .next s

/-- SQUALL_PARITY_ERROR (R300). -/
def execSquallParityError (engine : Fin 16) (s : State) : Out := .next (s.removeEngine engine true)

/-! ### The launch scheduler (R314 to R319) -/

/-- The time at a FINE step to come, by the committed set where it is in force by then (R43, R319). -/
def State.timeAt (s : State) (n : Nat) : Int :=
  match s.ts.committed with
  | some k => if k.effect * 1024 ≤ n then (k.newSet s.setNow).time n else s.convert (Stamp.ofSteps n)
  | none => s.convert (Stamp.ofSteps n)

/-- t_bit in ps (R315). -/
def bitPs (speed : Nat) : Nat := if speed = 0 then 10 else if speed = 1 then 40 else 100
/-- T_port in ns (R315). -/
def tPort (c : Cfg) : Nat :=
  match c.nat Ix.portSpeed with
  | 0 => if c.flag Ix.portFec then 110 else 0
  | 1 => 40
  | _ => 100

/-- L_T of a response of class 1 to 3 to a request of `n` octets that arrived at `a` (R315), in FINE steps. -/
def State.launchTarget (s : State) (p : Fin 8) (a : Stamp) (n tClass : Nat) : Nat :=
  let c := s.ports[p].cfg
  let ps := (8 * n + 64) * bitPs (c.nat Ix.portSpeed) + (tClass + tPort c) * 1000
  (s.toRaw (s.convert a + ((ps * 65536 + 999) / 1000 : Nat))).toNat

/-- A response or message that found no slot (R317, R318). -/
def State.launchDropped (s : State) (p : Fin 8) : State :=
  let s1 : State := { s with svc.launchDrop := s.svc.launchDrop + 1 }
  if s1.spaced s1.svc.dropAt[p] secCyc then
    ({ s1 with svc.dropAt := s1.svc.dropAt.set p (some s1.sys.cyc) } : State).raise Flt.launchDrop p.val
  else s1

/-- The limit of R317 and R43: 4 µs after the computation. -/
def State.soon (s : State) : Nat := s.sys.cyc * 1024 + fourUs

/-- A launch is reserved at or after the later of the target and `work` ns from now, no later than 4 µs from now; a later one than the target's own slot counts as deferred (R43, R316 to R318). -/
def State.reserveAt (s : State) (ps : List (Fin 8)) (p : Fin 8) (target work len : Nat) : State × Option Nat :=
  let early := max target (s.sys.cyc * 1024 + work * 640)
  let r := s.findLaunch ps p early len
  let s1 := s.drawn
  if s.soon < r.1 then (s1.launchDropped p, none)
  else if target + (r.2 - early) < r.1 then ({ s1 with svc.deferred := s1.svc.deferred + 1 }, some r.1)
  else (s1, some r.1)

/-- A request in hand of an engine, with its launch reserved and its frame built for it (R316, R319). A frame is as long for every launch. -/
def State.respond (s : State) (e : Fin 16) (p : Fin 8) (inst : Option (Fin 16)) (target work : Nat)
    (keys : List (Bool × Fin 64)) (mk : Nat → TxFrame) : State × Option Nat :=
  let l0 := (mk 0).octets
  let r := s.reserveAt (s.portsOf p l0) p target work (s.wireLen p l0)
  match r.2 with
  | none => (r.1, none)
  | some l => (r.1.mapSquall e fun x => { x with work := x.work ++ [⟨p, inst, s.sys.cyc, some l, [mk l], keys⟩] }, some l)

/-- A response of class 4, whose target is its readiness (R316). -/
def State.respondGeneral (s : State) (e : Fin 16) (p : Fin 8) (inst : Option (Fin 16))
    (keys : List (Bool × Fin 64)) (mk : Nat → TxFrame) : State × Option Nat :=
  s.respond e p inst (s.sys.cyc * 1024 + 400 * 640) 400 keys mk

/-- SQUALL_WORK_COMPLETE (R352): the oldest request's frame reaches the transmit buffer, or is dropped less than 92 ns before its slot. -/
def execSquallWorkComplete (engine : Fin 16) (s : State) : Out :=
  match s.svc.squall[engine].work with
  | [] => .next s
  | w :: l =>
    let s1 := s.mapSquall engine fun x => { x with work := l }
    let late := match w.slot with
      | some n => decide (n < s.sys.cyc * 1024 + 58880)
      | none => false
    if late && !w.ready.isEmpty then .next { s1 with svc.launchDrop := s1.svc.launchDrop + 1 }
    else
      let s2 := s1.each w.ready fun t f => t.sendFrame w.port f
      .next (match w.instance_ with
        | some i => s2.mapInst i fun x => { x with sent := x.sent + w.ready.length }
        | none => s2)

/-! ### Classification (R303, R304) -/

/-- Whether a frame's tag fits an instance's VID (R304). -/
def Inst.vlanFits (x : Inst) (f : RxFrame) : Bool :=
  match f.vlan with
  | none => x.cfg.at Ix.instVid == noneWord
  | some v => x.cfg.at Ix.instVid == (v : Int)

/-- Whether an IP destination is one of an instance's addresses. -/
def Inst.hasAddress (x : Inst) (f : RxFrame) : Bool :=
  match f.ip with
  | none => false
  | some h => if h.v6 then x.ipv6.contains h.dst else x.ipv4.contains h.dst

/-- Whether a frame matches an instance (R304). -/
def State.matchesInst (s : State) (i : Fin 16) (p : Fin 8) (f : RxFrame) : Bool :=
  let x := s.svc.inst[i]
  x.serves p && x.vlanFits f &&
    match payloadIn f with
    | .ntp _ => !x.cfg.flag Ix.instService && x.hasAddress f
    | .ptp m => x.cfg.flag Ix.instService && m.domain == x.cfg.nat Ix.instDomain && m.sdoId == 0 &&
        (x.hasAddress f || f.da == s.portMac p || f.da == (if x.cfg.flag Ix.instL2Group then 0x0180C200000E else 0x011B19000000) ||
          f.da == 0x0180C200000E || x.groupsOf.contains f.da)
    | _ => false

/-- The enabled instance with the lowest index that a frame matches. -/
def State.instanceFor (s : State) (p : Fin 8) (f : RxFrame) : Option (Fin 16) :=
  (List.finRange 16).find? fun i => s.matchesInst i p f

/-- The instance for which the engine answers for an address on a port, if any (R330). -/
def State.answersFor (s : State) (p : Fin 8) (f : RxFrame) (v6 : Bool) (a : Nat) : Option (Fin 16) :=
  (List.finRange 16).find? fun i =>
    let x := s.svc.inst[i]
    x.serves p && x.vlanFits f && (if v6 then x.ipv6.contains a || a == linkLocal (s.portMac p) else x.ipv4.contains a)

/-! ### Rate limits (R313, R359, R363) -/

/-- The source of a request for the sketch: the IPv4 address or the upper half of the IPv6 address (R359). -/
def sourceOf (f : RxFrame) : Option Nat := f.ip.map fun h => if h.v6 then h.src / 2 ^ 64 else h.src

/-- A request over SRC_RATE is counted (R359, R363). -/
def State.noteSrcLimit (s : State) (i : Fin 16) : State :=
  let s1 : State := { s with auth.srcLimited := s.auth.srcLimited + 1 }
  if s1.spaced s1.svc.inst[i].srcAt secCyc then
    (s1.mapInst i fun x => { x with srcAt := some s1.sys.cyc }).raise Flt.srcLimit i.val
  else s1

/-- The token bucket of an instance, filled to now (R313). -/
def State.fillTokens (s : State) (i : Fin 16) : State :=
  let r : Rat := s.svc.inst[i].cfg.at Ix.instInstRate
  s.mapInst i fun x =>
    { x with tokens := min (r / 16) (x.tokens + r * cycSeconds ((s.sys.cyc : Int) - x.tokensAt)), tokensAt := s.sys.cyc }

/-- The limits of R313 in their order: the state and whether the request is over one. -/
def State.rateCheck (s : State) (i : Fin 16) (f : RxFrame) : State × Bool :=
  let x := s.svc.inst[i]
  let r1 := match x.cfg.nat Ix.instSrcRate, sourceOf f with
    | 0, _ => (s, false)
    | _, none => (s, false)
    | _, some a => s.sketch i a
  if r1.2 then (r1.1.noteSrcLimit i, true)
  else if x.cfg.nat Ix.instInstRate = 0 then r1
  else
    let s2 := r1.1.fillTokens i
    if 1 ≤ s2.svc.inst[i].tokens then (s2.mapInst i fun y => { y with tokens := y.tokens - 1 }, false)
    else ({ s2 with auth.instLimited := s2.auth.instLimited + 1 }, true)

/-! ### What NTP serves (R50, R53, R65, R319, R321) -/

/-- The profile by which an instance smears: one that is not off and has not skipped its leap second (R52, R55). -/
def State.smearOf (s : State) (x : Inst) : Option Smear :=
  if x.cfg.at Ix.instSmear = noneWord then none
  else
    let p := s.ts.smear[Fin.ofNat 4 (x.cfg.nat Ix.instSmear)]
    if p.cfg.nat Ix.smearType = 0 || p.skipped then none else some p

/-- UTC as an instance serves it at a time, in 2^-16 ns since 1970: smeared where its profile ramps, and repeating 23:59:59 in an inserted second (R50, R53). -/
def State.servedUtc (s : State) (x : Inst) (t : Int) : Int :=
  let plain := t - s.utcOffsetAt t * secFrac -
    (if s.ts.leapPending == 1 && ((s.ts.leapAt : Int) - 1) * secFrac ≤ t && t < (s.ts.leapAt : Int) * secFrac then secFrac else 0)
  match s.smearOf x with
  | some p => s.smearedUtc p t
  | none => plain

/-- The 64-bit NTP timestamp of a UTC value (R319, R321). -/
def ntp64 (u : Int) : Int := ((u + 2208988800 * secFrac) * 2 ^ 32 / secFrac) % 2 ^ 64

/-- Root dispersion (R65). -/
def rootDispersion (b : Word) : Int := if b = unknownWord then 0x00100000 else (b.toNat * 256 + 999999999) / 1000000000

/-- Whether a time lies within LEAP_WARN before LEAP_AT (R321, R325). -/
def State.leapWarning (s : State) (x : Inst) (t : Int) : Bool :=
  s.ts.leapPending != 0 && ((s.ts.leapAt : Int) - x.cfg.at Ix.instLeapWarn * 3600) * secFrac ≤ t && t < (s.ts.leapAt : Int) * secFrac

/-- Whether NTP says that it is not synchronised (R321). -/
def State.ntpUnsync (s : State) (b : Word) : Bool := s.sys.engine == .warmup || s.sys.engine == .safe || b == unknownWord

/-- LI (R321). -/
def State.ntpLeap (s : State) (x : Inst) (b : Word) (t : Int) : Nat :=
  if s.ntpUnsync b then 3
  else if (s.smearOf x).isSome then 0
  else if s.leapWarning x t then s.ts.leapPending.val else 0

/-- The slot that R321 and R325 name: the selected one, or the last selected. -/
def State.refSlot (s : State) : Option (Fin 16) := s.wv.selected.or s.wv.lastSelected

/-- Reference ID as four characters (R321); free for a kind that the spec gives none. -/
def State.refId (s : State) : Nat :=
  if s.sys.engine = .warmup || s.sys.engine = .safe then 0x494E4954
  else match s.refSlot.map fun i => s.wv.slots[i].kind with
    | some 1 => 0x474E5353
    | some 2 => 0x50505300
    | some 4 => 0x49524947
    | some 5 => 0x50545000
    | some 7 => 0x544F4400
    | _ => s.drawn.draw % 2 ^ 32

/-- Reference timestamp (R321): a whole second. -/
def State.refTime (s : State) (x : Inst) : Int :=
  let at_ := if s.sys.engine = .warmup then none
    else if s.sys.engine = .holdover then s.fc.holdStart
    else s.refSlot.bind fun i => s.wv.slots[i].offsets.head?.map Prod.fst
  match at_ with
  | none => 0
  | some c => ntp64 (roundNear ((s.servedUtc x (s.convert ⟨c, 0⟩) : Rat) / secFrac) * secFrac)

/-- Forms of an NTP answer (R313, R321, R348 to R350): `uid` is the request's Unique Identifier field, `s2c` the key of the response's authenticator, `keyId` and `key` those of the CURRENT slot, `c` the number of cookies that sets the class. -/
inductive NtpForm where
  | plain
  | kiss
  | nak (uid : List Byte)
  | nts (uid s2c : List Byte) (keyId : Nat) (key c2s : List Byte) (c : Nat)
  | ntsKiss (uid s2c : List Byte) (c : Nat)
  deriving DecidableEq, Repr

/-- Cookies that set the class of a form of class 3; none for a form of class 1 (R314, R348 to R350). -/
def NtpForm.cookies : NtpForm → Option Nat
  | .plain => none
  | .kiss => none
  | .nak _ => some 1
  | .nts _ _ _ _ _ c => some c
  | .ntsKiss _ _ c => some c

/-- Whether the form is a RATE kiss. -/
def NtpForm.isKiss : NtpForm → Bool
  | .kiss => true
  | .ntsKiss .. => true
  | _ => false

/-- An NTP header as octets (R321): mode 4, from the leap indicator to the transmit timestamp. -/
def ntpHeader (li vn stratum poll : Nat) (prec : Int) (delay disp id : Nat) (ref org rec xmt : Int) : List Byte :=
  octs 1 (li * 64 + vn * 8 + 4) ++ octs 1 stratum ++ octs 1 poll ++ octsInt 1 prec ++ octs 4 delay ++ octs 4 disp ++ octs 4 id ++
    octsInt 8 ref ++ octsInt 8 org ++ octsInt 8 rec ++ octsInt 8 xmt

/-- The header of an answer with a time (R321). -/
def State.ntpTime (s : State) (i : Fin 16) (p : Fin 8) (q : NtpReq) (a : Stamp) (l : Nat) : List Byte :=
  let x := s.svc.inst[i]
  let b := s.servedBound i p
  let li := s.ntpLeap x b (s.timeAt l)
  ntpHeader li q.vn (if li = 3 then 16 else x.cfg.nat Ix.instStratum) q.poll (-32) (x.cfg.nat Ix.instRootDelay) (rootDispersion b).toNat s.refId
    (s.refTime x) q.xmt (ntp64 (s.servedUtc x (s.convert a))) (ntp64 (s.servedUtc x (s.timeAt l)))

/-- The header of an answer without one: LI 3, stratum 0, a kiss code, and the request's transmit timestamp as origin (R313, R348). -/
def ntpRefusal (q : NtpReq) (code : Nat) : List Byte := ntpHeader 3 q.vn 0 0 0 0 0 code 0 q.xmt 0 0

/-- Nonce `j` of an answer: 16 octets of the generator (R344). -/
def State.nonce (s : State) (j : Nat) : List Byte := octs 16 (Config.free (s.freeCtr + 3 + j))

/-- The Authenticator field of a response over what stands before it (R349). -/
def authenticator (s2c ad nonce plain : List Byte) : List Byte :=
  let box := sivSeal s2c ad nonce plain
  extOf 0x0404 (octs 2 nonce.length ++ octs 2 box.length ++ nonce ++ box)

/-- The octets of an NTP answer (R313, R321, R348 to R350). -/
def State.ntpOctets (s : State) (i : Fin 16) (p : Fin 8) (q : NtpReq) (a : Stamp) (l : Nat) : NtpForm → List Byte
  | .plain => s.ntpTime i p q a l
  | .kiss => ntpRefusal q 0x52415445
  | .nak uid => ntpRefusal q 0x4E54534E ++ uid
  | .nts uid s2c keyId key c2s c =>
    let m := s.ntpTime i p q a l ++ uid
    m ++ authenticator s2c m (s.nonce 0) ((List.range c).flatMap fun j => extOf 0x0204 (mintCookie keyId key (s.nonce (j + 1)) c2s s2c))
  | .ntsKiss uid s2c _ =>
    let m := ntpRefusal q 0x52415445 ++ uid
    m ++ authenticator s2c m (s.nonce 0) []

/-- The VLAN tag of an instance's frames (R310). -/
def Inst.tag (x : Inst) : Option Nat :=
  if x.cfg.at Ix.instVid = noneWord then none else some (x.cfg.nat Ix.instPcp * 8192 + x.cfg.nat Ix.instVid)

/-- The envelope of an answer to a UDP request: back to where it came from, from where it went (R320). -/
def State.replyEnvelope (s : State) (x : Inst) (p : Fin 8) (f : RxFrame) : Envelope :=
  ⟨f.sa, s.portMac p, x.tag, 0x0800, f.ip.map fun h =>
    ⟨h.v6, h.dst, h.src, x.cfg.nat Ix.instDscp, s.drawn.drawn.draw % 65536, h.dport, h.sport⟩⟩

/-- An answer of an NTP instance: its class, its launch and its frame (R314, R315, R319). -/
def State.ntpAnswer (s : State) (e : Fin 16) (i : Fin 16) (p : Fin 8) (f : RxFrame) (q : NtpReq) (form : NtpForm)
    (keys : List (Bool × Fin 64)) : State :=
  let env := s.replyEnvelope s.svc.inst[i] p f
  let extra := 48 * (form.cookies.getD 1 - 1)
  let t := if form.cookies.isSome then 240 + extra else 160
  let w := if form.cookies.isSome then 230 + extra else 150
  let r := s.respond e p (some i) (s.launchTarget p f.arrival f.len t) w keys fun l =>
    { slot := some l, kind := Kind.ntp, octets := env.wrap (s.ntpOctets i p q f.arrival l form), late := s.isLate f.arrival }
  let s1 := ({ r.1 with freeCtr := s.freeCtr + 4 + form.cookies.getD 0 } : State).noteLateBlock f.arrival
  if form.isKiss then { s1 with auth.kissSent := s1.auth.kissSent + 1 } else s1

/-! ### NTS requests (R344 to R350) -/

/-- Whether a field type belongs to NTS (R347). -/
def ntsType (t : Nat) : Bool := t == 0x0104 || t == 0x0204 || t == 0x0304 || t == 0x0404
/-- Whether a request is an NTS request (R347). -/
def isNts (q : NtpReq) : Bool := q.exts.any fun x => ntsType x.ftype
/-- Fields of one type. -/
def extsOf (q : NtpReq) (t : Nat) : List NtpExt := q.exts.filter (·.ftype == t)

/-- The forms that R347 drops. -/
def ntsMalformed (q : NtpReq) : Bool :=
  let uid := extsOf q 0x0104
  let auth := extsOf q 0x0404
  !q.fills || q.exts.any (fun x => decide (x.len < 16) || x.len % 4 != 0) || uid.length != 1 ||
    uid.any (fun x => decide (x.body.length < 32) || decide (64 < x.body.length)) || (extsOf q 0x0204).length != 1 || auth.length != 1 ||
    (q.exts.getLast?.map NtpExt.ftype) != some 0x0404 ||
    auth.any fun x => decide (field x.body 0 2 < 16) || decide (32 < field x.body 0 2) || decide (128 + 16 < field x.body 2 2)

/-- The opening of a request's cookie: C2S, S2C and the slot (R346, R348). -/
def State.openCookie (s : State) (q : NtpReq) : Option (List Byte × List Byte × Fin 4) :=
  match extsOf q 0x0204 with
  | [x] =>
    if x.len != 104 then none
    else
      match (List.finRange 4).find? fun k => s.auth.nts[k].usable && s.auth.nts[k].keyId == field x.body 0 4 with
      | none => none
      | some k => (openWith s.auth.nts[k].key x.body).map fun r => (r.1, r.2, k)
  | _ => none

/-- Whether the request's authenticator verifies under C2S: the header and every field before it are the associated data (R348). -/
def ntsAuthOk (q : NtpReq) (c2s : List Byte) : Bool :=
  match extsOf q 0x0404 with
  | [x] => authWhole x.body && (sivOpen c2s (q.data.take (q.data.length - x.len)) (authNonce x.body) (authSealed x.body)).isSome
  | _ => false

/-- Cookies returned: 1 plus the placeholders of length 104, at most 8 (R349). -/
def cookieCount (q : NtpReq) : Nat := 1 + min 7 ((extsOf q 0x0304).filter (·.len == 104)).length

/-- A fault of authentication at most once a second. -/
def State.ntsFault (s : State) (i : Fin 16) (last : Option Nat) (k : FaultKind) (keep : State → State) : State :=
  if s.spaced last secCyc then (keep s).raise k i.val else s

/-- Row 1 of R348 is counted. -/
def State.cookieBad (s : State) (i : Fin 16) : State :=
  ({ s with auth.cookieBad := s.auth.cookieBad + 1 } : State).ntsFault i s.auth.cookieAt Flt.ntsCookieBad fun t =>
    { t with auth.cookieAt := some t.sys.cyc }

/-- Row 2 of R348 is counted. -/
def State.ntsAuthBad (s : State) (i : Fin 16) : State :=
  ({ s with auth.authBad := s.auth.authBad + 1 } : State).ntsFault i s.auth.authBadAt Flt.ntsAuthBad fun t =>
    { t with auth.authBadAt := some t.sys.cyc }

/-- Row 4 of R348 is counted; the fault on the first such request after a CURRENT slot existed (R363). -/
def State.noCurrentNts (s : State) : State :=
  let s1 : State := { s with auth.noCurrent := s.auth.noCurrent + 1 }
  if s1.auth.hadCurrent then ({ s1 with auth.hadCurrent := false } : State).raise Flt.ntsNoCurrent 0 else s1

/-- An NTS request that R347 does not drop, with the verdict of the rate check (R348, R350). -/
def State.ntsRequest (s : State) (e : Fin 16) (i : Fin 16) (p : Fin 8) (f : RxFrame) (q : NtpReq) (limited : Bool) : State :=
  let uid := (extsOf q 0x0104).flatMap NtpExt.octets
  let c := cookieCount q
  let nak := fun t : State => if limited then t else t.ntpAnswer e i p f q (.nak uid) []
  match s.openCookie q with
  | none => nak (s.cookieBad i)
  | some (c2s, s2c, k) =>
    let used : Bool × Fin 64 := (false, ⟨k.val, by omega⟩)
    if !ntsAuthOk q c2s then nak (s.ntsAuthBad i)
    else if limited then s.ntpAnswer e i p f q (.ntsKiss uid s2c c) [used]
    else match s.currentNts with
      | none => nak s.noCurrentNts
      | some n =>
        let s1 := s.ntpAnswer e i p f q (.nts uid s2c s.auth.nts[n].keyId s.auth.nts[n].key c2s c) [used, (false, ⟨n.val, by omega⟩)]
        { s1 with auth.served := s1.auth.served + 1, auth.requests := s1.auth.requests + c + 1 }

/-- An NTP datagram for an instance (R313, R320, R344 to R350). -/
def State.ntpRequest (s : State) (e : Fin 16) (i : Fin 16) (p : Fin 8) (f : RxFrame) (q : NtpReq) : State :=
  let x := s.svc.inst[i]
  let mode := x.cfg.nat Ix.instNts
  if q.mode = 1 || q.mode = 2 || q.mode = 6 || q.mode = 7 then s.hostRules p f
  else if !s.afterInit then s
  else if (q.vn != 3 && q.vn != 4) || decide (q.data.length < 48) then { s with svc.malformed := s.svc.malformed + 1 }
  else if q.mode != 3 then s
  else if mode = 2 && !isNts q then { s with auth.required := s.auth.required + 1 }
  else
    let nts := mode != 0 && isNts q
    if nts && (!s.auth.drbgOk || ntsMalformed q) then { s with auth.malformed := s.auth.malformed + 1 }
    else
      let r := s.rateCheck i f
      if r.2 && !x.cfg.flag Ix.instOverAction then r.1
      else if nts then r.1.ntsRequest e i p f q r.2
      else r.1.ntpAnswer e i p f q (if r.2 then .kiss else .plain) []

/-! ### The PTP grandmaster (R322 to R326) -/

/-- The multicast or granted interval of R323 as a log, for Announce, Sync and delay request. -/
def Inst.interval (x : Inst) (n : Nat) : Int := x.cfg.at (Ix.instAnnInt + n)

/-- Whether a PTP port is PASSIVE: a better foreign master was heard within three Announce intervals (R322). -/
def State.ptpPassive (s : State) (i : Fin 16) (p : Fin 8) : Bool :=
  let x := s.svc.inst[i]
  !x.cfg.flag Ix.instMasterOnly && (match x.passiveAt[p] with
    | some c => decide (cycSeconds ((s.sys.cyc : Int) - c) < 3 * (2 : Rat) ^ x.interval 0)
    | none => false)

/-- Whether an instance's PTP port on a port is in MASTER (R322, R393). -/
def State.ptpMaster (s : State) (i : Fin 16) (p : Fin 8) : Bool :=
  let x := s.svc.inst[i]
  x.serves p && x.cfg.flag Ix.instService && s.ports[p].linkUp && !s.follower &&
    (s.sys.engine == .acquire || s.sys.engine == .locked || s.sys.engine == .holdover) && !s.ptpPassive i p

/-- clockAccuracy of a B (R66). -/
def clockAccuracy (b : Word) : Nat :=
  if b = unknownWord then 0xFE
  else
    let ps := b.toNat * 1000
    let limits := [1, 5 / 2, 10, 25, 100, 250, 1000, 2500, 10000, 25000, 100000, 250000, 1000000, 2500000, 10000000, 25000000,
      100000000, 250000000, 1000000000, 2500000000, 10000000000, 25000000000, 100000000000, 250000000000, 1000000000000,
      (10000000000000 : Rat)]
    match (List.range 26).find? fun k => (ps : Rat) / 256 ≤ limits.getD k 0 with
    | some k => 0x17 + k
    | none => 0x31

/-- offsetScaledLogVariance (R325). -/
def Inst.variance (x : Inst) : Nat := if x.clockClass = 6 then x.cfg.nat Ix.instVariance else 0xFFFF

/-- timeSource (R325); free for a kind that the spec gives none. -/
def State.timeSource (s : State) : Nat :=
  if s.sys.engine = .holdover || s.sys.engine = .warmup then 0xA0
  else match s.refSlot.map fun i => s.wv.slots[i].kind with
    | some 1 => 0x20
    | some 2 => 0x10
    | some 5 => 0x40
    | some 4 => 0x90
    | some 7 => 0x90
    | _ => s.drawn.draw % 256

/-- The flags of an Announce that leaves at `l` (R325): leap61, leap59, currentUtcOffsetValid, ptpTimescale, timeTraceable, frequencyTraceable. -/
def State.announceFlags (s : State) (x : Inst) (l : Nat) : Nat :=
  let warn := s.leapWarning x (s.timeAt l)
  b2n (warn && s.ts.leapPending == 1) + 2 * b2n (warn && s.ts.leapPending == 2) + 4 * b2n s.ts.utcSet + 8 +
    0x30 * b2n (x.clockClass == 6 || x.clockClass == 7)

/-- The bound TLV with a B (R69). -/
def State.boundTlv (s : State) (x : Inst) (b : Word) : List Byte :=
  if x.cfg.at Ix.instBoundOrg = 0 then []
  else orgTlv (x.cfg.nat Ix.instBoundOrg) (x.cfg.nat Ix.instBoundSub) (octs 4 b.toNat ++ octs 1 s.bound.k ++ octs 1 s.sys.engine.code)

/-- The profile TLV of IEEE C37.238-2017 (R325): grandmasterID and totalTimeInaccuracy in ns. -/
def powerTlv (x : Inst) (b : Word) : List Byte :=
  if x.cfg.nat Ix.instProfile = 4 then
    orgTlv 0x1C129D 2 (octs 2 (x.cfg.nat Ix.instGmId) ++ octs 4 0 ++ octs 4 (if b = unknownWord then 0xFFFFFFFF else (b.toNat + 255) / 256) ++ octs 2 0)
  else []

/-- The place of BOUND after the PTP header: the Announce's 30 octets, then the TLV's type, length, organizationId and subtype. -/
def boundPlace : Nat := 40

/-- What follows the PTP header in an Announce (R69, R325). -/
def State.announceRest (s : State) (i : Fin 16) (p : Fin 8) : List Byte :=
  let x := s.svc.inst[i]
  let b := s.servedBound i p
  octs 10 0 ++ octsInt 2 s.ts.utcOffset ++ octs 1 0 ++ octs 1 (x.cfg.nat Ix.instPriority1) ++ octs 1 x.clockClass ++ octs 1 (clockAccuracy b) ++
    octs 2 x.variance ++ octs 1 (x.cfg.nat Ix.instPriority2) ++ octs 8 s.svc.clockId ++ octs 2 0 ++ octs 1 s.timeSource ++
    s.boundTlv x b ++ powerTlv x b

/-- Whether PTP frames of an instance go over IP, and over IPv6 (R323). -/
def Inst.ptpIp (x : Inst) : Bool × Bool := (x.cfg.nat Ix.instTransport != 0, x.cfg.nat Ix.instTransport == 2)

/-- Where a PTP message goes: to the group of its kind, or to one MAC and IP address. -/
inductive PtpDest where
  | group
  | one (mac addr : Nat)
  deriving DecidableEq, Repr

/-- Where the answer to a message goes: to the group if it came to a group, else to its sender. -/
def answerTo (f : RxFrame) : PtpDest := if castOf f.da = 0 then .one f.sa ((f.ip.map IpInfo.src).getD 0) else .group

/-- The unicastFlag of a message (IEEE 1588). -/
def PtpDest.flag : PtpDest → Nat
  | .group => 0
  | .one _ _ => 0x0400

/-- The envelope of a PTP message of a type (R310, R323): the peer delay group or the other group as Ethernet or IP addresses, port 319 for an event message and 320 for a general one. -/
def State.ptpEnvelope (s : State) (x : Inst) (p : Fin 8) (ty : Nat) (to_ : PtpDest) : Envelope :=
  let peer := ty == 2 || ty == 3 || ty == 0xA
  let v6 := x.ptpIp.2
  let low := if peer then 0x6B else 0x181
  let group := if v6 then (if peer then 0xFF02 else 0xFF0E) * 2 ^ 112 + low else if peer then 0xE000006B else 0xE0000181
  let mac := if x.ptpIp.1 then (if v6 then ipv6Group group else 0x01005E000000 + low)
    else if peer || x.cfg.flag Ix.instL2Group then 0x0180C200000E else 0x011B19000000
  let src := if v6 then x.ipv6.headD 0 else x.ipv4.headD 0
  let udp := if ty < 4 then 319 else 320
  let ip := fun dst : Nat => if x.ptpIp.1 then
      some (⟨v6, src, dst, x.cfg.nat Ix.instDscp, s.drawn.drawn.draw % 65536, udp, udp⟩ : IpHead) else none
  match to_ with
  | .group => ⟨mac, s.portMac p, x.tag, 0x88F7, ip group⟩
  | .one m a => ⟨m, s.portMac p, x.tag, 0x88F7, ip a⟩

/-- The header of a PTP message of an instance's port (R322). -/
def State.ptpHead (s : State) (x : Inst) (p : Fin 8) (ty flags : Nat) (corr : Int) (seq : Nat) (log : Int) : PtpHead :=
  ⟨ty, flags, x.cfg.nat Ix.instDomain, corr, s.svc.clockId, p.val + 1, seq, log⟩

/-- A PTP message that an instance is about to send: the keys it uses and its signature, or none where it may send nothing (R344, R353, R358). -/
def State.ptpSign (s : State) (i : Fin 16) : State × Option (List (Bool × Fin 64) × Option Sign) :=
  match s.svc.inst[i].spp with
  | none => (s, some ([], none))
  | some v => match s.signer v with
    | some k => (s.signed k, some ([(true, k)], some (s.signWith k)))
    | none => ({ s with auth.ptpNoKey := s.auth.ptpNoKey + 1 }, none)

/-- A PTP message of class 4 (R314, R353): its header and the rest by its launch. -/
def State.ptpGeneral (s : State) (e : Fin 16) (i : Fin 16) (p : Fin 8) (kind : Nat) (to_ : PtpDest) (late : Bool)
    (msg : PtpHead × List Byte) : State × Option Nat :=
  let r := s.ptpSign i
  match r.2 with
  | none => (r.1, none)
  | some (keys, sign) =>
    let env := s.ptpEnvelope s.svc.inst[i] p msg.1.msgType to_
    let q := r.1.respondGeneral e p (some i) keys fun l =>
      { slot := some l, kind := kind, octets := env.wrap (msg.1.message msg.2 sign), late := late }
    ({ q.1 with freeCtr := s.freeCtr + 3 }, q.2)

/-- The requestingPortIdentity of an answer. -/
def PtpMsg.requester (m : PtpMsg) : List Byte := octs 8 m.sourceId ++ octs 2 m.sourcePort

/-- A Pdelay_Req is answered (R322, R326, R357). -/
def State.pdelay (s : State) (e : Fin 16) (i : Fin 16) (p : Fin 8) (f : RxFrame) (m : PtpMsg) : State :=
  let r := s.ptpSign i
  match r.2 with
  | none => r.1
  | some (keys, sign) =>
    let x := s.svc.inst[i]
    let one := x.cfg.flag Ix.instOneStep
    let a := s.convert f.arrival
    let to_ := answerTo f
    let late := s.isLate f.arrival
    let t := if sign.isSome then 320 else 160
    let w := if sign.isSome then 310 else 150
    let env := s.ptpEnvelope x p 3 to_
    let q := r.1.respond e p (some i) (s.launchTarget p f.arrival f.len t) w keys fun l =>
      let head := s.ptpHead x p 3 (to_.flag + if one then 0 else 0x0200) (if one then m.corr + (s.timeAt l - a) else -(tsFrac a : Int)) m.seq 0x7F
      { slot := some l, kind := Kind.pdelayResp, late := late,
        octets := env.wrap (head.message ((if one then octs 10 0 else stampOctets a) ++ m.requester) sign) }
    let s1 := ({ q.1 with freeCtr := s.freeCtr + 3 } : State).noteLateBlock f.arrival
    match one, q.2 with
    | false, some l =>
      let t := s.timeAt l
      (s1.ptpGeneral e i p Kind.pdelayFollowUp to_ late
        (s.ptpHead x p 0xA to_.flag (m.corr + tsFrac t) m.seq 0x7F, stampOctets t ++ m.requester)).1
    | _, _ => s1

/-! ### Grants (R327 to R329) -/

/-- The range of a log interval that a profile accepts in a grant, by messageType (R323). -/
def grantRange (profile msgType : Nat) : Option (Int × Int) :=
  match profile, msgType with
  | 0, 0xB => some (0, 4)
  | 0, 0x0 => some (-7, 1)
  | 0, 0x9 => some (-7, 5)
  | 1, 0xB => some (-3, -3)
  | 1, 0x0 => some (-4, -4)
  | 1, 0x9 => some (-4, -4)
  | 2, 0xB => some (-3, 0)
  | 2, 0x0 => some (-7, 0)
  | 2, 0x9 => some (-7, 0)
  | 3, 0xB => some (0, 0)
  | 3, 0x0 => some (0, 0)
  | 3, 0x9 => some (0, 0)
  | 4, 0xB => some (0, 0)
  | 4, 0x0 => some (0, 0)
  | 4, 0x9 => some (0, 0)
  | 5, 0xB => some (-3, 3)
  | 5, 0x0 => some (-7, 4)
  | 5, 0x9 => some (-7, 4)
  | _, _ => none

/-- Messages per second of a log interval, twice for a two-step Sync (R328). -/
def msgRate (log : Int) (two : Bool) : Rat := (2 : Rat) ^ (-log) * (if two then 2 else 1)

/-- Profiles that send multicast messages (R323). -/
def multicastProfile (p : Nat) : Bool := p == 0 || p == 1 || p == 3 || p == 4

/-- The load of one grant. -/
def State.grantRate (s : State) (g : Grant) : Rat :=
  msgRate g.logPeriod (g.msgType == 0 && !s.svc.inst[g.inst].cfg.flag Ix.instOneStep)

/-- The reserved message load (R328). -/
def State.grantLoad (s : State) : Rat :=
  ((s.svc.grants.map s.grantRate).sum) +
    ((List.finRange 16).map fun i =>
      let x := s.svc.inst[i]
      if x.cfg.flag Ix.instService && multicastProfile (x.cfg.nat Ix.instProfile) then
        (((List.finRange 8).filter fun p => s.ptpMaster i p).length : Rat) *
          (msgRate (x.interval 0) false + msgRate (x.interval 1) (!x.cfg.flag Ix.instOneStep))
      else 0).sum

/-- Grants of an instance. -/
def State.grantsHeld (s : State) (i : Fin 16) : Nat := (s.svc.grants.filter (·.inst == i)).length

/-- The key of a grant (R327). -/
def Grant.same (g h : Grant) : Bool :=
  g.inst == h.inst && g.port == h.port && g.clientId == h.clientId && g.clientPort == h.clientPort && g.msgType == h.msgType

/-- The reason for which a request is denied, if it is (R328). -/
def State.denyReason (s : State) (g : Grant) : Option Nat :=
  let x := s.svc.inst[g.inst]
  let held := s.svc.grants.any fun h => h.same g
  let others : State := { s with svc.grants := s.svc.grants.filter fun h => !h.same g }
  if !x.cfg.flag Ix.instUnicast || !s.ptpMaster g.inst g.port then some 1
  else if !(match grantRange (x.cfg.nat Ix.instProfile) g.msgType with
      | some r => decide (r.1 ≤ g.logPeriod) && decide (g.logPeriod ≤ r.2)
      | none => false) then some 2
  else if !held && decide (65536 ≤ s.svc.grants.length) then some 3
  else if 16000000 < others.grantLoad + s.grantRate g then some 4
  else if !held && decide (x.cfg.nat Ix.instGrantLimit ≤ s.grantsHeld g.inst) then some 5
  else none

/-- A denied request is counted and reported (R328, R334). -/
def State.grantDenied (s : State) (i : Fin 16) (reason : Nat) : State :=
  let s1 : State := { s with svc.denied := s.svc.denied + 1 }
  if s1.spaced s1.svc.inst[i].deniedAt secCyc then
    (s1.mapInst i fun x => { x with deniedAt := some s1.sys.cyc }).raise Flt.grantDenied (i.val + reason * 16)
  else s1

/-- The active sends a grant, or a renewal of one (R402). -/
def State.replGrant (s : State) (g : Grant) : State :=
  s.repl (.grantAdd g.inst g.port g.clientId g.clientPort g.msgType g.logPeriod g.duration g.mac g.addr (s.timeAt (g.start * 1024)))

/-- The active sends the end of a grant (R402). -/
def State.replDrop (s : State) (g : Grant) : State := s.repl (.grantDrop g.inst g.port g.clientId g.clientPort g.msgType)

/-- A GRANT_UNICAST_TRANSMISSION TLV (R327): a denied one has the duration 0 and invites no renewal. -/
def grantTlv (msgType : Nat) (log : Int) (duration : Nat) : List Byte :=
  octs 2 0x0005 ++ octs 2 8 ++ octs 1 (msgType * 16) ++ octsInt 1 log ++ octs 4 duration ++ octs 1 0 ++ octs 1 (b2n (duration != 0))

/-- An ACKNOWLEDGE_CANCEL_UNICAST_TRANSMISSION TLV (R327). -/
def cancelTlv (msgType : Nat) : List Byte := octs 2 0x0007 ++ octs 2 2 ++ octs 1 (msgType * 16) ++ octs 1 0

/-- One unicast TLV of a Signaling message: the state and its answer (R327). -/
def State.uniTlv (s : State) (base : Grant) (t : UniTlv) : State × List Byte :=
  let g : Grant := { base with msgType := t.msgType, logPeriod := t.logPeriod,
                               duration := min t.duration (s.svc.inst[base.inst].cfg.nat Ix.instGrantMax) }
  let without := s.svc.grants.filter fun h => !h.same g
  if t.cancel then (({ s with svc.grants := without } : State).replDrop g, cancelTlv t.msgType)
  else match s.denyReason g with
    | some r => (s.grantDenied base.inst r, grantTlv t.msgType t.logPeriod 0)
    | none => ({ s with svc.grants := without ++ [g] }, grantTlv t.msgType t.logPeriod g.duration)

/-- The sequenceId of a message stream of an instance. -/
def Inst.seqOf (x : Inst) (k : Nat) : Nat := ((x.seqs.find? (·.1 == k)).map Prod.snd).getD 0
/-- The same, advanced. -/
def Inst.seqNext (x : Inst) (k : Nat) : Inst := { x with seqs := (k, (x.seqOf k + 1) % 65536) :: x.seqs.filter (·.1 != k) }

/-- The stream of a client's messages of a type on a port, by which `Inst.seqs` keeps its sequenceId; those below 16 are the multicast streams of the ports. -/
def clientStream (id clientPort : Nat) (p : Fin 8) (msgType : Nat) : Nat := 16 + ((id * 65536 + clientPort) * 8 + p.val) * 16 + msgType

/-- A Signaling message is answered TLV by TLV in one reply (R327). -/
def State.signaling (s : State) (e : Fin 16) (i : Fin 16) (p : Fin 8) (f : RxFrame) (m : PtpMsg) (tlvs : List UniTlv) : State :=
  let addr := (f.ip.map IpInfo.src).getD 0
  let base : Grant := ⟨i, p, m.sourceId, m.sourcePort, 0, 0, 0, s.sys.cyc, f.sa, addr, 0⟩
  let r := tlvs.foldl (fun (acc : State × List Byte) t => let q := acc.1.uniTlv base t; (q.1, acc.2 ++ q.2)) (s, [])
  if tlvs.isEmpty then s
  else
    let x := s.svc.inst[i]
    let key := clientStream m.sourceId m.sourcePort p 0xC
    let q := r.1.ptpGeneral e i p Kind.signaling (.one f.sa addr) false
      (s.ptpHead x p 0xC 0x0400 0 (x.seqOf key) 0x7F, m.requester ++ r.2)
    let made := fun g : Grant => g.start == s.sys.cyc && g.clientId == m.sourceId && g.clientPort == m.sourcePort && g.inst == i && g.port == p
    let start := (q.2.map (· / 1024)).getD s.sys.cyc
    let t : State := { q.1 with svc.grants := q.1.svc.grants.map fun g => if made g then { g with start := start } else g }
    let u := t.each ((q.1.svc.grants.filter made).map fun g => { g with start := start }) State.replGrant
    if q.2.isSome then u.mapInst i fun y => y.seqNext key else u

/-- GRANT_EXPIRY (R4, R329): the grant at the index, its duration run from its launch instant. -/
def execGrantExpiry (index : Nat) (s : State) : Out :=
  match s.svc.grants[index]? with
  | some g =>
    if !s.lapsed (g.start + g.duration * secCyc) then .next s
    else .next (({ s with svc.grants := s.svc.grants.eraseIdx index } : State).replDrop g)
  | none => .next s

/-- A Delay_Req under a grant: the grant, counted, or none where it is to be dropped (R327). -/
def State.delayGrant (s : State) (i : Fin 16) (p : Fin 8) (m : PtpMsg) : State × Bool :=
  match s.svc.grants.find? fun g => g.inst == i && g.port == p && g.clientId == m.sourceId && g.clientPort == m.sourcePort && g.msgType == 9 with
  | none => (s, false)
  | some g =>
    let per : Rat := (2 : Rat) ^ g.logPeriod
    if (g.reqCount : Rat) * per ≤ 2 * (cycSeconds ((s.sys.cyc : Int) - g.start) + per) then
      ({ s with svc.grants := s.svc.grants.map fun h => if h = g then { h with reqCount := h.reqCount + 1 } else h }, true)
    else (s, false)

/-- A Delay_Req is answered (R322, R326, R327). -/
def State.delayReq (s : State) (e : Fin 16) (i : Fin 16) (p : Fin 8) (f : RxFrame) (m : PtpMsg) : State :=
  let r := if castOf f.da = 0 then s.delayGrant i p m else (s, true)
  if !r.2 || !s.ptpMaster i p || s.svc.inst[i].cfg.flag Ix.instDelayMech then r.1
  else
    let a := s.convert f.arrival
    let to_ := answerTo f
    let x := s.svc.inst[i]
    let log := if to_ = .group then x.interval 2 else 0x7F
    ((r.1.ptpGeneral e i p Kind.delayResp to_ (s.isLate f.arrival)
      (s.ptpHead x p 9 to_.flag (m.corr - tsFrac a) m.seq log, stampOctets a ++ m.requester)).1).noteLateBlock f.arrival

/-- A foreign Announce (R322): by the algorithm of the instance's profile, better ones are reported, or make the port PASSIVE. -/
def State.foreignAnnounce (s : State) (i : Fin 16) (p : Fin 8) (m : PtpMaster) : State :=
  let x := s.svc.inst[i]
  let own : PtpMaster := ⟨s.svc.clockId, p.val + 1, s.svc.clockId, x.clockClass, clockAccuracy (s.servedBound i p), x.variance,
    x.cfg.nat Ix.instPriority1, x.cfg.nat Ix.instPriority2, 0, none, 0⟩
  let profile := x.cfg.nat Ix.instProfile
  if m.id = s.svc.clockId || !listLess (m.order profile) (own.order profile) then s
  else if x.cfg.flag Ix.instMasterOnly then
    if s.ptpMaster i p && s.spaced x.foreignAt (60 * secCyc) then
      (s.mapInst i fun y => { y with foreignAt := some s.sys.cyc }).raise Flt.ptpForeignMaster (i.val + p.val * 16)
    else s
  else s.mapInst i fun y => { y with passiveAt := y.passiveAt.set p (some s.sys.cyc) }

/-- Whether a PTP message is a request for the limits of R313. -/
def ptpRequest : PtpKind → Bool
  | .delayReq => true
  | .pdelayReq => true
  | .signaling _ => true
  | _ => false

/-- A PTP message for an instance (R313, R322, R356). -/
def State.ptpMsgIn (s : State) (e : Fin 16) (i : Fin 16) (p : Fin 8) (f : RxFrame) (m : PtpMsg) : State :=
  let x := s.svc.inst[i]
  let v := s.verifyPtp x.spp (bitAt (x.cfg.nat Ix.instAuth) 8) m
  if v != 0 then s.authFailed v i.val
  else
    let r := if ptpRequest m.kind then s.rateCheck i f else (s, false)
    if r.2 then r.1
    else match m.kind with
      | .pdelayReq => if x.cfg.flag Ix.instDelayMech then r.1.pdelay e i p f m else r.1
      | .delayReq => r.1.delayReq e i p f m
      | .signaling l => if s.afterInit then r.1.signaling e i p f m l else r.1
      | .announce gm cls acc var p1 p2 steps _ =>
        r.1.foreignAnnounce i p ⟨m.sourceId, m.sourcePort, gm, cls, acc, var, p1, p2, steps, none, s.sys.cyc⟩
      | _ => r.1

/-! ### Dispatch (R299, R303, R393) -/

/-- An ARP request of a sender is answered from the port's MAC (R330). -/
def State.answerArp (s : State) (e : Fin 16) (i : Fin 16) (p : Fin 8) (f : RxFrame) (sender senderIp a : Nat) : State :=
  let env : Envelope := ⟨f.sa, s.portMac p, s.svc.inst[i].tag, 0x0806, none⟩
  (s.respondGeneral e p none [] fun l =>
    { slot := some l, kind := Kind.arp, octets := env.wrap (arpOctets 2 (s.portMac p) a sender senderIp) }).1

/-- FF02::1, to which an unsolicited advertisement goes. -/
def allNodes : Nat := 0xFF02 * 2 ^ 112 + 1

/-- A Neighbor Solicitation is answered from the port's MAC, to all nodes where it has no source address (R330). -/
def State.answerNeighbor (s : State) (e : Fin 16) (i : Fin 16) (p : Fin 8) (f : RxFrame) (a : Nat) : State :=
  let src := (f.ip.map IpInfo.src).getD 0
  let env : Envelope := ⟨if src = 0 then ipv6Group allNodes else f.sa, s.portMac p, s.svc.inst[i].tag, 0x86DD, none⟩
  (s.respondGeneral e p none [] fun l =>
    { slot := some l, kind := Kind.neighbour, octets := env.wrap (advertisement a (if src = 0 then allNodes else src) a (s.portMac p)) }).1

/-- A frame that a follower does not serve (R393). -/
def State.standbyDropped (s : State) : State := { s with twin.standbyDrop := s.twin.standbyDrop + 1 }

/-- The oldest frame of a port's receive buffer goes to the first destination of R303 whose condition it meets; with every Squall engine full it waits (R299). -/
def State.dispatch (s : State) (p : Fin 8) : State :=
  match s.ports[p].rxBuf with
  | [] => s
  | f :: l =>
    let s1 := s.mapPort p fun x => { x with rxBuf := l }
    let served := fun (k : State → Fin 16 → State) =>
      if s.follower then s1.standbyDropped
      else match s.freeEngine with
        | none => s
        | some e => k s1 e
    let rest : State := match s.instanceFor p f, payloadIn f with
      | some i, .ntp q => served fun t e => t.ntpRequest e i p f q
      | some i, .ptp m => served fun t e => t.ptpMsgIn e i p f m
      | _, _ => s1.hostRules p f
    match payloadIn f with
    | .esmc info ssm => if (s.synceSlots p).isEmpty then rest else if info then s1.esmcPdu p ssm else s1
    | .ptp m =>
      match s.ptpSlotIx with
      | some i => if s.wv.slots[i].ptpPort = p && s.wv.slots[i].ptpDomain = m.domain then s1.ptpSlotMsg m f.arrival else rest
      | none => rest
    | .arpRequest sender senderIp a => match s.answersFor p f false a with
      | some i => served fun t e => t.answerArp e i p f sender senderIp a
      | none => rest
    | .neighborSolicit a => match s.answersFor p f true a with
      | some i => served fun t e => t.answerNeighbor e i p f a
      | none => rest
    | _ => rest

/-! ### Instance configuration (R311, R329, R330) -/

/-- One gratuitous ARP or unsolicited Neighbor Advertisement for each address of an instance on a port (R330). -/
def State.announceAddresses (s : State) (i : Fin 16) (p : Fin 8) : State :=
  let x := s.svc.inst[i]
  if s.follower || !x.serves p || !s.ports[p].linkUp then s
  else
    let mac := s.portMac p
    let frame := fun (kind da ty : Nat) (l : List Byte) =>
      ({ slot := none, kind := kind, octets := (⟨da, mac, x.tag, ty, none⟩ : Envelope).wrap l } : TxFrame)
    let v4 := x.ipv4.map fun a => frame Kind.arp 0xFFFFFFFFFFFF 0x0806 (arpOctets 1 mac a 0 a)
    let v6 := (x.ipv6 ++ [linkLocal mac]).map fun a => frame Kind.neighbour (ipv6Group allNodes) 0x86DD (advertisement a allNodes a mac)
    s.each (v4 ++ v6) fun t f => t.sendFrame p f

/-- An instance takes its pending settings (R311). -/
def State.applyInst (s : State) (i : Fin 16) : State :=
  match s.svc.inst[i].pending with
  | none => s
  | some c =>
    let old := s.svc.inst[i].cfg
    let frees := !c.flag Ix.instEnable ||
      [Ix.instService, Ix.instProfile, Ix.instDomain, Ix.instPortMask].any fun k => old.at k != c.at k
    let on := c.flag Ix.instEnable && !old.flag Ix.instEnable
    let s1 := s.mapInst i fun x =>
      { x with cfg := c, pending := none, tokens := if old.at Ix.instInstRate = c.at Ix.instInstRate then x.tokens else c.at Ix.instInstRate / 16,
               tokensAt := if old.at Ix.instInstRate = c.at Ix.instInstRate then x.tokensAt else s.sys.cyc }
    let s2 : State := if frees then { s1 with svc.grants := s1.svc.grants.filter (·.inst != i) } else s1
    let s3 := s2.followInstAuth i
    if on then s3.each (List.finRange 8) fun t p => t.announceAddresses i p else s3

/-- Squall dispatch takes every pending instance setting (R311). -/
def State.applyInstances (s : State) : State := s.each (List.finRange 16) State.applyInst

/-- GARP_REPEAT (R408): 1 s after a takeover. -/
def execGarpRepeat (s : State) : Out :=
  match s.svc.garpDue with
  | some c =>
    if s.sys.cyc < c then .next s
    else
      let s1 : State := { s with svc.garpDue := none }
      .next (s1.each (List.finRange 16) fun t i => t.each (List.finRange 8) fun u p => u.announceAddresses i p)
  | none => .next s

/-! ### Periodic messages (R283, R318, R331) -/

/-- The SSM code that a port sends (R331). -/
def State.esmcCode (s : State) (p : Fin 8) : Nat :=
  let c := s.svc.esmc[p].cfg
  if !s.ports[p].cfg.flag Ix.portTxClk || s.ports[p].fallback then c.nat Ix.esmcQlFree
  else match s.sys.engine with
    | .acquire => c.nat Ix.esmcQlLocked
    | .locked => c.nat Ix.esmcQlLocked
    | .holdover => c.nat Ix.esmcQlHold
    | _ => 0xF

/-- What a periodic source last had as its nominal instant. -/
def State.lastNominal (s : State) (src : Nat) : Option Int := (s.svc.sentAt.find? (·.1 == src)).map Prod.snd
/-- The nominal instant of a source is done with. -/
def State.setNominal (s : State) (src : Nat) (t : Int) : State :=
  { s with svc.sentAt := (src, t) :: s.svc.sentAt.filter (·.1 != src) }

/-- How far ahead of a nominal instant its launch is computed at most, in 2^-16 ns: the 4 µs of R318 less 20 ns, more than the widest gap between slots, so that the first free slot still lies within the 4 µs of R43. -/
def lookAhead : Int := 3980 * 65536

/-- The nominal instant of a grid that lies at least 1 µs ahead, near enough, and was not done before (R318), in 2^-16 ns. -/
def State.nominalDue (s : State) (src : Nat) (per off : Int) : Option Int :=
  let us : Int := secFrac / 1000000
  let t := (s.now + us - off + per - 1) / per * per + off
  if 0 < per && t - s.now ≤ lookAhead && s.lastNominal src != some t then some t else none

/-- A period in seconds, as a power of two, in 2^-16 ns. -/
def logPeriodUnits (log : Int) : Int := if log < 0 then secFrac / 2 ^ log.natAbs else secFrac * 2 ^ log.natAbs

/-- A Sync or an Announce that leaves at `l` (R69, R325, R326). An Announce with a bound TLV takes its BOUND when it leaves. -/
def State.periodicFrame (s : State) (i : Fin 16) (p : Fin 8) (sync : Bool) (seq : Nat) (to_ : PtpDest) (sign : Option Sign) (l : Nat) : TxFrame :=
  let x := s.svc.inst[i]
  let one := x.cfg.flag Ix.instOneStep
  let v := s.timeAt l
  let log := if to_ = .group then x.interval (b2n sync) else 0x7F
  if sync then
    let head := s.ptpHead x p 0 (to_.flag + if one then 0 else 0x0200) (if one then tsFrac v else 0) seq log
    { slot := some l, kind := Kind.sync, octets := (s.ptpEnvelope x p 0 to_).wrap (head.message (stampOctets v) sign) }
  else
    let y : Fresh := ⟨i, s.ptpEnvelope x p 0xB to_, s.ptpHead x p 0xB (to_.flag + s.announceFlags x l) 0 seq log, s.announceRest i p, boundPlace, sign⟩
    { slot := some l, kind := Kind.announce, octets := y.env.wrap (y.head.message y.rest sign),
      fresh := if x.cfg.at Ix.instBoundOrg = 0 then none else some y }

/-- A class 5 PTP message: at its first free slot at or after the nominal instant, or skipped (R318, R326). -/
def State.periodicPtp (s : State) (e : Fin 16) (src : Nat) (i : Fin 16) (p : Fin 8) (sync : Bool) (seqKey : Nat)
    (to_ : PtpDest) (t : Int) : State :=
  let r := (s.setNominal src t).ptpSign i
  match r.2 with
  | none => r.1
  | some (keys, sign) =>
    let x := s.svc.inst[i]
    let n := x.seqOf seqKey
    let q := r.1.respond e p (some i) (s.toRaw t).toNat 0 keys (s.periodicFrame i p sync n to_ sign)
    let s1 : State := { q.1 with freeCtr := s.freeCtr + 3 }
    match q.2 with
    | none => s1
    | some l =>
      let s2 := s1.mapInst i fun y => y.seqNext seqKey
      if sync && !x.cfg.flag Ix.instOneStep then
        let v := s.timeAt l
        let log := if to_ = .group then x.interval 1 else 0x7F
        (s2.ptpGeneral e i p Kind.followUp to_ false (s.ptpHead x p 8 to_.flag (tsFrac v) n log, stampOctets v)).1
      else s2

/-- A frame of the engine's own that is due every `per` of 2^-16 ns (R283, R318, R331): the state, and whether it was due. -/
def State.periodicPlain (s : State) (src : Nat) (per : Int) (p : Fin 8) (kind : Nat) (octets : List Byte) : State × Bool :=
  let soonest := s.now + secFrac / 1000000
  let t := max soonest (match s.lastNominal src with
    | some u => u + per
    | none => soonest)
  if lookAhead < t - s.now then (s, false)
  else match s.freeEngine with
    | none => (s, false)
    | some e =>
      (((s.setNominal src t).respond e p none (s.toRaw t).toNat 0 [] fun l => { slot := some l, kind := kind, octets := octets }).1, true)

/-- An ESMC PDU of a port (R331). -/
def State.esmcFrame (s : State) (p : Fin 8) (event : Bool) : List Byte :=
  (⟨0x0180C2000002, s.portMac p, none, 0x8809, none⟩ : Envelope).wrap (esmcOctets event (s.esmcCode p))

/-- A supervision frame of a pair (R283). -/
def State.supervisionFrame (s : State) (q : Fin 4) : List Byte :=
  (⟨0x01154E000100, s.portMac (lanA q), none, 0x88FB, none⟩ : Envelope).wrap
    (supervisionOctets s.pairs[q].supSeq.toNat (s.portMac (lanA q)))

/-- A grant's nominal instants start at its launch instant rounded up to a whole microsecond (R318). -/
def State.grantPhase (s : State) (g : Grant) : Int :=
  let us : Int := secFrac / 1000000
  (s.convert ⟨g.start, 0⟩ + us - 1) / us * us

/-- The multicast messages of an instance's PTP port: source 16i + 2p for Announce, one more for Sync (R318). -/
def State.periodicMulticast (s : State) (src : Nat) (i : Fin 16) (p : Fin 8) (sync : Bool) : State :=
  let x := s.svc.inst[i]
  let off : Int := ((8 * i.val + p.val : Nat) : Int) * (secFrac / 1000000)
  if !multicastProfile (x.cfg.nat Ix.instProfile) || !s.ptpMaster i p then s
  else match s.nominalDue src (logPeriodUnits (x.interval (if sync then 1 else 0))) off, s.freeEngine with
    | some t, some e => s.periodicPtp e src i p sync (2 * p.val + b2n sync) .group t
    | _, _ => s

/-- The messages of a grant (R318, R327, R329). -/
def State.periodicGrant (s : State) (src : Nat) (g : Grant) : State :=
  if g.msgType = 9 || !s.ptpMaster g.inst g.port then s
  else match s.nominalDue src (logPeriodUnits g.logPeriod) (s.grantPhase g), s.freeEngine with
    | some t, some e =>
      s.periodicPtp e src g.inst g.port (g.msgType == 0) (clientStream g.clientId g.clientPort g.port g.msgType) (.one g.mac g.addr) t
    | _, _ => s

/-- PERIODIC_MESSAGE (R318). Sources: 16i + 2p + m below 256 for Announce (m = 0) and Sync (m = 1) of instance i on port p, 256 + p for the ESMC PDU of a port, 264 + q for the supervision frame of a pair, 268 and up for the grants in their order. -/
def execPeriodicMessage (source : Nat) (s : State) : Out :=
  if s.follower then .next s
  else if source < 256 then .next (s.periodicMulticast source (Fin.ofNat 16 (source / 16)) (Fin.ofNat 8 (source / 2 % 8)) (source % 2 == 1))
  else if source < 264 then
    let p : Fin 8 := Fin.ofNat 8 (source - 256)
    if s.svc.esmc[p].cfg.flag Ix.esmcEnable && s.ports[p].linkUp && s.afterInit then
      let r := s.periodicPlain source secFrac p Kind.esmc (s.esmcFrame p false)
      .next (if r.2 then { r.1 with svc.esmc := upd r.1.svc.esmc p fun x => { x with lastCode := s.esmcCode p } } else r.1)
    else .next s
  else if source < 268 then
    let q : Fin 4 := Fin.ofNat 4 (source - 264)
    if s.pairs[q].cfg.flag Ix.prpOn && s.afterInit && (s.ports[lanA q].linkUp || s.ports[lanB q].linkUp) then
      let r := s.periodicPlain source (s.pairs[q].cfg.at Ix.prpLifeCheck * (secFrac / 1000)) (lanA q) Kind.supervision (s.supervisionFrame q)
      .next (if r.2 then r.1.mapPair q fun y => { y with supSeq := y.supSeq + 1 } else r.1)
    else .next s
  else match s.svc.grants[source - 268]? with
    | some g => .next (s.periodicGrant source g)
    | none => .next s

/-- ESMC_EVENT_PDU (R331): the code has changed since the last PDU. -/
def execEsmcEventPdu (port : Fin 8) (s : State) : Out :=
  let c := s.esmcCode port
  if !s.svc.esmc[port].cfg.flag Ix.esmcEnable || !s.ports[port].linkUp || s.follower || s.svc.esmc[port].lastCode = c then .next s
  else
    let s1 : State := { s with svc.esmc := upd s.svc.esmc port fun x => { x with lastCode := c } }
    .next (s1.sendFrame port { slot := none, kind := Kind.esmc, octets := s.esmcFrame port true })

end Sys2Proof.Machine
end

