-- ==== Sys2Proof/Machine/Gnss.lean ====
section
/-! DEFINITION. The GNSS baseband: streams, search windows, channels, epochs, the timing solution with its integrity and spoofing checks, surveys, notches, J/N, and snapshots (R228 to R265). -/

namespace Sys2Proof.Machine

/-! ### Signals and modes (R232, R233, R239) -/

/-- One line of the signal table (R232). -/
structure SignalInfo where
  system : Nat
  l5 : Bool
  carrier : Rat
  chips : Nat
  rate : Rat
  coherentMs : Nat
  deriving DecidableEq, Repr

/-- The signal table (R232); GLONASS with its channel 0. -/
def signalTable : List SignalInfo :=
  [⟨0, false, 1575420000, 1023, 1023000, 1⟩, ⟨0, false, 1575420000, 10230, 1023000, 4⟩,
   ⟨0, true, 1176450000, 10230, 10230000, 4⟩, ⟨1, false, 1575420000, 4092, 1023000, 4⟩,
   ⟨1, true, 1176450000, 10230, 10230000, 4⟩, ⟨2, false, 1561098000, 2046, 2046000, 1⟩,
   ⟨2, false, 1575420000, 10230, 1023000, 4⟩, ⟨2, true, 1176450000, 10230, 10230000, 4⟩,
   ⟨3, false, 1602000000, 511, 511000, 1⟩, ⟨4, false, 1575420000, 1023, 1023000, 1⟩,
   ⟨4, false, 1575420000, 10230, 1023000, 4⟩, ⟨4, true, 1176450000, 10230, 10230000, 4⟩,
   ⟨5, true, 1176450000, 1023, 1023000, 1⟩]

/-- The line of a signal. -/
def signalInfo (n : Fin 13) : SignalInfo := signalTable.getD n.val ⟨0, false, 1, 1, 1, 1⟩

/-- The carrier of a satellite's signal in Hz; a GLONASS slot has its own channel (R232). -/
def carrierOf (sat : Sat) (n : Fin 13) : Rat :=
  (signalInfo n).carrier + (if (signalInfo n).system = 3 then Config.glonassChannel sat.sv.val * 562500 else 0 : Int)

/-- The speed of light in m/s. -/
def lightSpeed : Rat := 299792458

/-- MODE in force (R233). -/
def Gnss.mode (g : Gnss) : Nat := g.cfg.nat Ix.rxMode

/-- Channels track in CONTINUOUS and BURST modes, from INIT on (R33, R256, R257). -/
def State.gnssTracks (s : State) : Bool := s.afterBoot && (s.gnss.mode == 1 || s.gnss.mode == 2)

/-- The enabled GNSS slots, of which there is at most one (R234). -/
def State.gnssSlots (s : State) : List (Fin 16) := s.slotsWith fun x => x.cfg.flag Ix.slotEnable && x.kind == 1

/-- The main signal of a system, which class 1 tracks (R233, R239). -/
def Gnss.mainSignal (g : Gnss) (system : Fin 6) : Fin 13 :=
  match system with
  | 0 => Fin.ofNat 13 (g.cfg.nat Ix.rxL1Gps)
  | 1 => 3
  | 2 => Fin.ofNat 13 (g.cfg.nat Ix.rxL1Bds)
  | 3 => 8
  | 4 => Fin.ofNat 13 (g.cfg.nat Ix.rxL1Qzss)
  | 5 => 12

/-- The L5-band partner of a system's main signal (R237, R243). -/
def partnerSignal (system : Fin 6) : Option (Fin 13) :=
  match system with
  | 0 => some 2
  | 1 => some 4
  | 2 => some 7
  | 4 => some 11
  | _ => none

/-- The stream that carries a signal of an antenna (R228). -/
def streamOf (n : Fin 13) (antB : Bool) : Fin 4 := Fin.ofNat 4 (2 * b2n antB + b2n (signalInfo n).l5)

/-- The priority class of a signal (R239): 0 where the configuration has no use for it. -/
def Gnss.class (g : Gnss) (sat : Sat) (n : Fin 13) (antB : Bool) : Nat :=
  let main := decide (n = g.mainSignal sat.system)
  let five := g.cfg.flag Ix.rxDualFreq && partnerSignal sat.system == some n
  if !bitAt (g.cfg.nat Ix.rxSystems) sat.system.val || (antB && !g.cfg.flag Ix.rxAntB) then 0
  else if main then (if antB then 3 else 1)
  else if five then (if antB then 4 else 2)
  else 0

/-! ### Ephemerides and search windows (R236, R237) -/

/-- Whether an ephemeris serves at a TAI second: up to 6 h after its reference time (R236). -/
def State.ephAt (s : State) (sat : Sat) (t : Int) : Bool := s.mram.ephemerides.any fun e => e.1 == sat && decide (t ≤ e.2 + 21600)
/-- Whether an almanac serves now: up to 7 days (R236). -/
def State.almNow (s : State) (sat : Sat) : Bool := s.mram.almanacs.any fun e => e.1 == sat && decide (s.nowSec ≤ e.2 + 604800)
/-- Satellites with an ephemeris that serves at a TAI second. -/
def State.ephCount (s : State) (t : Int) : Nat := ((s.mram.ephemerides.map Prod.fst).dedup.filter fun x => s.ephAt x t).length

/-- u_y of R236: the 1-sigma frequency uncertainty of the flywheel in use. -/
def State.acqFreqUnc (s : State) : Rat := sqrtUp (s.uLinNow ((fwOf s.fc.use).headD 0) * 2 ^ 128) / 2 ^ 64

/-- u_t of R236 in seconds; none is unknown. -/
def State.timeUncertainty (s : State) : Option Rat :=
  if s.bound.ts != unknownWord then some ((s.bound.ts.toNat : Rat) / 256 / 1000000000)
  else s.gnss.aid.map fun a => (a.2.2 : Rat) / 1000000000 + s.kRat * s.acqFreqUnc * cycSeconds ((s.sys.cyc : Int) - a.1)

/-- POS_UNC / c in seconds. -/
def State.posUncSeconds (s : State) : Rat := (s.gnss.cfg.at Ix.rxPosUnc : Rat) / 1000 / lightSpeed

/-- BASELINE's length in m. -/
def Gnss.baselineLength (g : Gnss) : Rat :=
  let q := fun i => (g.cfg.at i) * (g.cfg.at i)
  sqrtUp ((q Ix.rxBaselineE + q Ix.rxBaselineN + q Ix.rxBaselineU : Int) : Rat) / 1000

/-- Hypotheses of a direct search (R236). -/
def State.directHyps (s : State) (sat : Sat) (n : Fin 13) : Nat :=
  let i := signalInfo n
  let eph := s.ephAt sat s.nowSec
  let code : Int := match s.timeUncertainty with
    | none => 2 * i.chips
    | some u =>
      if !eph && !s.almNow sat then 2 * i.chips
      else min (2 * i.chips) ((4 * ((u + s.kRat * s.posUncSeconds) * i.rate + 1)).ceil + 1)
  let d : Rat := if eph then 5 else if s.almNow sat then 100 else 5000
  let bins := 2 * ((250 + d + carrierOf sat n * s.kRat * s.acqFreqUnc) / 250).ceil + 1
  (code * bins).toNat

/-- Hypotheses of a handover: ±3 chips and ±1 bin, widened by the baseline on antenna B (R237). -/
def State.handoverHyps (s : State) (n : Fin 13) (antB : Bool) : Nat :=
  let w : Rat := 3 + (if antB then s.gnss.baselineLength / lightSpeed * (signalInfo n).rate else 0)
  3 * ((4 * w).ceil + 1).toNat

/-- The channel that tracks a signal, if any. -/
def State.chanOf (s : State) (sat : Sat) (n : Fin 13) (antB : Bool) : Option (Fin 128) :=
  (List.finRange 128).find? fun c =>
    let x := s.gnss.chans[c]
    x.sat == some sat && x.signal == n && x.antB == antB && (x.state == .pullIn || x.state == .tracking)

/-- Whether a signal is tracked. -/
def State.tracked (s : State) (sat : Sat) (n : Fin 13) (antB : Bool) : Bool :=
  match s.chanOf sat n antB with
  | some c => s.gnss.chans[c].state == .tracking
  | none => false

/-- Whether antenna A tracks six or more higher satellites than this elevation (R239, class 3). -/
def State.belowSix (s : State) (sat : Sat) (elevation : Int) : Bool :=
  6 ≤ (s.gnss.chans.toList.filter fun x =>
    x.state == .tracking && !x.antB && (match x.sat with
      | some y => decide (x.signal = s.gnss.mainSignal y.system) && y != sat
      | none => false) && decide (elevation < x.elevation)).length

/-- The elevation of a satellite as predicted; the mask where there is no prediction. DESIGN CHOICE (log entry 49). -/
def State.predicted (s : State) (sat : Sat) : Int :=
  match s.gnss.view.find? (·.1 == sat) with
  | some e => e.2
  | none => s.gnss.cfg.at Ix.rxElevMask

/-- Whether nothing aids acquisition: a cold start (R238). -/
def State.coldStart (s : State) : Bool :=
  s.timeUncertainty.isNone && s.mram.ephemerides.all (fun e => !s.ephAt e.1 s.nowSec) && s.mram.almanacs.all fun e => !s.almNow e.1

/-- The hypotheses that a search of a signal has now; none where it is not searched: class 1 searches what is not predicted below ELEV_MASK, the others wait for the satellite's main signal on antenna A (R237, R239), an unhealthy or disabled stream carries nothing (R231). -/
def State.searchHyps (s : State) (sat : Sat) (n : Fin 13) (antB : Bool) : Option Nat :=
  let c := s.gnss.class sat n antB
  let st := s.gnss.streams[streamOf n antB]
  if !s.gnssTracks || c = 0 || !st.healthy || (s.chanOf sat n antB).isSome then none
  else if c = 1 then (if s.predicted sat < s.gnss.cfg.at Ix.rxElevMask then none else some (s.directHyps sat n))
  else match s.chanOf sat (s.gnss.mainSignal sat.system) false with
    | some k =>
      let x := s.gnss.chans[k]
      if x.state == .tracking && !(antB && s.belowSix sat x.elevation) then some (s.handoverHyps n antB) else none
    | none => none

/-- The middle of a handover's window: the main signal's code phase on antenna A and its Doppler scaled by the carrier ratio (R237). -/
def State.handoverCentre (s : State) (sat : Sat) (n : Fin 13) : Option (Int × Int) :=
  let m := s.gnss.mainSignal sat.system
  (s.chanOf sat m false).map fun k =>
    let x := s.gnss.chans[k]
    (x.pseudorange, looseRound ((x.doppler : Rat) * carrierOf sat n / carrierOf sat m))

/-- How many satellites of a system are searched, from number 1 on. PRESUMED: the constellations' own numbering (log entry 49). -/
def svCount : Fin 6 → Nat
  | 0 => 32
  | 1 => 36
  | 2 => 63
  | 3 => 24
  | 4 => 10
  | 5 => 14

/-- The satellites in search order: by descending predicted elevation, then without a prediction by ascending PRN (R236). -/
def State.searchOrder (s : State) : List Sat :=
  let seen := (s.gnss.view.mergeSort fun a b => decide (b.2 ≤ a.2)).map Prod.fst
  let all := (List.finRange 6).flatMap fun y => (List.range (svCount y)).map fun k => (⟨y, Fin.ofNat 64 (k + 1)⟩ : Sat)
  seen ++ all.filter fun x => !seen.contains x

/-- Every search there is now, whole, in order; a cold search covers GPS L1 C/A before any other signal (R236 to R238). -/
def State.searches (s : State) : List Search :=
  let l := s.searchOrder.flatMap fun sat =>
    let m := s.gnss.mainSignal sat.system
    let p := (partnerSignal sat.system).getD m
    [(m, false), (p, false), (m, true), (p, true)].dedup.filterMap fun e =>
      (s.searchHyps sat e.1 e.2).map fun n =>
        { sat := sat, signal := e.1, antB := e.2, first := 0, count := n,
          centre := if s.gnss.class sat e.1 e.2 = 1 then none else s.handoverCentre sat e.1 : Search }
  if s.coldStart then l.filter (·.signal == 0) ++ l.filter (·.signal != 0) else l

/-- What the sweep has left of a search. -/
def Gnss.leftOf (g : Gnss) (x : Search) : Option Search :=
  let done := ((g.swept.find? fun e => e.1 == x.sat && e.2.1 == x.signal && e.2.2.1 == x.antB).map (·.2.2.2)).getD 0
  if done < x.count then some { x with first := done, count := x.count - done } else none

/-- A block from searches of one signal, up to so many hypotheses (R235). -/
def fillBlock : Nat → List Search → List Search
  | _, [] => []
  | room, x :: l => if x.count < room then x :: fillBlock (room - x.count) l else [{ x with count := room }]

/-- The end of a dwell of a signal that starts now: its coherent time times ACQ_NC (R235). -/
def State.dwellEnd (s : State) (n : Fin 13) : Nat := s.sys.cyc + (signalInfo n).coherentMs * s.gnss.cfg.nat Ix.rxAcqNc * msCyc

/-- The acquisition engine, when idle, verifies the oldest detection, else searches the next block; a finished sweep begins again (R235, R236). -/
def State.startDwell (s : State) : State :=
  if s.gnss.dwell.isSome then s
  else
    match s.gnss.toVerify with
    | v :: _ => { s with gnss.dwell := some ⟨true, [v], s.dwellEnd v.signal⟩ }
    | [] =>
      let all := s.searches
      let left := all.filterMap s.gnss.leftOf
      match (if left.isEmpty then all else left) with
      | [] => s
      | x :: l =>
        { s with gnss.swept := if left.isEmpty then [] else s.gnss.swept,
                 gnss.dwell := some ⟨false, fillBlock 8192 ((x :: l).filter fun y => y.signal == x.signal), s.dwellEnd x.signal⟩ }

/-- Whether a power is a detection against the block's noise (R235). -/
def Gnss.detects (g : Gnss) (noise power : Nat) : Bool := Config.acqThreshold (g.cfg.nat Ix.rxAcqNc) * noise < (power : Rat)

/-- The search of a block that a hypothesis belongs to, with that hypothesis alone. -/
def hypothesisAt : List Search → Nat → Option Search
  | [], _ => none
  | x :: l, h => if h < x.count then some { x with first := x.first + h, count := 1 } else hypothesisAt l (h - x.count)

/-- A detection is queued for verification, once per signal and only while its search goes on (R235). -/
def State.noteDetection (s : State) (x : Search) : State :=
  if (s.searchHyps x.sat x.signal x.antB).isNone || s.gnss.toVerify.any fun y => y.sat == x.sat && y.signal == x.signal && y.antB == x.antB then s
  else { s with gnss.toVerify := s.gnss.toVerify ++ [x] }

/-- ACQ_DWELL_COMPLETE (R235): the dwell's block ends with the powers of its hypotheses, by their places in the block; the detections go to verification. -/
def execAcqDwellComplete (noise : Nat) (powers : List (Nat × Nat)) (s : State) : Out :=
  match s.gnss.dwell with
  | some d =>
    if d.verify || s.sys.cyc < d.ends then .next s
    else
      let hits := (powers.filter fun e => s.gnss.detects noise e.2).filterMap fun e => hypothesisAt d.block e.1
      let key := fun x : Search => (x.sat, x.signal, x.antB)
      let old := s.gnss.swept.filter fun e => d.block.all fun x => key x != (e.1, e.2.1, e.2.2.1)
      let s1 : State := { s with gnss.dwell := none, gnss.swept := (d.block.map fun x => (x.sat, x.signal, x.antB, x.first + x.count)) ++ old }
      .next (s1.each hits State.noteDetection).startDwell
  | none => .next s

/-! ### Channels (R239 to R241) -/

/-- A channel changed by `f`. -/
def State.mapChan (s : State) (c : Fin 128) (f : GnssChan → GnssChan) : State := { s with gnss.chans := upd s.gnss.chans c f }

/-- Every channel that `p` holds for becomes idle. -/
def State.dropChans (s : State) (p : GnssChan → Bool) : State :=
  { s with gnss.chans := s.gnss.chans.map fun x => if x.state != .idle && p x then {} else x }

/-- The rank of a channel for dropping: its class, then low elevation, the highest first (R239). -/
def Gnss.dropRank (g : Gnss) (x : GnssChan) : Nat × Int :=
  (match x.sat with
    | some y => g.class y x.signal x.antB
    | none => 5, -x.elevation)

/-- Whether rank `a` is dropped before rank `b`. -/
def dropFirst (a b : Nat × Int) : Bool := b.1 < a.1 || (a.1 == b.1 && b.2 < a.2)

/-- The channel for a new signal: the lowest free one, else the first to drop, if that ranks below the new signal (R239). -/
def State.pickChan (s : State) (rank : Nat × Int) : Option (Fin 128) :=
  match (List.finRange 128).find? fun c => s.gnss.chans[c].state == .idle || s.gnss.chans[c].state == .lost with
  | some c => some c
  | none =>
    let worst := (List.finRange 128).foldl (fun b c =>
      if dropFirst (s.gnss.dropRank s.gnss.chans[c]) (s.gnss.dropRank s.gnss.chans[b]) then c else b) (0 : Fin 128)
    if dropFirst (s.gnss.dropRank s.gnss.chans[worst]) rank then some worst else none

/-- A confirmed signal is given a channel, if one is free or ranks lower (R235, R239). -/
def State.assignChan (s : State) (v : Search) : State :=
  if (s.searchHyps v.sat v.signal v.antB).isNone then s
  else
    match s.pickChan (s.gnss.class v.sat v.signal v.antB, -s.predicted v.sat) with
    | some k =>
      let c := v.centre.getD (0, 0)
      s.mapChan k fun _ =>
        { sat := some v.sat, signal := v.signal, antB := v.antB, state := .pullIn, elevation := s.predicted v.sat, pseudorange := c.1, doppler := c.2 }
    | none => s

/-- ACQ_VERIFY_COMPLETE (R235, R239): the second dwell ends with the powers of the hypothesis and its neighbours; one above the threshold confirms it. -/
def execAcqVerifyComplete (noise : Nat) (powers : List Nat) (s : State) : Out :=
  match s.gnss.dwell with
  | some d =>
    if !d.verify || s.sys.cyc < d.ends then .next s
    else
      let s1 : State := { s with gnss.dwell := none, gnss.toVerify := s.gnss.toVerify.drop 1 }
      let s2 := if powers.any (s.gnss.detects noise) then s1.each d.block State.assignChan else s1
      .next s2.startDwell
  | none => .next s

/-- The C/N0 below which a channel is lost, in 0.25 dB-Hz, and for how many reports of 1 s: in the bursts of BURST mode R256's, while tracking is continuous R240's. -/
def Gnss.lossRule (g : Gnss) : Nat × Nat := if g.mode = 2 && !g.refresh then (120, 1) else (100, 2)

/-- TRACK_CHANNEL_LOST (R240): the channel is released, and its satellite is searched for again. -/
def execTrackChannelLost (chan : Fin 128) (s : State) : Out :=
  let x := s.gnss.chans[chan]
  if (x.state == .tracking || x.state == .pullIn) && s.gnss.lossRule.2 ≤ x.lowRun then
    let s1 := s.mapChan chan fun x => { x with state := .lost, used := false, excluded := false, lowRun := 0 }
    .next ({ s1 with gnss.swept := s1.gnss.swept.filter fun e => some e.1 != x.sat } : State).startDwell
  else .next s

/-- The Doppler of a carrier, in 2^-8 Hz, from its frequency in the samples: Q is negated for an inverted spectrum, LO added, and the timebase's error taken out by RATE (R229, R230). -/
def State.dopplerOf (s : State) (sat : Sat) (n : Fin 13) (antB : Bool) (ifFreq : Int) : Int :=
  let c := s.gnss.streams[streamOf n antB].cfg
  let f : Rat := ((if c.flag Ix.streamInvert then -ifFreq else ifFreq : Int) : Rat) / 256 + c.at Ix.streamLo
  looseRound ((f / (1 + (s.setNow.rate : Rat) / 2 ^ 56) - carrierOf sat n) * 256)

/-- Bins of elevation of the C/N0 baseline: 5° each (R253). -/
def elevationBin (e : Int) : Int := e / 5

/-- A report list of the trailing 7 days, newest first (R253). -/
def keepWeek {α : Type} (now : Nat) (l : List (Nat × α)) : List (Nat × α) := l.filter fun e => decide (now < e.1 + 604800 * secCyc)

/-- A channel's measurement is latched (R241); a satellite 2° below ELEV_MASK is released (R239). -/
def State.latch (s : State) (m : ChanMeas) : State :=
  let x := s.gnss.chans[m.chan]
  match x.sat with
  | none => s
  | some sat =>
    if x.state != .pullIn && x.state != .tracking then s
    else if m.elevation ≤ s.gnss.cfg.at Ix.rxElevMask - 2 then s.mapChan m.chan fun _ => {}
    else
      let st := streamOf x.signal x.antB
      let flip := s.gnss.streams[st].cfg.flag Ix.streamInvert
      let s1 := s.mapChan m.chan fun x =>
        { x with state := .tracking, pseudorange := m.pseudorange, phase := if flip then -m.phase else m.phase,
                 doppler := s.dopplerOf sat x.signal x.antB m.ifFreq, cn0 := m.cn0, elevation := m.elevation, azimuth := m.azimuth,
                 lowRun := if m.cn0 < s.gnss.lossRule.1 then x.lowRun + 1 else 0 }
      s1.mapStream st fun y => { y with cn0s := keepWeek s.sys.cyc ((s.sys.cyc, x.signal, elevationBin m.elevation, m.cn0) :: y.cn0s) }

/-! ### Configuration in force (R233, R256, R262) -/

/-- What ends with the mode: channels, and with OFF the slot's signal (R262). A snapshot that has not been taken is abandoned. -/
def State.leaveMode (s : State) (new : Nat) : State :=
  let s1 := if new = 1 || new = 2 then s
    else
      let s1 : State := { s.dropChans (fun _ => true) with
        gnss.toVerify := [], gnss.dwell := none, gnss.swept := [], gnss.refresh := false, gnss.epochAt := none }
      match s1.gnss.snap.state with
      | .pending | .capturing => { s1.completeOpt s1.gnss.snap.cmd 0x00B [] with gnss.snap.state := .empty, gnss.snap.cmd := none, gnss.snap.startAt := none }
      | _ => s1
  if new = 0 then
    (({ s1 with gnss.solution := .none } : State).causeEnds Flt.gnssNoSolution 0).signalLost s1.gnssSlots
  else s1

/-- A receiver configuration comes into force (R233). -/
def State.applyReceiver (s : State) (c : Cfg) : State :=
  let old := s.gnss.mode
  let new := c.nat Ix.rxMode
  let s1 := if old = new then s else s.leaveMode new
  let s2 : State := { s1 with gnss.cfg := c }
  let s3 : State := if old = 0 && new != 0 then { s2 with gnss.modeStart := s2.sys.cyc, gnss.everValid := false } else s2
  let s4 : State := if new = 3 && old != 3 then { s3 with gnss.snapDue := s3.sys.cyc + c.nat Ix.rxSnapInterval * secCyc } else s3
  s4.dropChans fun x => match x.sat with
    | some y => s4.gnss.class y x.signal x.antB == 0
    | none => true

/-- Whether POS is invalid (R461). -/
def Gnss.posInvalid (g : Gnss) : Bool := g.cfg.at Ix.rxPosX == -(2 ^ 63)

/-- Whether a survey runs (R249). -/
def Gnss.surveys (g : Gnss) : Bool := g.cfg.nat Ix.rxSurvey == 2 || (g.cfg.nat Ix.rxSurvey == 1 && g.posInvalid)

/-- A BURST-mode refresh starts when too few ephemerides last 10 min and the 60 s in 30 min are not used up, and ends when enough do (R256). -/
def State.followRefresh (s : State) : State :=
  let need := s.gnss.mode == 2 && decide (s.ephCount (s.nowSec + 600) < s.gnss.cfg.nat Ix.rxMinSats)
  let secs := s.gnss.refreshSecs.filter fun c => s.sys.cyc < c + 1800 * secCyc
  let on := need && (s.gnss.refresh || decide (secs.length < 60))
  { s with gnss.refresh := on, gnss.refreshSecs := if on then s.sys.cyc :: secs else secs }

/-- New navigation sets enter the MRAM ring, each once: one that it holds is not written again (R238). -/
def keepSets (old : List (Sat × Int)) (new : List (Sat × Int)) : List (Sat × Int) :=
  new.foldl (fun l e => if l.contains e then l else e :: l.filter fun o => o.1 != e.1) old

/-- The survey that runs goes on, or its sums begin empty (R249). -/
def State.followSurvey (s : State) : State :=
  if !s.gnss.surveys then { s with gnss.surveyStart := none }
  else if s.gnss.surveyStart.isSome then s
  else { s with gnss.surveyStart := some s.sys.cyc, gnss.surveyRound := false, gnss.surveyInfo := [], gnss.surveySum := [], gnss.surveySigma := unknownWord }

/-- Antenna-B channels of satellites that are no longer among the six highest are released (R239). -/
def State.releaseLow (s : State) : State :=
  s.dropChans fun x => x.antB && match x.sat with
    | some y => s.belowSix y x.elevation
    | none => false

/-- GNSS_EPOCH (R233, R241, R256, R480): at each whole TAI second, with the navigation sets received and the predicted elevations. -/
def execGnssEpoch (meas : List ChanMeas) (eph alm view : List (Sat × Int)) (s : State) : Out :=
  if !s.afterBoot || s.gnss.epochSec = s.nowSec then .next s
  else
    let s1 : State := { s with
      gnss.epochSec := s.nowSec, gnss.next := none, gnss.view := view,
      mram.ephemerides := keepSets s.mram.ephemerides eph, mram.almanacs := keepSets s.mram.almanacs alm }
    let s2 := match s.gnss.next with
      | some c => s1.applyReceiver c
      | none => s1
    let s3 := s2.applied 5 0
    if !s3.gnssTracks then .next s3
    else
      let s4 := (s3.each meas State.latch).releaseLow
      let at_ := (s4.toRaw (s4.nowSec * secFrac) / 1024).toNat
      .next ({ s4 with gnss.epochAt := some at_ } : State).followSurvey.followRefresh.startDwell

/-- EPH_REFRESH_LIMIT (R256): the refresh has used 60 s of 30 min. -/
def execEphRefreshLimit (s : State) : Out :=
  if !s.gnss.refresh || s.gnss.refreshSecs.length < 60 then .next s
  else
    let n := s.ephCount (s.nowSec + 600)
    let s1 : State := { s with gnss.refresh := false }
    .next (if n < s.gnss.cfg.nat Ix.rxMinSats then s1.raise Flt.gnssEphStale n else s1)

/-! ### Streams (R231, R251 to R253, R262) -/

/-- A component as the engine takes it: −8 as −7 (R229). -/
def sampleValue (x : Int) : Int := max x (-7)

/-- The longest run of identical samples (R231): runs that repeat one value count as one. -/
def longestRun (runs : List (Nat × Int × Int)) : Nat :=
  (runs.foldl (fun (b : Nat × Nat × Option (Int × Int)) e =>
    let n := if b.2.2 == some e.2 then b.2.1 + e.1 else e.1
    (max b.1 n, n, some e.2)) (0, 0, none)).1

/-- How many samples the runs hold. -/
def sampleCount (runs : List (Nat × Int × Int)) : Nat := (runs.map Prod.fst).sum

/-- The mean square of the components, I and Q, of some samples (R231, R259). -/
def sampleSquare (runs : List (Nat × Int × Int)) : Rat :=
  let q := fun x : Int => sampleValue x * sampleValue x
  (((runs.map fun e => (e.1 : Int) * (q e.2.1 + q e.2.2)).sum : Int) : Rat) / (2 * sampleCount runs : Nat)

/-- A root mean square in 2^-8 LSB (R259, R264). -/
def rmsCode (square : Rat) : Nat := min 0xFFFF (looseRound (sqrtUp (square * 65536))).toNat

/-- Whether more than 5 % of some samples are clipped: a component is −8 (R229, R231). -/
def tooClipped (runs : List (Nat × Int × Int)) : Bool :=
  decide (sampleCount runs < 20 * sampleCount (runs.filter fun e => e.2.1 == -8 || e.2.2 == -8))

/-- What makes a stream UNHEALTHY (R231), as FE_STREAM's DETAIL numbers it (R265): all samples alike for 1 ms, the rms below 0.5 LSB, clipping. -/
def streamCause (runs : List (Nat × Int × Int)) : Option Nat :=
  if 62500 ≤ longestRun runs then some 0
  else if sampleSquare runs < 1 / 4 then some 1
  else if tooClipped runs then some 2
  else none

/-- STREAM_HEALTH_CHECK (R231): the tests of an enabled stream over the samples of 100 ms, as runs of one I and Q value. -/
def execStreamHealthCheck (stream : Fin 4) (runs : List (Nat × Int × Int)) (s : State) : Out :=
  let x := s.gnss.streams[stream]
  if !s.afterBoot || !x.cfg.flag Ix.streamEnable then .next s
  else
    let cause := streamCause runs
    let s1 := s.mapStream stream fun y => { y with rms := rmsCode (sampleSquare runs), clip := tooClipped runs }
    match cause with
    | some c =>
      let s2 := (s1.mapStream stream fun y => { y with healthy := false, goodSince := none }).dropChans
        fun z => decide (streamOf z.signal z.antB = stream)
      let known := s.flt.present.any fun m => m.source == Flt.feStream.source && m.kind == Flt.feStream.kind && m.detail % 4 == stream.val
      let s3 := if known then s2 else s2.raise Flt.feStream (stream.val + c * 4)
      let none_ := s3.gnss.streams.toList.all fun y => !y.healthy
      .next (if x.healthy && none_ then s3.signalLost s3.gnssSlots else s3)
    | none =>
      let since := x.goodSince.getD s.sys.cyc
      let s2 := s1.mapStream stream fun y => { y with goodSince := some since }
      if !x.healthy && since + secCyc ≤ s.sys.cyc then
        .next ((s2.mapStream stream fun y => { y with healthy := true }).causeGone Flt.feStream (· % 4 == stream.val))
      else .next s2

/-- Twice the median of a list: the two middle values of a sorted list of even length. -/
def doubleMedian (l : List Int) : Int :=
  let q := l.mergeSort
  q.getD ((q.length - 1) / 2) 0 + q.getD (q.length / 2) 0

/-- One notch of a stream is placed on a bin or removed (R251). -/
def State.setNotch (s : State) (stream j : Fin 4) (bin : Option Int) : State :=
  (s.mapStream stream fun x => { x with notches := x.notches.set j bin, notchLow := x.notchLow.set j 0 }).raise Flt.gnssNotch
    (stream.val + j.val * 4 + b2n bin.isSome * 16)

/-- The bins of a spectrum that hold an interferer, strongest first, as bin and level (R251). -/
def interferers (bins : List Int) (limit2 : Int) : List (Int × Int) :=
  ((bins.zipIdx.map fun e => ((e.2 : Int) - 128, e.1)).filter fun e => limit2 < 2 * e.2).mergeSort
    fun a b => decide (b.2 ≤ a.2)

/-- One strong bin gets a notch: a free one, or that of a weaker interferer when more than four bins hold one (R251). -/
def State.placeNotch (s : State) (stream : Fin 4) (top all : List Int) (b : Int) : State :=
  let x := s.gnss.streams[stream]
  if x.notches.toList.contains (some b) then s
  else
    match (List.finRange 4).find? fun j => x.notches[j].isNone with
    | some j => s.setNotch stream j (some b)
    | none =>
      match (List.finRange 4).find? fun j => match x.notches[j] with
        | some o => all.contains o && !top.contains o
        | none => false with
      | some j => (s.setNotch stream j none).setNotch stream j (some b)
      | none => s

/-- NOTCH_SPECTRUM (R251): 256 bins in units of 2^-8 dB. A notch goes after its bin has stayed 3 dB below the threshold for 100 spectra, one each 10 ms. -/
def execNotchSpectrum (stream : Fin 4) (binsDb : List Int) (s : State) : Out :=
  let x := s.gnss.streams[stream]
  if !s.afterBoot || !x.cfg.flag Ix.streamEnable || s.gnss.mode == 0 then .next s
  else
    let limit2 := doubleMedian binsDb + 2 * (s.gnss.cfg.at Ix.rxNotchThresh * 128)
    let s1 := s.each (List.finRange 4) fun t j =>
      match t.gnss.streams[stream].notches[j] with
      | none => t
      | some b =>
        let low := 2 * binsDb.getD (b + 128).toNat 0 < limit2 - 2 * 768
        let n := if low then t.gnss.streams[stream].notchLow[j] + 1 else 0
        if 100 ≤ n then t.setNotch stream j none
        else t.mapStream stream fun y => { y with notchLow := y.notchLow.set j n }
    let all := (interferers binsDb limit2).map Prod.fst
    let top := all.take 4
    .next (s1.each top fun t b => t.placeNotch stream top all b)

/-- The median; the mean of the middle two for an even number. -/
def medianOf (l : List Rat) : Rat :=
  let q := l.mergeSort fun a b => decide (a ≤ b)
  (q.getD ((q.length - 1) / 2) 0 + q.getD (q.length / 2) 0) / 2

/-- The 90th percentile, by the nearest rank. -/
def percentile90 (l : List Nat) : Nat := l.mergeSort.getD ((9 * l.length + 9) / 10 - 1) 0

/-- Whether a report list reaches back a day (R253). -/
def coversDay {α : Type} (now : Nat) (l : List (Nat × α)) : Bool := l.any fun e => decide (e.1 + 86400 * secCyc ≤ now)

/-- cn0_base of a signal at an elevation, in 0.25 dB-Hz; none under a day of baseline (R253). -/
def Stream.cn0Base (x : Stream) (now : Nat) (n : Fin 13) (elevation : Int) : Option Nat :=
  let l := x.cn0s.filter fun e => e.2.1 == n && e.2.2.1 == elevationBin elevation
  if coversDay now l then some (percentile90 (l.map fun e => e.2.2.2)) else none

/-- The C/N0 depression of a stream in dB: the median over its channels; none with fewer than 3 (R253). -/
def State.cn0Depression (s : State) (i : Fin 4) : Option Rat :=
  let l := (s.gnss.chans.toList.filter fun c => c.state == .tracking && decide (streamOf c.signal c.antB = i)).filterMap fun c =>
    (s.gnss.streams[i].cn0Base s.sys.cyc c.signal c.elevation).map fun b => (((b : Int) - c.cn0 : Int) : Rat) / 4
  if l.length < 3 then none else some (medianOf l)

/-- 10·log10(P_in / P_base) of a stream from its latest power report; none under a day of baseline (R253). -/
def State.powerRise (s : State) (i : Fin 4) : Option Rat :=
  let l := s.gnss.streams[i].powers
  match l with
  | [] => none
  | e :: _ =>
    if coversDay s.sys.cyc l then some (10 * Config.log10 ((e.2 : Rat) / medianOf (l.map fun p => (p.2 : Rat)))) else none

/-- d of R253: the power's rise with a fixed gain, the C/N0 depression with AGC. -/
def State.jnDepression (s : State) (i : Fin 4) : Option Rat :=
  if s.gnss.streams[i].cfg.nat Ix.streamGainMode = 0 then s.powerRise i else s.cn0Depression i

/-- The J/N code of a depression d in dB (R253). -/
def jnCode (depression : Option Rat) : Nat :=
  match depression with
  | none => 0xFF
  | some d =>
    let jn := 10 * Config.log10 (Config.pow10 (max d (1 / 10000) / 10) - 1)
    (max 0 (min 254 (roundNear ((jn + 20) * 2)))).toNat

/-- Whether a J/N code exceeds JAM_LIMIT (R253). -/
def Gnss.jamOver (g : Gnss) (code : Nat) : Bool := code != 0xFF && decide (g.cfg.at Ix.rxJamLimit + 40 < (code : Int))

/-- The report of the power of a stream's samples over the last second, in 2^-16 LSB², enters its list (R253). -/
def State.notePower (s : State) (i : Fin 4) (power : Nat) : State :=
  s.mapStream i fun x => { x with powers := keepWeek s.sys.cyc ((s.sys.cyc, power) :: x.powers) }

/-- JN_REPORT (R253, R262): every 1 s. -/
def execJnReport (stream : Fin 4) (power : Nat) (s : State) : Out :=
  if !s.afterBoot || !s.gnss.streams[stream].cfg.flag Ix.streamEnable then .next s
  else
    let s0 := s.notePower stream power
    let code := jnCode (s0.jnDepression stream)
    let above := s0.gnss.jamOver code
    let s1 := s0.mapStream stream fun x => { x with jn := code, jamOver := above }
    let s2 : State := { s1 with gnss.jamming := s1.gnss.streams.toList.any (·.jamOver) }
    if above then
      let s3 := s2.condition Flt.gnssJamming stream.val
      .next (if s3.gnss.cfg.flag Ix.rxJamAlarm then (s3.each s3.gnssSlots fun t i => t.alarm i 4).evaluate else s3)
    else .next (s2.causeEnds Flt.gnssJamming stream.val)

/-! ### The timing solution (R242 to R247) -/

/-- A clock estimate: x in 2^-16 ns, the square of σ in the same unit, i_res, whether its system's offset is estimated, and the line of sight as a unit vector. -/
structure Meas1 where
  sat : Sat
  dual : Bool
  x : Rat
  var : Rat
  iRes : Rat
  estimated : Bool
  broadcast : Bool
  look : List Rat
  deriving DecidableEq, Repr

/-- α of R243 for carriers in Hz; β is α - 1. -/
def ionoAlpha (fa fb : Rat) : Rat := fa * fa / (fa * fa - fb * fb)

/-- D of antenna A's band in 2^-16 ns (R244). -/
def Gnss.bandDelay (g : Gnss) (l5 : Bool) : Rat :=
  let st := g.streams[(Fin.ofNat 4 (b2n l5))]
  ((g.cfg.at (Ix.rxDelay + b2n l5) + st.cfg.at Ix.streamLatency : Int) : Rat) * 256

/-- a_sig of R242 in ns. -/
def codeSigma (rate : Rat) : Rat := if rate ≤ 1023000 then 1 else if rate ≤ 2046000 then 6 / 10 else 3 / 10

/-- s_c of one signal in ns (R242). -/
def thermalSigma (n : Fin 13) (cn0 : Nat) : Rat := codeSigma (signalInfo n).rate * Config.pow10 ((45 - (cn0 : Rat) / 4) / 20)

/-- A length in mm as light's travel time in 2^-16 ns. -/
def lightUnits (mm : Rat) : Rat := mm / 1000 / lightSpeed * 1000000000 * 65536

/-- The scalar product. -/
def dotOf (a b : List Rat) : Rat := (List.zipWith (· * ·) a b).sum

/-- The geometric range in mm with the Earth-rotation correction, and the unit vector to the satellite (R242). -/
def geometry (pos sat : List Rat) : Rat × List Rat :=
  let d := List.zipWith (· - ·) sat pos
  let r := sqrtUp (dotOf d d)
  let spin := Config.earthRate / (1000 * lightSpeed) * (sat.getD 0 0 * pos.getD 1 0 - sat.getD 1 0 * pos.getD 0 0)
  (r + spin, d.map (· / r))

/-- The constant between a system's time and TAI (R245); a GLONASS offset, always estimated, takes up any other. -/
def leapConstant (system : Nat) : Int := if system = 2 then 33 else 19

/-- x_i and σ_i of a satellite's code measurements with its navigation message, at a position (R242 to R245): pseudorange, or α P_a − β P_b of a pair, less range, satellite clock, group delay, ionosphere, troposphere and the receiver delay D. -/
def Gnss.prepare (g : Gnss) (nav : NavData) (pos : List Rat) (e : CodeObs) (v : SatNav) : Meas1 :=
  let a := g.mainSignal e.sat.system
  let five := if g.cfg.flag Ix.rxDualFreq && (partnerSignal e.sat.system).isSome then e.five else none
  let dual := five.isSome
  let b := (partnerSignal e.sat.system).getD a
  let al := ionoAlpha (carrierOf e.sat a) (carrierOf e.sat b)
  let pb := five.getD e.main
  let p : Rat := if dual then al * e.main.1 - (al - 1) * pb.1 else e.main.1
  let d := if dual then al * g.bandDelay false - (al - 1) * g.bandDelay true else g.bandDelay (signalInfo a).l5
  let sa := thermalSigma a e.main.2 * 65536
  let sb := thermalSigma b pb.2 * 65536
  let code := if dual then al * sa * (al * sa) + (al - 1) * sb * ((al - 1) * sb) else sa * sa
  let ires : Rat := if dual then 0 else |((v.iono : Int) : Rat)| / 2
  let geo := geometry pos [v.pos.1, v.pos.2.1, v.pos.2.2]
  let model : Int := v.tropo - v.clock + (if dual then v.groupPair else v.groupOne + v.iono) + leapConstant e.sat.system.val * secFrac
  let timeSys := decide (e.sat.system.val = g.cfg.nat Ix.rxTimeSys)
  let off := nav.isb.getD e.sat.system.val none
  let bcast := !timeSys && g.cfg.nat (Ix.rxIsbMode + e.sat.system.val) == 0 && e.sat.system.val != 3 && off.isSome
  { sat := e.sat, dual := dual, x := p - lightUnits geo.1 - model - d - (if bcast then off.getD 0 else 0 : Int),
    var := code + ((v.tropo : Rat) / 10) * ((v.tropo : Rat) / 10) + ires * ires, iRes := ires,
    estimated := !timeSys && !bcast, broadcast := bcast, look := geo.2 }

/-- Systems whose offset is estimated among some measurements. -/
def estimatedSystems (l : List Meas1) : List (Fin 6) := ((l.filter (·.estimated)).map (·.sat.system)).dedup

/-- The unknowns of a measurement: the clock, one offset for each estimated system, and in a survey the position's correction in mm. -/
def basisOf (systems : List (Fin 6)) (survey : Bool) (m : Meas1) : List Rat :=
  let p : List Rat := if survey then m.look.map fun u => -lightUnits u else []
  1 :: ((systems.map fun y => if m.estimated && m.sat.system = y then (1 : Rat) else 0) ++ p)

/-- The inverse of a symmetric matrix, row by row; rows are empty where it is singular. -/
def inverseOf (n : Nat) (a : List (List Rat)) : List (List Rat) :=
  (List.range n).map fun j => (solveLinear n (a.zipIdx.map fun r => r.1.take n ++ [if r.2 = j then 1 else 0])).getD []

/-- A fit of R242: the clock with its variance, each measurement's deviation, and in a survey the position's correction with its covariance. -/
structure ClockFit where
  clock : Rat
  var : Rat
  dev : List (Meas1 × Rat)
  shift : List Rat
  cov : List (List Rat)
  deriving DecidableEq, Repr

/-- The weighted mean with estimated offsets, and in a survey the position, solved by least squares (R242, R246, R249). -/
def fitClock (survey : Bool) (l : List Meas1) : Option ClockFit :=
  let sys := estimatedSystems l
  let k := 1 + sys.length
  let n := k + (if survey then 3 else 0)
  let pts := l.map fun m => (basisOf sys survey m, m.x, 1 / m.var)
  (weightedFit n pts).map fun c =>
    let inv := inverseOf n (normalRows n pts)
    { clock := c.headD 0, var := (inv.headD []).headD 0, dev := l.map fun m => (m, m.x - dotOf (basisOf sys survey m) c),
      shift := c.drop k, cov := (inv.drop k).map (·.drop k) }

/-- The outcome of R246: the solution (0 NONE, 1 VALID, 3 INTEGRITY), the measurements in use, the clock with its variance, what T-RAIM excluded, and in a survey the position in mm with its covariance. -/
structure Solved where
  code : Nat
  inUse : List Meas1
  clock : Rat
  var : Rat
  excluded : List Sat
  pos : List Rat
  cov : List (List Rat)
  deriving DecidableEq, Repr

/-- The measurement with the largest |r|; ties go to the lower system, then the lower SV (R246). -/
def worstOf (l : List (Meas1 × Rat)) : Option Meas1 :=
  let key := fun p : Meas1 × Rat => p.2 * p.2 / p.1.var
  let before := fun p q : Meas1 × Rat =>
    key q < key p || (key p == key q && (p.1.sat.system.val < q.1.sat.system.val ||
      (p.1.sat.system == q.1.sat.system && p.1.sat.sv.val < q.1.sat.sv.val)))
  (l.foldl (fun b p => match b with
    | none => some p
    | some q => if before p q then some p else b) none).map Prod.fst

/-- The integrity loop of R246. -/
def Gnss.traim (g : Gnss) (survey : Bool) : Nat → List Sat → List Meas1 → Solved
  | fuel, ex, l =>
    let n := l.length
    let m := 1 + (estimatedSystems l).length
    let least := g.cfg.nat Ix.rxMinSats
    let stop := fun (code : Nat) (f : ClockFit) => (⟨code, l, f.clock, f.var, ex, f.shift, f.cov⟩ : Solved)
    if n < least || n < m + 1 then ⟨0, l, 0, 0, ex, [], []⟩
    else
      match fitClock survey l with
      | none => ⟨0, l, 0, 0, ex, [], []⟩
      | some f =>
        let sum := (f.dev.map fun p => p.2 * p.2 / p.1.var).sum
        let lim : Rat := (g.cfg.at Ix.rxTraimLimit : Rat) * 65536
        if sum ≤ Config.chi2 (n - m) && f.dev.all fun p => decide (|p.2| ≤ lim) then stop 1 f
        else
          match fuel with
          | 0 => stop 3 f
          | fuel' + 1 =>
            if n - 1 < least || n - 1 < m + 1 then stop 3 f
            else
              match worstOf f.dev with
              | none => stop 3 f
              | some w => g.traim survey fuel' (ex ++ [w.sat]) (l.erase w)

/-- POS in mm (R233). -/
def Gnss.position (g : Gnss) : List Rat := [(g.cfg.at Ix.rxPosX : Rat), (g.cfg.at Ix.rxPosY : Rat), (g.cfg.at Ix.rxPosZ : Rat)]

/-- The mean of a survey's positions and its covariance: empty before the first (R249). -/
def Gnss.surveyMean (g : Gnss) : List Rat × List (List Rat) :=
  let c := inverseOf 3 g.surveyInfo
  (c.map fun r => dotOf r g.surveySum, c)

/-- The square of the 3D 1σ of the survey's mean, in mm² (R249). -/
def Gnss.surveyVar (g : Gnss) : Rat := (g.surveyMean.2.zipIdx.map fun r => r.1.getD r.2 0).sum

/-- The position about which a solution is linear: POS, or in a survey without POS its mean so far, or the Earth's centre. DESIGN CHOICE (log entry 49). -/
def Gnss.startPosition (g : Gnss) : List Rat :=
  if !g.posInvalid then g.position else if g.surveyInfo.isEmpty then [0, 0, 0] else g.surveyMean.1

/-- The clock estimates of some satellites at a position (R242): those with a navigation message, of SYSTEMS, not excluded. -/
def State.estimates (s : State) (obs : List CodeObs) (nav : NavData) (out : List Sat) (pos : List Rat) : List Meas1 :=
  let g := s.gnss
  obs.filterMap fun e =>
    if bitAt (g.cfg.nat Ix.rxSystems) e.sat.system.val && !out.contains e.sat && !(g.excludedUntil.any fun x => x.1 == e.sat) then
      (nav.sats.find? (·.sat == e.sat)).map (g.prepare nav pos e)
    else none

/-- A survey's position is drawn closer so many times (R249). DESIGN CHOICE: eight Gauss-Newton steps (log entry 49). -/
def State.approach (s : State) (obs : List CodeObs) (nav : NavData) (out : List Sat) : Nat → List Rat → List Rat
  | 0, pos => pos
  | n + 1, pos =>
    match fitClock true (s.estimates obs nav out pos) with
    | some f => s.approach obs nav out n (List.zipWith (· + ·) pos f.shift)
    | none => pos

/-- The solution of some code measurements (R242 to R246, R249). -/
def State.gnssSolve (s : State) (obs : List CodeObs) (nav : NavData) (out : List Sat) (survey : Bool) : Solved :=
  let g := s.gnss
  if !survey && g.posInvalid then ⟨0, [], 0, 0, [], [], []⟩
  else
    let pos := if survey then s.approach obs nav out 8 g.startPosition else g.position
    let r := g.traim survey (g.cfg.nat Ix.rxMaxExcl) [] (s.estimates obs nav out pos)
    { r with pos := List.zipWith (· + ·) pos r.pos }

/-- The code measurements that the epoch latched on antenna A: every satellite tracked at ELEV_MASK or above, with its L5-band partner where that is tracked (R233, R242, R243). -/
def State.codeObs (s : State) : List CodeObs :=
  s.gnss.chans.toList.filterMap fun c =>
    match c.sat with
    | none => none
    | some sat =>
      if c.state == .tracking && !c.antB && c.signal == s.gnss.mainSignal sat.system && decide (s.gnss.cfg.at Ix.rxElevMask ≤ c.elevation) then
        let five := ((partnerSignal sat.system).bind fun n => s.chanOf sat n false).bind fun k =>
          let x := s.gnss.chans[k]
          if x.state == .tracking then some (x.pseudorange, x.cn0) else none
        some ⟨sat, (c.pseudorange, c.cn0), five⟩
      else none

/-- The measurements of a capture that may be used: none of a satellite predicted below ELEV_MASK (R233, R257). -/
def State.captured (s : State) (obs : List CodeObs) : List CodeObs := obs.filter fun e => decide (s.gnss.cfg.at Ix.rxElevMask ≤ s.predicted e.sat)

/-- H of R247 in ns. -/
def State.gnssHard (s : State) (r : Solved) (survey : Bool) : Rat :=
  if survey then 0
  else
    let single := r.inUse.filter fun m => !m.dual
    let w := fun l : List Meas1 => (l.map fun m => 1 / m.var).sum
    let iono := if w single = 0 then 0 else (single.map fun m => m.iRes / m.var).sum / w single / 65536
    let isb := ((r.inUse.filter (·.broadcast)).map fun m =>
      (s.gnss.cfg.at (Ix.rxIsbUnc + m.sat.system.val) : Rat) / m.var / w r.inUse).sum
    s.kRat * s.posUncSeconds * 1000000000 + iono + isb

/-- A0 + A1(t − t_ot) and any higher term, in 2^-16 ns (R245). -/
def utcCorrection (nav : NavData) (t : Int) : Rat := nav.utcTerms.foldr (fun a acc => a + ((t - nav.utcRef : Int) : Rat) * acc) 0

/-- The offset of a solution at a TAI second, TAI_gnss less the time scale, with TARGET's correction subtracted, in 2^-16 ns (R245). -/
def State.gnssOffset (s : State) (r : Solved) (nav : NavData) (t : Int) : Int :=
  looseRound (-r.clock - (if s.gnss.cfg.nat Ix.rxTarget = 1 then utcCorrection nav t else 0))

/-! ### Spoofing checks (R254, R255) -/

/-- wrap to [-0.5, 0.5) (R254). -/
def wrapCycle (x : Rat) : Rat := x - (x + 1 / 2).floor

/-- BASELINE as an ECEF vector in mm, by the axes at POS (R233, R254). -/
def Gnss.baseline (g : Gnss) : List Rat :=
  let c := g.cfg
  let ax := Config.localAxes (c.at Ix.rxPosX) (c.at Ix.rxPosY) (c.at Ix.rxPosZ)
  let b : List Rat := [(c.at Ix.rxBaselineE : Rat), (c.at Ix.rxBaselineN : Rat), (c.at Ix.rxBaselineU : Rat)]
  (List.range 3).map fun i => dotOf b (ax.map (·.getD i 0))

/-- The single differences of the L1-band carrier phases with their geometry removed: satellite, dphi and g; none without POS (R254). -/
def State.phaseDiffs (s : State) (sats : List SatNav) : List (Sat × Rat × Rat) :=
  (if s.gnss.posInvalid then [] else sats).filterMap fun e =>
    let n := s.gnss.mainSignal e.sat.system
    match s.chanOf e.sat n false, s.chanOf e.sat n true with
    | some a, some b =>
      if (signalInfo n).l5 then none
      else
        let x := s.gnss.chans[a]
        let y := s.gnss.chans[b]
        if x.state != .tracking || y.state != .tracking then none
        else
          let d : Rat := ((y.phase - x.phase : Int) : Rat) / 65536
          let u := (geometry s.gnss.position [e.pos.1, e.pos.2.1, e.pos.2.2]).2
          let cyc := dotOf s.gnss.baseline u / 1000 * carrierOf e.sat n / lightSpeed
          some (e.sat, d, wrapCycle (d - cyc))
    | _, _ => none

/-- Mean square of some residuals. -/
def meanSquare (l : List Rat) : Rat := meanOf (l.map fun x => x * x)

/-- An rms in units of 1/256 cycle; saturates (R264). -/
def rms256 (sq : Rat) : Nat := min 255 (ceilSqrt (sq * 65536))

/-- The dual-antenna check of one epoch: whether it ran, GEO_RESID² and CONST_RESID² in cycles², and what it excludes (R254). -/
def State.antennaCheck (s : State) (sats : List SatNav) : Bool × Rat × Rat × List Sat :=
  let l := s.phaseDiffs sats
  if !s.gnss.cfg.flag Ix.rxAntB || l.length < 4 || !bitAt (s.gnss.cfg.nat Ix.rxSpoofChecks) 0 then (false, 0, 0, [])
  else
    let gm := Config.circularMean (l.map (·.2.2))
    let dm := Config.circularMean (l.map (·.2.1))
    let geo := l.map fun e => (e.1, wrapCycle (e.2.2 - gm))
    (true, meanSquare (geo.map Prod.snd), meanSquare (l.map fun e => wrapCycle (e.2.1 - dm)),
      (geo.filter fun e => 1 / 4 < |e.2|).map Prod.fst)

/-- The slot's frequency over FC_TAU from the frequencies of that span, if they cover it, in fractional units (R254). -/
def State.fcMean (s : State) : Option Rat :=
  match s.gnss.fcFreqs.getLast? with
  | none => none
  | some e =>
    if e.1 + (s.gnss.cfg.nat Ix.rxFcTau - 2) * secCyc ≤ s.sys.cyc then
      some (meanOf (s.gnss.fcFreqs.map fun p => frac64 p.2))
    else none

/-- The Forecast check: none where it lacks its inputs (R254). -/
def State.forecastCheck (s : State) : Option Bool :=
  if !bitAt (s.gnss.cfg.nat Ix.rxSpoofChecks) 1 then none
  else
    match s.fcMean, s.opinionOver (s.gnss.cfg.nat Ix.rxFcTau) with
    | some y, some o => some (decide (s.kRat * s.kRat * o.2 < (y - o.1) * (y - o.1)))
    | _, _ => none

/-- The power check of one stream: none where it lacks its inputs (R254). -/
def State.streamPower (s : State) (i : Fin 4) : Option Bool :=
  let lim := (s.gnss.cfg.at Ix.rxPowerLimit : Rat) / 2
  if !s.gnss.streams[i].cfg.flag Ix.streamEnable then none
  else if s.gnss.streams[i].cfg.nat Ix.streamGainMode = 0 then
    match s.powerRise i, s.cn0Depression i with
    | some p, some d => some (decide (lim < p && d < 1))
    | _, _ => none
  else
    let strong := (s.gnss.chans.toList.filter fun c => c.state == .tracking && decide (streamOf c.signal c.antB = i) && decide (220 < c.cn0)).length
    (s.cn0Depression i).map fun d => decide (lim < -d || 3 ≤ strong)

/-- The power check over the streams: none where no stream has its inputs (R254). -/
def State.powerCheck (s : State) : Option Bool :=
  let l := (List.finRange 4).filterMap s.streamPower
  if !bitAt (s.gnss.cfg.nat Ix.rxSpoofChecks) 2 || l.isEmpty then none else some (l.any id)

/-- One check's flag follows an epoch: set when it flags, cleared after 60 epochs without (R255). -/
def State.followSpoof (s : State) (i : Fin 3) (flags : Bool) : State :=
  let on := bitAt s.gnss.spoofFlag i.val
  if flags then
    let s1 : State := { s with gnss.spoofClean := s.gnss.spoofClean.set i 0 }
    if on then s1 else ({ s1 with gnss.spoofFlag := s1.gnss.spoofFlag + 2 ^ i.val } : State).raise Flt.gnssSpoof (2 ^ i.val)
  else if on then
    let n := s.gnss.spoofClean[i] + 1
    let s1 : State := { s with gnss.spoofClean := s.gnss.spoofClean.set i n }
    if 60 ≤ n then ({ s1 with gnss.spoofFlag := s1.gnss.spoofFlag - 2 ^ i.val } : State).causeEnds Flt.gnssSpoof (2 ^ i.val) else s1
  else s

/-- The spoofing checks of an epoch (R254, R255), with the satellites that the dual-antenna check excludes. -/
def State.spoofChecks (s : State) (nav : NavData) : State × List Sat :=
  let a := s.antennaCheck nav.sats
  let hit := a.1 && decide (9 / 400 < a.2.1 && a.2.2.1 < 1 / 100)
  let run := if hit then s.gnss.antRunCount + 1 else 0
  let f := s.forecastCheck
  let p := s.powerCheck
  let s1 : State := { s with
    gnss.antRunCount := run, gnss.geoExcl := a.2.2.2.length, gnss.geoResid := rms256 a.2.1, gnss.constResid := rms256 a.2.2.1,
    gnss.spoofRun := b2n a.1 + 2 * b2n f.isSome + 4 * b2n p.isSome }
  (((s1.followSpoof 0 (decide (3 ≤ run))).followSpoof 1 (f.getD false)).followSpoof 2 (p.getD false), a.2.2.2)

/-! ### The end of an epoch (R245 to R250, R255, R262) -/

/-- Satellites that T-RAIM excluded: the faults, and 600 s of exclusion after three epochs in a row (R246). -/
def State.noteExcluded (s : State) (l : List Sat) : State :=
  let s1 := s.each l fun t x => t.raise Flt.gnssExclude (x.sv.val + x.system.val * 64)
  let runs := l.dedup.map fun x => (x, ((s.gnss.exclRuns.find? (·.1 == x)).map Prod.snd).getD 0 + 1)
  { s1 with
    gnss.exclRuns := runs.filter fun e => e.2 < 3,
    gnss.excludedUntil := s1.gnss.excludedUntil ++ (runs.filter fun e => 3 ≤ e.2).map fun e => (e.1, s1.sys.cyc + 600 * secCyc) }

/-- EXCLUSION_EXPIRY (R246). -/
def execExclusionExpiry (sat : Sat) (s : State) : Out :=
  .next { s with gnss.excludedUntil := s.gnss.excludedUntil.filter fun e => !(e.1 == sat && s.lapsed e.2) }

/-- Broadcast leap counts are reported, and two faults compare them (R250). -/
def State.noteLeap (s : State) (nav : NavData) : State :=
  let s1 : State := { s with gnss.leapNow := nav.leapNow, gnss.leapNext := nav.leapNext, gnss.leapAnnounced := nav.leapDay.isSome }
  let s2 := if nav.leapNow + leapConstant (s.gnss.cfg.nat Ix.rxTimeSys) != s.ts.utcOffset && s.spaced s.gnss.utcMismatchAt (3600 * secCyc) then
      ({ s1 with gnss.utcMismatchAt := some s.sys.cyc } : State).raise Flt.gnssUtcMismatch (twos 16 nav.leapNow)
    else s1
  match nav.leapDay with
  | none => s2
  | some d =>
    let del := decide (nav.leapNext < nav.leapNow)
    let far := ((d : Int) + 1 - 40587) * 86400 + s.ts.utcOffset - s.nowSec
    let matching := s.ts.leapPending != 0 && decide (leapSign s.ts.leapPending = (if del then -1 else 1)) &&
      decide ((s.ts.leapAt : Int) = leapAtOf d s.ts.utcOffset del)
    if 0 < far && far ≤ 366 * 86400 && !matching && s.spaced s.gnss.leapAnnouncedAt (86400 * secCyc) then
      ({ s2 with gnss.leapAnnouncedAt := some s.sys.cyc } : State).raise Flt.gnssLeapAnnounced 0
    else s2

/-- The slot's frequency between two epochs, kept over FC_TAU (R254). -/
def State.keepFrequency (s : State) (phi : Int) (at_ : Nat) : State :=
  match (s.gnssSlots.head?.map fun i => s.wv.slots[i].phasePrev).join with
  | none => s
  | some p =>
    if at_ ≤ p.1 then s
    else
      let y := looseRound (unitSeconds ((phi - p.2 : Int) : Rat) / cycSeconds ((at_ : Int) - p.1) * 2 ^ 64)
      { s with gnss.fcFreqs := ((at_, y) :: s.gnss.fcFreqs).filter fun e => at_ ≤ e.1 + s.gnss.cfg.nat Ix.rxFcTau * secCyc }

/-- A valid offset goes to the GNSS slot, with H and FE_CAL_SIGMA (R245, R247). -/
def State.deliverGnss (s : State) (phi : Int) (at_ : Nat) (hard : Rat) : State :=
  let fe : Rat := s.gnss.cfg.at Ix.rxFeCalSigma
  (s.keepFrequency phi at_).each s.gnssSlots fun t i =>
    (t.mapSlot i fun x => { x with tdcVar := fe * fe }).deliverMeas i (.offset phi at_ hard)

/-- A survey's position joins the mean, weighted by its covariance (R249). -/
def State.noteSurvey (s : State) (r : Solved) : State :=
  let info := inverseOf 3 r.cov
  let add := fun a b : List Rat => if a.isEmpty then b else List.zipWith (· + ·) a b
  let sum := if s.gnss.surveyInfo.isEmpty then info else List.zipWith add s.gnss.surveyInfo info
  let s1 : State := { s with gnss.surveyInfo := sum, gnss.surveySum := add s.gnss.surveySum (info.map fun q => dotOf q r.pos) }
  { s1 with gnss.surveySigma := toWord (sqrtUp s1.gnss.surveyVar) }
where
  /-- A length in whole mm; saturates (R263). -/
  toWord (x : Rat) : Word := BitVec.ofNat 32 (min 0xFFFFFFFF (looseRound x).toNat)

/-- What a solution shows in the registers and does to the slot (R246, R247, R255, R262, R264, R265). -/
def State.settleSolution (s : State) (r : Solved) (nav : NavData) (survey : Bool) (at_ : Nat) : State :=
  let spoofed := s.gnss.spoofFlag != 0
  let sol : Solution := if r.code = 0 then .none else if r.code = 3 || spoofed then .integrity else if survey then .survey else .valid
  let hard := s.gnssHard r survey
  let used := r.inUse.map (·.sat)
  let ok := sol == .valid || sol == .survey
  let wasOk := s.gnss.solution == .valid || s.gnss.solution == .survey
  let shown := r.code != 0
  let s1 : State := { s with
    gnss.solution := sol, gnss.everValid := s.gnss.everValid || ok,
    gnss.dualInUse := shown && r.inUse.any (·.dual),
    gnss.sysUsed := if shown then ((List.finRange 6).map fun y => if used.any fun u => u.system = y then 2 ^ y.val else 0).sum else 0,
    gnss.usedCount := if shown then r.inUse.length else 0, gnss.exclCount := r.excluded.length,
    gnss.sigma := if shown then toUnits (sqrtUp (r.var / 2 ^ 32)) else unknownWord,
    gnss.hard := if shown then toUnits hard else 0,
    gnss.chans := s.gnss.chans.map fun x => match x.sat with
      | some y => { x with used := shown && !x.antB && used.contains y, excluded := r.excluded.contains y || s.gnss.excludedUntil.any fun e => e.1 == y }
      | none => x }
  let s2 := s1.noteExcluded r.excluded
  let s3 := if r.code = 3 then s2.condition Flt.gnssTraim used.dedup.length else s2.causeGone Flt.gnssTraim fun _ => true
  let s4 := if ok then s3.causeEnds Flt.gnssNoSolution 0 else if wasOk && sol == .none then s3.condition Flt.gnssNoSolution 0 else s3
  if ok then (if survey then s4.noteSurvey r else s4).deliverGnss (s4.gnssOffset r nav s.nowSec) at_ hard
  else if sol == .integrity then (s4.each s4.gnssSlots fun t i => t.alarm i 4).evaluate
  else s4.signalLost s4.gnssSlots

/-- GNSS_SOLUTION_COMPLETE (R242 to R250, R254, R255): the latched epoch is solved. -/
def execGnssSolutionComplete (nav : NavData) (s : State) : Out :=
  match s.gnss.epochAt with
  | none => .next s
  | some at_ =>
    let survey := s.gnss.surveys
    let c := ({ s with gnss.epochAt := none } : State).spoofChecks nav
    let r := c.1.gnssSolve c.1.codeObs nav c.2 survey
    .next ((c.1.settleSolution r nav survey at_).noteLeap nav)

/-- GNSS_START_TIMEOUT (R238): 300 s after MODE left OFF without a valid solution. -/
def execGnssStartTimeout (s : State) : Out :=
  if !s.afterBoot || s.gnss.mode == 0 || s.gnss.everValid || !s.lapsed (s.gnss.modeStart + 300 * secCyc) then .next s
  else .next (s.condition Flt.gnssNoSolution 0)

/-- Whether the survey's mean has a 3D 1σ within SURVEY_LIMIT (R249). -/
def Gnss.surveyMet (g : Gnss) : Bool :=
  let lim : Rat := g.cfg.at Ix.rxSurveyLimit * 1000
  !g.surveyInfo.isEmpty && decide (g.surveyVar ≤ lim * lim)

/-- The survey's mean is accepted: POS and POS_UNC in mm, also in MRAM (R249). -/
def State.acceptSurvey (s : State) : State :=
  let m := s.gnss.surveyMean.1
  let at_ := fun i : Nat => looseRound (m.getD i 0)
  let unc := (looseRound (sqrtUp s.gnss.surveyVar)).toNat
  let cfg : Cfg := ((((s.gnss.cfg.set Ix.rxPosX (at_ 0)).set Ix.rxPosY (at_ 1)).set Ix.rxPosZ (at_ 2)).set Ix.rxPosUnc unc).set Ix.rxSurvey 1
  ({ s with gnss.cfg := cfg, gnss.surveyStart := none, gnss.surveyRound := false, mram.position := some (at_ 0, at_ 1, at_ 2, unc) } : State).raise Flt.gnssSurvey 0

/-- SURVEY_TIME_END (R249): the mean of the survey is accepted, or the survey goes on, or starts again. -/
def execSurveyTimeEnd (s : State) : Out :=
  match s.gnss.surveyStart with
  | none => .next s
  | some c =>
    let len := s.gnss.cfg.nat Ix.rxSurveyTime * 3600 * secCyc
    if s.sys.cyc < c + (if s.gnss.surveyRound then 2 * len else len) then .next s
    else if s.gnss.surveyMet then .next s.acceptSurvey
    else if s.gnss.surveyRound then
      .next (({ s with gnss.surveyStart := some s.sys.cyc, gnss.surveyRound := false, gnss.surveyInfo := [], gnss.surveySum := [],
                       gnss.surveySigma := unknownWord } : State).raise Flt.gnssSurvey 1)
    else .next { s with gnss.surveyRound := true }

/-! ### Snapshots (R257 to R261, R464) -/

/-- The CYC of the first FE_SCLK edge at or after now: FE_SCLK divides SCLK by 10 (R19, R229). -/
def State.nextSample (s : State) : Nat := (s.sys.cyc + 9) / 10 * 10

/-- SNAPSHOT_MODE_CAPTURE (R257): every SNAP_INTERVAL in SNAPSHOT mode, if u_t is at most 100 µs and enough ephemerides serve. -/
def execSnapshotModeCapture (obs : List CodeObs) (nav : NavData) (s : State) : Out :=
  if !s.afterBoot || s.gnss.mode != 3 || s.sys.cyc < s.gnss.snapDue then .next s
  else
    let s1 : State := { s with gnss.snapDue := s.sys.cyc + s.gnss.cfg.nat Ix.rxSnapInterval * secCyc }
    let near := match s.timeUncertainty with
      | some u => decide (u ≤ 1 / 10000)
      | none => false
    if !near || s.ephCount s.nowSec < s.gnss.cfg.nat Ix.rxMinSats then .next s1
    else .next ((s1.settleSolution (s1.gnssSolve (s1.captured obs) nav [] s1.gnss.surveys) nav s1.gnss.surveys s1.nextSample).noteLeap nav)

/-- The streams of a mask, in stream order. -/
def streamsOf (mask : Nat) : List (Fin 4) := (List.finRange 4).filter fun i => bitAt mask i.val

/-- SNAPSHOT_CAPTURE_START (R258, R261): at the start instant. The header's words of the first sample are taken. -/
def execSnapshotCaptureStart (s : State) : Out :=
  let p := s.gnss.snap
  if p.state != .pending || (match p.startAt with
    | some t => decide (s.now < t)
    | none => false) then .next s
  else
    let first := s.nextSample
    let t := s.convert ⟨first, 0⟩
    let r := s.setNow.rate
    let head : List Word :=
      [0x534E4150, loWord (p.streams + 256 + p.length * 2 ^ 16), loWord first, hiWord first, loWord (tsSec t), loWord (tsSec t / 2 ^ 32 % 2 ^ 16),
       loWord (tsNs t), loWord (tsFrac t), s.bound.ts, intLo r, intHi r]
    .next { s with gnss.snap := { p with state := .capturing, first := first, header := head } }

/-- T_code of R259 for σ in 2^-8 LSB. -/
def tCode (sigma : Nat) : Nat := max 1 (min 7 ((sigma + 256) / 256))

/-- Sign and magnitude bits of one component: 1 for a magnitude at T_code or above, 2 for a negative sign (R259). -/
def quantise (t : Nat) (x : Int) : Nat := b2n (decide (t ≤ x.natAbs)) + 2 * b2n (decide (x < 0))

/-- One sample's nibble (R259). -/
def nibble (t : Nat) (q : Int × Int) : Nat := quantise t q.1 + 4 * quantise t q.2

/-- A stream's bytes, two samples each (R259). -/
def packSamples (t : Nat) : List (Int × Int) → List Byte
  | a :: b :: l => BitVec.ofNat 8 (nibble t a + 16 * nibble t b) :: packSamples t l
  | [a] => [BitVec.ofNat 8 (nibble t a)]
  | [] => []

/-- A sample as the engine takes it: −8 as −7, and Q negated for an inverted spectrum (R229, R230). -/
def Stream.sample (x : Stream) (q : Int × Int) : Int × Int :=
  (sampleValue q.1, if x.cfg.flag Ix.streamInvert then -sampleValue q.2 else sampleValue q.2)

/-- σ of R259, in 2^-8 LSB, from the samples of the millisecond before the first. -/
def sigmaOf (before : List (Int × Int)) : Nat := rmsCode (sampleSquare (before.map fun q => (1, q.1, q.2)))

/-- SNAPSHOT_CAPTURE_COMPLETE (R258 to R261, R464): the 4-bit samples of each stream of the mask, in stream order, of the millisecond before the first sample and from it on. The header records σ and T_code of every stream, from which R260 gives the loss of the capture. -/
def execSnapshotCaptureComplete (before samples : List (List (Int × Int))) (s : State) : Out :=
  let p := s.gnss.snap
  if p.state != .capturing || s.sys.cyc < p.first + p.length * msCyc then .next s
  else
    let l := List.zip (streamsOf p.streams) (List.zip (before.map sigmaOf) samples)
    let data := l.flatMap fun e => packSamples (tCode e.2.1) ((e.2.2.take (p.length * 62500)).map s.gnss.streams[e.1].sample)
    let perStream := (List.finRange 4).map fun i =>
      match l.find? (·.1 == i) with
      | some e => loWord (e.2.1 % 2 ^ 16 + tCode e.2.1 * 2 ^ 16 + s.gnss.streams[i].jn * 2 ^ 24)
      | none => loWord (s.gnss.streams[i].jn * 2 ^ 24)
    let head := p.header.take 9 ++ perStream ++ p.header.drop 9 ++ [crc32 (data.map BitVec.toNat)]
    let s1 : State := { s with gnss.snap := { p with state := .held, header := head, data := data, captures := p.captures + 1, cmd := none, startAt := none } }
    .next (s1.completeOpt p.cmd 0 [loWord (64 + data.length)])

/-- The octets of the held buffer: header and data (R261). -/
def Snap.octets (p : Snap) : List Byte := p.header.flatMap wordBytes ++ p.data

/-- SNAPSHOT_PROCESS_COMPLETE (R464): the offset of the held capture at its first sample. -/
def execSnapshotProcessComplete (obs : List CodeObs) (nav : NavData) (s : State) : Out :=
  let p := s.gnss.snap
  if p.state != .processing then .next s
  else
    let r := s.gnssSolve (s.captured obs) nav [] s.gnss.surveys
    let off := if r.code = 0 then 0 else s.gnssOffset r nav (tsSec (s.convert ⟨p.first, 0⟩))
    let code := if r.code = 1 && s.gnss.surveys then 2 else r.code
    let used := if r.code = 0 then 0 else (r.inUse.map (·.sat)).dedup.length
    let s1 : State := { s with gnss.snap.state := .held, gnss.snap.cmd := none }
    .next (s1.completeOpt p.cmd 0 [intLo off, intHi off, loWord (used % 256 + code * 256)])

end Sys2Proof.Machine
end

