-- ==== Sys2Proof/Machine/Shared.lean ====
section
/-! DEFINITION. Changes of shared settings, which a command makes on an active or single unit and a REPL frame on a follower: CLOCK_ID, leap seconds, smear profiles, COVERAGE, ESMC, key states (R47 to R55, R61, R331, R402). -/

namespace Sys2Proof.Machine

/-- Values set at their places in a configuration. -/
def Cfg.setAll (c : Cfg) (l : List (Nat × Int)) : Cfg := l.foldl (fun d e => d.set e.1 e.2) c

/-- N of R48, and the leap second that ramps follow; each used profile whose S has passed is skipped (R53, R55). -/
def State.scheduleLeap (s : State) (pending : Fin 3) (at_ : Nat) : State :=
  let s1 : State := { s with
    ts.leapPending := pending, ts.leapAt := at_, ts.smearLeap := some (at_, leapSign pending, s.ts.utcOffset),
    ts.smear := s.ts.smear.map fun x => { x with skipped := false, running := false } }
  s1.each (List.finRange 4) fun t p =>
    let x := t.ts.smear[p]
    if x.cfg.at Ix.smearType != 0 && t.smearUsed p && decide (x.start at_ < t.now) then
      (t.mapSmear p fun y => { y with skipped := true }).raise Flt.smearSkipped p.val
    else t

/-- The pending leap second is cancelled (R49). -/
def State.cancelLeap (s : State) : State :=
  { s with ts.leapPending := 0, ts.leapAt := 0, ts.smearLeap := none,
           ts.smear := s.ts.smear.map fun x => { x with running := false, skipped := false } }

/-- Whether the ramp of a profile in use for the pending leap second has started (R49). -/
def State.rampStarted (s : State) : Bool :=
  (List.finRange 4).any fun p =>
    let x := s.ts.smear[p]
    x.cfg.at Ix.smearType != 0 && !x.skipped && s.smearUsed p && decide (x.start s.ts.leapAt ≤ s.now)

/-- COVERAGE of the active replaces the staged and applied values, and every Bound is recomputed (R402). -/
def State.replaceCoverage (s : State) (k : Nat) : State :=
  if k < 3 || 8 < k then s
  else ({ s with bound.k := k, bound.kStaged := k, bound.kPending := none } : State).recompute

/-- A slot state that the active reached is mirrored in a slot that holds a key (R337 to R339, R402). -/
def State.mirrorKey (s : State) (sa : Bool) (slot : Fin 64) (state : Fin 4) : State :=
  let k := s.key sa slot
  if k.state == .empty then s
  else match state with
    | 0 => (s.mapKey sa slot KeySlot.emptied).followAuth
    | 1 => (s.mapKey sa slot fun k => { k with state := .accept }).followAuth
    | 2 => if k.state == .current then s else s.makeCurrent sa slot
    | 3 => s.drainKey sa slot

end Sys2Proof.Machine
end

