-- ==== Sys2Proof/Machine/Twin.lean ====
section
/-! DEFINITION. The twin: roles and the token, the Balandou link and time transfer, heartbeats, silence and the witness vote, replication, calibration (R392 to R420). -/

namespace Sys2Proof.Machine

/-- A heartbeat in the model's record of what a port sends. -/
abbrev Kind.heartbeat : Nat := 15

/-- UNIT_ID. -/
def Twin.unit (t : Twin) : Nat := t.cfg.nat Ix.twinUnitId
/-- MODE 1, the compatibility mode (R394). -/
def Twin.compat (t : Twin) : Bool := t.cfg.flag Ix.twinMode

/-- 20 ms in SCLK cycles (R405). -/
def silenceCyc : Nat := 20 * msCyc

/-- ADMIT_READY (R415). -/
def State.admitReady (s : State) : Bool := s.twin.role == .quarantined && !s.twin.compat && s.synced

/-- Whether the key store mirrors the active's (R403, R411). -/
def State.mirrored (s : State) : Bool := !s.twin.activeKeys || (s.auth.pairKey.isSome && s.twin.peer.hasKey)

/-- ELIGIBLE (R411). -/
def State.eligible (s : State) : Bool := s.twin.role == .standby && s.synced && s.mirrored && s.sys.engine != .safe

/-! ### Roles and the token (R398, R407 to R410, R413 to R416) -/

/-- A witness query is void (R412). -/
def State.endVote (s : State) : State := { s with twin.vote := none, twin.voteAnswer := none }

/-- What the unit shares leaves no more: responses in hand make nothing, and frames with a shared identity that wait to leave are dropped (R393, R407). -/
def State.stopService (s : State) : State :=
  { s with
    svc.squall := s.svc.squall.map fun e => { e with work := e.work.map Work.discard },
    ports := s.ports.map fun p => { p with txBuf := p.txBuf.filter fun f => f.kind == Kind.host || f.kind == Kind.heartbeat } }

/-- A bulk transfer starts on a follower with the link up (R414). -/
def State.startBulk (s : State) : State :=
  if s.follower && s.twin.linkUp then
    ({ s with twin.bulkDone := false, twin.bulkStart := some s.sys.cyc } : State).emit (.link 3 (linkCrc []))
  else { s with twin.bulkStart := none }

/-- A calibration is abandoned (R401). -/
def State.dropCalibration (s : State) : State :=
  match s.twin.calibrating with
  | none => s
  | some (slot, _, _, id) =>
    (({ s with twin.calibrating := none, twin.calSamples := [] } : State).raise Flt.twinCalFail slot.val).complete id 0x00B []

/-- KIND 8 on slot 15 stands on a follower only, where the engine itself configures it (R129, R398). -/
def State.setTwinSlot (s : State) (on : Bool) : State :=
  s.mapSlot 15 fun x =>
    { x with cfg := ((x.cfg.set Ix.slotKind (if on then 8 else 0)).set Ix.slotEnable (if on then 1 else 0)).set Ix.slotRank (if on then 0 else 15),
             tdcVar := 4 / 1000000 }

/-- A role is taken; settings that waited for the end of ACTIVE apply, and a handover that has not been sent fails (R394, R410). -/
def State.setRole (s : State) (r : Role) : State :=
  if s.twin.role = r then s
  else
    let s0 : State := { s with twin.role := r, twin.roleSince := s.sys.cyc }
    let s1 := s0.setTwinSlot s0.follower
    let s2 : State := match s1.twin.nextCfg with
      | some c => if r = .active then s1
        else { s1 with twin.cfg := (s1.twin.cfg.set Ix.twinUnitId (c.at Ix.twinUnitId)).set Ix.twinMode (c.at Ix.twinMode), twin.nextCfg := none }
      | none => s1
    if r = .standby then s2 else s2.dropCalibration

/-- A unit becomes a follower: it serves no more and asks for the state of the active (R398, R402, R414). -/
def State.becomeFollower (s : State) (r : Role) : State :=
  let s1 := s.completeOpt s.twin.handover 0x00B []
  (((({ s1 with twin.handover := none } : State).endVote).setRole r).stopService).startBulk

/-- The role of a unit that has lost the token (R409, R412, R416). -/
def State.loserRole (s : State) : Role := if s.twin.compat then .standby else .quarantined

/-- The next sequenceIds of the replicated streams: exactly, or moved past the intervals since the replica was taken (R408, R410). -/
def State.takeSequences (s : State) (exactly : Bool) : State :=
  s.each s.twin.ptpSeq fun t e =>
    let per := logPeriodUnits e.2.2.2
    let gone : Int := ((((s.sys.cyc : Int) - s.twin.seqAt) * 1024 * 512 / 5) / per)
    let n := if exactly then e.2.2.1 else (e.2.2.1 + gone.toNat + 1) % 65536
    t.mapInst e.1 fun x => { x with seqs := (e.2.1, n) :: x.seqs.filter (·.1 != e.2.1) }

/-- The token is taken (R408): `why` is the DETAIL of TWIN_TAKEOVER. -/
def State.takeToken (s : State) (why : Nat) : State :=
  let s1 : State := ({ s with
    twin.epoch := s.twin.epoch + 1, twin.takeovers := s.twin.takeovers + 1, twin.bulkStart := none, twin.bulkDone := false,
    twin.release := false } : State).endVote
  let s2 := ((s1.mapSlot 15 fun x => { x with forced := false }).setRole .active).signalLost [15]
  let s3 := s2.each (List.finRange 4) fun t q =>
    match s.twin.prpSeq[q.val]? with
    | some n => t.mapPair q fun y => { y with seqNr := BitVec.ofNat 16 (if why = 2 then n else n + 32768) }
    | none => t
  let s4 := s3.takeSequences (why == 2)
  let s5 := s4.each (List.finRange 16) fun t i => t.each (List.finRange 8) fun u p => u.announceAddresses i p
  let s6 : State := { s5 with svc.garpDue := some (s5.sys.cyc + secCyc) }
  (s6.raise Flt.twinTakeover why).notice 7 (BitVec.ofNat 32 s6.twin.epoch) (BitVec.ofNat 32 why)

/-- In compatibility mode a QUARANTINED unit returns by itself (R407, R415); the TWIN slot of a follower stays forced (R398, R149). -/
def State.followTwin (s : State) : State :=
  let s1 := if s.twin.role == .quarantined && s.twin.compat && s.sys.engine != .safe && s.synced then s.setRole .standby else s
  let x := s1.wv.slots[(15 : Fin 16)]
  if s1.follower && !x.forced && (x.state == .qualifying || x.state == .qualified || x.state == .disputed) then
    ((s1.mapSlot 15 fun y => { y with forced := true, timerStart := none, stepBlocked := false }).setSlot 15 .qualified x.cause).evaluate
  else s1


/-! ### Heartbeats (R403 to R407, R409, R410) -/

/-- FLAGS of a heartbeat (R404). -/
def State.hbFlags (s : State) (handover : Bool) : Nat :=
  b2n s.twin.release + 2 * b2n handover + 4 * b2n s.eligible + 8 * b2n s.synced +
    16 * b2n (s.twin.vote.isSome && s.twin.voteAnswer.isNone)

/-- Octets 0 to 27 of a heartbeat (R404). -/
def State.hbHead (s : State) (path : Fin 2) (handover : Bool) : List Byte :=
  let t := s.now
  octs 1 1 ++ octs 1 (s.twin.unit + 2 * b2n s.twin.compat + 4 * s.twin.role.code) ++ octs 1 s.sys.engine.code ++ octs 1 (s.hbFlags handover) ++
    octs 4 s.twin.epoch ++ octs 4 s.twin.txSeq[path] ++ octs 4 s.bound.ts.toNat ++ octs 6 (tsSec t) ++ octs 4 (tsNs t) ++ octs 2 0

/-- The ICV of a heartbeat: zero without the pair key, and on the network path while the peer lacks it (R403, R404). -/
def State.hbIcv (s : State) (path : Fin 2) (l : List Byte) : BitVec 128 :=
  match s.auth.pairKey with
  | some k => if path = 1 && s.twin.peer.valid && !s.twin.peer.hasKey then 0 else Config.mac 0 k 0 l
  | none => 0

/-- The 44 octets of a heartbeat (R404). -/
def State.hbOctets (s : State) (path : Fin 2) (handover : Bool) : List Byte :=
  let l := s.hbHead path handover
  l ++ octs16 (s.hbIcv path l)

/-- The log interval of a message stream of an instance; a stream that no interval paces advances by one (R408). -/
def State.streamLog (s : State) (i : Fin 16) (key : Nat) : Int :=
  if key < 16 then s.svc.inst[i].interval (Fin.ofNat 3 (key % 2))
  else ((s.svc.grants.find? fun g => g.inst == i && clientStream g.clientId g.clientPort g.port g.msgType == key).map Grant.logPeriod).getD 32

/-- The sequence counters of an ACTIVE unit: SeqNr of each pair, and the next sequenceId of each PTP stream with its interval (R402). -/
def State.counters (s : State) : Emit :=
  .counters (s.pairs.toList.map fun y => y.seqNr.toNat)
    ((List.finRange 16).flatMap fun i => s.svc.inst[i].seqs.map fun e => (i, e.1, e.2, s.streamLog i e.1))

/-- Whether a heartbeat can leave on the network: UNIT_MAC and HB_GROUP are set (R394). -/
def Twin.netSends (t : Twin) : Bool := t.cfg.at Ix.twinUnitMac != 0 && t.cfg.at Ix.twinHbGroup != 0

/-- A heartbeat leaves on a path that is there: the link while it is up, the network while UNIT_MAC and HB_GROUP are set (R394, R404). -/
def State.sendHb (s : State) (path : Fin 2) (handover : Bool) : State :=
  let l := s.hbOctets path handover
  let count := fun t : State => ({ t with twin.txSeq := t.twin.txSeq.set path (t.twin.txSeq[path] + 1) } : State)
  let c := s.twin.cfg
  if path = 0 then (if s.twin.linkUp then count (s.emit (.link 1 (l ++ linkCrc l))) else s)
  else if s.twin.netSends then
    count (s.sendFrame (lanA (Fin.ofNat 4 (c.nat Ix.twinHbPair)))
      { slot := none, kind := Kind.heartbeat,
        octets := (⟨c.nat Ix.twinHbGroup, c.nat Ix.twinUnitMac, none, 0x88B5, none⟩ : Envelope).wrap l })
  else s

/-- A heartbeat on both paths; with those of an ACTIVE unit go its sequence counters (R402). -/
def State.sendHbs (s : State) (handover : Bool) : State :=
  let t := if s.twin.role = .active && (s.twin.linkUp || s.twin.netSends) then s.emit s.counters else s
  (t.sendHb 0 handover).sendHb 1 handover

/-- The token is released (R407): heartbeats with RELEASE at once, and no service from this cycle on. -/
def State.releaseToken (s : State) : State :=
  if s.twin.role = .active then (({ s with twin.release := true } : State).sendHbs false).becomeFollower .quarantined else s

/-- HEARTBEAT_SEND (R404): every 2 ms. With a handover under way it is the last of the active, which becomes STANDBY (R410). -/
def execHeartbeatSend (s : State) : Out :=
  if !s.sys.straps.twinEn || !s.afterBoot || s.sys.cyc < s.twin.hbDue then .next s
  else
    let s1 : State := { s with twin.hbDue := s.sys.cyc + 2 * msCyc }
    match s1.twin.handover with
    | some id =>
      if s1.twin.role = .active then
        let s2 := s1.sendHbs true
        .next ((({ s2 with twin.handover := none, twin.handed := some id } : State).setRole .standby).stopService.startBulk)
      else .next (s1.sendHbs false).followTwin
    | none => .next (s1.sendHbs false).followTwin

/-- TWIN_PATH_SILENT while exactly one path is silent (R405). -/
def State.followPaths (s : State) : State :=
  let a := s.twin.silent[(0 : Fin 2)]
  let b := s.twin.silent[(1 : Fin 2)]
  if a == b then s.causeGone Flt.twinPathSilent fun _ => true
  else (s.causeGone Flt.twinPathSilent (· != b2n b)).condition Flt.twinPathSilent (b2n b)

/-- TWIN_NOKEY: the pair key is absent here or at the peer (R403). -/
def State.followNoKey (s : State) : State :=
  let here := s.sys.straps.twinEn && s.auth.pairKey.isNone
  let peer := s.twin.peer.valid && !s.twin.peer.hasKey
  let s1 := if here then s.condition Flt.twinNokey 0 else s.causeEnds Flt.twinNokey 0
  if peer then s1.condition Flt.twinNokey 1 else s1.causeEnds Flt.twinNokey 1

/-- Whether a heartbeat's ICV checks (R403, R404): a zero ICV comes from a unit without the pair key, and without a key of its own the receiver cannot check. -/
def State.icvOk (s : State) (h : Heartbeat) : Bool :=
  match s.auth.pairKey with
  | none => true
  | some k => h.icv == 0 || Config.mac 0 k 0 h.covered == h.icv

/-- The time check of a heartbeat after a silence (R404). -/
def State.hbTimely (s : State) (h : Heartbeat) : Bool :=
  s.bound.ts == unknownWord || h.bound == 0xFFFFFFFF || decide ((h.time - s.now).natAbs ≤ secFrac.natAbs)

/-- HB_SEQ exceeds the last valid one of the path; after a silence the time check stands in its place (R404). -/
def State.hbFresh (s : State) (path : Fin 2) (h : Heartbeat) : Bool :=
  match s.twin.rxSeq[path] with
  | some n => decide (n < h.seq)
  | none => s.hbTimely h

/-- Two DISCOVERING units: unit 0 becomes ACTIVE once both have entered WARMUP (R413). -/
def State.startTogether (s : State) : State :=
  if s.twin.role = .discovering && s.twin.paired && s.afterInit && 3 ≤ s.twin.peer.state then s.takeToken 0 else s

/-- What the role does with a valid heartbeat of the peer (R407 to R410, R413). -/
def State.roleHeartbeat (s : State) (h : Heartbeat) : State :=
  let peerActive := h.role == 2
  match s.twin.role with
  | .discovering =>
    if peerActive then s.becomeFollower s.loserRole
    else if h.role == 1 then
      if s.twin.unit = 1 then s.becomeFollower .standby
      else ({ s with twin.paired := true } : State).startTogether
    else s.startTogether
  | .active =>
    if peerActive then
      let s1 := s.raise Flt.twinSplit h.epoch
      if h.epoch < s.twin.epoch || (h.epoch == s.twin.epoch && s.twin.unit == 0) then s1 else s1.becomeFollower s1.loserRole
    else s
  | .standby => if h.release then s.takeToken 1 else if h.handover then s.takeToken 2 else s
  | _ => s

/-- A heartbeat of the peer passed every check (R404 to R412). -/
def State.validHeartbeat (s : State) (path : Fin 2) (h : Heartbeat) : State :=
  let keyed := match s.auth.pairKey with
    | some _ => h.icv != 0 || (path != 0 && s.twin.peer.hasKey)
    | none => s.twin.peer.hasKey
  let s1 : State := { s with
    twin.lastHb := s.twin.lastHb.set path (some s.sys.cyc), twin.silent := s.twin.silent.set path false,
    twin.rxSeq := s.twin.rxSeq.set path (some h.seq),
    twin.peer := ⟨h.role, h.state, h.flags, true, h.epoch, h.bound, keyed⟩, twin.configBad := none }
  let s2 : State := if s1.follower && h.role == 2 then
      { s1 with twin.epoch := h.epoch, twin.prpSeq := h.prpSeq, twin.ptpSeq := h.ptpSeq, twin.seqAt := s1.sys.cyc }
    else s1
  let s3 := ((s2.causeGone Flt.twinConfig fun _ => true).followPaths.followNoKey).endVote
  let s4 : State := if h.role == 2 then { s3 with twin.release := false } else s3
  let s5 := match s4.twin.handed with
    | some id => if h.role == 2 then ({ s4 with twin.handed := none } : State).complete id 0 [BitVec.ofNat 32 h.epoch] else s4
    | none => s4
  s5.roleHeartbeat h

/-- HEARTBEAT_RECEIVE (R395, R396, R404). -/
def execHeartbeatReceive (net : Bool) (h : Heartbeat) (s : State) : Out :=
  let path : Fin 2 := if net then 1 else 0
  if !s.sys.straps.twinEn || !s.afterBoot || (!net && !s.twin.linkUp) then .next s
  else
    if !h.good net || !s.icvOk h then .next { s with twin.hbBad := s.twin.hbBad + 1 }
    else
      let conflict : Option Nat := if h.unitId = s.twin.unit then some 0 else if h.mode != s.twin.compat then some 1 else none
      match conflict with
      | some d =>
        if s.twin.configBad = some d then .next s
        else .next ((({ s with twin.configBad := some d } : State).causeGone Flt.twinConfig (· != d)).condition Flt.twinConfig d)
      | none => if s.hbFresh path h then .next (s.validHeartbeat path h) else .next { s with twin.hbBad := s.twin.hbBad + 1 }

/-! ### Silence, the witness vote, discovery (R405, R406, R412, R413) -/

/-- The witness port, if there is one (R394). -/
def Twin.witness (t : Twin) : Option (Fin 4) :=
  if t.cfg.at Ix.twinWitness == noneWord then none else some (Fin.ofNat 4 (t.cfg.nat Ix.twinWitness))

/-- Both paths have been silent for 20 ms, which ended at `due` (R406, R412). -/
def State.bothSilent (s : State) (due : Nat) : State :=
  let standby := s.twin.role == .standby && s.sys.engine != .safe
  match s.twin.witness with
  | none => if standby then s.takeToken 0 else s
  | some w =>
    if s.twin.role == .active || standby then
      ({ s with twin.vote := some (s.twin.epoch, due), twin.voteAnswer := none } : State).noticePort w 8
        (BitVec.ofNat 32 s.twin.epoch) (BitVec.ofNat 32 (s.twin.role.code + s.twin.unit * 16)) s.now s.sys.cyc
    else s

/-- PATH_SILENCE (R4, R405, R406, R412): 20 ms without a valid heartbeat; one in the cycle in which they end is in time. -/
def execPathSilence (net : Bool) (s : State) : Out :=
  let path : Fin 2 := if net then 1 else 0
  match s.twin.lastHb[path] with
  | none => .next s
  | some c =>
    if s.twin.silent[path] || !s.lapsed (c + silenceCyc) then .next s
    else
      let s1 := ({ s with twin.silent := s.twin.silent.set path true, twin.rxSeq := s.twin.rxSeq.set path none } : State).followPaths
      .next (if s1.twin.silent[(0 : Fin 2)] && s1.twin.silent[(1 : Fin 2)] then s1.bothSilent (c + silenceCyc) else s1)

/-- An ACTIVE unit loses the vote (R412). -/
def State.loseVote (s : State) : State := s.becomeFollower s.loserRole

/-- WITNESS_WAIT_EXPIRY (R412): no answer within WITNESS_WAIT. -/
def execWitnessWaitExpiry (s : State) : Out :=
  match s.twin.vote with
  | none => .next s
  | some (_, c) =>
    if s.twin.voteAnswer.isSome || !s.lapsed (c + s.twin.cfg.nat Ix.twinWitnessWait * msCyc) then .next s
    else
      let s1 := s.endVote.raise Flt.twinWitnessTimeout s.twin.role.code
      .next (if s.twin.role == .active then s1.loseVote else s1)

/-- WITNESS_TOKEN_TAKE (R412): 4 ms after WITNESS_WAIT on a STANDBY unit with GRANT. -/
def execWitnessTokenTake (s : State) : Out :=
  match s.twin.vote, s.twin.voteAnswer with
  | some (_, c), some true =>
    if !s.lapsed (c + (s.twin.cfg.nat Ix.twinWitnessWait + 4) * msCyc) || s.twin.role != .standby then .next s
    else if s.sys.engine == .safe then .next s.endVote
    else .next (s.takeToken 3)
  | _, _ => .next s

/-- An answer of the witness for the EPOCH that was queried (R412). -/
def State.witnessAnswer (s : State) (granted : Bool) : State :=
  if s.twin.role == .active then (if granted then s.endVote else s.endVote.loseVote)
  else if granted then { s with twin.voteAnswer := some true } else s.endVote

/-- DISCOVER_TIME_EXPIRY (R413): no valid heartbeat in DISCOVER_TIME. -/
def execDiscoverTimeExpiry (s : State) : Out :=
  if s.twin.role != .discovering || !s.lapsed (s.twin.roleSince + s.twin.cfg.nat Ix.twinDiscoverTime * secCyc) || s.twin.peer.valid then .next s
  else .next (s.takeToken 0)

/-! ### The Balandou link and time transfer (R396 to R398, R414) -/

/-- BALANDOU_LINK_UP (R396, R414). -/
def execBalandouLinkUp (s : State) : Out :=
  if !s.sys.straps.twinEn || s.twin.linkUp then .next s
  else
    let s1 := ({ s with twin.linkUp := true, twin.exch := none, twin.lastTx := none, twin.gotTt := true, twin.failRun := 0 } : State).causeEnds Flt.twinLinkDown 0
    .next (if s1.follower then s1.startBulk else s1)

/-- BALANDOU_LINK_LOSS (R396, R398, R401, R481): the members of group 7 apply at once. -/
def execBalandouLinkLoss (s : State) : Out :=
  if !s.twin.linkUp then .next s
  else
    let s1 : State := { s with twin.linkUp := false, twin.bulkStart := none, twin.bulkDone := false, twin.exch := none, twin.offsets := [] }
    let s2 := ((s1.condition Flt.twinLinkDown 0).dropCalibration).applied 7 0
    .next (if s2.follower then s2.signalLost [15] else s2)

/-- The index of the 2^-10 s instant at or before now (R397). -/
def State.ttIndex (s : State) : Int := s.now / (secFrac / 1024)

/-- An exchange has failed; 16 in a row lose the TWIN slot's signal (R398). -/
def State.exchangeFailed (s : State) : State :=
  let s1 : State := { s with twin.failRun := s.twin.failRun + 1 }
  if s1.twin.failRun = 16 && s1.follower then s1.signalLost [15] else s1

/-- TT_FRAME_SEND (R397, R480): at every 2^-10 s of the time scale. -/
def execTtFrameSend (fine : Fin 1024) (s : State) : Out :=
  if !s.twin.linkUp || !s.afterBoot || s.ttIndex = s.twin.txIndex then .next s
  else
    let t := s.convert ⟨s.sys.cyc, fine.val⟩
    let s1 : State := if s.twin.gotTt then s else { s.exchangeFailed with twin.exch := none }
    let l : List Byte := match s1.twin.exch with
      | some e => ttStamp e.2 ++ ttStamp e.1
      | none => []
    .next ((({ s1 with twin.lastTx := some t, twin.txIndex := s1.ttIndex, twin.gotTt := false } : State).emit (.link 0 (l ++ linkCrc l))).applied 7 0)

/-- ASYM as R397 and R401 use it: active to standby minus standby to active, in 2^-16 ns. -/
def State.asymActiveStandby (s : State) : Int :=
  let a := s.twin.cfg.at Ix.twinAsym
  let activeUnit := if s.twin.role == .active then s.twin.unit else 1 - s.twin.unit
  if activeUnit = 0 then a else -a

/-- TT_FRAME_RECEIVE (R396, R397): the peer's stamps complete the previous exchange. Twice the offset of the exchange is kept. -/
def execTtFrameReceive (f : TtFrame) (s : State) : Out :=
  if !s.twin.linkUp || !s.afterBoot then .next s
  else if !linkGood f.octets then .next { s with twin.linkErrors := s.twin.linkErrors + 1 }
  else
    let s0 := s.noteLateBlock f.arrival
    let t2 := s.convert f.arrival
    let next : Option (Int × Int) := s.twin.lastTx.map fun d => (t2, d)
    let s1 : State := { s0 with twin.gotTt := true, twin.exch := next }
    match s.twin.exch, f.complete with
    | some (arr, dep), true =>
      -- own arrival and departure, and the peer's, of one exchange
      let mine := arr - f.peerDepart
      let theirs := f.peerArrive - dep
      let sign : Int := if s.twin.role == .active then -1 else 1
      let twice := sign * (theirs - mine) + s.asymActiveStandby
      .next { s1 with twin.offsets := s1.twin.offsets ++ [twice], twin.failRun := 0,
                      twin.rtt := BitVec.ofInt 32 (max 0 (min 0xFFFFFFFF ((mine + theirs) / 256))) }
    | _, _ => .next s1.exchangeFailed

/-- The declared uncertainty in use of the TWIN slot in ns (R398); an unknown BOUND_TS of the active makes it larger than any Bound. -/
def State.twinDeclared (s : State) : Rat :=
  (s.twin.peer.bound : Rat) / 256 + (s.twin.cfg.at Ix.twinAsymUnc : Rat) / 512 + 16 / 10000

/-- A calibration sample from the offsets of slot s on both units in the TWIN offset's second (R401). -/
def State.calSample (s : State) (twice : Rat) : State :=
  match s.twin.calibrating with
  | none => s
  | some (slot, _, _, _) =>
    match s.wv.slots[slot].offsets.head?, s.twin.activeSlots.find? (·.slot == slot) with
    | some own, some act =>
      if (s.convert ⟨own.1, 0⟩) / secFrac = s.nowSec && act.sec = s.nowSec then
        let d : Rat := ((own.2 - act.offset : Int) : Rat) - (twice - (s.asymActiveStandby : Rat)) / 2
        { s with twin.calSamples := d :: s.twin.calSamples }
      else s
    | _, _ => s

/-- TWIN_OFFSET_DELIVER (R397, R398): the mean of the offsets of each 62.5 ms. -/
def execTwinOffsetDeliver (s : State) : Out :=
  let w := s.now * 16 / secFrac
  if !s.twin.linkUp || w = s.twin.ofsWindow then .next s
  else
    let l := s.twin.offsets
    let s1 : State := { s with twin.ofsWindow := w, twin.offsets := [] }
    if l.isEmpty then .next s1
    else
      let twice := meanOf (l.map fun i => (i : Rat))
      let o := looseRound (twice / 2)
      let s2 : State := { s1 with twin.offset := o }
      if s2.follower then .next ((s2.calSample twice).deliverMeas 15 (.offset o s2.sys.cyc s2.twinDeclared)) else .next s2

/-- Whether slot s is QUALIFIED on both units (R401). -/
def State.bothQualified (s : State) (slot : Fin 16) : Bool :=
  s.wv.slots[slot].state == .qualified && (s.twin.activeSlots.any fun e => e.slot == slot && e.state == SlotState.qualified.code)

/-- A running calibration is abandoned when a slot leaves QUALIFIED (R401). -/
def State.followCalibration (s : State) : State :=
  match s.twin.calibrating with
  | some (slot, _, _, _) => if s.bothQualified slot then s else s.dropCalibration
  | none => s

/-- REF_MEASUREMENT (R127, R131, R398, R401, R411): the oldest measurement that waits for the slot; for an enabled SYNCE slot, the stamps of its port's recovered clock over a gate. -/
def execRefMeasurement (slot : Fin 16) (stamps : List Nat) (s : State) : Out :=
  match s.wv.slots[slot].meas with
  | m :: l => .next ((((s.mapSlot slot fun x => { x with meas := l }).takeMeas slot m).followTwin).followCalibration)
  | [] =>
    if s.wv.slots[slot].cfg.flag Ix.slotEnable && s.wv.slots[slot].kind == 6 then .next (s.recoveredGate slot stamps) else .next s

/-- TWIN_CALIBRATE_COMPLETE (R401): ASYM and ASYM_UNC are set here and sent to the active. -/
def execTwinCalibrateComplete (s : State) : Out :=
  match s.twin.calibrating with
  | none => .next s
  | some (slot, start, len, id) =>
    if s.sys.cyc < start + len * secCyc then .next s
    else if s.twin.calSamples.isEmpty then .next s.dropCalibration
    else
      let l := s.twin.calSamples
      let d := meanOf l
      let n : Rat := l.length
      let var := (l.map fun x => (x - d) * (x - d)).sum / n / n / 2 ^ 32
      let act : Rat := ((s.twin.activeSlots.find? (·.slot == slot)).map fun e => (e.decl : Rat) / 256).getD 0
      let unc := 2 * (s.wv.slots[slot].declared + act) + 2 * s.kRat * sqrtUp var
      let asym := looseRound (if s.twin.unit = 0 then -(2 * d) else 2 * d)
      let u := min 25600 (toUnits unc).toNat
      let s1 : State := { s with
        twin.calibrating := none, twin.calSamples := [], mram.asym := some (asym, u),
        twin.cfg := (s.twin.cfg.set Ix.twinAsym asym).set Ix.twinAsymUnc u }
      .next ((s1.emit (.replicate (.asymmetry asym u))).complete id 0 [intLo asym, intHi asym, BitVec.ofNat 32 u])

/-! ### Replication (R402, R403, R414) -/

/-- A port's replicated settings: they come into force at its next frame boundary, or at once without link. -/
def State.replPort (s : State) (p : Fin 8) (l : List (Nat × Int)) : State :=
  let s1 := s.mapPort p fun x => { x with staged := x.staged.setAll l, pending := some (x.staged.setAll l) }
  if s1.ports[p].linkUp then s1 else s1.applyPort p

/-- One replicated change, as a follower applies it (R402). -/
def State.applyRepl (s : State) : ReplItem → State
  | .clockId v => { s with svc.clockId := v }
  | .utcOffset v => s.changeUtc fun t => { t with ts.utcOffset := v, ts.utcSet := true }
  | .leap p at_ => if p = 0 then s.cancelLeap else s.scheduleLeap (Fin.ofNat 3 p) at_
  | .smear p ty d pl => s.mapSmear p fun x => { x with cfg := [(ty : Int), d, pl] }
  | .coverage k => s.replaceCoverage k
  | .esmc p en a b c => { s with svc.esmc := upd s.svc.esmc p (fun e => { e with cfg := [if en then 1 else 0, (a : Int), (b : Int), (c : Int)] }) }
  | .portRows p l => s.replPort p l
  | .prpRows q l =>
    let s1 := s.mapPair q fun y => { y with staged := y.staged.setAll l, pending := some (y.staged.setAll l) }
    if s1.ports[lanA q].linkUp || s1.ports[lanB q].linkUp then s1 else s1.applyPair q
  | .instRows i l => (s.mapInst i fun x => { x with staged := x.staged.setAll l, pending := some (x.staged.setAll l) }).applyInst i
  | .hlRule r l => { s with svc.rules := s.svc.rules.set r ((s.svc.rules[r]).setAll l) }
  | .keyLoad sa slot blob =>
    let s0 : State := { s with twin.activeKeys := true }
    match (s0.auth.pairKey.bind fun k => Config.keyUnwrap k blob).bind (parseRecord sa) with
    | some r => s0.storeKey sa slot 2 r
    | none => s0
  | .keyState sa slot st => s.mirrorKey sa slot st
  | .zeroise => { s.zeroiseKeys 0 with twin.activeKeys := false }
  | .grantAdd i p id port ty lp d mac addr start =>
    let g : Grant := ⟨i, p, id, port, ty, lp, d, (s.toRaw start / 1024).toNat, mac, addr, 0⟩
    { s with svc.grants := (s.svc.grants.filter fun h => !h.same g) ++ [g] }
  | .grantDrop i p id port ty =>
    { s with svc.grants := s.svc.grants.filter fun h => !(h.inst == i && h.port == p && h.clientId == id && h.clientPort == port && h.msgType == ty) }
  | .flywheelModel f co ta range =>
    if f = 0 || !s.fc.fw[f].cfg.flag Ix.fwShared then s
    else
      let c := fun i : Nat => co.getD i 0
      let m : Model :=
        { c0 := c 0, c1 := c 1, c2 := c 2, c3 := c 3, h := c 4, a := c 5, b := c 6, uC0 := c 7, uC1 := c 8, uC2 := c 9, uC3 := c 10, uH := c 11,
          uA := c 12, uB := c 13, eT := c 14, sWfm := c 15, sFl := c 16, covAB := c 17, cov := co.drop 18, ta := ta,
          tMin := range.map Prod.fst, tMax := range.map Prod.snd }
      s.mapFw f fun w => { w with model := some m }
  | .slotView v =>
    ({ s with twin.activeSlots := v :: s.twin.activeSlots.filter (·.slot != v.slot) } : State).followCalibration
  | .asymmetry _ _ => s
  | .badFrame => s

/-- REPL_RECEIVE (R396, R401, R402): a follower applies a change; an active takes only a calibration's result. -/
def execReplReceive (item : ReplItem) (s : State) : Out :=
  if !s.twin.linkUp || !s.afterBoot then .next s
  else match item with
    | .badFrame => .next { s with twin.linkErrors := s.twin.linkErrors + 1 }
    | .asymmetry a u =>
      if s.twin.role = .active then
        .next { s with mram.asym := some (a, u), twin.cfg := (s.twin.cfg.set Ix.twinAsym a).set Ix.twinAsymUnc u }
      else .next s
    | i => if s.follower then .next (s.applyRepl i).followTwin else .next s

/-- BULK_TRANSFER_COMPLETE (R414): the full state, and whether the active holds any key. -/
def execBulkTransferComplete (items : List ReplItem) (activeKeys : Bool) (s : State) : Out :=
  if !s.follower || !s.twin.linkUp || s.twin.bulkStart.isNone then .next s
  else
    let s1 := s.each items fun t i => t.applyRepl i
    .next ({ s1 with twin.bulkDone := true, twin.bulkStart := none, twin.activeKeys := activeKeys } : State).followTwin

/-- BULK_TRANSFER_TIMEOUT (R414): 60 s, and the transfer is tried again. -/
def execBulkTransferTimeout (s : State) : Out :=
  match s.twin.bulkStart with
  | none => .next s
  | some c => if !s.lapsed (c + 60 * secCyc) then .next s else .next ((s.raise Flt.twinSyncFail 0).startBulk)

end Sys2Proof.Machine
end

