-- ==== Sys2Proof/Machine/Groups.lean ====
section
/-! DEFINITION. Update groups: strobes, members that apply, the completion of commands that stage, IMMEDIATE (R195, R269, R311, R456, R479 to R483). -/

namespace Sys2Proof.Machine

/-! ### Members (R480, R481) -/


/-- Whether every member of a group has applied the latest strobe (R482). -/
def State.groupWhole (s : State) (g : Fin 8) : Bool := s.groups[g].applied == groupMembers[g]

/-- Whether a member has applied the latest strobe. -/
def State.hasApplied (s : State) (g : Fin 8) (m : Nat) : Bool := s.groups[g].applied.getLsbD m

/-- Whether a member is disabled, stopped, unlocked, without link, or IMMEDIATE, and so applies at once (R481, R483). -/
def State.atOnce (s : State) (g : Fin 8) (m : Nat) : Bool :=
  s.immediate g m ||
    match g with
    | 1 => s.outs.os[Fin.ofNat 4 m].lock != .locked || !s.outs.os[Fin.ofNat 4 m].cfg.flag Ix.synthEnable
    | 2 => !s.ports[Fin.ofNat 8 m].linkUp
    | 4 => if m < 8 then s.feedAtOnce (Fin.ofNat 6 m) else !s.cps[Fin.ofNat 8 (m - 8)].running
    | 5 => s.gnss.mode == 0
    | 7 => !s.sys.straps.twinEn || !s.twin.linkUp
    | _ => false

/-- The staged values of a group become its pending values (R479). -/
def State.copyStaged (s : State) (g : Fin 8) : State :=
  match g with
  | 0 => { s with bound.kPending := some s.bound.kStaged }
  | 1 =>
    { s with
      outs.os := s.outs.os.map fun x => { x with pending := some x.staged, strobeAt := s.sys.cyc },
      outs.pins := s.outs.pins.map fun p => { p with pending := some p.staged } }
  | 2 =>
    { s with
      ports := s.ports.map fun x => { x with pending := some x.staged },
      pairs := s.pairs.map fun x => { x with pending := some x.staged } }
  | 3 => { s with svc.inst := s.svc.inst.map fun x => { x with pending := some x.staged } }
  | 4 =>
    { s with
      feeds := s.feeds.map fun x => { x with pending := some x.staged },
      cps := s.cps.map fun x => { x with pending := some x.staged } }
  | _ => s

/-! ### Members apply (R195, R269, R311, R364, R381, R483) -/

/-- Whether a synthesizer or one of its pins has a pending change. -/
def State.synthChanges (s : State) (o : Fin 4) : Bool :=
  (match s.outs.os[o].pending with
   | some c => c != s.outs.os[o].cfg
   | none => false) ||
    (List.finRange 80).any fun n =>
      match s.outs.pins[n].pending with
      | some d => d != s.outs.pins[n].cfg && (if n.val < 16 then n.val / 4 == o.val else d.nat Ix.outSource == o.val)
      | none => false

/-- A synthesizer applies; out of its second marker because of IMMEDIATE, its pulse and IRIG-B pins become unknown (R483). OS3 or OS2 that leaves lock takes its ports with it (R197, R294, R382). -/
def State.applySynthNow (s : State) (o : Fin 4) : State :=
  let out := s.immediate 1 o.val && s.outs.os[o].lock == .locked && s.synthChanges o
  let s1 := s.applySynth o
  let s2 := if out then s1.each ((s1.pinsOf o).filter fun n => s1.outs.pins[n].pulsed) State.pinUnknown else s1
  let lost := s.outs.os[o].lock == .locked && s1.outs.os[o].lock != .locked
  if lost && o = 3 then s2.os3Lost else if lost && o = 2 then s2.stopConverters else s2

/-- Whether a strobed command waits for this member, and takes what its result says from it. -/
def Handled.watches (h : Handled) (g : Fin 8) (m : Nat) : Bool :=
  h.strobed && h.group == some g &&
    match g with
    | 2 => if h.op = 0x61 then m / 2 == h.target else m == h.target
    | 3 => true
    | 4 => if h.op = 0x92 then m == 8 + h.target else m == h.target
    | _ => m == h.target

/-- The result flag of the commands that watch a member: relocked, restarted, grants freed, stopped (R464). -/
def State.setFlag (s : State) (g : Fin 8) (m : Nat) (f : Handled → Int) : State :=
  { s with handled := s.handled.map fun h =>
      if h.watches g m && f h != 0 then { h with data := h.data.set 0 (f h) } else h }

/-- A member moves its pending values into its applied copy. -/
def State.applyMember (s : State) (g : Fin 8) (m : Nat) : State :=
  let t : State := match g with
    | 0 => if s.bound.kPending = some s.bound.k then s.applyK else s.applyK.recompute
    | 1 =>
      let s1 := s.applySynthNow (Fin.ofNat 4 m)
      s1.setFlag 1 m fun _ => b2n s1.outs.os[Fin.ofNat 4 m].relocked
    | 2 =>
      let s1 := s.applyPort (Fin.ofNat 8 m)
      s1.setFlag 2 m fun _ => b2n (s.ports[Fin.ofNat 8 m].linkUp && !s1.ports[Fin.ofNat 8 m].linkUp)
    | 3 =>
      let s1 := s.applyInstances
      s1.setFlag 3 m fun h => (s.grantsHeld (Fin.ofNat 16 h.target) : Int) - s1.grantsHeld (Fin.ofNat 16 h.target)
    | 4 =>
      if m < 8 then s.applyFeed (Fin.ofNat 6 m)
      else
        let s1 := s.applyCp (Fin.ofNat 8 (m - 8))
        s1.setFlag 4 m fun _ => b2n s1.cps[Fin.ofNat 8 (m - 8)].stopped
    | _ => s
  t.applied g m

/-- A strobe: refused while the mask is incomplete, else accepted, with its members that apply at once (R481, R482). -/
def State.strobe (s : State) (g : Fin 8) (hp : Nat) : State :=
  if s.groupWhole g then
    let s0 := s.mapGroup g fun x => { x with epoch := x.epoch + 1, applied := 0 }
    let s1 := ({ s0 with direct := s0.direct.strobe g } : State).copyStaged g
    s1.each (membersOf g) fun t m => if t.atOnce g m then t.applyMember g m else t
  else s.raise Flt.strobeRefused (g.val + hp * 16)

/-! ### Commands that stage (R195, R269, R311, R456, R464) -/

/-- The result words of a command that staged. -/
def Handled.stageResult (h : Handled) : List Word :=
  let flag := BitVec.ofInt 32 (h.data.getD 0 0)
  let epoch := BitVec.ofInt 32 (h.data.getD 1 0)
  if h.op = 0x90 then [epoch] else if h.op = 0x41 then [0, epoch] else [flag, epoch]

/-- Whether a strobed command is done: the whole mask, or its own member for CP_CONFIG, and no band search under way on its synthesizer. -/
def State.stageDone (s : State) (h : Handled) : Bool :=
  h.strobed &&
    match h.group with
    | some 1 => h.data.getD 2 0 == 1 && s.outs.os[Fin.ofNat 4 h.target].lock != .searching
    | some 4 => if h.op = 0x92 then s.hasApplied 4 (8 + h.target) else h.data.getD 2 0 == 1
    | some _ => h.data.getD 2 0 == 1
    | none => false

/-- Commands of a group whose mask has become complete note that. -/
def State.noteWhole (s : State) (g : Fin 8) : State :=
  if s.groupWhole g then
    { s with handled := s.handled.map fun h => if h.strobed && h.group == some g then { h with data := h.data.set 2 1 } else h }
  else s

/-- Commands that are done complete, oldest first; a search without a band fails them (R193, R464). -/
def State.completeStaged (s : State) (g : Fin 8) : State :=
  s.each (s.handled.filter fun h => h.group == some g && s.stageDone h) fun t h =>
    if h.data.getD 3 0 = 1 then t.complete h.id 0x00B [] else t.complete h.id 0 h.stageResult

/-- The settings of a command whose strobe is issued become its object's staged settings, and an active sends shared ones to its follower (R402, R456, R479). -/
def State.stageCmd (s : State) (h : Handled) : State :=
  match h.op with
  | 0x40 => s.mapOs (Fin.ofNat 4 h.obj) fun x => { x with staged := h.cfg, dirty := true }
  | 0x41 => s.mapPin (Fin.ofNat 80 h.obj) fun x => { x with staged := h.cfg }
  | 0x60 => (s.mapPort (Fin.ofNat 8 h.obj) fun x => { x with staged := h.cfg }).repl (.portRows (Fin.ofNat 8 h.obj) h.cfg.rows)
  | 0x61 => (s.mapPair (Fin.ofNat 4 h.obj) fun x => { x with staged := h.cfg }).repl (.prpRows (Fin.ofNat 4 h.obj) h.cfg.rows)
  | 0x63 => (s.mapInst (Fin.ofNat 16 h.obj) fun x => { x with staged := h.cfg }).repl (.instRows (Fin.ofNat 16 h.obj) h.cfg.rows)
  | 0x90 => s.mapFeed (Fin.ofNat 6 h.obj) fun x => { x with staged := h.cfg }
  | 0x92 => s.mapCp (Fin.ofNat 8 h.obj) fun x => { x with staged := h.cfg }
  | _ => s

/-- The strobe of the oldest command that waits for a complete mask (R456). -/
def State.issueNext (s : State) (g : Fin 8) : State :=
  match s.handled.find? fun h => h.group == some g && !h.strobed with
  | none => s
  | some h =>
    if s.groupWhole g then
      let e : Int := ((s.groups[g].epoch + 1).toNat : Int)
      (({ s with handled := s.handled.map fun x =>
          if x.id = h.id then { x with strobed := true, data := [0, e, 0, 0] } else x } : State).stageCmd h).strobe g h.hp.val
    else s

/-- One round of a group: members that now apply at once do so, commands complete, and the next strobe is issued. -/
def State.settleOnce (s : State) (g : Fin 8) : State :=
  let s1 := s.each (membersOf g) fun t m => if !t.hasApplied g m && t.atOnce g m then t.applyMember g m else t
  ((s1.noteWhole g).completeStaged g).issueNext g

/-- A group settles: rounds until no command that waits can be strobed. -/
def State.settleN : Nat → State → Fin 8 → State
  | 0, s, g => s.settleOnce g
  | n + 1, s, g => State.settleN n (s.settleOnce g) g

/-- A group settles (R456); with group 1, the ports that its synthesizers clock do so too. -/
def State.settle (s : State) (g : Fin 8) : State :=
  let t := State.settleN s.handled.length s g
  if g = 1 then State.settleN t.handled.length (State.settleN t.handled.length t 2) 4 else t

/-- A member that has not applied does so at its boundary, and its group settles. -/
def State.boundary (s : State) (g : Fin 8) (m : Nat) : State :=
  if s.hasApplied g m then s else (s.applyMember g m).settle g

/-! ### UG_STROBE and UGg_CTRL (R481, R483) -/

/-- Whether a port holds the strobe grant of a group (R480). -/
def State.mayStrobe (s : State) (hp : Fin 4) (g : Fin 8) : Bool :=
  match g with
  | 0 => s.may hp .time
  | 1 => s.may hp .outputs
  | 2 => s.may hp .ports
  | 3 => s.may hp .service
  | 4 => s.may hp .grid || s.may hp .converter
  | 5 => s.may hp .gnss
  | 6 => s.may hp .reference || s.may hp .holdover
  | 7 => s.may hp .twin

/-- UG_STROBE written by a host (R481). -/
def State.writeStrobe (s : State) (hp : Fin 4) (v : Word) : State :=
  let asked := (List.finRange 8).filter fun g => v.getLsbD g.val
  let s1 := s.each (asked.filter fun g => s.mayStrobe hp g) fun t g => (t.strobe g hp.val).settle g
  if asked.all fun g => s.mayStrobe hp g then s1 else s1.denied 0x0010

/-- UPDATE_GROUP_STROBE (R481). -/
def execUpdateGroupStrobe (hp : Fin 4) (v : Word) (s : State) : Out := s.opened fun t => t.writeStrobe hp v

/-- UGg_CTRL as it reads (R487). -/
def State.groupCtrl (s : State) (g : Fin 8) : Word :=
  BitVec.ofNat 32 (groupMembers[g].toNat + s.groups[g].immediate.toNat * 2 ^ 16)

/-- UGg_CTRL written by a host (R483, R487): a bit newly set applies the member's pending values at once. -/
def State.writeGroupCtrl (s : State) (hp : Fin 4) (g : Fin 8) (v : Word) : State :=
  if !s.mayStrobe hp g then s.denied (0x0104 + 8 * g.val)
  else
    let new : BitVec 16 := v.extractLsb' 16 16 &&& groupMembers[g]
    let fresh := new &&& ~~~s.groups[g].immediate
    let s1 := s.mapGroup g fun x => { x with immediate := new }
    let s2 := s1.each ((membersOf g).filter fun m => fresh.getLsbD m) fun t m =>
      let t1 := t.raise Flt.immediateSet (g.val + m * 256)
      if t1.hasApplied g m then t1 else t1.applyMember g m
    s2.settle g

/-- IMMEDIATE_WRITE (R483). -/
def execImmediateWrite (hp : Fin 4) (group : Fin 8) (v : Word) (s : State) : Out := s.opened fun t => t.writeGroupCtrl hp group v

end Sys2Proof.Machine
end

