-- ==== Sys2Proof/Machine/GroupEvents.lean ====
section
/-! DEFINITION. Events that are the boundaries of update groups, or make their members apply at once: synthesizer markers and locks, port links, dispatches, converter frames, mains loss (R193 to R197, R269, R271, R294, R299, R311, R364, R377, R381 to R388). -/

namespace Sys2Proof.Machine

/-! ### Synthesizers (R193, R195 to R197) -/

/-- The next second marker at least 1 ms after the strobe, in FINE steps (R195). -/
def State.applyMarker (s : State) (o : Fin 4) : Int :=
  (s.nextGrid secFrac (s.mis o).floor ((s.outs.os[o].strobeAt + msCyc : Nat) * 1024 - 1)).1

/-- SYNTH_APPLY_MARKER (R195): due at the marker of a locked synthesizer with a strobe pending. -/
def execSynthApplyMarker (os : Fin 4) (s : State) : Out :=
  if s.hasApplied 1 os.val || s.outs.os[os].lock != .locked || (s.sys.cyc : Int) * 1024 + 1023 < s.applyMarker os then .next s
  else .next (s.boundary 1 os.val)

/-- A synthesizer is locked in a band: its pins run again with M as before, and OS3's ports come back (R193, R196, R294). -/
def State.synthLocked (s : State) (o : Fin 4) (band : Fin 64) : State :=
  let s1 := s.mapOs o fun x => { x with lock := .locked, band := band, attempts := 0 }
  let s2 := ((s1.endLockFaults o).retune o).followMute o
  if o = 3 then s2.os3Back else s2

/-- SYNTH_LOCK_DONE (R193, R195): a band search ends in lock or in band failure. -/
def execSynthLockDone (os : Fin 4) (band : Option (Fin 64)) (s : State) : Out :=
  if s.outs.os[os].lock != .searching then .next s
  else
    match band with
    | some b => .next (((s.reportLost os).synthLocked os b).settle 1)
    | none =>
      let s1 := ((s.reportLost os).mapOs os fun x => { x with lock := .off }).condition Flt.osBandFail os.val
      let s2 : State := { s1 with handled := s1.handled.map fun h =>
          if h.strobed && h.group == some 1 && h.target == os.val then { h with data := h.data.set 3 1 } else h }
      let s3 := if os = 2 then s2.stopConverters.settle 4 else s2
      .next (s3.settle 1)

/-- SYNTH_LOSS_OF_LOCK (R197): pins muted with Bound unknown, OS3's ports to SREF, OS2's converter ports stopped. -/
def execSynthLossOfLock (os : Fin 4) (s : State) : Out :=
  if s.outs.os[os].lock != .locked then .next s
  else
    let s1 := (s.mapOs os fun x => { x with lock := .lost, attempts := 0, tryAt := s.sys.cyc }).followMute os
    let s2 := (s1.each (s1.pinsOf os) State.pinUnknown).condition Flt.osUnlock os.val
    let s3 := if os = 3 then s2.os3Lost.settle 2 else if os = 2 then s2.stopConverters.settle 4 else s2
    .next (s3.settle 1)

/-- SYNTH_RELOCK_ATTEMPT (R193, R197): up to 3 attempts, 10 ms apart; one that finds no band raises OS_BAND_FAIL. -/
def execSynthRelockAttempt (os : Fin 4) (band : Option (Fin 64)) (s : State) : Out :=
  let x := s.outs.os[os]
  if x.lock != .lost || 3 ≤ x.attempts || s.sys.cyc < x.tryAt then .next s
  else
    match band with
    | some b => .next (((s.mapOs os fun x => { x with relocks := x.relocks + 1 }).synthLocked os b).settle 1)
    | none =>
      let s1 := (s.mapOs os fun x => { x with attempts := x.attempts + 1, tryAt := s.sys.cyc + 10 * msCyc }).condition Flt.osBandFail os.val
      .next (if x.attempts + 1 = 3 then s1.condition Flt.osUnlock (os.val + 16) else s1)

/-! ### Ethernet ports (R269, R271) -/

/-- LINK_UP (R271, R330): a port that is enabled and may come up declares its link up and announces its addresses. -/
def execLinkUp (port : Fin 8) (s : State) : Out :=
  if !s.afterBoot || !s.ports[port].cfg.flag Ix.portEnable || s.ports[port].linkUp then .next s
  else .next ((s.linkIsUp port).each (List.finRange 16) fun t i => t.announceAddresses i port)

/-- LINK_LOSS (R271, R297): the link goes down, and group 2 values that wait apply at once. -/
def execLinkLoss (port : Fin 8) (hiBer : Bool) (fault : Fin 3) (s : State) : Out :=
  if !s.afterBoot || !s.ports[port].cfg.flag Ix.portEnable then .next s
  else
    let s1 := if s.ports[port].linkUp then s.linkDown port false else s
    let s2 := s1.mapPort port fun x => { x with hiBer := hiBer, fault := fault }
    let s3 := if hiBer then s2.condition Flt.hiBer port.val else s2.causeEnds Flt.hiBer port.val
    .next (s3.settle 2)

/-- PORT_CONFIG_APPLY (R269): the port's frame boundary. -/
def execPortConfigApply (port : Fin 8) (s : State) : Out := .next (s.boundary 2 port.val)

/-- REQUEST_DISPATCH (R299, R311): instance settings apply between dispatches, then the oldest frame of the port is dispatched. -/
def execRequestDispatch (port : Fin 8) (s : State) : Out := .next ((s.boundary 3 0).dispatch port)

/-! ### Grid feeds and converter ports (R364, R377, R381, R387) -/

/-- Feeds that took a crossing since `before` apply their pending settings (R364). -/
def State.applyCrossed (s : State) (before : Vector Feed 6) : State :=
  s.each (List.finRange 6) fun t f =>
    if t.feeds[f].lastCross != before[f].lastCross && t.feeds[f].lastCross.isSome then t.boundary 4 f.val else t

/-- CP_FRAME_SYNC (R381, R383): the frame, then what waited for it and for a crossing in its samples. -/
def execCpFrameSync (cp : Fin 8) (samples : List Word) (s : State) : Out :=
  let s1 := s.frameSync cp samples
  let s2 := if s1.hasApplied 4 (8 + cp.val) then s1
    else (s1.setFlag 4 (8 + cp.val) fun _ => b2n s1.cps[cp].stopped).applied 4 (8 + cp.val)
  .next ((s2.applyCrossed s.feeds).settle 4)

/-- CP_RATE_MEASURE (R387). -/
def execCpRateMeasure (cp : Fin 8) (s : State) : Out := .next ((s.rateMeasured cp).settle 4)

/-- MAINS_LOSS_TIMEOUT (R377). -/
def execMainsLossTimeout (feed : Fin 6) (s : State) : Out := .next ((s.mainsTimeout feed).settle 4)

end Sys2Proof.Machine
end

