-- ==== Sys2Proof/Machine/TdcEvents.lean ====
section
/-! DEFINITION. Events of the TDC channels: transitions and deglitch, the ends of windows and of gates, and what slots, feeds, flywheels and output verification take from them (R79, R85 to R101, R120, R136 to R138, R213 to R215, R365). -/

namespace Sys2Proof.Machine

/-! ### Verification of outputs (R213, R214) -/

/-- A stamp on the time scale, unrounded, in 2^-16 ns. -/
def State.stampTime (s : State) (t : Stamp) : Rat := (setFor s.ts.sets t.cyc).1.exact t.steps

/-- The nominal instant whose P + M - COMP lies nearest to `t`, and the residual from it (R213). -/
def State.nearestNominal (s : State) (n : Fin 80) (t : Rat) : Int × Rat :=
  let r := s.residual n t
  let p := s.outs.pins[n]
  ((t - r - s.mis (sourceOs s n) + p.comp).floor, r)

/-- Half an IRIG-B element, in 2^-16 ns: only an edge this near to Pr is the frame's Pr (R204, R213). -/
def halfElement : Rat := 327680000000

/-- The edge of a TIO output stamped by its own channel (R212, R213); of an IRIG-B frame, only the edge of Pr. -/
def State.tioOutputEdge (s : State) (ch : Fin 88) (t : Stamp) : State :=
  if h : ch.val < 64 then
    let n := tioPin ⟨ch.val, h⟩
    let p := s.outs.pins[n]
    let v := s.nearestNominal n (s.stampTime t)
    if !p.pulsed || (p.cfg.nat Ix.outMode == 3 && decide (halfElement < |v.2|)) then s else s.verifyEdge n v.2
  else s

/-- The OUT pin of a feedback channel (R213). -/
def feedbackPin (ch : Fin 88) : Fin 80 := ⟨(ch.val - 72) % 80, Nat.mod_lt _ (by decide)⟩

/-- An edge of a feedback channel: kept for its window, centred on P + M - COMP with half-width VERIFY_LIMIT, or rejected outside (R92, R213). -/
def State.feedbackEdge (s : State) (ch : Fin 88) (t : Stamp) : State :=
  let n := feedbackPin ch
  let v := s.nearestNominal n (s.stampTime (Stamp.ofSteps (s.tdc[ch].delayed t).toNat))
  if |v.2| ≤ s.outs.pins[n].verifyLimit then s.mapTdc ch fun c => { c with inside := c.inside ++ [(v.1, t, c.stale)] }
  else s.reject ch 1

/-! ### An accepted edge (R86 to R88, R94 to R98, R137, R138, R365) -/

/-- A gate's result reaches the slots, the flywheel and the CLOCK pin that follow the channel (R100, R120, R162, R215). A slot that has a clock input takes its frequency from that alone (R122). -/
def State.gateDelivered (s : State) (ch : Fin 88) (r : Result) : State :=
  let y := r.valid?
  let s1 := match y with
    | some v => s.each (s.slotsWith fun x => x.clockChannel ch.val || (x.pulseChannel ch.val && x.kind != 2)) fun u i =>
        u.deliverMeas i (.freq v.2 s.sys.cyc)
    | none => s
  let s2 := match s1.flywheelOn ch with
    | some f => s1.flywheelGate f (y.map Prod.fst)
    | none => s1
  if isFeedback ch && s.tdc[ch].cfg.nat Ix.tdcMode == 3 && !s.pinMuted (feedbackPin ch) then
    s2.verifyGate (feedbackPin ch) (y.map Prod.snd)
  else s2

/-- A gate that has reached 2^32 stamps closes at the last of them, and the next one waits for the stamp that follows (R101). -/
def State.limitGate (s : State) (ch : Fin 88) (t : Int) : State :=
  if !s.gateFull ch then s
  else
    let r := s.gateResult ch s.tdc[ch].gate t false true
    ((s.endGate ch [r] { start := t.toNat, waiting := true } (t + 1)).gateDelivered ch r).raise Flt.gateLimit ch.val


/-- The index of a stamp in the regression, and none for a glitch of a slot's clock (R99, R138): the prescaled edge number, or on a running clock of a slot the last index plus the multiple of the spacing. -/
def State.regressionIndex (s : State) (ch : Fin 88) (t : Int) (edge : Nat) (clock : Bool) : Option Nat :=
  let c := s.tdc[ch]
  match c.monitor.head? with
  | some (_, l) => if clock then (s.clockMultiple c.spacing l t).map (c.edgeNo + ·) else some (c.edgeNo + (edge - c.edgeSeen))
  | none => some (c.edgeNo + (edge - c.edgeSeen))

/-- A stamp of a FREQUENCY channel: a glitch of a clock that serves slots is counted and discarded, any other enters the accumulators and the slots' monitors (R99, R137, R138). -/
def State.clockEdge (s : State) (ch : Fin 88) (t : Stamp) (falling : Bool) (edge : Nat) (slots : List (Fin 16)) : State :=
  let td := s.tdc[ch].delayed t
  match s.regressionIndex ch td edge (!slots.isEmpty) with
  | none => (s.each slots fun u i => u.mapSlot i fun x => { x with glitch := x.glitch + 1 }).stamped ch t falling false 0
  | some k =>
    let most := (slots.map fun i => s.wv.slots[i].cfg.nat Ix.slotMonGate).foldl max 0
    let l := if slots.isEmpty then [] else trailing most td.toNat ((k, td.toNat) :: s.tdc[ch].monitor)
    let s1 := (s.stamped ch t falling true k).mapTdc ch fun c => { c with monitor := l, edgeNo := k, edgeSeen := edge }
    (s1.limitGate ch td).each slots fun u i => u.monitorSlot i u.tdc[ch].spacing l td.toNat

/-- Edge feeds of a channel take a stamp as a crossing, and pending settings at it (R364 to R366). -/
def State.feedEdges (s : State) (ch : Fin 88) (t : Stamp) : State :=
  let td := Stamp.ofSteps (s.tdc[ch].delayed t).toNat
  ((s.each (s.edgeFeeds ch) fun u f => u.crossing f (u.convert td) td).applyCrossed s.feeds).settle 4

/-- A stamped edge reaches everything that follows the channel. -/
def State.routeStamp (s : State) (ch : Fin 88) (t : Stamp) (falling offered : Bool) (k : Nat) : State :=
  let slots := s.slotsWith fun x => x.clockChannel ch.val
  let mode := s.tdc[ch].cfg.nat Ix.tdcMode
  if !offered then s.stamped ch t falling false k
  else if isFeedback ch && mode == 1 then s.feedbackEdge ch t
  else if mode == 3 then s.clockEdge ch t falling k slots
  else
    let s1 := (s.stamped ch t falling true k).feedEdges ch t
    s1.tioOutputEdge ch (Stamp.ofSteps (s1.tdc[ch].delayed t).toNat)

/-- The clock input of the slots on a channel has its signal again: the prescaler sees an edge (R136). -/
def State.clockBack (s : State) (ch : Fin 88) : State :=
  s.each (s.slotsWith fun x => x.clockChannel ch.val && x.clockLost) fun u i => u.mapSlot i fun x => { x with clockLost := false }

/-- A transition that passed deglitch (R86, R87): the prescaler, the dead time, the stamp. DEDUCED (log entry 46): PARTNER's prescaler does not thin its stop edges, since R95 names its deglitch, dead time and DELAY only. -/
def State.acceptEdge (s : State) (ch : Fin 88) (t0 : Stamp) (falling : Bool) : State :=
  let t := s.pathCorrected ch t0
  let c := s.tdc[ch]
  let sel := c.selects falling
  let n := max 1 (c.cfg.nat Ix.tdcPrescale)
  let offered := sel && c.seen % n == 0
  let s1 := s.mapTdc ch fun c =>
    { c with level := !falling, pend := none,
             seen := if sel then c.seen + 1 else c.seen, edges := if sel then c.edges + 1 else c.edges,
             seenAt := if sel then s.sys.cyc else c.seenAt }
  let s1 := if sel then s1.clockBack ch else s1
  if !offered && (s.stopsFor ch falling).isEmpty then s1
  else
    match c.last with
    | some l =>
      if t.steps ≤ l + 2048 then (s1.mapTdc ch fun c => { c with missed := c.missed + 1 }).counterChanged ch 0
      else (s1.mapTdc ch fun c => { c with last := some t.steps }).routeStamp ch t falling offered (c.seen / n)
    | none => (s1.mapTdc ch fun c => { c with last := some t.steps }).routeStamp ch t falling offered (c.seen / n)

/-! ### Deglitch (R85) -/

/-- A transition that has held its level for D cycles is accepted. -/
def State.acceptHeld (s : State) (ch : Fin 88) : State :=
  match s.tdc[ch].pend with
  | some (t, falling) => if t.cyc + s.deglitch ch ≤ s.sys.cyc then s.acceptEdge ch t falling else s
  | none => s

/-- DEGLITCH_ACCEPT (R85). -/
def execDeglitchAccept (ch : Fin 88) (s : State) : Out := .next (s.acceptHeld ch)

/-- TDC_EDGE (R85): a transition enters deglitch, or with the one that waits is discarded. -/
def execTdcEdge (ch : Fin 88) (rising : Bool) (fine : Fin 1024) (s : State) : Out :=
  if !s.sys.rpllLocked then .next s
  else
    let t : Stamp := ⟨s.sys.cyc, fine.val⟩
    let s1 := s.acceptHeld ch
    if s.deglitch ch = 0 then .next (s1.acceptEdge ch t (!rising))
    else
      match s1.tdc[ch].pend with
      | some (_, falling) => .next (if falling = rising then s1.glitched ch else s1)
      | none => .next (s1.mapTdc ch fun c => { c with pend := some (t, !rising) })

/-! ### The close of a window (R91 to R93, R120, R136, R213) -/

/-- The accepted edge of a window goes to the record builder and the accumulators (R88, R92, R98, R108). -/
def State.windowAccepted (s : State) (ch : Fin 88) (k : Int) (t : Stamp) (stale : Bool) : State :=
  let c := s.tdc[ch]
  let s1 := (s.toFifo ch (c.entry t (c.cfg.nat Ix.tdcEdge == 1) c.rejSince stale)).mapTdc ch fun c =>
    { c with rejSince := 0, emptyRun := 0 }
  (s1.gateStamp ch k (c.delayed t) stale).limitGate ch (c.delayed t)

/-- A window that closes without exactly one edge (R92). The edges rejected at its close count to it and not to the next window (R108). -/
def State.windowEmpty (s : State) (ch : Fin 88) (n : Nat) : State :=
  let s1 := if n = 0 then s else s.reject ch n
  s1.mapTdc ch fun c => { c with empty := c.empty + 1, emptyRun := c.emptyRun + 1, rejSince := 0 }

/-- The second that the frame before a pulse names: the last frame to end before the pulse, in the second before it, and good (R128, R208). -/
def Slot.named (x : Slot) (t : Nat) : Option Int :=
  match x.frames.find? fun e => decide (e.1 ≤ t) with
  | some (n, v) => if t ≤ n + 640000000000 then v else none
  | none => none

/-- An accepted edge for the slots that the channel serves (R92, R120, R122, R123, R128): its offset for PPS and time-of-day slots; an IRIG-B slot keeps it for its frame. -/
def State.pulseOffset (s : State) (ch : Fin 88) (k : Int) (t : Stamp) : State :=
  let p := s.tdc[ch].instant k
  let td := Stamp.ofSteps (s.tdc[ch].delayed t).toNat
  s.each (s.slotsWith fun x => x.pulseChannel ch.val) fun u0 i =>
    let u := u0.mapSlot i fun x => { x with pulseLost := false, edge := some t }
    let x := u.wv.slots[i]
    match x.kind, x.named td.steps with
    | 2, _ => (u.noteLate td ch.val).deliverMeas i (.offset (p - u.convert td) td.cyc x.extra)
    | 7, some sec => (u.noteLate td ch.val).deliverMeas i (.offset (sec * secFrac - u.convert td) td.cyc x.extra)
    | _, _ => u

/-- A reference window closes (R92, R136). -/
def State.closeWindow (s : State) (ch : Fin 88) (k close : Int) : State :=
  let mine := s.tdc[ch].inside.filter fun e => e.1 == k
  let s1 := s.mapTdc ch fun c => { c with closedTo := close.toNat, inside := c.inside.filter fun e => k < e.1 }
  match mine with
  | [e] => (s1.windowAccepted ch k e.2.1 e.2.2).pulseOffset ch k e.2.1
  | l =>
    let s2 := s1.windowEmpty ch l.length
    let run := s2.tdc[ch].emptyRun
    let lost := s2.slotsWith fun x => x.pulseChannel ch.val && decide (x.cfg.nat Ix.slotEmptyLimit ≤ run)
    if lost.isEmpty then s2
    else (s2.each lost fun u i => u.mapSlot i fun x => { x with pulseLost := true }).signalLost lost

/-- The verification window of a feedback channel that has closed by now and was not closed before: its P, its number and its closing position (R213). -/
def State.closingFeedback (s : State) (ch : Fin 88) : Option (Int × Int × Int) :=
  let n := feedbackPin ch
  let p := s.outs.pins[n]
  let lag := s.mis (sourceOs s n) - p.comp + p.verifyLimit
  let end_ : Rat := s.setNow.exact (s.sys.cyc * 1024 + 1023)
  let at_ := s.nominalBefore p (end_ - lag).floor
  let close := s.toRaw (at_ + lag).ceil
  if p.lastVerify == some at_ || close ≤ (s.tdc[ch].closedTo : Int) || s.stampedTo ch ≤ close then none
  else some (at_, (at_ - p.phase) / p.period, close)

/-- A verification window closes; a pin that is muted or held, or omits the pulse, emits no edge to verify (R203, R213, R214). -/
def State.closeFeedback (s : State) (ch : Fin 88) (at_ k close : Int) : State :=
  let n := feedbackPin ch
  let mine := s.tdc[ch].inside.filter fun e => e.1 == at_
  let s1 := (s.mapTdc ch fun c => { c with closedTo := close.toNat, inside := c.inside.filter fun e => at_ < e.1 }).mapPin n
    fun p => { p with lastVerify := some at_ }
  match mine with
  | [e] =>
    let td := Stamp.ofSteps (s1.tdc[ch].delayed e.2.1).toNat
    (s1.windowAccepted ch k e.2.1 e.2.2).verifyEdge n (s1.nearestNominal n (s1.stampTime td)).2
  | l =>
    let s2 := s1.windowEmpty ch l.length
    if s.pinMuted n || s.omitted s.outs.pins[n] at_ then s2 else s2.verifyFail n

/-- WINDOW_CLOSE (R92). -/
def execWindowClose (ch : Fin 88) (s : State) : Out :=
  if s.tdc[ch].cfg.nat Ix.tdcMode != 1 then .next s
  else if isFeedback ch then
    match s.closingFeedback ch with
    | some (at_, k, close) => .next (s.closeFeedback ch at_ k close)
    | none => .next s
  else
    match s.closingWindow ch with
    | some (k, close) => .next (s.closeWindow ch k close)
    | none => .next s

/-! ### The end of a gate (R98 to R100, R162, R215) -/

/-- Whether every window whose instant lies in a gate that ends at `e` has closed (R98); a window that a new configuration ended is one (R83). -/
def State.windowsClosed (s : State) (ch : Fin 88) (e : Int) : Bool :=
  let c := s.tdc[ch]
  let k := c.windowAt (s.setNow.time e.toNat)
  let p := c.instant k
  if isFeedback ch then
    let n := feedbackPin ch
    let close := s.toRaw ((p : Rat) + s.mis (sourceOs s n) - s.outs.pins[n].comp + s.outs.pins[n].verifyLimit).ceil
    close ≤ (c.closedTo : Int) || close < (c.gate.start : Int)
  else !s.windowOpen ch k || decide (s.toRaw p < (c.gate.start : Int))

/-- GATE_END (R99): due once the cycle of the gate's boundary is over, and for a REFERENCE channel once its windows have closed. A gate that still waits for its first stamp after COUNT_LIMIT makes no result (R101). -/
def execGateEnd (ch : Fin 88) (s : State) : Out :=
  let c := s.tdc[ch]
  let e := s.gateEndRaw ch
  if !c.gated || s.stampedTo ch ≤ e || (c.cfg.nat Ix.tdcMode == 1 && !s.windowsClosed ch e) then .next s
  else if c.gate.waiting then .next (s.endGate ch [] (s.openGate e) e)
  else
    let r := s.gateResult ch c.gate e false false
    .next ((s.endGate ch [r] (s.openGate e) e).gateDelivered ch r)

end Sys2Proof.Machine
end

