-- ==== Sys2Proof/Machine/Faults.lean ====
section
/-! DEFINITION. The fault collector: the order of processing, reactions, the latch, degrade and safe state, FAULT_CLEAR; the performance windows and the counter dumps (R497 to R513). -/

namespace Sys2Proof.Machine

/-! ### SAFE (R29, R504, R505) -/

/-- Entry to SAFE; before WARMUP it waits for WARMUP (R29, R499, R504). -/
def State.enterSafe (s : State) : State :=
  if !s.afterInit then { s with sys.safePending := true }
  else if s.sys.engine = .safe then s
  else (((s.moveEngine .safe).safeOutputs true).hwLevelAll 12).releaseToken

/-- A pin whose grid goes on unsent while outputs are held low: the next to leave is the first still ahead, of a frame pin the first frame that R208 allows (R224). -/
def State.skipPulses (s : State) (n : Fin 80) : State :=
  let p := s.outs.pins[n]
  if p.pulsed then s.passPin n
  else
    match s.outs.pins[p.pulsePin].emitted with
    | some at_ => if p.cfg.nat Ix.outMode = 5 && s.frameStart p at_ < s.now then s.mapPin n fun x => { x with lastPulse := some at_ } else s
    | none => s

/-- SAFE is left: the state that selection and loop phase give, or WARMUP where no slot has been selected since INIT (R29, R505). -/
def State.leaveSafe (s : State) : State :=
  if s.sys.engine = .safe then
    let s1 := (s.safeOutputs false).each (List.finRange 80) State.skipPulses
    s1.moveEngine (if s1.sys.selectedSinceInit then s1.loopState else .warmup)
  else s

/-! ### Processing (R497 to R501, R503, R504) -/

/-- Whether a kind is one of the three that set RESET_ONLY (R505). -/
def FaultMsg.fixed (m : FaultMsg) : Bool :=
  match findKind m.source m.kind with
  | some k => fixedReaction k
  | none => false

/-- The reaction of a message: after a self-fault its severity's default (R497, R498, R506). -/
def State.reaction (s : State) (m : FaultMsg) : Nat :=
  if m.fixed then 0x1B
  else if s.flt.selfFault then defaultReaction m.sev
  else ((s.flt.react.find? (·.1 == (m.source, m.kind))).map Prod.snd).getD (defaultReaction m.sev)

/-- Whether `a` is taken before `b`: the higher severity, then the lower SOURCE, then the lower KIND (R500). -/
def FaultMsg.before (a b : FaultMsg) : Bool :=
  b.sev < a.sev || (a.sev == b.sev && (a.source < b.source || (a.source == b.source && a.kind < b.kind)))

/-- The first by R500 of messages that stand in the order of their arrival. -/
def firstMsg : List (FaultMsg × Nat) → Option (FaultMsg × Nat)
  | [] => none
  | x :: l =>
    match firstMsg l with
    | none => some x
    | some y => if y.1.before x.1 || (!x.1.before y.1 && y.2 < x.2) then some y else some x

/-- The message leaves its queue. -/
def State.takeMsg (s : State) (x : FaultMsg × Nat) : State :=
  { s with flt.queues := upd s.flt.queues (sourceIx x.1.source) fun l => l.erase x }

/-- OVERFLOW and its count, which saturates (R501, R515). -/
def Collector.overflowed (c : Collector) : Collector :=
  { c with overflow := true, overflowCount := min 0xFFFF (c.overflowCount + 1) }

/-- The interrupt reaction: the message latches, or finds a fault latched (R501). -/
def State.latchFault (s : State) (m : FaultMsg) (cyc : Nat) : State :=
  if s.flt.first.isSome then { s with flt := s.flt.overflowed }
  else ({ s with flt.first := some m, flt.firstCyc := cyc } : State).hwLevelAll 11

/-- The degrade reaction; the cycle that sets DEGRADED recomputes every Bound (R503). -/
def State.degrade (s : State) (m : FaultMsg) : State :=
  let s1 : State := { s with flt.degraded := true, flt.degradeBy := (m.source, m.kind) :: s.flt.degradeBy }
  if s.flt.degraded then s1 else s1.recompute

/-- The safe-state reaction (R504, R505). -/
def State.safeReaction (s : State) (m : FaultMsg) : State :=
  let s1 : State := { s with
    flt.safeByFault := s.flt.safeByFault || s.afterInit, flt.safeBy := (m.source, m.kind) :: s.flt.safeBy,
    sys.resetOnly := s.sys.resetOnly || m.fixed }
  s1.enterSafe

/-- A message is processed: counted, then each reaction that it has (R497, R501). -/
def State.react (s : State) (m : FaultMsg) (cyc : Nat) : State :=
  let r := s.reaction m
  if r = 0 then { s with flt.masked := s.flt.masked + 1 }
  else
    let i : Fin 4 := Fin.ofNat 4 m.sev
    let s1 : State := { s with flt.count := upd s.flt.count i (· + 1), flt.worst := max s.flt.worst m.sev }
    let s2 := if bitAt r 0 then s1.logAt 1 0 m.word 0 cyc else s1
    let s3 := if bitAt r 1 then s2.latchFault m cyc else s2
    let s4 := if bitAt r 2 then s3.degrade m else s3
    let s5 := if bitAt r 3 then s4.safeReaction m else s4
    if bitAt r 4 then s5.releaseToken else s5

/-- FAULT_PROCESS (R500): one message in a CCLK cycle. -/
def execFaultProcess (s : State) : Out :=
  match firstMsg (s.flt.queues.toList.flatten) with
  | none => .next s
  | some x => .next ((s.takeMsg x).react x.1 x.2)

/-! ### FAULT_CLEAR (R502, R503, R505) -/

/-- Whether a kind's cause is still present. -/
def State.kindPresent (s : State) (k : Nat × Nat) : Bool := s.flt.present.any fun m => m.source == k.1 && m.kind == k.2

/-- The conditions that a clear latches again, first by R500 at the head. -/
def State.stillPresent (s : State) : Option FaultMsg × List FaultMsg :=
  let l := s.flt.present.filter fun m => bitAt (s.reaction m) 1
  match firstMsg (l.map fun m => (m, 0)) with
  | none => (none, [])
  | some x => (some x.1, l.erase x.1)

/-- The latch after a clear (R502). -/
def State.relatch (s : State) : State :=
  let p := s.stillPresent
  let c : Collector := { s.flt with first := none, firstCyc := 0, overflow := false, relatched := false, worst := 0, overflowCount := 0 }
  match p.1 with
  | none => { s with flt := c }
  | some m =>
    let c1 : Collector := { c with first := some m, firstCyc := s.sys.cyc, relatched := true }
    let c2 := p.2.foldl (fun d _ => d.overflowed) c1
    let s1 : State := { s with flt := { c2 with worst := (m :: p.2).foldl (fun n x => max n x.sev) 0 } }
    let s2 := if s.flt.first.isSome then s1 else s1.hwLevelAll 11
    if bitAt (s.reaction m) 0 then s2.logAt 1 32 m.word 0 s2.sys.cyc else s2

/-- A degrade whose causes are gone ends, with a recomputation (R503). -/
def State.endDegrade (s : State) : State :=
  if s.flt.degraded && !s.flt.degradeBy.any s.kindPresent then
    ({ s with flt.degraded := false, flt.degradeBy := [] } : State).recompute
  else s

/-- A safe state whose causes are gone ends, unless only reset ends it (R505). -/
def State.endSafe (s : State) : State :=
  if !s.sys.resetOnly && !s.flt.safeBy.any s.kindPresent then
    ({ s with flt.safeByFault := false, flt.safeBy := [] } : State).leaveSafe
  else s

/-- FAULT_CLEAR in one cycle (R502). -/
def State.faultClear (s : State) : State := ((s.relatch).endDegrade).endSafe

/-! ### Performance windows (R511) -/

/-- Busy SCLK cycles of a Squall engine up to `cyc`. -/
def Squall.busyTo (e : Squall) (cyc : Nat) : Nat :=
  e.busy + (match e.busySince with
    | some c => cyc - c
    | none => 0)

/-- The next window starts at `cyc`. -/
def Squall.newWindow (e : Squall) (cyc : Nat) : Squall :=
  { e with busy := 0, busySince := e.busySince.map fun _ => cyc }

/-- PERF_WINDOW_END (R511): the values latch together; the end of a window whose CYC has not come changes nothing. -/
def execPerfWindowEnd (s : State) : Out :=
  if s.sys.cyc < s.perf.due then .next s
  else
    let p := s.perf
    let e := p.due
    let q : Perf := { p with
      epoch := p.epoch + 1, window := p.nextWindow, due := e + p.nextWindow * msCyc, endCyc := e,
      rx := p.rxOctets.map fun n => loWord (n * 8 / p.window), tx := p.txOctets.map fun n => loWord (n * 8 / p.window),
      rxOctets := Vector.replicate 8 0, txOctets := Vector.replicate 8 0,
      sq := s.svc.squall.map fun y => if y.inDispatch then loWord (y.busyTo e * 65536 / (p.window * msCyc)) else 0,
      inst := s.svc.inst.map fun x => loWord x.sent }
    .next { s with perf := q, svc.squall := s.svc.squall.map fun y => y.newWindow e,
                   svc.inst := s.svc.inst.map fun x => { x with sent := 0 } }

/-! ### Registers of the collector and the dump (R513 to R515) -/

/-- FLT_FIRST (R514). -/
def State.fltFirst (s : State) : Word :=
  match s.flt.first with
  | some m => m.word
  | none => 0

/-- FLT_STATUS (R515). -/
def State.fltStatus (s : State) : Word :=
  let c := s.flt
  BitVec.ofNat 32 (b2n c.first.isSome + b2n c.overflow * 2 + b2n c.relatched * 4 + b2n c.degraded * 8 +
    b2n c.safeByFault * 16 + b2n c.selfFault * 32 + c.worst % 4 * 256 + c.overflowCount % 2 ^ 16 * 2 ^ 16)

/-- The words of a dump record; with DENIED set, W8 to W55 are 0 (R513). -/
def State.dumpRecord (s : State) (hp : Fin 4) : List Word :=
  let h := s.hosts[hp]
  let denied := !bitAt s.perf.permit hp.val
  let e := s.convert ⟨s.perf.endCyc, 0⟩
  let hide := fun (l : List Word) => if denied then l.map fun _ => (0 : Word) else l
  [BitVec.ofNat 32 (h.dumpSeq.toNat + b2n denied * 2 ^ 16 + 2 ^ 24), s.perf.epoch, loWord s.perf.window,
   BitVec.ofNat 32 (s.sys.engine.code + s.twin.role.code * 16), loWord s.perf.endCyc, hiWord s.perf.endCyc,
   loWord (tsSec e), BitVec.ofNat 32 (tsSec e / 2 ^ 32 % 2 ^ 16)] ++
  hide ((List.finRange 8).flatMap fun p => [s.perf.rx[p], s.perf.tx[p]]) ++ hide s.perf.sq.toList ++ hide s.perf.inst.toList ++
  [s.bound.ts, s.fltFirst, s.fltStatus, s.log.wr, 0, 0, 0, BitVec.ofNat 32 (h.dumpSeq.toNat + 2 ^ 31)]

/-- COUNTER_DUMP_WRITE (R513): W63 as 0, W0 to W62, then W63; an error ends the dump. -/
def execCounterDumpWrite (hp : Fin 4) (ok : Bool) (s : State) : Out :=
  let h := s.hosts[hp]
  if 2 ≤ hp.val || h.dumpInterval = 0 || s.sys.cyc < h.dumpDue then .next s
  else
    let s1 := s.mapHost hp fun x => { x with dumpDue := x.dumpDue + x.dumpInterval * secCyc }
    if ok then
      let r := s1.dumpRecord hp
      let at_ := h.dumpBase + 256 * (h.dumpSeq.toNat % max 1 h.dumpEntries)
      let s2 := ((s1.emit (.hostMem hp (at_ + 252) [0])).emit (.hostMem hp at_ (r.take 63))).emit (.hostMem hp (at_ + 252) (r.drop 63))
      .next (s2.mapHost hp fun x => { x with dumpSeq := x.dumpSeq + 1 })
    else .next ((s1.mapHost hp fun x => { x with dumpInterval := 0, dumpErr := true }).raise Flt.dumpDma hp.val)

end Sys2Proof.Machine
end

