-- ==== Sys2Proof/Machine/System.lean ====
section
/-! DEFINITION. Resets, straps and boot, INIT, the watchdog, and the faults of the system source (R16 to R20, R29, R31, R46, R178, R495, R506, R516 to R528, R541, R542). -/

namespace Sys2Proof.Machine

/-! ### Resets (R507, R516 to R519) -/

/-- Every block returns to its reset values. What outlasts a reset is kept: the pins, MRAM, the flash, and through a warm reset the trouble log; also the model's own queue, outputs and counter. -/
def State.toReset (s : State) (cause port : Nat) : State :=
  { State.reset with
    pending := s.pending, freeCtr := s.freeCtr, emits := s.emits, mram := s.mram,
    flash := { areaA := s.flash.areaA, areaB := s.flash.areaB },
    log := if cause = 0 then {} else { s.log with boot := s.log.boot + 1 },
    sys := { resetN := s.sys.resetN, por := s.sys.por, resetCause := cause, resetPort := port, straps := s.sys.straps },
    tdc := Vector.ofFn fun i => { State.reset.tdc[i] with level := s.tdc[i].level },
    hosts := s.hosts.map fun h => { perst := h.perst } }

/-- The engine enters RESET (R29, R46, R516): the state change is logged while the log still runs, and a time scale that runs is checkpointed. -/
def State.enterReset (s : State) (cause port : Nat) : State :=
  let a0 : Word := BitVec.ofNat 32 s.sys.engine.code
  let s1 := if s.sys.engine = .reset then s else ({ s with sys.engine := .reset } : State).logAt 2 0 a0 0 s.sys.cyc
  (if s.afterBoot then s1.checkpoint else s1).toReset cause port

/-! ### Boot candidates (R525, R528) -/

/-- Names of the values of BOOT FAIL (R528). -/
def bootFailName (code : Nat) : String :=
  match code with
  | 1 => "XIN_CODE" | 2 => "RPLL_LOCK" | 3 => "XIN_MISMATCH" | 4 => "NO_IMAGE" | 5 => "BOOTSEL" | _ => "HOLD"

/-- The engine stays in BOOT with a reason (R525, R528). -/
def State.bootFail (s : State) (code : Nat) : State :=
  ({ s with sys.stage := .failed code } : State).bootPrint ("BOOT FAIL " ++ decText code ++ " " ++ bootFailName code)

/-- The ROM reads a candidate: its header before the RPLL has locked, the whole image after. -/
def State.tryArea (s : State) (ar : Area) : State :=
  { s with sys.stage := if s.sys.rpllLocked then (.reading ar) else (.waitLock ar) }

/-- ACTIVE_AREA, or GOLDEN where none is set. -/
def State.tryActive (s : State) : State := ({ s with sys.trialRun := false } : State).tryArea (s.mram.activeArea.getD .golden)

/-- The first candidate under BOOTSEL 0; a trial that has been tried is given up (R525). -/
def State.firstCandidate (s : State) : State :=
  match s.mram.trialArea, s.mram.tried with
  | some ar, false => ({ s with mram.tried := true, sys.trialRun := true } : State).tryArea ar
  | some _, true => ({ s with mram.trialArea := none } : State).tryActive
  | none, _ => s.tryActive

/-- The candidate after a rejected one, or BOOT FAIL 4 (R525). -/
def State.nextCandidate (s : State) (ar : Area) : State :=
  if s.sys.trialRun then s.tryActive
  else if ar = .golden then s.bootFail 4
  else s.tryArea .golden

/-- CYC[31:0] of the newest log entry. -/
def TroubleLog.lastCyc (l : TroubleLog) : Word :=
  match l.entries with
  | [] => 0
  | e :: _ => e.2.getD 6 0

/-- RESET_RELEASE: the straps are sampled, the RESET entry is written, and BOOT begins (R423, R507, R516, R520, R525). -/
def State.release (s : State) (straps : Straps) : State :=
  let s1 : State := { s with sys.straps := straps, sys.owner := straps.ownerSel }
  let a0 : Word := BitVec.ofNat 32 (s.sys.resetCause + s.sys.resetPort * 2 ^ 8)
  let s2 := ((s1.logAt 7 0 a0 s.log.lastCyc 0).print "QTE-9600 ROM 1").setEngine .boot
  match straps.bootsel with
  | 0 => s2.firstCandidate
  | 1 => s2.tryArea .golden
  | 2 => s2.bootFail 6
  | 3 => s2.bootFail 5

/-- Release, if neither RESET_N nor the power-on detector holds the engine (R517). -/
def State.tryRelease (s : State) (straps : Straps) : State :=
  if s.sys.engine = .reset && s.sys.resetN && !s.sys.por then s.release straps else s

/-- A reset from inside: RESET_N is high, so release follows at once, with the straps as they were last sampled. -/
def State.innerReset (s : State) (cause port : Nat) : State := (s.enterReset cause port).tryRelease s.sys.straps

/-- POWER_ON_DETECT (R516, R541). -/
def execPowerOnDetect (s : State) : Out := .next { s.enterReset 0 0 with sys.por := true }

/-- POWER_ON_DETECT_RELEASE (R517, R541). -/
def execPowerOnDetectRelease (straps : Straps) (s : State) : Out := .next (({ s with sys.por := false } : State).tryRelease straps)

/-- RESET_N_LOW (R517): a pulse shorter than 1 µs is ignored; a held RESET keeps its cause. -/
def execResetNLow (lowNs : Nat) (s : State) : Out :=
  if lowNs < 1000 then .next s
  else if s.sys.engine = .reset then .next { s with sys.resetN := false }
  else .next { s.enterReset 1 0 with sys.resetN := false }

/-- RESET_N_HIGH (R517). -/
def execResetNHigh (straps : Straps) (s : State) : Out := .next (({ s with sys.resetN := true } : State).tryRelease straps)

/-- WATCHDOG_EXPIRY (R516): the watchdog runs from the start of Clardasum (R526). -/
def execWatchdogExpiry (s : State) : Out := if s.afterBoot then .next (s.innerReset 4 0) else .next s

/-- WARM_RESET_START (R464): due 10 ms after the RESET command's completion. -/
def execWarmResetStart (s : State) : Out :=
  match s.sys.resetDue with
  | some c => if s.sys.cyc < c then .next s else .next (s.innerReset 2 s.sys.resetPort)
  | none => .next s

/-! ### The ROM (R17, R18, R523, R525, R527) -/

/-- RPLL_LOCK (R17, R18): every domain moves to RCLK, and CYC is 0. -/
def execRpllLock (cclkBefore : Nat) (s : State) : Out :=
  match s.sys.engine, s.sys.stage with
  | .boot, .waitLock ar =>
    .next { s with sys.rpllLocked := true, sys.cyc := 0, sys.cclkBefore := cclkBefore, sys.stage := .reading ar }
  | _, _ => .next s

/-- RPLL_LOCK_TIMEOUT (R17, R528). -/
def execRpllLockTimeout (s : State) : Out :=
  match s.sys.engine, s.sys.stage with
  | .boot, .waitLock _ => .next (s.bootFail 2)
  | _, _ => .next s

/-- Areas as the RESET entry numbers them (R516). -/
def areaCode : Area → Nat
  | .golden => 0 | .a => 1 | .b => 2

/-- Areas by name (R527, R534). -/
def areaName : Area → String
  | .golden => "GOLDEN" | .a => "A" | .b => "B"

/-- The reason words of R528. -/
def reasonName : RejectReason → String
  | .flash => "FLASH" | .magic => "MAGIC" | .length => "LENGTH" | .vendorSig => "VENDOR_SIG"
  | .customerKey => "CUSTOMER_KEY" | .customerSig => "CUSTOMER_SIG"

/-- The XIN frequency in MHz that a code names (R522). -/
def xinText (code : Nat) : String :=
  match code with
  | 0 => "10" | 1 => "12.5" | 2 => "20" | 3 => "25" | 4 => "50" | _ => "100"

/-- Whether a header's MAGIC or HDR_VERSION is not that of R522. -/
def hdrForeign (h : ImageHdr) : Bool := h.magic != 0x51494D47 || h.hdrVersion != 1

/-- Whether IMAGE_LEN is not as R522 gives it, or the Squall section leaves the body (R523). -/
def hdrMisfits (h : ImageHdr) : Bool :=
  h.imageLen % 4 != 0 || decide (8388096 < h.imageLen) || decide (h.imageLen < h.squallOfs + h.squallLen)

/-- Why a candidate is rejected: what the ROM found, the header, and the enrolled key (R522, R523). -/
def State.rejects (s : State) (ar : Area) (hdr : ImageHdr) (found : Option RejectReason) : Option RejectReason :=
  if found = some .flash then found
  else if found = some .magic || hdrForeign hdr then some .magic
  else if found = some .length || hdrMisfits hdr then some .length
  else if found = some .vendorSig then found
  else if ar = .golden then none
  else
    match s.mram.custKey with
    | none => none
    | some k => if !hdr.customerSigned || hdr.custKeyHash != k then some .customerKey else found

/-- The area booted goes into the RESET entry of this reset (R516). -/
def TroubleLog.bootArea (l : TroubleLog) (ar : Area) : TroubleLog :=
  let mark := fun (w : List Word) => w.set 1 (w.getD 1 0 ||| BitVec.ofNat 32 ((areaCode ar) * 2 ^ 12))
  match l.entries.findIdx? fun e => (e.2.getD 0 0).toNat % 16 == 7 with
  | some i => { l with entries := l.entries.modify i fun e => (e.1, mark e.2) }
  | none => l

/-- A rejected candidate: its line, and the next one (R525, R528). -/
def State.rejected (s : State) (ar : Area) (r : RejectReason) : State :=
  (s.bootPrint ("BOOT REJECT " ++ areaName ar ++ " " ++ reasonName r)).nextCandidate ar

/-- The checkpoint that INIT restores: the valid record with the highest sequence number, of the 64 places of the ring (R177, R178). -/
def Mram.checkpoint (m : Mram) : Option Checkpoint := (m.ring.find? fun e => m.nextSeq ≤ e.1 + 64 && e.2.crcGood).map Prod.snd

/-- OFFSET with which the time scale reads `t` now under a RATE (R31). -/
def State.offsetFor (s : State) (t rate : Int) : Int := t * 2 ^ 32 - (s.sys.cyc : Int) * (2 ^ 56 + rate) / 160

/-- A model restored from MRAM (R175, R178). -/
def State.restoreModel (s : State) (c : Checkpoint) (f : Fin 3) : State :=
  let s1 := s.mapFw f fun w => { w with seed := c.seeds.getD f.val {} }
  match c.models.getD f.val none with
  | some m => (s1.mapFw f fun w => { w with model := some m, restored := true, restoredRun := 0 }).noteStale f
  | none => s1

/-- The time scale from the checkpointed time on, with RATE 0 as yet (R31, R46). -/
def State.startTime (s : State) (t : Int) : State := { s with ts.sets := [⟨s.offsetFor t 0, 0, s.sys.cyc⟩] }

/-- The checkpoint is restored as INIT begins: time, models, sensor offsets (R31, R46, R178). -/
def State.restoreCheckpoint (s : State) : State :=
  match s.mram.checkpoint with
  | none => { s.startTime 0 with fc.restoreNone := true }
  | some c =>
    let s1 := (s.startTime c.time).each (List.finRange 3) fun t f => t.restoreModel c f
    { s1 with fc.sensors := Vector.ofFn fun i => { s1.fc.sensors[i] with offset := c.offsets.getD i.val 0 } }

/-- RATE from the prediction for the station oscillator is asked for, as every change of RATE is (R31, R39, R42); no checkpoint raises MODEL_RESTORE_FAIL (R178). -/
def State.restoreRate (s : State) : State :=
  let s1 := if s.fc.restoreNone then s.raise Flt.modelRestoreFail 0 else s
  if s1.fc.fw[0].model.isSome then s1.requestRate (looseRound (s1.rateOf 0 * 2 ^ 56)) none else s1

/-- Clardasum starts from a valid image, and INIT begins (R29, R31, R413, R417, R526). -/
def State.enterInit (s : State) (ar : Area) (hdr : ImageHdr) : State :=
  let s1 : State := { s with sys.stage := .running ar, sys.running := some ar, sys.hdr := some hdr, log := s.log.bootArea ar,
                             gnss.modeStart := s.sys.cyc }
  let s0 := (s1.bootPrint ("BOOT AREA " ++ areaName ar ++ " OK VERSION " ++ wordText hdr.version)).restoreCheckpoint.setEngine .init
  let s2 := s0.useFlywheel s0.chooseFlywheel
  if s2.sys.straps.twinEn then
    ({ s2 with twin.role := .discovering, twin.roleSince := s2.sys.cyc } : State).followNoKey
  else s2

/-- A candidate whose header could be read, after the lock (R17, R525). -/
def State.readImage (s : State) (ar : Area) (hdr : ImageHdr) (found : Option RejectReason) : State :=
  let known := s.sys.xinCode.getD hdr.xinCode
  let s1 : State := { s with sys.xinCode := some known }
  let s2 := if s.sys.xinCode.isNone && known ≤ 5 then s1.bootPrint ("BOOT XIN " ++ xinText known ++ " MHZ") else s1
  if 5 < known then s2.bootFail 1
  else if hdr.xinCode ≠ known then s2.bootFail 3
  else
    match s2.rejects ar hdr found with
    | some r => s2.rejected ar r
    | none => s2.enterInit ar hdr

/-- BOOT_IMAGE_READ_DONE (R17, R525, R528). Before the lock only the header has been read: a header that cannot be read is rejected, and an XIN frequency that is not supported ends the boot. -/
def execBootImageReadDone (hdr : ImageHdr) (reject : Option RejectReason) (s : State) : Out :=
  let unread := reject = some .flash || reject = some .magic || hdrForeign hdr
  let why : RejectReason := if reject = some .flash then .flash else .magic
  match s.sys.engine, s.sys.stage with
  | .boot, .waitLock ar =>
    if unread then .next (s.rejected ar why)
    else if 5 < hdr.xinCode then .next (s.bootFail 1)
    else .next s
  | .boot, .reading ar =>
    if unread then .next (s.rejected ar why) else .next (s.readImage ar hdr reject)
  | _, _ => .next s

/-! ### INIT (R29, R31, R46, R79, R103, R178, R198, R518, R524, R526) -/

/-- Position and twin asymmetry from MRAM (R249, R401). -/
def State.restoreRest (s : State) : State :=
  let s1 : State := match s.mram.position with
    | some p => { s with gnss.cfg := (((s.gnss.cfg.set Ix.rxPosX p.1).set Ix.rxPosY p.2.1).set Ix.rxPosZ p.2.2.1).set Ix.rxPosUnc p.2.2.2 }
    | none => s
  match s1.mram.asym with
  | some a => { s1 with twin.cfg := (s1.twin.cfg.set Ix.twinAsym a.1).set Ix.twinAsymUnc a.2 }
  | none => s1

/-- The calibration of both lines of a channel during INIT (R103, R104). -/
def State.initChannel (s : State) (cal : CalResult) (failed : List (Fin 88)) (ch : Fin 88) : State :=
  let s1 := s.mapTdc ch fun c => { c with swapDue := s.sys.cyc + secCyc }
  let s2 := if calAccepted cal && !failed.contains ch then
      s1.mapTdc ch fun c => (c.accept false cal.sigma s.sys.cyc).accept true cal.sigma s.sys.cyc
    else (s1.raise Flt.tdcCalFail ch.val).raise Flt.tdcCalFail (ch.val + 256)
  s2.followCal ch

/-- The boot record and the customer key on entry to WARMUP (R524, R526). -/
def State.bootRecord (s : State) : State :=
  let s1 : State := match s.sys.hdr with
    | some h => if h.enroll && h.customerSigned && s.mram.custKey.isNone then { s with mram.custKey := some h.custKeyHash } else s
    | none => s
  let s2 : State := match s1.sys.running with
    | some ar => if s1.mram.trialArea = some ar then { s1 with mram.activeArea := some ar, mram.trialArea := none } else s1
    | none => s1
  if s2.sys.running = some .golden then ({ s2 with sys.fallback := true } : State).condition Flt.fwFallback 0 else s2

/-- The generator is seeded and its tests pass, and the hash keys are drawn (R344, R359). -/
def State.initGenerator (s : State) : State :=
  ({ s with auth.drbgOk := true, auth.drbgSeed := s.draw, auth.hashKey := s.drawn.draw, auth.reseedAt := s.sys.cyc } : State).drawn.drawn

/-- A safe state that was due before WARMUP takes effect in its first cycle (R499). -/
def State.safeNow (s : State) : State :=
  if s.sys.safePending then
    ({ s with sys.safePending := false, flt.safeByFault := !s.flt.safeBy.isEmpty } : State).enterSafe
  else s

/-- The intervals that run from the end of INIT (R169, R171, R177). -/
def State.startIntervals (s : State) : State :=
  { s with fc.obsDue := s.sys.cyc + 16 * secCyc, fc.checkpointDue := s.sys.cyc + 16 * secCyc,
           fc.hourDue := s.sys.cyc + 3600 * secCyc, fc.dayDue := s.sys.cyc + 86400 * secCyc, outs.startupMute := false }

/-- INIT_COMPLETE (R29): everything is restored and calibrated, and the engine enters WARMUP. -/
def execInitComplete (cal : CalResult) (failed : List (Fin 88)) (s : State) : Out :=
  if s.sys.engine ≠ .init then .next s
  else
    let s1 := (s.each (List.finRange 88) fun t ch => t.initChannel cal failed ch).restoreRate.restoreRest.initGenerator
    let s2 := (s1.useFlywheel s1.chooseFlywheel).startIntervals.retuneAll
    .next ((s2.moveEngine .warmup).bootRecord.startTogether.safeNow)

/-! ### Faults of the system source (R20, R25, R495, R506, R542) -/

/-- RPLL_LOSS_OF_LOCK (R20). -/
def execRpllLossOfLock (s : State) : Out :=
  if s.sys.rpllLocked then .next (s.condition Flt.rpllUnlock 0) else .next s

/-- LOCKSTEP_MISMATCH (R25). -/
def execLockstepMismatch (s : State) : Out :=
  if s.sys.engine = .reset then .next s else .next (s.condition Flt.lockstep 0)

/-- VDD_DROOP_DETECT (R495, R542): at most once per detector per 1 ms. -/
def execVddDroopDetect (det : Fin 16) (depthMv : Nat) (s : State) : Out :=
  if s.sys.engine = .reset || !s.spaced s.sys.droopLast[det] msCyc then .next s
  else
    .next (({ s with sys.droopLast := s.sys.droopLast.set det (some s.sys.cyc) } : State).raise Flt.vddDroop
      (det.val + min 255 depthMv * 256))

/-- A record at the read index is lost. -/
def Queue.loseOldest (q : Queue) : Queue :=
  if q.wr = q.rd then q else { q with rd := q.rd + 1, overflow := true, lost := q.lost + 1 }

/-- What a failing word held is lost as its chapter describes for a loss; a configuration word is rewritten, and what a lost log entry then reads as is free (R495). -/
def State.discardHeld (s : State) : EccWord → State
  | .configuration => s
  | .stampFifo ch =>
    match s.tdc[ch].fifo with
    | [] => s
    | _ :: l => (s.mapTdc ch fun c => { c with fifo := l, lost := c.lost + 1, fifoLostFlag := true }).counterChanged ch 3
  | .eventRecord hp =>
    if s.hosts[hp].evq.wr = s.hosts[hp].evq.rd then s
    else ((s.mapHost hp fun h => { h with evq := h.evq.loseOldest }).hwEvent hp 1).evqLostFault hp
  | .gridRecord hp => (s.mapHost hp fun h => { h with gq := h.gq.loseOldest }).hwEvent hp 3
  | .prpEntry pair index => s.mapPair pair fun y => { y with entries := y.entries.eraseIdx index }
  | .grant index => { s with svc.grants := s.svc.grants.eraseIdx index }
  | .receiveFrame port => (s.mapPort port fun x => { x with rxBuf := x.rxBuf.drop 1 }).portCount port 20 1
  | .logEntry index =>
    let gone : List Word := (List.range 8).map fun i => BitVec.ofNat 32 (Config.free (s.freeCtr + i))
    { s with freeCtr := s.freeCtr + 8, log.entries := s.log.entries.map fun e => if e.1 = index then (e.1, gone) else e }

/-- SRAM_ECC_ERROR (R495). -/
def execSramEccError (memory : Nat) (uncorrectable : Bool) (held : EccWord) (s : State) : Out :=
  if s.sys.engine = .reset then .next s
  else if uncorrectable then .next ((s.discardHeld held).raise Flt.sramEccUncorr memory)
  else if s.spaced ((s.sys.eccLast.find? (·.1 == memory)).map Prod.snd) secCyc then
    .next (({ s with sys.eccLast := (memory, s.sys.cyc) :: s.sys.eccLast.filter (·.1 != memory) } : State).raise Flt.sramEccCorr memory)
  else .next s

/-- COLLECTOR_SELF_FAULT (R506): SAFE at once, then the message by its normal path. -/
def execCollectorSelfFault (word : Nat) (s : State) : Out :=
  if s.sys.engine = .reset then .next s
  else .next ((({ s with flt.selfFault := true, sys.resetOnly := true } : State).enterSafe).condition Flt.collectorParity word)

/-! ### Pins whose driver follows the engine's state (R33, R520, R538) -/

/-- Whether FE_SCLK and FE_REF run; until INIT they are driven low. -/
def State.feClocksRun (s : State) : Bool := s.afterBoot
/-- Whether an Ethernet port's transmitters are driven; else they are in electrical idle. -/
def State.portLanesOn (s : State) (p : Fin 8) : Bool := s.afterBoot && s.ports[p].cfg.flag Ix.portEnable
/-- Whether the Balandou link's transmitter is driven. -/
def State.twinLaneOn (s : State) : Bool := s.afterBoot && s.sys.straps.twinEn
/-- Whether a converter port's pins are driven; else they are high impedance. -/
def State.cpPinsOn (s : State) (cp : Fin 8) : Bool := s.afterBoot && s.cps[cp].cfg.flag Ix.cpEnable
/-- Whether BOOT_SPI is driven: never in RESET, and not under BOOTSEL 2. -/
def State.bootSpiOn (s : State) : Bool := s.sys.engine != .reset && s.sys.straps.bootsel != 2

/-- One SCLK cycle with no command: CYC counts once the RPLL has locked (R17, R18). -/
def State.tick (s : State) : State := if s.sys.rpllLocked then { s with sys.cyc := s.sys.cyc + 1 } else s

end Sys2Proof.Machine
end

