-- ==== Sys2Proof/Machine/Omend.lean ====
section
/-! DEFINITION. How a command runs: the command word at the head of the queue, the checks in their order, replies, handles, and the parcel encoding of configuration commands (R440 to R443, R455 to R463). -/

namespace Sys2Proof.Machine

/-! ### The command at the head of the queue (R429, R440, R455, R456) -/

/-- A command word with the port and mailbox that carried it, and its parcel. -/
structure Cmd where
  op : Nat
  len : Nat
  ofs : Nat
  hp : Fin 4
  mb : Fin 8
  w : List Word
  deriving DecidableEq, Repr

/-- The command that a mailbox holds (R440). -/
def State.cmdIn (s : State) (hp : Fin 4) (mb : Fin 8) : Cmd :=
  let v := s.hosts[hp].imb[mb].toNat
  let ofs := bitsOf v 15 0
  let len := bitsOf v 23 16
  ⟨bitsOf v 31 24, len, ofs, hp, mb, (List.range len).map fun i => s.parcelWord hp (ofs + i)⟩

/-- The mailbox's command, if it is the next to be processed: INIT is complete, it is first in the queue, and no FW_WRITE is still to complete (R455, R456). -/
def State.cmdAt (s : State) (hp : Fin 4) (mb : Fin 8) : Option Cmd :=
  match s.cmds with
  | [] => none
  | c :: _ => if c.2 = (hp, mb) && s.afterInit && s.flash.writing.isNone then some (s.cmdIn hp mb) else none

/-- Parcel word `i`. -/
def Cmd.word (c : Cmd) (i : Nat) : Nat := (c.w.getD i 0).toNat
/-- Parcel words `i` and `i + 1` as one value, low word first (R461). -/
def Cmd.wide (c : Cmd) (i : Nat) : Nat := c.word i + c.word (i + 1) * 2 ^ 32
/-- Parcel word `i`, signed. -/
def Cmd.signed (c : Cmd) (i : Nat) : Int := signedOf 32 (c.word i)
/-- Two parcel words, signed. -/
def Cmd.wideSigned (c : Cmd) (i : Nat) : Int := signedOf 64 (c.wide i)
/-- The object index (R460). -/
def Cmd.obj (c : Cmd) : Nat := c.word 0
/-- The presence mask (R460). -/
def Cmd.mask (c : Cmd) : Nat := c.wide 1
/-- Whether row `j` is present (R460). -/
def Cmd.has (c : Cmd) (j : Nat) : Bool := bitAt c.mask j

/-- The opcodes of R464. -/
def opcodes : List Nat :=
  [0x00, 0x01, 0x02, 0x03, 0x04, 0x05, 0x10, 0x11, 0x12, 0x13, 0x14, 0x15, 0x20, 0x21, 0x22, 0x23, 0x24,
   0x30, 0x31, 0x32, 0x33, 0x40, 0x41, 0x42, 0x50, 0x51, 0x52, 0x53, 0x54, 0x55, 0x60, 0x61, 0x62, 0x63, 0x64] ++
  [0x70, 0x71, 0x72, 0x73, 0x74, 0x80, 0x81, 0x82, 0x83, 0x84, 0x90, 0x91, 0x92, 0x93, 0x94, 0x95, 0x96,
   0xA0, 0xA1, 0xA2, 0xA3, 0xA4, 0xA5, 0xB0, 0xB1]

/-! ### What a command's checks answer (R456 to R458) -/

/-- What a command comes to once its form, its rights and its handle slot have passed. -/
inductive Verdict where
  /-- Rejected with a status, and the row or parcel word that 0x006 and 0x007 name. -/
  | reject (s : State) (status : Nat) (at_ : Option Nat)
  /-- An immediate command is complete, with its result words. -/
  | done (s : State) (ws : List Word)
  /-- A handled command is accepted; `go` is its work, given its number. -/
  | accept (s : State) (group : Option (Fin 8)) (target : Nat) (data : List Int) (obj : Nat) (cfg : Cfg) (go : Nat → State → State)
  /-- An immediate command whose completion is to come before any other command is taken. -/
  | later (s : State)

/-- What a command's entry in R464 says: opcode, whether it is handled, whether a follower rejects it (R459), the largest number of result words, the check of LEN, presence bits and data regions, the rights, the parcel words from `wipe` on that are zeroed, and the rest. -/
structure CmdForm where
  op : Nat
  handled : Bool
  follower : Bool
  results : Nat
  shape : State → Cmd → Bool
  rights : State → Cmd → Bool
  wipe : Option Nat
  body : State → Cmd → Verdict

/-- A rejection (R441, R458): 0x006 and 0x007 name a row or word. -/
def State.rejectCmd (s : State) (c : Cmd) (status : Nat) (at_ : Option Nat) : State :=
  let s1 := match at_ with
    | some r => s.writeResult c.hp c.ofs [loWord r]
    | none => s
  s1.reply c.hp c.mb (replyWord 2 status 0)

/-- An immediate command's completion (R441, R442). -/
def State.finishCmd (s : State) (c : Cmd) (ws : List Word) : State :=
  (s.writeResult c.hp c.ofs ws).reply c.hp c.mb (replyWord 3 0 0)

/-- The lowest free handle slot of a port (R443). -/
def State.freeSlot (s : State) (hp : Fin 4) : Option (Fin 256) :=
  (List.finRange 256).find? fun i => !s.hosts[hp].slotBusy.contains i.val

/-- A handle slot's next sequence number: 1 to 255, then 1 (R443). -/
def nextSeq (n : Nat) : Nat := n % 255 + 1

/-- A handled command is accepted: it takes the lowest free slot, and the acceptance is sent (R441, R443). -/
def State.acceptCmd (s : State) (c : Cmd) (slot : Fin 256) (group : Option (Fin 8)) (target : Nat) (data : List Int) (obj : Nat) (cfg : Cfg) : State :=
  let s1 := s.mapHost c.hp fun h =>
    { h with slotBusy := slot.val :: h.slotBusy, slotSeq := h.slotSeq.set slot (nextSeq h.slotSeq[slot]) }
  let s2 : State := { s1 with
    handled := s1.handled ++ [⟨s1.nextHandled, c.op, c.hp, c.mb, slot.val, c.ofs, group, target, data, false, false, obj, cfg⟩],
    nextHandled := s1.nextHandled + 1 }
  s2.reply c.hp c.mb (replyWord 1 0 (s2.handleOf c.hp slot.val))

/-- Whether the parcel and the largest result stay below the notice ring (R440). -/
def Cmd.fits (c : Cmd) (results : Nat) : Bool := c.ofs + c.len ≤ 15360 && c.ofs + max 2 (1 + results) ≤ 15360

/-- Whether a data region of `n` bytes at word `at_` is within R462. -/
def regionFits (at_ n : Nat) : Bool := n ≤ 61440 && at_ + (n + 3) / 4 ≤ 15360

/-- The parcel words from `i` on are zeroed, as far as the parcel lies below the notice ring (R336, R464). -/
def State.wipeParcel (s : State) (c : Cmd) (i : Nat) : State :=
  s.parcelWrite c.hp (c.ofs + i) (List.replicate (min (c.len - i) (15360 - (c.ofs + i))) 0)

/-- How a command ends: its rejection, its completion, or its acceptance into a handle slot and the work that follows (R441, R456). -/
def Verdict.conclude (c : Cmd) (slot : Fin 256) : Verdict → State
  | .reject t status at_ => t.rejectCmd c status at_
  | .done t ws => t.finishCmd c ws
  | .later t => t
  | .accept t group target data obj cfg go => go t.nextHandled (t.acceptCmd c slot group target data obj cfg)

/-- The checks of R457 in their order, then the reply. -/
def State.runCmd (s : State) (c : Cmd) (f : CmdForm) : State :=
  let s0 := match f.wipe with
    | some i => s.wipeParcel c i
    | none => s
  if !(c.fits f.results && f.shape s c) then s0.rejectCmd c 2 none
  else if !f.rights s c then s0.rejectCmd c 3 none
  else if f.follower && s.follower then s0.rejectCmd c 9 none
  else
    match f.handled, s0.freeSlot c.hp with
    | true, none => s0.rejectCmd c 4 none
    | _, slot => Verdict.conclude c (slot.getD 0) (f.body s0 c)

/-- One command is taken from its mailbox and processed (R455 to R457). A word with another command's opcode is not this row's; one with an unknown opcode is rejected. -/
def State.omend (s : State) (hp : Fin 4) (mb : Fin 8) (f : CmdForm) : Out :=
  match s.cmdAt hp mb with
  | none => .next s
  | some c =>
    if c.op = f.op then .next ((s.takeImb hp mb).runCmd c f)
    else if opcodes.contains c.op then .next s
    else .next ((s.takeImb hp mb).rejectCmd c 1 none)

/-! ### Configuration parcels (R458, R460, R461) -/

/-- Words as one value, low word first. -/
def wordsNat (ws : List Word) : Nat := ws.foldr (fun v n => v.toNat + 2 ^ 32 * n) 0

/-- The value that a parameter's words carry (R461). Octets come in network order; a padding octet that is not 0 puts the value out of range. -/
def Param.decode (p : Param) (ws : List Word) : Int :=
  let n := wordsNat ws
  if p.octets != 0 then
    let bytes := ws.flatMap wordBytes
    let v : Nat := (bytes.take p.octets).foldl (fun (n : Nat) (b : Byte) => n * 256 + b.toNat) 0
    let pad : Nat := if (bytes.drop p.octets).all (· == 0) then 0 else 2 ^ (8 * p.octets)
    ((v + pad : Nat) : Int)
  else if p.signed then signedOf (32 * p.words) n
  else (n : Int)

/-- Whether a value is in its parameter's range (R461). -/
def Param.inRange (p : Param) (v : Int) : Bool :=
  (p.lo ≤ v && v ≤ p.hi) || (p.orNone && v == ((2 ^ (32 * p.words) : Nat) : Int) - 1)

/-- The words of a row (R461). -/
def rowWords (r : Row) : Nat := (r.map Param.words).sum

/-- A row's values from its words. -/
def decodeRow : Row → List Word → Cfg
  | [], _ => []
  | p :: r, ws => p.decode (ws.take p.words) :: decodeRow r (ws.drop p.words)

/-- The settings after a command: present rows from the parcel, absent ones as they were (R460). -/
def decodeRows (mask : Nat) : ParamTable → Nat → Cfg → List Word → Cfg
  | [], _, _, _ => []
  | r :: t, j, cur, ws =>
    if bitAt mask j then decodeRow r (ws.take (rowWords r)) ++ decodeRows mask t (j + 1) (cur.drop r.length) (ws.drop (rowWords r))
    else cur.take r.length ++ decodeRows mask t (j + 1) (cur.drop r.length) ws

/-- The words that the present rows need (R460). -/
def presentWords (mask : Nat) : ParamTable → Nat → Nat
  | [], _ => 0
  | r :: t, j => (if bitAt mask j then rowWords r else 0) + presentWords mask t (j + 1)

/-- LEN and presence bits of a configuration command (R460). -/
def Cmd.rowsFit (c : Cmd) (t : ParamTable) : Bool :=
  3 ≤ c.len && c.mask < 2 ^ t.length && c.len == 3 + presentWords c.mask t 0

/-- The settings that a configuration command asks for. -/
def Cmd.settings (c : Cmd) (t : ParamTable) (cur : Cfg) : Cfg := decodeRows c.mask t 0 cur (c.w.drop 3)

/-- The rows that the command carries with a value out of its parameter's range. -/
def badRows (mask : Nat) : ParamTable → Nat → Cfg → List Nat
  | [], _, _ => []
  | r :: t, j, v =>
    (if bitAt mask j && !((r.zip v).all fun pv => pv.1.inRange pv.2) then [j] else []) ++ badRows mask t (j + 1) (v.drop r.length)

/-- The lowest of some rows. -/
def lowest (l : List Nat) : Option Nat := l.foldl (fun m x => match m with
  | none => some x
  | some y => some (min x y)) none

/-- The row that a broken joint rule is reported on (R458): the row of the value that the rule is about, or, where a rule is about several, the first of them that the command carries. -/
def Cmd.blame (c : Cmd) (rows : List Nat) : Nat := (rows.find? fun j => c.has j).getD (rows.headD 0)

/-- Checks 7 to 9 of a configuration command, then `go` on the new settings. `dyn` lists rows whose range names another parameter and whether it is broken (R458); `joint` lists the joint rules that are broken, each with the rows it joins; `busy` says that the state forbids the command. -/
def Cmd.configure (c : Cmd) (s : State) (t : ParamTable) (cur : Cfg) (dyn : Cfg → List (Nat × Bool))
    (joint : Cfg → List (Bool × List Nat)) (busy : Cfg → Bool) (go : Cfg → Verdict) : Verdict :=
  let new := c.settings t cur
  let bad := badRows c.mask t 0 new ++ ((dyn new).filter fun x => x.2).map Prod.fst
  match lowest bad with
  | some j => .reject s 6 (some j)
  | none =>
    match lowest (((joint new).filter fun x => x.1).map fun x => c.blame x.2) with
    | some j => .reject s 7 (some j)
    | none => if busy new then .reject s 8 none else go new

/-- The latest accepted settings of an object: those of the newest command that still waits for its strobe, else the staged ones (R456, R458). -/
def State.latest (s : State) (op obj : Nat) (staged : Cfg) : Cfg :=
  match (s.handled.filter fun h => h.op == op && h.obj == obj && !h.strobed).getLast? with
  | some h => h.cfg
  | none => staged

/-- A command that stages into group `g` is accepted: its settings are staged when its strobe is issued (R456). -/
def stageVerdict (s : State) (g : Fin 8) (target obj : Nat) (cfg : Cfg) : Verdict :=
  .accept s (some g) target [0, 0, 0, 0] obj cfg fun _ t => t.settle g

/-! ### Common forms -/

/-- A fixed LEN. -/
def lenIs (n : Nat) (c : Cmd) : Bool := c.len == n

/-- The rights of a grant (R424). -/
def needs (r : Right) (s : State) (c : Cmd) : Bool := s.may c.hp r

/-- OWNER rights only (R464). -/
def needsOwner (s : State) (c : Cmd) : Bool := s.sys.owner == c.hp

/-- No rights (R426). -/
def needsNone (_ : State) (_ : Cmd) : Bool := true

/-- An immediate command with a fixed LEN and a grant. -/
def plainForm (op len results : Nat) (rights : State → Cmd → Bool) (body : State → Cmd → Verdict) : CmdForm :=
  ⟨op, false, false, results, fun _ c => lenIs len c, rights, none, body⟩

/-- A refusal of the command's own, by its reason value, with the fault that an earlier chapter ties to it (R457). -/
def refuse (s : State) (reason : Nat) : Verdict := .reject s (0x100 + reason) none

end Sys2Proof.Machine
end

