-- ==== Sys2Proof/Machine/CmdSystem.lean ====
section
/-! DEFINITION. Omend commands of the system and the time scale: STATUS to BOUND_THRESHOLD (R39, R42, R45 to R55, R63, R425, R427, R464). -/

namespace Sys2Proof.Machine

/-! ### System (R464) -/

/-- The result of STATUS. -/
def State.statusWords (s : State) : List Word :=
  [loWord (s.sys.engine.code + s.twin.role.code * 2 ^ 4 + s.sys.owner.val * 2 ^ 8),
   (s.sys.hdr.map ImageHdr.version).getD 0, (s.sys.hdr.map ImageHdr.squallVersion).getD 0, loWord s.uptime]

/-- STATUS. -/
def statusForm : CmdForm := plainForm 0x00 0 4 needsNone fun s _ => .done s s.statusWords

/-- STATUS (R464). -/
def execStatus (hp : Fin 4) (mb : Fin 8) (s : State) : Out := s.omend hp mb statusForm

/-- RESET: the warm reset follows 10 ms later, and an ACTIVE twin releases its token first (R407, R516). -/
def resetForm : CmdForm := plainForm 0x01 0 0 (needs .reset) fun s c =>
  let s1 : State := { s with sys.resetDue := some (s.sys.resetDue.getD (s.sys.cyc + 10 * msCyc)),
                             sys.resetPort := if s.sys.resetDue.isSome then s.sys.resetPort else c.hp.val }
  .done s1.releaseToken []

/-- RESET (R464). -/
def execReset (hp : Fin 4) (mb : Fin 8) (s : State) : Out := s.omend hp mb resetForm

/-- The grants of a port are set, and the GRANTS notice is sent (R425). -/
def State.setGrants (s : State) (hp : Fin 4) (v : Nat) : State :=
  let s1 : State := { s with sys.grants := s.sys.grants.set hp v }
  s1.notice 10 (loWord hp.val) (loWord (s1.grantsOf hp))

/-- GRANT. -/
def grantForm : CmdForm := plainForm 0x02 2 0 needsOwner fun s c =>
  let v := c.word 1
  if 3 < c.word 0 then .reject s 5 none
  else if 0xFFFF < v then .reject s 6 (some 1)
  else
    let hp : Fin 4 := Fin.ofNat 4 (c.word 0)
    if hp = s.sys.owner then .done (s.setGrants hp (v / 2 ^ 15 * 2 ^ 15)) []
    else if bitAt v 15 then .reject s 7 (some 1)
    else .done (s.setGrants hp v) []

/-- GRANT (R425, R464). -/
def execGrant (hp : Fin 4) (mb : Fin 8) (s : State) : Out := s.omend hp mb grantForm

/-- The role of OWNER passes to a port (R427). -/
def State.newOwner (s : State) (hp : Fin 4) : State :=
  let old := s.sys.owner
  let s1 : State := { s with sys.owner := hp, sys.grants := (s.sys.grants.set old 0).set hp 0 }
  s1.notice 9 (loWord (hp.val + old.val * 16)) 0

/-- OWNER_HANDOVER. -/
def ownerHandoverForm : CmdForm := plainForm 0x03 1 0 needsOwner fun s c =>
  if 3 < c.word 0 then .reject s 5 none
  else if c.word 0 = c.hp.val then .reject s 7 (some 0)
  else .done (s.newOwner (Fin.ofNat 4 (c.word 0))) []

/-- OWNER_HANDOVER (R427, R464). -/
def execOwnerHandover (hp : Fin 4) (mb : Fin 8) (s : State) : Out := s.omend hp mb ownerHandoverForm

/-- The settings of an instance that its latest accepted command asks for. -/
def State.latestInst (s : State) (i : Fin 16) : Cfg := s.latest 0x63 i.val s.svc.inst[i].staged

/-- Whether settings are those of an enabled PTP instance (R310). -/
def ptpEnabled (c : Cfg) : Bool := c.flag Ix.instEnable && c.flag Ix.instService

/-- Whether a PTP instance is enabled, as applied or as accepted. -/
def State.anyPtp (s : State) : Bool :=
  (List.finRange 16).any fun i => ptpEnabled s.svc.inst[i].cfg || ptpEnabled (s.latestInst i)

/-- Two words as an address of 8 octets in network order (R461). -/
def Cmd.octets8 (c : Cmd) (i : Nat) : Nat := ((pOctets 8 2).decode [c.w.getD i 0, c.w.getD (i + 1) 0]).toNat

/-- CLOCK_ID. -/
def clockIdForm : CmdForm := { plainForm 0x04 2 0 needsOwner (fun s c =>
  if s.anyPtp then .reject s 8 none
  else .done (({ s with svc.clockId := c.octets8 0 } : State).repl (.clockId (c.octets8 0))) []) with follower := true }

/-- CLOCK_ID (R312, R464). -/
def execClockId (hp : Fin 4) (mb : Fin 8) (s : State) : Out := s.omend hp mb clockIdForm

/-- WARMUP_TIME: a warm-up that has run longer ends at once (R30). -/
def warmupTimeForm : CmdForm := plainForm 0x05 1 0 (needs .time) fun s c =>
  if 3600 < c.word 0 then .reject s 6 (some 0)
  else
    let s1 : State := { s with sys.warmupTime := c.word 0 }
    match execWarmupTimeExpiry s1 with
    | .next s2 => .done s2 []
    | _ => .done s1 []

/-- WARMUP_TIME (R30, R464). -/
def execWarmupTime (hp : Fin 4) (mb : Fin 8) (s : State) : Out := s.omend hp mb warmupTimeForm

/-! ### Time scale (R464) -/

/-- STEP: judged at receipt against the boundary 4 µs ahead (R45); 0 is out of range. -/
def stepForm : CmdForm := { plainForm 0x10 2 2 (needs .time) (fun s c =>
  let d := c.wideSigned 0
  if d = 0 then .reject s 6 (some 0)
  else if s.stepFits d (s.sys.cyc + leadCyc) then
    .accept s none 0 [] 0 [] fun id t => t.requestStep ⟨d, .host id⟩
  else .reject (s.raise Flt.stepRefused 0) 8 none) with handled := true }

/-- STEP (R42, R45, R464). -/
def execStep (hp : Fin 4) (mb : Fin 8) (s : State) : Out := s.omend hp mb stepForm

/-- RATE: only in WARMUP, within R39. -/
def rateForm : CmdForm := { plainForm 0x11 2 2 (needs .time) (fun s c =>
  let r := c.wideSigned 0
  if r < rateMin || rateMax < r then .reject s 6 (some 0)
  else if s.sys.engine = .warmup then .accept s none 0 [] 0 [] fun id t => t.requestRate r (some id)
  else .reject s 8 none) with handled := true }

/-- RATE (R39, R42, R464). -/
def execRate (hp : Fin 4) (mb : Fin 8) (s : State) : Out := s.omend hp mb rateForm

/-- UTC_OFFSET: not while a leap second is pending. -/
def utcOffsetForm : CmdForm := { plainForm 0x12 1 0 (needs .time) (fun s c =>
  let v := c.signed 0
  if v < -32768 || 32767 < v then .reject s 6 (some 0)
  else if s.ts.leapPending != 0 then .reject s 8 none
  else .done ((s.changeUtc fun t => { t with ts.utcOffset := v, ts.utcSet := true }).repl (.utcOffset v)) []) with follower := true }

/-- UTC_OFFSET (R47, R464). -/
def execUtcOffset (hp : Fin 4) (mb : Fin 8) (s : State) : Out := s.omend hp mb utcOffsetForm

/-- A leap command is refused, with LEAP_REFUSED (R49, R77). -/
def State.refuseLeap (s : State) (reason : Nat) : Verdict := refuse (s.raise Flt.leapRefused reason) reason

/-- A cancel (R49). -/
def State.leapCancel (s : State) : Verdict :=
  if s.ts.leapPending = 0 then .done s [0, 0]
  else if s.rampStarted then s.refuseLeap 2
  else .done (s.cancelLeap.repl (.leap 0 0)) [0, 0]

/-- Whether LEAP_AT lies 2 s to 366 days ahead (R49). -/
def State.leapInReach (s : State) (at_ : Int) : Bool :=
  2 * secFrac ≤ at_ * secFrac - s.now && at_ * secFrac - s.now ≤ 366 * 86400 * secFrac

/-- An insertion or a deletion (R48, R49). DESIGN CHOICE (log entry 15): where LEAP_AT is out of reach and a leap second is pending too, the DETAIL is 0, the first in the list of R77. -/
def State.leapSchedule (s : State) (deletion : Bool) (mjd : Nat) : Verdict :=
  let at_ := leapAtOf mjd s.ts.utcOffset deletion
  if !s.leapInReach at_ then s.refuseLeap 0
  else if s.ts.leapPending != 0 then s.refuseLeap 1
  else
    let p : Fin 3 := if deletion then 2 else 1
    .done ((s.scheduleLeap p at_.toNat).repl (.leap p.val at_.toNat)) [loWord at_.toNat, hiWord at_.toNat]

/-- LEAP. -/
def leapForm : CmdForm := { plainForm 0x13 2 2 (needs .time) (fun s c =>
  if 2 < c.word 0 then .reject s 6 (some 0)
  else if c.word 0 = 2 then s.leapCancel
  else s.leapSchedule (c.word 0 == 1) (c.word 1)) with follower := true }

/-- LEAP (R48, R49, R464). -/
def execLeap (hp : Fin 4) (mb : Fin 8) (s : State) : Out := s.omend hp mb leapForm

/-- SMEAR: not while the profile's ramp runs. -/
def smearForm : CmdForm :=
  { op := 0x14, handled := false, follower := true, results := 0, shape := fun _ c => c.rowsFit smearTable, rights := needs .time,
    wipe := none,
    body := fun s c =>
      if 3 < c.obj then .reject s 5 none
      else
        let p : Fin 4 := Fin.ofNat 4 c.obj
        c.configure s smearTable s.ts.smear[p].cfg (fun _ => []) (fun _ => []) (fun _ => s.ts.smear[p].running) fun v =>
          .done ((s.mapSmear p fun x => { x with cfg := v }).repl (.smear p (v.nat 0) (v.nat 1) (v.nat 2))) [] }

/-- SMEAR (R52, R464). -/
def execSmear (hp : Fin 4) (mb : Fin 8) (s : State) : Out := s.omend hp mb smearForm

/-- BOUND_THRESHOLD: the next recomputation compares against it (R63). -/
def boundThresholdForm : CmdForm := plainForm 0x15 2 0 (needs .time) fun s c =>
  if h : c.word 0 < 26 then .done { s with bound.threshold := s.bound.threshold.set (c.word 0) (c.word 1) } []
  else .reject s 5 none

/-- BOUND_THRESHOLD (R63, R464). -/
def execBoundThreshold (hp : Fin 4) (mb : Fin 8) (s : State) : Out := s.omend hp mb boundThresholdForm

end Sys2Proof.Machine
end

