-- ==== Sys2Proof/Machine/CmdRefs.lean ====
section
/-! DEFINITION. Omend commands of stamping, references, steering and holdover: TDC_CONFIG to HOLD_TARGET (R82 to R84, R116 to R119, R126, R129, R149, R155, R161, R162, R166, R186, R234, R304, R398, R464, R465). -/

namespace Sys2Proof.Machine

/-! ### What holds a TDC channel (R119, R162, R212, R365) -/

/-- Parameters of a channel with the values that a holder gives them. -/
abbrev Demand := List (Nat × Int)

/-- What a slot's pulse or clock channel must be (R119, R120). -/
def Slot.demand (x : Slot) (ch : Nat) : Demand :=
  (if x.pulseChannel ch then
    [(Ix.tdcMode, 1), (Ix.tdcPeriod, 1000000000), (Ix.tdcPhase, 0)] ++ (if x.kind = 4 then [(Ix.tdcEdge, 0)] else []) else []) ++
  (if x.clockChannel ch then
    (Ix.tdcMode, 3) :: (if x.kind = 2 then [(Ix.tdcFNom, 10000000000000)] else []) else [])

/-- What a TIO output's channel must be (R212). -/
def pinDemand (c : Cfg) : Demand :=
  match c.nat Ix.outMode with
  | 0 => []
  | 5 => [(Ix.tdcMode, 0)]
  | _ => [(Ix.tdcMode, 2), (Ix.tdcEdge, leadingEdge c), (Ix.tdcPrescale, 1), (Ix.tdcDeglitch, 0)]

/-- Whether settings are those of an enabled edge feed on a channel. -/
def edgeFeedOn (c : Cfg) (ch : Nat) : Bool := c.flag Ix.feedEnable && !c.flag Ix.feedSrc && c.nat Ix.feedChannel == ch

/-- What an edge feed's channel must be (R365). -/
def feedDemand (c : Cfg) (ch : Nat) : Demand :=
  if edgeFeedOn c ch then [(Ix.tdcMode, 2), (Ix.tdcEdge, c.at Ix.feedPol), (Ix.tdcPrescale, 1)] else []

/-- What an atomic flywheel's channel must be (R162). -/
def flywheelDemand (c : Cfg) (ch : Nat) : Demand :=
  if c.nat Ix.fwChannel = ch then
    [(Ix.tdcMode, 3), (Ix.tdcFNom, 10000000000000), (Ix.tdcPrescale, 1), (Ix.tdcGate, 1000)] else []

/-- The settings of a pin that its latest accepted command asks for. -/
def State.latestPin (s : State) (n : Fin 80) : Cfg := s.latest 0x41 n.val s.outs.pins[n].staged
/-- The settings of a feed that its latest accepted command asks for. -/
def State.latestFeed (s : State) (f : Fin 6) : Cfg := s.latest 0x90 f.val s.feeds[f].staged

/-- What the slots other than `i` ask of a channel. -/
def State.slotDemands (s : State) (i : Option (Fin 16)) (ch : Nat) : Demand :=
  (List.finRange 16).flatMap fun j => if some j = i then [] else s.wv.slots[j].demand ch
/-- What the TIO pin of a channel asks of it, as applied and as accepted. -/
def State.pinDemands (s : State) (ch : Nat) : Demand :=
  if h : ch < 64 then
    let n : Fin 80 := ⟨16 + ch, by omega⟩
    pinDemand s.outs.pins[n].cfg ++ pinDemand (s.latestPin n)
  else []
/-- What the feeds other than `i` ask of a channel, as applied and as accepted. -/
def State.feedDemands (s : State) (i : Option (Fin 6)) (ch : Nat) : Demand :=
  (List.finRange 6).flatMap fun j => if some j = i then [] else feedDemand s.feeds[j].cfg ch ++ feedDemand (s.latestFeed j) ch
/-- What the flywheels other than `i` ask of a channel. -/
def State.flywheelDemands (s : State) (i : Option (Fin 3)) (ch : Nat) : Demand :=
  (List.finRange 3).flatMap fun j => if some j = i then [] else flywheelDemand s.fc.fw[j].cfg ch

/-- Whether two holders ask different values of one parameter. -/
def clash (a b : Demand) : Bool := a.any fun x => b.any fun y => x.1 == y.1 && x.2 != y.2

/-- Whether the slots, as their SOURCE stands, use a channel. -/
def State.slotUses (s : State) (i : Option (Fin 16)) (ch : Nat) : Bool :=
  (List.finRange 16).any fun j => some j != i && s.wv.slots[j].usesChannel ch

/-- Whether a FREQUENCY configuration asks for more than 2^32 stamps in a gate (R84). -/
def gateTooLong (c : Cfg) : Bool :=
  c.nat Ix.tdcMode == 3 && decide (2 ^ 32 * c.nat Ix.tdcPrescale * 1000000000 < c.nat Ix.tdcFNom * c.nat Ix.tdcGate)

/-- A channel's settings under a holder; EDGE 2 exists in EVENT mode only (R82, R119). -/
def demanded (c : Cfg) (d : Demand) : Cfg :=
  let v := c.setAll d
  if v.nat Ix.tdcEdge = 2 && v.nat Ix.tdcMode ≠ 2 then v.set Ix.tdcEdge 0 else v

/-- A channel is set as a holder asks. -/
def State.holdChannel (s : State) (ch : Nat) (d : Demand) : State :=
  if d.isEmpty then s else s.configChannel (Fin.ofNat 88 ch) (demanded s.tdc[Fin.ofNat 88 ch].cfg d)

/-! ### TDC_CONFIG (R82 to R84) -/

/-- Whether the command changes the sender's own PORT_MASK bit only, which every port may do on any channel (R81, R82). -/
def State.ownMaskBit (s : State) (c : Cmd) : Bool :=
  c.mask == 2 ^ Ix.tdcPortMask && decide (c.obj < 88) &&
    let v := c.word 3 ^^^ s.tdc[Fin.ofNat 88 c.obj].cfg.nat Ix.tdcPortMask
    v == 0 || v == 2 ^ c.hp.val

/-- What the holders ask of a channel. -/
def State.allDemands (s : State) (ch : Nat) : Demand :=
  s.slotDemands none ch ++ s.pinDemands ch ++ s.feedDemands none ch ++ s.flywheelDemands none ch

/-- TDC_CONFIG. DEDUCED (log entry 46): R464 names the objects 0 to 71, and R81 and R82 let every port subscribe to the records of channels 72 to 87 too, so on those the command is taken for the sender's own PORT_MASK bit and for nothing else. -/
def tdcConfigForm : CmdForm :=
  { op := 0x20, handled := false, follower := false, results := 0, shape := fun _ c => c.rowsFit tdcTable,
    rights := fun s c => s.may c.hp .tdc || s.ownMaskBit c, wipe := none,
    body := fun s c =>
      if 71 < c.obj && !s.ownMaskBit c then .reject s 5 none
      else
        let ch : Fin 88 := Fin.ofNat 88 c.obj
        let old := s.tdc[ch].cfg
        let held := (s.allDemands c.obj).map Prod.fst
        c.configure s tdcTable old (fun v => [(Ix.tdcPhase, decide (v.at Ix.tdcPeriod ≤ v.at Ix.tdcPhase))])
          (fun v => [(v.nat Ix.tdcEdge == 2 && v.nat Ix.tdcMode != 2, [Ix.tdcEdge]),
              (64 ≤ c.obj && v.at Ix.tdcDeglitch != 0, [Ix.tdcDeglitch]),
              (gateTooLong v, [Ix.tdcFNom, Ix.tdcPrescale, Ix.tdcGate, Ix.tdcMode])] ++
            held.map fun p => (v.at p != old.at p, [p]))
          (fun _ => false) fun v => .done (s.configChannel ch v) [] }

/-- TDC_CONFIG (R82 to R84, R464). -/
def execTdcConfig (hp : Fin 4) (mb : Fin 8) (s : State) : Out := s.omend hp mb tdcConfigForm

/-! ### REF_CONFIG (R116 to R119, R465) -/

/-- Defaults that a kind gives its SOURCE words where the command sets none: CLASS_MIN 7 and no SPP for PTP, ACCEPT_MASK 0x0114 for SYNCE (R126, R127). -/
def sourceDefaults (kind : Nat) : Demand :=
  match kind with
  | 5 => [(Ix.slotSource + 2, 7), (Ix.slotSource + 5, 0xFF)]
  | 6 => [(Ix.slotSource + 1, 0x0114)]
  | _ => []

/-- The settings of a slot with its kind's SOURCE defaults. -/
def fillSource (c : Cmd) (v : Cfg) : Cfg :=
  if !c.has 1 && (List.range 8).all fun n => v.at (Ix.slotSource + n) == 0 then v.setAll (sourceDefaults (v.nat Ix.slotKind)) else v

/-- Whether a SOURCE is out of range for its kind (R126, R465); words that the kind does not use are not looked at. -/
def sourceBad (v : Cfg) : Bool :=
  let w := fun n => v.nat (Ix.slotSource + n)
  match v.nat Ix.slotKind with
  | 5 => 5 < bitsOf (w 0) 18 16 || 2 < bitsOf (w 0) 21 20 || 255 < w 2 || 0xFFFFFF < w 3 || 0xFFFFFF < w 4
  | 6 => 7 < w 0 || 0xFFFF < w 1
  | 7 => 2 < w 2
  | _ => false

/-- Whether a SOURCE names a channel that its kind cannot use (R120, R465). -/
def sourceChannelBad (v : Cfg) : Bool :=
  let w := fun n => v.nat (Ix.slotSource + n)
  let refin := fun n => 64 ≤ n && n ≤ 71
  match v.nat Ix.slotKind with
  | 2 => 71 < w 0 || !refin (w 1) || w 0 == w 1
  | 3 => !refin (w 0)
  | 4 => 63 < w 0
  | 7 => 63 < w 0 || 63 < w 1 || w 0 == w 1
  | _ => false

/-- The channels that a slot's pulse and clock inputs and its frame input name. -/
def Slot.channels (x : Slot) : List Nat := (List.range 72).filter fun ch => x.usesChannel ch

/-- Whether an enabled slot's channels are held otherwise, or cannot take its settings (R84, R119, R465). -/
def State.slotClash (s : State) (i : Fin 16) (x : Slot) : Bool :=
  x.channels.any fun ch =>
    let d := x.demand ch
    clash d (s.slotDemands (some i) ch ++ s.pinDemands ch ++ s.feedDemands none ch ++ s.flywheelDemands none ch) ||
      gateTooLong (demanded s.tdc[Fin.ofNat 88 ch].cfg d) || (d.isEmpty && !(s.pinDemands ch).isEmpty)

/-- Whether an enabled PTP instance shares DOMAIN and a port with settings of an enabled PTP slot (R304). -/
def ptpOverlap (inst slot : Cfg) : Bool :=
  ptpEnabled inst && slot.flag Ix.slotEnable && slot.nat Ix.slotKind == 5 &&
    bitAt (inst.nat Ix.instPortMask) (bitsOf (slot.nat Ix.slotSource) 2 0) &&
    inst.nat Ix.instDomain == bitsOf (slot.nat Ix.slotSource) 15 8

/-- The joint rules of a slot's settings. -/
def State.slotJoint (s : State) (c : Cmd) (i : Fin 16) (v0 : Cfg) : List (Bool × List Nat) :=
  let v := fillSource c v0
  let x : Slot := { s.wv.slots[i] with cfg := v }
  let on := v.flag Ix.slotEnable
  let others := fun k => (List.finRange 16).any fun j => j != i && s.wv.slots[j].cfg.flag Ix.slotEnable && s.wv.slots[j].kind == k
  [(i == 15 && s.sys.straps.twinEn, List.range 13), (v.nat Ix.slotKind == 8, [0]),
   (sourceChannelBad v, [1]), (on && s.slotClash i x, [1]),
   (on && (v.nat Ix.slotKind == 1 || v.nat Ix.slotKind == 5) && others (v.nat Ix.slotKind), [2]),
   (on && (List.finRange 16).any fun n => ptpOverlap s.svc.inst[n].cfg v || ptpOverlap (s.latestInst n) v, [2, 1, 0])]

/-- A slot takes new settings; KIND, SOURCE or ENABLE that changes starts it afresh and sets its channels (R118, R119). -/
def State.configSlot (s : State) (i : Fin 16) (v : Cfg) : State :=
  let old := s.wv.slots[i]
  if old.cfg.take 10 = v.take 10 then s.mapSlot i fun x => { x with cfg := v }
  else
    let s1 := if old.state = .lockedOut then s else (s.dropSlot i).setSlot i .disqualified 5
    let s2 := s1.mapSlot i fun x =>
      { cfg := v, state := x.state, cause := x.cause, flaps := x.flaps, glitch := x.glitch, frameFault := x.frameFault }
    let x := s2.wv.slots[i]
    let s3 := s2.each x.channels fun t ch => t.holdChannel ch (x.demand ch)
    let s4 : State := if v.nat Ix.slotKind = 5 && v.flag Ix.slotEnable then
        { s3 with wv.ptp := { lastSync := s3.sys.cyc, lastAnnounce := s3.sys.cyc } } else s3
    let s5 : State := if v.nat Ix.slotKind = 6 && v.flag Ix.slotEnable then
        { s4 with wv.esmcLast := s4.wv.esmcLast.set (Fin.ofNat 8 (v.nat Ix.slotSource)) s4.sys.cyc } else s4
    s5.evaluate

/-- A command's inner event, where it is due. -/
def State.alsoDo (s : State) (f : State → Out) : State :=
  match f s with
  | .next t => t
  | _ => s

/-- REF_CONFIG of a slot. -/
def refSlotVerdict (s : State) (c : Cmd) : Verdict :=
  let i : Fin 16 := Fin.ofNat 16 c.obj
  c.configure s slotTable s.wv.slots[i].cfg (fun v => [(1, sourceBad (fillSource c v))]) (s.slotJoint c i) (fun _ => false) fun v =>
    .done (((s.configSlot i (fillSource c v)).alsoDo (execWtrExpiry i)).alsoDo (execConfirmExpiry i)) []

/-- REF_CONFIG: slots 0 to 15, and object 16 for Weathervane as a whole. -/
def refConfigForm : CmdForm :=
  { op := 0x21, handled := false, follower := false, results := 0,
    shape := fun _ c => if c.obj = 16 then c.rowsFit wvTable else c.rowsFit slotTable, rights := needs .reference, wipe := none,
    body := fun s c =>
      if 16 < c.obj then .reject s 5 none
      else if c.obj = 16 then
        c.configure s wvTable s.wv.cfg (fun _ => []) (fun _ => []) (fun _ => false) fun v => .done { s with wv.cfg := v } []
      else refSlotVerdict s c }

/-- REF_CONFIG (R116 to R119, R464, R465). -/
def execRefConfig (hp : Fin 4) (mb : Fin 8) (s : State) : Out := s.omend hp mb refConfigForm

/-! ### REF_FORCE, REF_ADMIT, REF_LOCKOUT (R131, R149) -/

/-- A slot becomes QUALIFIED by the host's judgement (R131, R149). DEDUCED (log entry 47): one that has not 8 offsets yet has no σ_ref, and R57 makes the Bound unknown while a component is, so a switch to it leaves the Bound unknown until σ_ref is known. -/
def State.hostQualify (s : State) (i : Fin 16) : State :=
  (s.mapSlot i fun x => { x with timerStart := none, wtrDone := true, freqDispute := false, stepBlocked := false }).setSlot i .qualified
    s.wv.slots[i].cause

/-- A slot is forced; another slot that a host forced is released, and a switch to another slot that waits is dropped (R149). -/
def State.forceSlot (s : State) (i : Fin 16) : State :=
  let s1 := s.hostQualify i
  let s2 : State := { s1 with
    wv.slots := Vector.ofFn fun j => { s1.wv.slots[j] with forced := j == i || (s1.wv.slots[j].forced && s1.wv.slots[j].kind == 8) },
    wv.switch := match s1.wv.switch with
      | some w => if w.committed || w.target == i then some w else none
      | none => none }
  s2.evaluate

/-- The checks that the three commands share: index, range, and the TWIN slot. -/
def slotVerdict (s : State) (c : Cmd) (two : Bool) (go : Fin 16 → Verdict) : Verdict :=
  if 15 < c.word 0 then .reject s 5 none
  else if two && 1 < c.word 1 then .reject s 6 (some 1)
  else if c.word 0 = 15 && s.sys.straps.twinEn then .reject s 7 (some 0)
  else go (Fin.ofNat 16 (c.word 0))

/-- REF_FORCE. -/
def refForceForm : CmdForm := plainForm 0x22 2 0 (needs .reference) fun s c =>
  slotVerdict s c true fun i =>
    let x := s.wv.slots[i]
    if freqKind x.kind then .reject s 7 (some 0)
    else if c.word 1 = 0 then
      if x.state == .disqualified || x.state == .lockedOut then .reject s 8 none else .done (s.forceSlot i) []
    else if x.forced then .done ((s.mapSlot i fun x => { x with forced := false }).evaluate) []
    else .reject s 8 none

/-- REF_FORCE (R149, R464). -/
def execRefForce (hp : Fin 4) (mb : Fin 8) (s : State) : Out := s.omend hp mb refForceForm

/-- REF_ADMIT. -/
def refAdmitForm : CmdForm := plainForm 0x23 1 0 (needs .reference) fun s c =>
  slotVerdict s c false fun i =>
    if s.wv.slots[i].state == .qualifying || s.wv.slots[i].state == .disputed then .done ((s.hostQualify i).evaluate) []
    else .reject s 8 none

/-- REF_ADMIT (R149, R464). -/
def execRefAdmit (hp : Fin 4) (mb : Fin 8) (s : State) : Out := s.omend hp mb refAdmitForm

/-- REF_LOCKOUT. -/
def refLockoutForm : CmdForm := plainForm 0x24 2 0 (needs .reference) fun s c =>
  slotVerdict s c true fun i =>
    let out := s.wv.slots[i].state == .lockedOut
    if c.word 1 = 0 then
      if out then .reject s 8 none else .done ((s.lockOut i 6).evaluate) []
    else if out then
      .done ((s.setSlot i .disqualified s.wv.slots[i].cause).causeGone Flt.refLockedOut fun d => d % 16 == i.val) []
    else .reject s 8 none

/-- REF_LOCKOUT (R131, R464). -/
def execRefLockout (hp : Fin 4) (mb : Fin 8) (s : State) : Out := s.omend hp mb refLockoutForm

/-! ### Steering and holdover (R155, R161, R166, R186) -/

/-- STEER_CONFIG: TRACK_BW, once set, no longer follows the flywheels (R155). -/
def steerConfigForm : CmdForm :=
  { op := 0x30, handled := false, follower := false, results := 0, shape := fun _ c => c.rowsFit steerTable, rights := needs .holdover,
    wipe := none,
    body := fun s c =>
      if 0 < c.obj then .reject s 5 none
      else
        c.configure s steerTable s.loop.cfg (fun _ => []) (fun _ => []) (fun _ => false) fun v =>
          .done { s with loop.cfg := v, loop.bwSet := s.loop.bwSet || c.has 0 } [] }

/-- STEER_CONFIG (R155, R464). -/
def execSteerConfig (hp : Fin 4) (mb : Fin 8) (s : State) : Out := s.omend hp mb steerConfigForm

/-- TRACK_BW follows the flywheel configuration until a host sets it (R155). -/
def State.followTrackBw (s : State) : State :=
  if s.loop.bwSet then s
  else
    let atomic := ([1, 2] : List (Fin 3)).any fun f => s.fc.fw[f].cfg.at Ix.fwChannel != noneWord
    { s with loop.cfg := s.loop.cfg.set Ix.steerTrackBw (if atomic then 30 else 1000) }

/-- A flywheel takes new settings: its channel, TRACK_BW and the choice of flywheel follow (R155, R162, R163); with TEMP_SRC 5 its temperature terms are 0 (R164). -/
def State.configFlywheel (s : State) (f : Fin 3) (v : Cfg) : State :=
  let old := s.fc.fw[f].cfg
  let moved := old.at Ix.fwChannel != v.at Ix.fwChannel
  let s1 := if f = 0 || v.at Ix.fwChannel = noneWord then s
    else s.holdChannel (v.nat Ix.fwChannel) (flywheelDemand v (v.nat Ix.fwChannel))
  let flat := fun (m : Model) =>
    if v.at Ix.fwTempSrc = 5 then { m with c1 := 0, c2 := 0, c3 := 0, h := 0, uC1 := 0, uC2 := 0, uC3 := 0, uH := 0 } else m
  let s2 := s1.mapFw f fun w =>
    { w with cfg := v, temp := if old.at Ix.fwTempSrc = v.at Ix.fwTempSrc then w.temp else none, model := w.model.map flat,
             lost := w.lost && !moved, lostAt := if moved then none else w.lostAt, goodGates := if moved then 0 else w.goodGates,
             gates := if moved then [] else w.gates }
  let s3 := s2.followTrackBw
  if !s3.afterInit then s3
  else if s3.fc.holding then (if s3.usable f then s3 else s3.changeFlywheel f)
  else s3.useFlywheel s3.chooseFlywheel

/-- Whether a channel is held in another mode than a flywheel needs (R162, R464). -/
def State.flywheelClash (s : State) (f : Fin 3) (v : Cfg) : Bool :=
  let ch := v.nat Ix.fwChannel
  v.at Ix.fwChannel != noneWord &&
    clash (flywheelDemand v ch) (s.slotDemands none ch ++ s.pinDemands ch ++ s.feedDemands none ch ++ s.flywheelDemands (some f) ch)

/-- FLYWHEEL_CONFIG. -/
def flywheelConfigForm : CmdForm :=
  { op := 0x31, handled := false, follower := false, results := 0, shape := fun _ c => c.rowsFit flywheelTable, rights := needs .holdover,
    wipe := none,
    body := fun s c =>
      if 2 < c.obj then .reject s 5 none
      else
        let f : Fin 3 := Fin.ofNat 3 c.obj
        c.configure s flywheelTable s.fc.fw[f].cfg (fun _ => [])
          (fun v => [(f == 0 && c.has 0, [0]), (f == 0 && c.has 9, [9]), (s.flywheelClash f v, [0])])
          (fun _ => false) fun v => .done (s.configFlywheel f v) [] }

/-- FLYWHEEL_CONFIG (R161, R162, R402, R464). -/
def execFlywheelConfig (hp : Fin 4) (mb : Fin 8) (s : State) : Out := s.omend hp mb flywheelConfigForm

/-- SENSE_CONFIG: the sensor starts afresh. -/
def senseConfigForm : CmdForm := plainForm 0x32 3 0 (needs .holdover) fun s c =>
  if h : c.word 0 < 4 then
    if c.word 2 = 0 then .reject s 6 (some 2)
    else
      let x : Sensor := { addr := bitsOf (c.word 1) 6 0, pointer := bitsOf (c.word 1) 15 8, lsb := c.signed 2 }
      .done (({ s with fc.sensors := s.fc.sensors.set (c.word 0) x } : State).causeEnds Flt.senseFail (c.word 0)) []
  else .reject s 5 none

/-- SENSE_CONFIG (R166, R464). -/
def execSenseConfig (hp : Fin 4) (mb : Fin 8) (s : State) : Out := s.omend hp mb senseConfigForm

/-- HOLD_TARGET. -/
def holdTargetForm : CmdForm := plainForm 0x33 1 0 (needs .holdover) fun s c =>
  if c.word 0 = 0 || 1000000000 < c.word 0 then .reject s 6 (some 0)
  else .done { s with bound.holdTarget := c.word 0 } []

/-- HOLD_TARGET (R186, R464). -/
def execHoldTarget (hp : Fin 4) (mb : Fin 8) (s : State) : Out := s.omend hp mb holdTargetForm

end Sys2Proof.Machine
end

