-- ==== Sys2Proof/Machine/CmdOutputs.lean ====
section
/-! DEFINITION. Omend commands of synthesizers, outputs and the GNSS baseband: SYNTH_CONFIG to SNAPSHOT_PROCESS (R191, R199, R200, R217 to R222, R230, R233, R236, R258, R261, R382, R464, R466). -/

namespace Sys2Proof.Machine

/-! ### Synthesizers (R191, R222, R382) -/

/-- The settings of a synthesizer that its latest accepted command asks for. -/
def State.latestSynth (s : State) (o : Fin 4) : Cfg := s.latest 0x40 o.val s.outs.os[o].staged
/-- The settings of a port that its latest accepted command asks for. -/
def State.latestPort (s : State) (p : Fin 8) : Cfg := s.latest 0x60 p.val s.ports[p].staged

/-- Whether settings take a port's transmit clock from OS3 (R222). -/
def takesOs3 (c : Cfg) : Bool := c.flag Ix.portEnable && c.flag Ix.portTxClk

/-- Whether a port takes its transmit clock from OS3, as applied or as accepted (R222). -/
def State.os3Used (s : State) : Bool := (List.finRange 8).any fun p => takesOs3 s.ports[p].cfg || takesOs3 (s.latestPort p)

/-- Whether a converter port runs. -/
def State.cpRuns (s : State) : Bool := s.cps.toList.any ConvPort.running

/-- The joint rules of a synthesizer's settings. -/
def State.synthJoint (s : State) (c : Cmd) (o : Fin 4) (old v : Cfg) : List (Bool × List Nat) :=
  let changes := fun p => old.at p != v.at p
  [(!pfdInRange v, [2, 3]), (o != 2 && c.has 5, [5]), (o == 3 && s.os3Used && changes Ix.synthFvco, [1])] ++
  (if o = 2 && s.cpRuns then
    [(changes Ix.synthFvco, [1]), (changes Ix.synthRdiv, [2]), (changes Ix.synthRefMode, [3]), (changes Ix.synthConvDiv, [5])] else [])

/-- SYNTH_CONFIG. -/
def synthConfigForm : CmdForm :=
  { op := 0x40, handled := true, follower := false, results := 2, shape := fun _ c => c.rowsFit synthTable, rights := needs .outputs,
    wipe := none,
    body := fun s c =>
      if 3 < c.obj then .reject s 5 none
      else
        let o : Fin 4 := Fin.ofNat 4 c.obj
        let old := s.latestSynth o
        c.configure s synthTable old (fun _ => []) (s.synthJoint c o old) (fun _ => false) fun v => stageVerdict s 1 o.val c.obj v }

/-- SYNTH_CONFIG (R191 to R196, R222, R382, R464). -/
def execSynthConfig (hp : Fin 4) (mb : Fin 8) (s : State) : Out := s.omend hp mb synthConfigForm

/-! ### Output pins (R199, R200, R466) -/

/-- WIDTH's default, the smaller of 100 ms and PERIOD / 2 rounded up, until a command sets WIDTH (R200, R461). -/
def fillWidth (unset : Bool) (v : Cfg) : Cfg := if unset then v.set Ix.outWidth (min 100000000 ((v.at Ix.outPeriod + 1) / 2)) else v

/-- Whether a time in ns is not a whole number of VCO periods (R200). -/
def notWhole (f : Rat) (ns : Int) : Bool := ((ns : Rat) * f / 1000000000).den != 1

/-- The synthesizer that drives a pin under some settings (R190, R211). -/
def pinSource (n : Nat) (v : Cfg) : Fin 4 := if n < 16 then Fin.ofNat 4 (n / 4) else Fin.ofNat 4 (v.nat Ix.outSource)

/-- The joint rules of a pin's settings. -/
def State.pinJoint (s : State) (c : Cmd) (n : Nat) (v : Cfg) : List (Bool × List Nat) :=
  let os := s.latestSynth (pinSource n v)
  let f := fVco os
  let mode := v.nat Ix.outMode
  let whole := fun p => mode == 2 && notWhole f (v.at p)
  [(n < 16 && c.has 12, [12]), (16 ≤ n && mode == 1, [0]),
   (mode == 1 && 1500000000 * (v.at Ix.outOdiv : Rat) < f, [1]), (2 ≤ mode && !wholeHertz os, [0]),
   (whole Ix.outPeriod, [2]), (whole Ix.outPhase, [3]), (whole Ix.outWidth, [4]),
   (16 ≤ n && mode != 0 && (s.slotUses none (n - 16) || !(s.feedDemands none (n - 16)).isEmpty), [0])]

/-- The ranges of a pin's settings that name another parameter, or the pin (R200, R458, R466). -/
def pinRanges (n : Nat) (v : Cfg) : List (Nat × Bool) :=
  [(0, n < 16 && 3 < v.nat Ix.outMode), (3, v.at Ix.outPeriod ≤ v.at Ix.outPhase),
   (4, v.at Ix.outWidth < 10 || v.at Ix.outPeriod - 10 < v.at Ix.outWidth)]

/-- OUTPUT_CONFIG. -/
def outputConfigForm : CmdForm :=
  { op := 0x41, handled := true, follower := false, results := 2, shape := fun _ c => c.rowsFit outputTable, rights := needs .outputs,
    wipe := none,
    body := fun s c =>
      if 79 < c.obj then .reject s 5 none
      else
        let n : Fin 80 := Fin.ofNat 80 c.obj
        let fill := fillWidth (!s.outs.pins[n].widthSet && !c.has 4)
        c.configure s outputTable (s.latestPin n) (fun v => pinRanges c.obj (fill v)) (fun v => s.pinJoint c c.obj (fill v))
          (fun _ => false) fun v =>
            stageVerdict (s.mapPin n fun p => { p with widthSet := p.widthSet || c.has 4 }) 1 (pinSource c.obj v).val c.obj (fill v) }

/-- OUTPUT_CONFIG (R199 to R212, R464, R466). -/
def execOutputConfig (hp : Fin 4) (mb : Fin 8) (s : State) : Out := s.omend hp mb outputConfigForm

/-! ### ALIGN_PULSES (R217 to R221) -/

/-- The synthesizers of a mask. -/
def synthsOf (mask : Nat) : List (Fin 4) := (List.finRange 4).filter fun o => bitAt mask o.val

/-- Why an alignment of one synthesizer is refused (R220). Modes: 0 STEP, 1 WALK, 2 CANCEL; WALK_RATE in 2^-64. -/
def State.alignReason (s : State) (mode at_ rate : Nat) (o : Fin 4) : Option Nat :=
  let ahead := (at_ : Int) * secFrac - s.now
  let x := s.outs.os[o]
  if mode = 0 && (ahead < 2 * secFrac || 86400 * secFrac < ahead) then some 1
  else if !x.cfg.flag Ix.synthEnable || x.lock != .locked || !wholeHertz x.cfg then some 2
  else if mode = 0 && ((o == 2 && s.cpRuns) || (o == 3 && !s.os3Ports.isEmpty)) then some 3
  else if mode = 1 && o == 2 && s.cpRuns && 2 ^ 64 < rate * 1000000 then some 4
  else if mode = 1 && o == 3 && !s.os3Ports.isEmpty && 2 ^ 64 < rate * 10000000 then some 5
  else none

/-- An alignment starts, or a cancel takes effect, on one synthesizer (R218 to R220). -/
def State.startAlign (s : State) (mode at_ rate id : Nat) (o : Fin 4) : State :=
  let s1 := s.stopAlign o
  match mode with
  | 0 => s1.mapOs o fun x => { x with align := some (.step at_ id) }
  | 1 => s1.mapOs o fun x => { x with align := some (.walkWait rate id) }
  | _ => s1

/-- ALIGN_PULSES. -/
def alignPulsesForm : CmdForm := { plainForm 0x42 5 8 (needs .outputs) (fun s c =>
  let mask := bitsOf (c.word 0) 3 0
  let mode := bitsOf (c.word 0) 9 8
  let at_ := c.wide 1
  let rate := c.wide 3
  if mode = 3 then .reject s 6 (some 0)
  else if mode = 1 && (rate < 18446744073 || 184467440737096 < rate) then .reject s 6 (some 3)
  else
    match lowest ((synthsOf mask).filterMap fun o => (s.alignReason mode at_ rate o).map fun r => r * 16 + o.val) with
    | some d => refuse (s.raise Flt.alignRefused d) (d / 16)
    | none =>
      .accept s none 0 [(mask : Int)] 0 [] fun id t =>
        let u := (t.each (synthsOf mask) fun u o => u.startAlign mode at_ rate id o)
        if mode = 2 || mask = 0 then u.complete id 0 (List.replicate 8 0) else u) with handled := true }

/-- ALIGN_PULSES (R217 to R221, R464). -/
def execAlignPulses (hp : Fin 4) (mb : Fin 8) (s : State) : Out := s.omend hp mb alignPulsesForm

/-! ### GNSS_CONFIG and GNSS_AID (R230, R233, R236) -/

/-- A stream takes new settings; a change of ENABLE starts its health afresh (R230, R231). -/
def State.configStream (s : State) (i : Fin 4) (v : Cfg) : State :=
  if s.gnss.streams[i].cfg.at Ix.streamEnable = v.at Ix.streamEnable then s.mapStream i fun x => { x with cfg := v }
  else
    let s0 := (s.mapStream i fun x => { x with cfg := v, healthy := false, clip := false, goodSince := none, jn := 0xFF, jamOver := false }).dropChans
      fun z => decide (streamOf z.signal z.antB = i)
    let s1 : State := { s0 with gnss.jamming := s0.gnss.streams.toList.any (·.jamOver) }
    let s2 := (s1.causeGone Flt.feStream (· % 4 == i.val)).causeEnds Flt.gnssJamming i.val
    if s.gnss.streams[i].healthy && s2.gnss.streams.toList.all (fun y => !y.healthy) then s2.signalLost s2.gnssSlots else s2

/-- The table of an object of GNSS_CONFIG. -/
def gnssTable (obj : Nat) : ParamTable := if obj = 4 then receiverTable else streamTable (obj % 2 == 1)

/-- GNSS_CONFIG: streams 0 to 3, and object 4 for the receiver. -/
def gnssConfigForm : CmdForm :=
  { op := 0x50, handled := false, follower := false, results := 0, shape := fun _ c => c.rowsFit (gnssTable c.obj), rights := needs .gnss,
    wipe := none,
    body := fun s c =>
      if 4 < c.obj then .reject s 5 none
      else if c.obj = 4 then
        c.configure s receiverTable (s.gnss.next.getD s.gnss.cfg) (fun v => [(5, v.nat Ix.rxTimeSys == 3)])
          (fun v => [(!bitAt (v.nat Ix.rxSystems) (v.nat Ix.rxTimeSys), [5])]) (fun _ => false) fun v =>
            .done { s with gnss.next := some v } []
      else
        let i : Fin 4 := Fin.ofNat 4 c.obj
        c.configure s (gnssTable c.obj) s.gnss.streams[i].cfg (fun _ => []) (fun _ => []) (fun _ => false) fun v =>
          .done (s.configStream i v) [] }

/-- GNSS_CONFIG (R230, R233, R464). -/
def execGnssConfig (hp : Fin 4) (mb : Fin 8) (s : State) : Out := s.omend hp mb gnssConfigForm

/-- GNSS_AID: a TAI time at a captured CYC, with its uncertainty (R236). -/
def gnssAidForm : CmdForm := plainForm 0x51 6 0 (needs .gnss) fun s c =>
  if s.sys.cyc < c.wide 0 then .reject s 6 (some 0)
  else if 2 ^ 48 ≤ c.wide 2 then .reject s 6 (some 2)
  else if 1000000000 ≤ c.word 4 then .reject s 6 (some 4)
  else .done { s with gnss.aid := some (c.wide 0, (c.wide 2 : Int) * secFrac + (c.word 4 : Int) * 65536, c.word 5) } []

/-- GNSS_AID (R236, R464). -/
def execGnssAid (hp : Fin 4) (mb : Fin 8) (s : State) : Out := s.omend hp mb gnssAidForm

/-! ### Snapshots (R258 to R261) -/

/-- A SNAPSHOT's parcel: mask, LENGTH, OVERWRITE, immediately, and the start instant. -/
structure SnapAsk where
  mask : Nat
  length : Nat
  overwrite : Bool
  start : Option Int
  deriving DecidableEq, Repr

/-- The parcel of SNAPSHOT (R464). -/
def Cmd.snapAsk (c : Cmd) : SnapAsk :=
  ⟨bitsOf (c.word 0) 3 0, bitsOf (c.word 0) 15 8, bitAt (c.word 0) 16,
   if bitAt (c.word 0) 17 then none else some ((c.wide 1 : Int) * secFrac + (c.word 3 : Int) * 65536)⟩

/-- Whether LENGTH and the mask are out of range, or a stream of the mask is disabled (R258). -/
def State.snapBad (s : State) (a : SnapAsk) : Bool :=
  let l := streamsOf a.mask
  l.isEmpty || a.length = 0 || 128 < a.length * l.length || l.any fun i => !s.gnss.streams[i].cfg.flag Ix.streamEnable

/-- Why a snapshot is refused (R258). -/
def State.snapReason (s : State) (a : SnapAsk) : Option Nat :=
  let st := s.gnss.snap.state
  if st == .pending || st == .capturing then some 1
  else if (st == .held || st == .processing) && !a.overwrite then some 2
  else if s.gnss.mode == 0 || s.gnss.mode == 3 then some 3
  else if s.snapBad a then some 4
  else
    match a.start with
    | some t => if t < s.now || s.now + 86400 * secFrac < t then some 5 else none
    | none => none

/-- SNAPSHOT. -/
def snapshotForm : CmdForm := { plainForm 0x52 4 1 (needs .gnss) (fun s c =>
  let a := c.snapAsk
  if !bitAt (c.word 0) 17 && 1000000000 ≤ c.word 3 then .reject s 6 (some 3)
  else if s.gnss.snap.state == .processing && a.overwrite then .reject s 8 none
  else
    match s.snapReason a with
    | some r => refuse (s.raise Flt.snapshotRefused r) r
    | none =>
      .accept s none 0 [] 0 [] fun id t =>
        { t with gnss.snap := { state := .pending, streams := a.mask, length := a.length, captures := t.gnss.snap.captures,
                                startAt := a.start, cmd := some id } }) with handled := true }

/-- SNAPSHOT (R258, R464). -/
def execSnapshot (hp : Fin 4) (mb : Fin 8) (s : State) : Out := s.omend hp mb snapshotForm

/-- Bytes copied into the sender's parcel memory at a word offset (R462). -/
def State.copyOut (s : State) (hp : Fin 4) (dst : Nat) (bytes : List Byte) : State :=
  s.mapHost hp fun h => { h with parcel := memWriteBytes h.parcel (4 * dst) bytes }

/-- SNAPSHOT_READ: a segment of the held capture (R261). -/
def snapshotReadForm : CmdForm :=
  { op := 0x53, handled := false, follower := false, results := 1,
    shape := fun _ c => c.len == 3 && regionFits (c.word 2) (c.word 1), rights := needsNone, wipe := none,
    body := fun s c =>
      let n := c.word 1
      let b := s.gnss.snap.octets
      if n % 4 ≠ 0 then .reject s 6 (some 1)
      else if !(s.gnss.snap.state == .held || s.gnss.snap.state == .processing) || b.length < c.word 0 + n then .reject s 8 none
      else .done (s.copyOut c.hp (c.word 2) ((b.drop (c.word 0)).take n)) [loWord n] }

/-- SNAPSHOT_READ (R261, R464). -/
def execSnapshotRead (hp : Fin 4) (mb : Fin 8) (s : State) : Out := s.omend hp mb snapshotReadForm

/-- SNAPSHOT_RELEASE: a capture still to come is abandoned. -/
def snapshotReleaseForm : CmdForm := plainForm 0x54 0 0 (needs .gnss) fun s _ =>
  if s.gnss.snap.state == .processing then .reject s 8 none
  else .done { s.completeOpt s.gnss.snap.cmd 0x00B [] with gnss.snap := { captures := s.gnss.snap.captures } } []

/-- SNAPSHOT_RELEASE (R261, R464). -/
def execSnapshotRelease (hp : Fin 4) (mb : Fin 8) (s : State) : Out := s.omend hp mb snapshotReleaseForm

/-- SNAPSHOT_PROCESS: the held capture is solved. -/
def snapshotProcessForm : CmdForm := { plainForm 0x55 0 3 (needs .gnss) (fun s _ =>
  if s.gnss.snap.state == .held then
    .accept s none 0 [] 0 [] fun id t => { t with gnss.snap.state := .processing, gnss.snap.cmd := some id }
  else .reject s 8 none) with handled := true }

/-- SNAPSHOT_PROCESS (R464). -/
def execSnapshotProcess (hp : Fin 4) (mb : Fin 8) (s : State) : Out := s.omend hp mb snapshotProcessForm

end Sys2Proof.Machine
end

