-- ==== Sys2Proof/Machine/CmdPorts.lean ====
section
/-! DEFINITION. Omend commands of ports, PRP, host-lane rules, instances and ESMC: PORT_CONFIG to ESMC_CONFIG (R222, R266 to R269, R304, R306, R310 to R312, R323, R324, R331, R464). -/

namespace Sys2Proof.Machine

/-! ### Ports and PRP (R222, R266 to R269) -/

/-- The other port of a port's pair. -/
def mateOf (p : Fin 8) : Fin 8 := Fin.ofNat 8 (if p.val % 2 = 0 then p.val + 1 else p.val - 1)
/-- The settings of a pair that its latest accepted command asks for. -/
def State.latestPair (s : State) (q : Fin 4) : Cfg := s.latest 0x61 q.val s.pairs[q].staged
/-- Whether a pair runs PRP, as applied or as accepted. -/
def State.pairOn (s : State) (q : Fin 4) : Bool := s.pairs[q].cfg.flag Ix.prpOn || (s.latestPair q).flag Ix.prpOn

/-- The joint rules of a port's settings (R222, R266, R268); HB_GROUP occupies an MCAST entry on the ports of HB_PAIR (R394). -/
def State.portJoint (s : State) (c : Cmd) (p : Fin 8) (v : Cfg) : List (Bool × List Nat) :=
  let mate := s.latestPort (mateOf p)
  let differs := fun i => s.pairOn (pairOf p) && v.at i != mate.at i
  let selects := c.has 3 || (v.flag Ix.portEnable && !(s.latestPort p).flag Ix.portEnable)
  [(v.flag Ix.portFec && v.at Ix.portSpeed != 0, [2]), (selects && v.flag Ix.portTxClk && !s.os3Ready, [3]),
   (s.twin.cfg.at Ix.twinHbGroup != 0 && (pairOf p).val == s.twin.cfg.nat Ix.twinHbPair && decide (15 < v.nat Ix.portMcastCount), [6]),
   (differs Ix.portSpeed, [1]), (differs Ix.portFec, [2]), (differs Ix.portTxClk, [3]), (differs Ix.portMaxLen, [5])]

/-- PORT_CONFIG. -/
def portConfigForm : CmdForm :=
  { op := 0x60, handled := true, follower := true, results := 2, shape := fun _ c => c.rowsFit portTable, rights := needs .ports,
    wipe := none,
    body := fun s c =>
      if 7 < c.obj then .reject s 5 none
      else
        let p : Fin 8 := Fin.ofNat 8 c.obj
        c.configure s portTable (s.latestPort p) (fun _ => []) (s.portJoint c p) (fun _ => false) fun v =>
          stageVerdict s 2 c.obj c.obj v }

/-- PORT_CONFIG (R266, R268, R269, R464). -/
def execPortConfig (hp : Fin 4) (mb : Fin 8) (s : State) : Out := s.omend hp mb portConfigForm

/-- Whether PRP is asked for over ports that differ (R268). -/
def State.pairDiffers (s : State) (q : Fin 4) (v : Cfg) : Bool :=
  let a := s.latestPort (Fin.ofNat 8 (2 * q.val))
  let b := s.latestPort (Fin.ofNat 8 (2 * q.val + 1))
  v.flag Ix.prpOn && [Ix.portSpeed, Ix.portFec, Ix.portTxClk, Ix.portMaxLen].any fun i => a.at i != b.at i

/-- PRP_CONFIG. -/
def prpConfigForm : CmdForm :=
  { op := 0x61, handled := true, follower := true, results := 2, shape := fun _ c => c.rowsFit prpTable, rights := needs .ports,
    wipe := none,
    body := fun s c =>
      if 3 < c.obj then .reject s 5 none
      else
        let q : Fin 4 := Fin.ofNat 4 c.obj
        c.configure s prpTable (s.latestPair q) (fun _ => []) (fun v => [(s.pairDiffers q v, [0])]) (fun _ => false) fun v =>
          stageVerdict s 2 c.obj c.obj v }

/-- PRP_CONFIG (R267 to R269, R464). -/
def execPrpConfig (hp : Fin 4) (mb : Fin 8) (s : State) : Out := s.omend hp mb prpConfigForm

/-! ### Host-lane rules and ESMC (R306, R331) -/

/-- HL_RULE. -/
def hlRuleForm : CmdForm :=
  { op := 0x62, handled := false, follower := true, results := 0, shape := fun _ c => c.rowsFit ruleTable, rights := needs .ports,
    wipe := none,
    body := fun s c =>
      if 15 < c.obj then .reject s 5 none
      else
        let r : Fin 16 := Fin.ofNat 16 c.obj
        c.configure s ruleTable s.svc.rules[r] (fun _ => []) (fun _ => []) (fun _ => false) fun v =>
          .done (({ s with svc.rules := s.svc.rules.set r v } : State).repl (.hlRule r v.rows)) [] }

/-- HL_RULE (R306, R464). -/
def execHlRule (hp : Fin 4) (mb : Fin 8) (s : State) : Out := s.omend hp mb hlRuleForm

/-- ESMC_CONFIG. -/
def esmcConfigForm : CmdForm :=
  { op := 0x64, handled := false, follower := true, results := 0, shape := fun _ c => c.rowsFit esmcTable, rights := needs .ports,
    wipe := none,
    body := fun s c =>
      if 7 < c.obj then .reject s 5 none
      else
        let p : Fin 8 := Fin.ofNat 8 c.obj
        c.configure s esmcTable s.svc.esmc[p].cfg (fun _ => []) (fun _ => []) (fun _ => false) fun v =>
          .done (({ s with svc.esmc := upd s.svc.esmc p fun x => { x with cfg := v } } : State).repl
            (.esmc p (v.flag 0) (v.nat 1) (v.nat 2) (v.nat 3))) [] }

/-- ESMC_CONFIG (R331, R464). -/
def execEsmcConfig (hp : Fin 4) (mb : Fin 8) (s : State) : Out := s.omend hp mb esmcConfigForm

/-! ### Instances (R304, R310 to R312, R323, R324) -/

/-- What a profile gives and admits (R311, R323, R324): DOMAIN, TRANSPORT, DELAY_MECH, the three intervals, UNICAST, L2_GROUP and OOS_CLASS, each as its default, lowest and highest value or its list. -/
structure Profile where
  domain : Int × Int × Int
  transport : List Int
  mech : List Int
  ann : Int × Int × Int
  sync : Int × Int × Int
  delay : Int × Int × Int
  unicast : List Int
  group : Int
  oos : List Int
  deriving DecidableEq, Repr

/-- The profiles of R323; a list's first value is its default. Where an interval has a range and no default, 0 is its default (DESIGN CHOICE, log entry 18). -/
def profileOf : Nat → Profile
  | 0 => ⟨(0, 0, 127), [0, 1, 2], [0, 1], (1, 0, 4), (0, -7, 1), (0, -7, 5), [0, 1], 0, [52]⟩
  | 1 => ⟨(24, 24, 43), [0], [0], (-3, -3, -3), (-4, -4, -4), (-4, -4, -4), [0], 1, [140, 150, 160]⟩
  | 2 => ⟨(44, 44, 63), [1, 2], [0], (0, -3, 0), (0, -7, 0), (0, -7, 0), [1], 0, [140, 150, 160]⟩
  | 3 => ⟨(0, 0, 255), [0], [1], (0, 0, 0), (0, 0, 0), (0, 0, 0), [0], 0, [52, 187]⟩
  | 4 => ⟨(254, 0, 255), [0], [1], (0, 0, 0), (0, 0, 0), (0, 0, 0), [0], 0, [52, 187]⟩
  | _ => ⟨(0, 0, 255), [1, 2], [0], (0, -3, 3), (0, -7, 4), (0, -7, 4), [1], 0, [52]⟩

/-- Rows that a command which changes PROFILE leaves absent take the new profile's defaults (R311). -/
def fillProfile (c : Cmd) (old v : Cfg) : Cfg :=
  if old.at Ix.instProfile = v.at Ix.instProfile then v
  else
    let p := profileOf (v.nat Ix.instProfile)
    let v1 := if c.has 7 then v else v.setAll
      [(Ix.instDomain, p.domain.1), (Ix.instTransport, p.transport.headD 0), (Ix.instDelayMech, p.mech.headD 0),
       (Ix.instAnnInt, p.ann.1), (Ix.instSyncInt, p.sync.1), (Ix.instDelayInt, p.delay.1)]
    let v2 := if c.has 9 then v1 else v1.set Ix.instUnicast (p.unicast.headD 0)
    let v3 := if c.has 16 then v2 else v2.set Ix.instOosClass (p.oos.headD 0)
    if c.has 19 then v3 else v3.set Ix.instL2Group p.group

/-- Whether a value lies in a profile's range. -/
def within (r : Int × Int × Int) (v : Int) : Bool := r.2.1 ≤ v && v ≤ r.2.2

/-- The ranges of an instance's settings that depend on PROFILE, and INST_RATE's gap (R310, R311). -/
def instRanges (v : Cfg) : List (Nat × Bool) :=
  let p := profileOf (v.nat Ix.instProfile)
  let ok := within p.domain (v.at Ix.instDomain) && p.transport.contains (v.at Ix.instTransport) &&
    p.mech.contains (v.at Ix.instDelayMech) && within p.ann (v.at Ix.instAnnInt) && within p.sync (v.at Ix.instSyncInt) &&
    within p.delay (v.at Ix.instDelayInt)
  [(7, !ok), (9, !p.unicast.contains (v.at Ix.instUnicast)), (16, !p.oos.contains (v.at Ix.instOosClass)),
   (27, 1 ≤ v.at Ix.instInstRate && v.at Ix.instInstRate ≤ 999)]

/-- The joint rules of an instance's settings (R52, R304, R310, R312). -/
def State.instJoint (s : State) (v : Cfg) : List (Bool × List Nat) :=
  let m := v.nat Ix.instPortMask
  [((List.finRange 4).any fun q => s.pairOn q && bitAt m (2 * q.val) != bitAt m (2 * q.val + 1), [2]),
   (v.flag Ix.instService && v.at Ix.instSmear != noneWord, [22]), (ptpEnabled v && s.svc.clockId == 0, [0, 1]),
   (s.wv.slots.toList.any fun x => ptpOverlap v x.cfg, [7, 2, 0, 1])]

/-- INSTANCE_CONFIG. -/
def instanceConfigForm : CmdForm :=
  { op := 0x63, handled := true, follower := true, results := 2, shape := fun _ c => c.rowsFit instTable, rights := needs .service,
    wipe := none,
    body := fun s c =>
      if 15 < c.obj then .reject s 5 none
      else
        let old := s.latestInst (Fin.ofNat 16 c.obj)
        c.configure s instTable old (fun v => instRanges (fillProfile c old v)) (fun v => s.instJoint (fillProfile c old v))
          (fun _ => false) fun v => stageVerdict s 3 c.obj c.obj (fillProfile c old v) }

/-- INSTANCE_CONFIG (R310 to R312, R323, R464). -/
def execInstanceConfig (hp : Fin 4) (mb : Fin 8) (s : State) : Out := s.omend hp mb instanceConfigForm

end Sys2Proof.Machine
end

