-- ==== Sys2Proof/Machine/CmdKeys.lean ====
section
/-! DEFINITION. Omend commands of the key store: KEY_LOAD to PAIR_KEY (R335 to R343, R402, R403, R464). -/

namespace Sys2Proof.Machine

/-! ### KEY_LOAD (R336, R337) -/

/-- TABLE of a key command's first word: whether it names the SA table. -/
def Cmd.keySa (c : Cmd) : Bool := bitAt (c.word 0) 0
/-- SLOT of a key command's first word. -/
def Cmd.keySlot (c : Cmd) : Nat := bitsOf (c.word 0) 13 8
/-- FORM of KEY_LOAD. -/
def Cmd.keyForm (c : Cmd) : Nat := bitsOf (c.word 0) 17 16
/-- Octets of parcel words from `i` on, in the order of R9. -/
def Cmd.bytesFrom (c : Cmd) (i : Nat) : List Byte := (c.w.drop i).flatMap wordBytes

/-- Whether the key or blob has the length that FORM and TABLE give it (R464). -/
def Cmd.keyLenFits (c : Cmd) : Bool :=
  c.len == 5 + (if c.keyForm = 0 then (if c.keySa then 8 else 16) else (if c.keySa then 14 else 22))

/-- The key and its attributes as the parcel names them (R336). -/
def Cmd.plainKey (c : Cmd) : KeyRecord :=
  { keyId := c.word 1, expiry := c.wide 2, spp := if c.keySa then bitsOf (c.word 0) 31 24 else 0, alg := if c.keySa then c.word 4 else 0,
    key := c.bytesFrom 5 }

/-- The active sends a loaded key to its follower, wrapped under the pair key (R402, R403). -/
def State.replKey (s : State) (sa : Bool) (slot : Fin 64) (r : KeyRecord) : State :=
  match s.auth.pairKey with
  | some k => s.repl (.keyLoad sa slot (Config.keyWrap k (r.octets sa)))
  | none => s

/-- KEY_LOAD. -/
def keyLoadForm : CmdForm :=
  { op := 0x70, handled := false, follower := true, results := 0, shape := fun _ c => c.keyLenFits, rights := needs .keys, wipe := some 5,
    body := fun s c =>
      let sa := c.keySa
      let slot : Fin 64 := Fin.ofNat 64 c.keySlot
      let plain := c.keyForm == 0
      if !sa && 3 < c.keySlot then .reject s 5 none
      else if c.keyForm = 3 then .reject s 6 (some 0)
      else if plain && 2 ^ 48 ≤ c.wide 2 then .reject s 6 (some 2)
      else if plain && sa && 1 < c.word 4 then .reject s 6 (some 4)
      else
        match s.checkLoad sa slot c.keyForm c.plainKey (c.bytesFrom 5) with
        | .error e => refuse (s.keyRefused sa slot e) e
        | .ok r => .done ((s.storeKey sa slot c.keyForm r).replKey sa slot r) [] }

/-- KEY_LOAD (R336, R337, R464). -/
def execKeyLoad (hp : Fin 4) (mb : Fin 8) (s : State) : Out := s.omend hp mb keyLoadForm

/-! ### KEY_STATE, KEY_WRAP, ZEROISE, PAIR_KEY (R337, R341 to R343, R403) -/

/-- KEY_STATE. -/
def keyStateForm : CmdForm := { plainForm 0x71 2 0 (needs .keys) (fun s c =>
  let sa := c.keySa
  let slot : Fin 64 := Fin.ofNat 64 c.keySlot
  if !sa && 3 < c.keySlot then .reject s 5 none
  else if 1 < c.word 1 then .reject s 6 (some 1)
  else
    match s.changeKey sa slot (c.word 1 == 0) with
    | .error e => refuse (s.keyRefused sa slot e) e
    | .ok t => .done (t.replState sa slot) []) with follower := true }

/-- KEY_STATE (R337, R464). -/
def execKeyState (hp : Fin 4) (mb : Fin 8) (s : State) : Out := s.omend hp mb keyStateForm

/-- Words from octets, lowest first (R9). -/
def wordsOf : List Byte → List Word
  | a :: b :: c :: d :: l => (d ++ c ++ b ++ a) :: wordsOf l
  | _ => []

/-- The octets of the pair key's record: KIND 3, everything else 0, then the key (R464). -/
def pairRecord (key : List Byte) : List Byte := (3 : Byte) :: List.replicate 15 0 ++ key

/-- The record that KEY_WRAP wraps: a slot's, or the pair key's for TABLE 2 (R342, R464). -/
def State.recordToWrap (s : State) (table : Nat) (slot : Fin 64) : Option (List Byte) :=
  if table = 2 then s.auth.pairKey.map pairRecord
  else
    let sa := table == 1
    let k := s.key sa slot
    if k.usable then some (KeyRecord.octets ⟨k.keyId, k.expiry, k.spp, k.alg, k.key⟩ sa) else none

/-- KEY_WRAP. -/
def keyWrapForm : CmdForm := { plainForm 0x72 1 22 (needs .keys) (fun s c =>
  let table := bitsOf (c.word 0) 1 0
  let slot : Fin 64 := Fin.ofNat 64 c.keySlot
  let no := fun e => refuse (s.keyRefused (table == 1) slot e) e
  if table = 0 && 3 < c.keySlot then .reject s 5 none
  else if table = 3 then .reject s 6 (some 0)
  else if !s.auth.kekEnabled then no 4
  else
    match s.recordToWrap table slot with
    | none => no 7
    | some r => .done s (wordsOf (Config.keyWrap Config.deviceKey r))) with follower := true }

/-- KEY_WRAP (R341, R342, R464). -/
def execKeyWrap (hp : Fin 4) (mb : Fin 8) (s : State) : Out := s.omend hp mb keyWrapForm

/-- ZEROISE. -/
def zeroiseForm : CmdForm := { plainForm 0x73 0 0 (needs .keys) (fun s _ => .done ((s.zeroiseKeys 0).repl .zeroise) []) with follower := true }

/-- ZEROISE (R343, R464). -/
def execZeroise (hp : Fin 4) (mb : Fin 8) (s : State) : Out := s.omend hp mb zeroiseForm

/-- The pair key that a parcel carries: plain, or in a blob of KIND 3 under the device key (R403, R464). -/
def State.pairKeyOf (s : State) (c : Cmd) : Option (List Byte) :=
  if c.word 0 = 0 then some (c.bytesFrom 1)
  else
    match (s.wrapKey 1).bind fun k => Config.keyUnwrap k (c.bytesFrom 1) with
    | some b => if b.length = 48 && b.take 16 == pairRecord [] then some (b.drop 16) else none
    | none => none

/-- PAIR_KEY. -/
def pairKeyForm : CmdForm :=
  { op := 0x74, handled := false, follower := false, results := 0, shape := fun _ c => c.len == (if c.word 0 = 0 then 9 else 15),
    rights := needs .keys, wipe := some 1,
    body := fun s c =>
      if 1 < c.word 0 then .reject s 6 (some 0)
      else
        match s.pairKeyOf c with
        | some k => .done (({ s with auth.pairKey := some k } : State).followNoKey) []
        | none => refuse s 4 }

/-- PAIR_KEY (R403, R464). -/
def execPairKey (hp : Fin 4) (mb : Fin 8) (s : State) : Out := s.omend hp mb pairKeyForm

end Sys2Proof.Machine
end

