-- ==== Sys2Proof/Machine/CmdTwin.lean ====
section
/-! DEFINITION. Omend commands of the twin: TWIN_CONFIG to TWIN_WITNESS (R394, R401, R410, R412, R415, R417, R464). -/

namespace Sys2Proof.Machine

/-- The twin's settings as the latest accepted command left them (R394). -/
def State.latestTwin (s : State) : Cfg :=
  match s.twin.nextCfg with
  | some c => (s.twin.cfg.set Ix.twinUnitId (c.at Ix.twinUnitId)).set Ix.twinMode (c.at Ix.twinMode)
  | none => s.twin.cfg

/-- Whether the first octet of an address marks a group (R394). -/
def groupAddress (v : Int) : Bool := bitAt v.toNat 40

/-- Whether a port of a pair has no MCAST entry left for HB_GROUP (R266, R394). -/
def State.groupsFull (s : State) (q : Fin 4) : Bool :=
  decide (16 ≤ (s.latestPort (lanA q)).nat Ix.portMcastCount) || decide (16 ≤ (s.latestPort (lanB q)).nat Ix.portMcastCount)

/-- Settings come into force; an ACTIVE unit keeps UNIT_ID and MODE until it has left ACTIVE (R394). -/
def State.configTwin (s : State) (v : Cfg) : State :=
  if s.twin.role == .active then
    { s with twin.cfg := (v.set Ix.twinUnitId (s.twin.cfg.at Ix.twinUnitId)).set Ix.twinMode (s.twin.cfg.at Ix.twinMode),
             twin.nextCfg := some v }
  else { s with twin.cfg := v }

/-- TWIN_CONFIG. -/
def twinConfigForm : CmdForm :=
  { op := 0x80, handled := false, follower := false, results := 0, shape := fun _ c => c.rowsFit twinTable, rights := needs .twin,
    wipe := none,
    body := fun s c =>
      if 0 < c.obj then .reject s 5 none
      else
        c.configure s twinTable s.latestTwin
          (fun v => [(2, groupAddress (v.at Ix.twinUnitMac)),
            (4, v.at Ix.twinHbGroup != 0 && (!groupAddress (v.at Ix.twinHbGroup) || s.groupsFull (Fin.ofNat 4 (v.nat Ix.twinHbPair))))])
          (fun _ => []) (fun _ => !s.sys.straps.twinEn) fun v => .done ((s.configTwin v).followTwin) [] }

/-- TWIN_CONFIG (R394, R417, R464). -/
def execTwinConfig (hp : Fin 4) (mb : Fin 8) (s : State) : Out := s.omend hp mb twinConfigForm

/-- Whether a calibration on a slot may start (R401). -/
def State.mayCalibrate (s : State) (i : Fin 16) : Bool :=
  s.twin.role == .standby && s.wv.slots[i].cfg.flag Ix.slotEnable && timeKind s.wv.slots[i].kind && s.bothQualified i &&
    s.twin.linkUp && s.twin.calibrating.isNone

/-- TWIN_CALIBRATE. -/
def twinCalibrateForm : CmdForm := { plainForm 0x81 2 3 (needs .twin) (fun s c =>
  if 15 < c.word 0 then .reject s 5 none
  else if c.word 1 < 60 || 86400 < c.word 1 then .reject s 6 (some 1)
  else
    let i : Fin 16 := Fin.ofNat 16 (c.word 0)
    if s.mayCalibrate i then
      .accept s none 0 [] 0 [] fun id t =>
        { t with twin.calibrating := some (i, t.sys.cyc, c.word 1, id), twin.calSamples := [] }
    else .reject (s.raise Flt.twinCalFail i.val) 8 none) with handled := true }

/-- TWIN_CALIBRATE (R401, R464). -/
def execTwinCalibrate (hp : Fin 4) (mb : Fin 8) (s : State) : Out := s.omend hp mb twinCalibrateForm

/-- Whether the peer is STANDBY with ELIGIBLE (R410). -/
def State.peerEligible (s : State) : Bool := s.twin.peer.valid && s.twin.peer.role == Role.code .standby && bitAt s.twin.peer.flags 2

/-- TWIN_HANDOVER: the next heartbeat is the last of the active. -/
def twinHandoverForm : CmdForm := { plainForm 0x82 0 1 (needs .twin) (fun s _ =>
  if s.twin.role == .active && s.peerEligible && s.twin.handover.isNone then
    .accept s none 0 [] 0 [] fun id t => { t with twin.handover := some id }
  else .reject s 8 none) with handled := true }

/-- TWIN_HANDOVER (R410, R464). -/
def execTwinHandover (hp : Fin 4) (mb : Fin 8) (s : State) : Out := s.omend hp mb twinHandoverForm

/-- TWIN_ADMIT. -/
def twinAdmitForm : CmdForm := plainForm 0x83 0 0 (needs .twin) fun s _ =>
  if s.admitReady then .done ((s.setRole .standby).followTwin) [] else .reject s 8 none

/-- TWIN_ADMIT (R415, R464). -/
def execTwinAdmit (hp : Fin 4) (mb : Fin 8) (s : State) : Out := s.omend hp mb twinAdmitForm

/-- Whether a query for an EPOCH is open (R412). -/
def State.queryOpen (s : State) (epoch : Nat) : Bool :=
  (match s.twin.vote with
   | some (e, _) => e == epoch
   | none => false) && s.twin.voteAnswer.isNone

/-- TWIN_WITNESS: only the witness port may answer. -/
def twinWitnessForm : CmdForm := plainForm 0x84 2 0 (fun s c => s.twin.witness == some c.hp) fun s c =>
  if 1 < c.word 1 then .reject s 6 (some 1)
  else if s.queryOpen (c.word 0) then .done (s.witnessAnswer (c.word 1 == 1)) []
  else .reject s 8 none

/-- TWIN_WITNESS (R412, R464). -/
def execTwinWitness (hp : Fin 4) (mb : Fin 8) (s : State) : Out := s.omend hp mb twinWitnessForm

end Sys2Proof.Machine
end

