-- ==== Sys2Proof/Machine/CmdGrid.lean ====
section
/-! DEFINITION. Omend commands of the grid monitor and the converter ports: GRID_CONFIG to CP_WRITE (R364, R365, R374, R381, R383, R385, R388, R462, R464). -/

namespace Sys2Proof.Machine

/-! ### Grid (R364, R365, R374) -/

/-- UF_LIMIT and OF_LIMIT follow NOMINAL until a command sets them (R364, R461). -/
def fillLimits (unset : Bool) (v : Cfg) : Cfg :=
  if !unset then v
  else if v.flag Ix.feedNominal then v.setAll [(Ix.feedUfLimit, 1003277517), (Ix.feedOfLimit, 1009988404)]
  else v.setAll [(Ix.feedUfLimit, 835505357), (Ix.feedOfLimit, 842216244)]

/-- Whether the command changes the sender's own PORT_MASK bit of a feed only (R364, R426). -/
def State.ownFeedBit (s : State) (c : Cmd) : Bool :=
  c.mask == 2 ^ 16 && decide (c.obj < 6) &&
    let v := c.word 3 ^^^ (s.latestFeed (Fin.ofNat 6 c.obj)).nat Ix.feedPortMask
    v == 0 || v == 2 ^ c.hp.val

/-- Whether an edge feed's channel is held otherwise (R119, R212, R365). -/
def State.feedClash (s : State) (f : Fin 6) (v : Cfg) : Bool :=
  let ch := v.nat Ix.feedChannel
  clash (feedDemand v ch) (s.slotDemands none ch ++ s.pinDemands ch ++ s.feedDemands (some f) ch)

/-- GRID_CONFIG. -/
def gridConfigForm : CmdForm :=
  { op := 0x90, handled := true, follower := false, results := 1, shape := fun _ c => c.rowsFit feedTable,
    rights := fun s c => s.may c.hp .grid || s.ownFeedBit c, wipe := none,
    body := fun s c =>
      if 5 < c.obj then .reject s 5 none
      else
        let f : Fin 6 := Fin.ofNat 6 c.obj
        let fill := fillLimits (!s.feeds[f].limitsSet && !c.has 11)
        c.configure s feedTable (s.latestFeed f) (fun _ => []) (fun v => [(s.feedClash f v, [2, 1, 0, 3])]) (fun _ => false) fun v =>
          stageVerdict (s.mapFeed f fun x => { x with limitsSet := x.limitsSet || c.has 11 }) 4 c.obj c.obj (fill v) }

/-- GRID_CONFIG (R364, R365, R464). -/
def execGridConfig (hp : Fin 4) (mb : Fin 8) (s : State) : Out := s.omend hp mb gridConfigForm

/-- A feed's grid-time epoch: the cycles since S0 at the last crossing, or, before any, a gap that starts at S0 (R374). -/
def Feed.setEpoch (x : Feed) (s0 gte0 : Int) : Feed :=
  let y : Feed := { x with epochS0 := s0, gte0 := gte0, gteValid := true, gap := none, cycles := 0 }
  match x.lastCross, x.fit with
  | some (_, t), some g => { y with cycles := ((t - s0 * secFrac : Int) : Rat) / g.b }
  | _, _ => { y with gap := some (s0 * secFrac, x.nominal) }

/-- GRID_TIME: S0 must have been reached. -/
def gridTimeForm : CmdForm := plainForm 0x91 5 0 (needs .grid) fun s c =>
  if 5 < c.word 0 then .reject s 5 none
  else if 2 ^ 48 ≤ c.wide 1 || s.now < (c.wide 1 : Int) * secFrac then .reject s 6 (some 1)
  else .done (s.mapFeed (Fin.ofNat 6 (c.word 0)) fun x => x.setEpoch (c.wide 1) (c.wideSigned 3)) []

/-- GRID_TIME (R374, R464). -/
def execGridTime (hp : Fin 4) (mb : Fin 8) (s : State) : Out := s.omend hp mb gridTimeForm

/-! ### CP_CONFIG (R381) -/

/-- The settings of a converter port that its latest accepted command asks for. -/
def State.latestCp (s : State) (n : Fin 8) : Cfg := s.latest 0x92 n.val s.cps[n].staged

/-- A ring as the first byte and the byte after its last; none without blocks. -/
def rxRing (c : Cfg) : Option (Nat × Nat) :=
  if c.nat Ix.cpRxBlocks = 0 then none else some (c.nat Ix.cpRxBase, c.nat Ix.cpRxBase + c.nat Ix.cpRxBlocks * rxBlockBytes c)
/-- The transmit ring. -/
def txRing (c : Cfg) : Option (Nat × Nat) :=
  if c.nat Ix.cpTxBlocks = 0 then none else some (c.nat Ix.cpTxBase, c.nat Ix.cpTxBase + c.nat Ix.cpTxBlocks * txBlockBytes c)

/-- Whether two rings share a byte. -/
def ringsMeet (a b : Option (Nat × Nat)) : Bool :=
  match a, b with
  | some x, some y => x.1 < y.2 && y.1 < x.2
  | _, _ => false

/-- Whether a ring runs past the 512 KiB buffer. -/
def ringPast (a : Option (Nat × Nat)) : Bool :=
  match a with
  | some x => 524288 < x.2
  | none => false

/-- The rings of the other ports, as applied and as accepted. -/
def State.otherRings (s : State) (n : Fin 8) : List (Option (Nat × Nat)) :=
  (List.finRange 8).flatMap fun m =>
    if m = n then [] else [rxRing s.cps[m].cfg, txRing s.cps[m].cfg, rxRing (s.latestCp m), txRing (s.latestCp m)]

/-- The joint rules of a converter port's settings. -/
def State.cpJoint (s : State) (n : Fin 8) (v : Cfg) : List (Bool × List Nat) :=
  let bad := fun r other => ringPast r || ringsMeet r other || (s.otherRings n).any fun o => ringsMeet r o
  let os := s.latestSynth 2
  let clock : Rat := fVco os / ((os.at Ix.synthConvDiv : Rat) * (v.at Ix.cpBdiv : Rat))
  [(bad (rxRing v) (txRing v), [9, 7, 8]), (bad (txRing v) (rxRing v), [10, 7, 8]),
   (!v.flag Ix.cpClkMode && 25000000 < clock, [3, 2])]

/-- CP_CONFIG. -/
def cpConfigForm : CmdForm :=
  { op := 0x92, handled := true, follower := false, results := 2, shape := fun _ c => c.rowsFit cpTable, rights := needs .converter,
    wipe := none,
    body := fun s c =>
      if 7 < c.obj then .reject s 5 none
      else
        let n : Fin 8 := Fin.ofNat 8 c.obj
        c.configure s cpTable (s.latestCp n)
          (fun v => [(9, v.at Ix.cpRxBase % 16 != 0), (10, v.at Ix.cpTxBase % 16 != 0)]) (s.cpJoint n) (fun _ => false) fun v =>
            stageVerdict s 4 c.obj c.obj v }

/-- CP_CONFIG (R381, R464). -/
def execCpConfig (hp : Fin 4) (mb : Fin 8) (s : State) : Out := s.omend hp mb cpConfigForm

/-! ### CP_START and CP_STOP (R388) -/

/-- The ports of a mask. -/
def portsOf (mask : Nat) : List (Fin 8) := (List.finRange 8).filter fun n => bitAt mask n.val

/-- The starts of ports of the mask that still wait are cancelled, and their commands superseded (R463). -/
def State.cancelStarts (s : State) (l : List (Fin 8)) : State :=
  let ids := (l.filterMap fun n => s.cps[n].startAt.map Prod.snd).dedup
  let s1 : State := { s with cps := s.cps.map fun x =>
    match x.startAt with
    | some (_, id) => if ids.contains id then { x with startAt := none, waiting := false } else x
    | none => x }
  s1.each ids fun t id => t.complete id 0x00A []

/-- Why a common start is refused (R388, R464). -/
def State.startReason (s : State) (l : List (Fin 8)) (at_ : Nat) : Option Nat :=
  let ahead := (at_ : Int) * secFrac - s.now
  if l.any fun n => s.cps[n].running || s.cps[n].cfg.flag Ix.cpClkMode then some 1
  else if l.any fun n => (s.frameRate s.cps[n].cfg).den != 1 then some 2
  else if s.outs.os[2].lock != .locked then some 3
  else if ahead < 2 * secFrac || 86400 * secFrac < ahead then some 4
  else none

/-- CP_START. -/
def cpStartForm : CmdForm := { plainForm 0x93 3 0 (needs .converter) (fun s c =>
  let l := portsOf (bitsOf (c.word 0) 7 0)
  if l.any fun n => !s.cps[n].cfg.flag Ix.cpEnable then .reject s 8 none
  else
    match s.startReason l (c.wide 1) with
    | some r => refuse s r
    | none =>
      .accept s none 0 [] 0 [] fun id t =>
        let u := (t.cancelStarts l).each l fun u n => u.mapCp n fun x => { x with startAt := some (c.wide 1, id), waiting := true }
        if l.isEmpty then u.complete id 0 [] else u) with handled := true }

/-- CP_START (R388, R464). -/
def execCpStart (hp : Fin 4) (mb : Fin 8) (s : State) : Out := s.omend hp mb cpStartForm

/-- CP_STOP: running ports stop at their next block boundary; starts that wait are cancelled. -/
def cpStopForm : CmdForm := { plainForm 0x94 1 0 (needs .converter) (fun s c =>
  let l := portsOf (bitsOf (c.word 0) 7 0)
  .accept s none 0 [] 0 [] fun id t =>
    let u := (t.cancelStarts l).each (l.filter fun n => t.cps[n].running) fun u n =>
      u.mapCp n fun x => { x with stopCmds := x.stopCmds ++ [id] }
    u.stopsDone id) with handled := true }

/-- CP_STOP (R388, R464). -/
def execCpStop (hp : Fin 4) (mb : Fin 8) (s : State) : Out := s.omend hp mb cpStopForm

/-! ### CP_READ and CP_WRITE (R383, R385) -/

/-- The port of a converter data command. -/
def Cmd.cpPort (c : Cmd) : Fin 8 := Fin.ofNat 8 (c.word 0)

/-- The octets of `n` receive blocks from index `i` on. -/
def State.rxBlocks (s : State) (p : Fin 8) (i n : Nat) : List Byte :=
  let c := s.cps[p].cfg
  (List.range n).flatMap fun k => memReadBytes s.cpBuf (rxBlockAt c ((i + k) % 65536)) (rxBlockBytes c)

/-- Blocks held in a ring between two indices. -/
def heldBlocks (wr rd : BitVec 16) : Nat := (wr - rd).toNat

/-- CP_READ. -/
def cpReadForm : CmdForm :=
  { op := 0x95, handled := false, follower := false, results := 1,
    shape := fun s c => c.len == 4 && regionFits (c.word 3) (if c.word 0 < 8 then c.word 2 * rxBlockBytes s.cps[c.cpPort].cfg else 0),
    rights := needsNone, wipe := none,
    body := fun s c =>
      let x := s.cps[c.cpPort]
      if 7 < c.word 0 then .reject s 5 none
      else if 0xFFFF < c.word 1 || heldBlocks x.rxWr x.rxRd < (c.word 1 + 65536 - x.rxRd.toNat) % 65536 + c.word 2 then .reject s 8 none
      else .done (s.copyOut c.hp (c.word 3) (s.rxBlocks c.cpPort (c.word 1) (c.word 2))) [loWord (c.word 2 * rxBlockBytes x.cfg)] }

/-- CP_READ (R385, R464). -/
def execCpRead (hp : Fin 4) (mb : Fin 8) (s : State) : Out := s.omend hp mb cpReadForm

/-- Transmit blocks are written from CPn_TX_WR on. -/
def State.writeTxBlocks (s : State) (hp : Fin 4) (p : Fin 8) (n src : Nat) : State :=
  let c := s.cps[p].cfg
  let size := txBlockBytes c
  { s with cpBuf := (List.range n).foldl (fun m k =>
      memWriteBytes m (txBlockAt c ((s.cps[p].txWr.toNat + k) % 65536)) (memReadBytes s.hosts[hp].parcel (4 * src + k * size) size)) s.cpBuf }

/-- CP_WRITE. -/
def cpWriteForm : CmdForm :=
  { op := 0x96, handled := false, follower := false, results := 1,
    shape := fun s c => c.len == 3 && regionFits (c.word 2) (if c.word 0 < 8 then c.word 1 * txBlockBytes s.cps[c.cpPort].cfg else 0),
    rights := needs .converter, wipe := none,
    body := fun s c =>
      let x := s.cps[c.cpPort]
      if 7 < c.word 0 then .reject s 5 none
      else if x.cfg.nat Ix.cpTxBlocks < heldBlocks x.txWr x.txRd + c.word 1 then .reject s 8 none
      else .done (s.writeTxBlocks c.hp c.cpPort (c.word 1) (c.word 2)) [loWord x.txWr.toNat] }

/-- CP_WRITE (R385, R464). -/
def execCpWrite (hp : Fin 4) (mb : Fin 8) (s : State) : Out := s.omend hp mb cpWriteForm

end Sys2Proof.Machine
end

