-- ==== Sys2Proof/Machine/CmdLog.lean ====
section
/-! DEFINITION. Omend commands of faults, the log, counters and the firmware: FAULT_CLEAR to FW_COMMIT, and what the flash reports (R497, R498, R502, R510 to R513, R530, R531, R464). -/

namespace Sys2Proof.Machine

/-! ### Faults and the log (R497, R498, R502, R510) -/

/-- FAULT_CLEAR. -/
def faultClearForm : CmdForm := plainForm 0xA0 0 1 (needs .log) fun s _ => .done s.faultClear [s.faultClear.fltFirst]

/-- FAULT_CLEAR (R502, R464). -/
def execFaultClear (hp : Fin 4) (mb : Fin 8) (s : State) : Out := s.omend hp mb faultClearForm

/-- A kind's reaction is written (R497). -/
def State.setReaction (s : State) (k : FaultKind) (r : Nat) : State :=
  { s with flt.react := ((k.source, k.kind), r) :: s.flt.react.filter (·.1 != (k.source, k.kind)) }

/-- FAULT_REACTION. -/
def faultReactionForm : CmdForm := plainForm 0xA1 2 0 (needs .log) fun s c =>
  let r := c.word 1
  match findKind (bitsOf (c.word 0) 7 0) (bitsOf (c.word 0) 13 8) with
  | none => .reject s 5 none
  | some k =>
    if 0x1F < r then .reject s 6 (some 1)
    else if fixedReaction k then .reject s 7 (some 0)
    else if (k == Flt.boundHigh || k == Flt.boundUnknown) && bitAt r 2 then .reject s 7 (some 1)
    else .done (s.setReaction k r) []

/-- FAULT_REACTION (R497, R498, R464). -/
def execFaultReaction (hp : Fin 4) (mb : Fin 8) (s : State) : Out := s.omend hp mb faultReactionForm

/-- The entries that LOG_READ copies: from the named index or the oldest held, up to the count, LOG_WR or 1,920 (R510). -/
def TroubleLog.pick (l : TroubleLog) (first count : Nat) : List (Nat × List Word) :=
  ((l.entries.reverse.filter fun e => first ≤ e.1)).take (min count 1920)

/-- LOG_READ. -/
def logReadForm : CmdForm :=
  { op := 0xA2, handled := false, follower := false, results := 2,
    shape := fun _ c => c.len == 3 && regionFits (c.word 2) (32 * min (c.word 1) 1920), rights := needsNone, wipe := none,
    body := fun s c =>
      let l := s.log.pick (c.word 0) (c.word 1)
      .done (s.copyOut c.hp (c.word 2) (l.flatMap fun e => e.2.flatMap wordBytes)) [loWord l.length, s.log.oldest] }

/-- LOG_READ (R510, R464). -/
def execLogRead (hp : Fin 4) (mb : Fin 8) (s : State) : Out := s.omend hp mb logReadForm

/-! ### Counters (R511 to R513) -/

/-- COUNTER_PERMIT. -/
def counterPermitForm : CmdForm := plainForm 0xA3 1 0 (needs .log) fun s c =>
  if 0xF < c.word 0 then .reject s 6 (some 0) else .done { s with perf.permit := c.word 0 } []

/-- COUNTER_PERMIT (R512, R464). -/
def execCounterPermit (hp : Fin 4) (mb : Fin 8) (s : State) : Out := s.omend hp mb counterPermitForm

/-- COUNTER_WINDOW: at the next window boundary. -/
def counterWindowForm : CmdForm := plainForm 0xA4 1 0 (needs .log) fun s c =>
  if c.word 0 = 0 || 10000 < c.word 0 then .reject s 6 (some 0) else .done { s with perf.nextWindow := c.word 0 } []

/-- COUNTER_WINDOW (R511, R464). -/
def execCounterWindow (hp : Fin 4) (mb : Fin 8) (s : State) : Out := s.omend hp mb counterWindowForm

/-- COUNTER_DUMP: the sender's own ring. -/
def counterDumpForm : CmdForm := plainForm 0xA5 4 0 needsNone fun s c =>
  if 3600 < c.word 0 then .reject s 6 (some 0)
  else if c.wide 1 % 4096 ≠ 0 then .reject s 6 (some 1)
  else if c.word 3 < 2 || 4096 < c.word 3 then .reject s 6 (some 3)
  else if 2 ≤ c.hp.val then .reject s 8 none
  else
    .done (s.mapHost c.hp fun h =>
      { h with dumpInterval := c.word 0, dumpDue := s.sys.cyc + c.word 0 * secCyc, dumpBase := c.wide 1, dumpEntries := c.word 3 }) []

/-- COUNTER_DUMP (R513, R464). -/
def execCounterDump (hp : Fin 4) (mb : Fin 8) (s : State) : Out := s.omend hp mb counterDumpForm

/-! ### Firmware (R530, R531) -/

/-- The update area (R530). -/
def Mram.updateArea (m : Mram) : Area := if m.activeArea = some .a then .b else .a

/-- Bytes of an area of the flash: 8 MiB (R521). -/
def areaBytes : Nat := 2 ^ 23

/-- A write at offset 0 starts a new image (R530). -/
def State.startImage (s : State) : State :=
  { s with flash := { s.flash with started := true, highest := 0, erased := [] },
           mram.trialArea := if s.mram.trialArea = some s.mram.updateArea then none else s.mram.trialArea }

/-- The highest offset already written of the image under way. -/
def State.writtenTo (s : State) (offset : Nat) : Nat := if offset = 0 then 0 else s.flash.highest

/-- FW_WRITE: it completes once the data is in the flash. -/
def fwWriteForm : CmdForm :=
  { op := 0xB0, handled := false, follower := false, results := 1,
    shape := fun _ c => c.len == 3 && regionFits (c.word 2) (c.word 1), rights := needs .firmware, wipe := none,
    body := fun s c =>
      let n := c.word 1
      if areaBytes < c.word 0 + n then .reject s 6 (some 0)
      else if n % 4 ≠ 0 then .reject s 6 (some 1)
      else if c.word 0 < s.writtenTo (c.word 0) then .reject s 7 (some 0)
      else if s.handled.any fun h => h.op == 0xB1 then .reject s 8 none
      else
        let s1 := if c.word 0 = 0 then s.startImage else s
        .later { s1 with flash.writing := some ⟨c.hp, c.mb, c.ofs, c.word 0, memReadBytes s.hosts[c.hp].parcel (4 * c.word 2) n, false⟩ } }

/-- FW_WRITE (R530, R464). -/
def execFwWrite (hp : Fin 4) (mb : Fin 8) (s : State) : Out := s.omend hp mb fwWriteForm

/-- The 4 KiB sectors that a write reaches. -/
def sectorsOf (offset n : Nat) : List Nat :=
  if n = 0 then [] else (List.range ((offset + n - 1) / 4096 + 1 - offset / 4096)).map fun i => offset / 4096 + i

/-- A sector erased: each of its bytes is as in an erased flash. -/
def eraseSector (m : List Host.Cell) (sec : Nat) : List Host.Cell := m.filter fun c => c.1 / 4096 != sec

/-- A byte programmed: programming only clears bits, and a cell holds the bits that are cleared. -/
def programByte (m : List Host.Cell) (a : Nat) (v : Byte) : List Host.Cell := memWrite m a (memRead m a ||| ~~~v)

/-- Bytes programmed from `a` up. -/
def programBytes (m : List Host.Cell) (a : Nat) : List Byte → List Host.Cell
  | [] => m
  | v :: l => programBytes (programByte m a v) (a + 1) l

/-- The data of a write reaches an area, each sector erased when a write first reaches it (R530). -/
def Flash.program (f : Flash) (ar : Area) (w : FlashWrite) : Flash :=
  let fresh := (sectorsOf w.offset w.data.length).filter fun i => f.started && !f.erased.contains i
  let put := fun m => programBytes (fresh.foldl eraseSector m) w.offset w.data
  let g : Flash := { f with highest := max f.highest (w.offset + w.data.length), erased := fresh ++ f.erased, writing := none }
  match ar with
  | .a => { g with areaA := put f.areaA }
  | .b => { g with areaB := put f.areaB }
  | .golden => g

/-- FW_WRITE_DONE (R530): the data is in the flash, and the command completes. -/
def execFwWriteDone (s : State) : Out :=
  match s.flash.writing with
  | none => .next s
  | some w =>
    let s1 : State := { s with flash := s.flash.program s.mram.updateArea w }
    .next (if w.orphan then s1
      else (s1.writeResult w.hp w.ofs [loWord w.data.length]).reply w.hp w.mb (replyWord 3 0 0))

/-- FW_COMMIT. -/
def fwCommitForm : CmdForm := { plainForm 0xB1 1 1 (needs .firmware) (fun s c =>
  .accept s none 0 [(c.word 0 : Int)] 0 [] fun _ t => t) with handled := true }

/-- FW_COMMIT (R531, R464). -/
def execFwCommit (hp : Fin 4) (mb : Fin 8) (s : State) : Out := s.omend hp mb fwCommitForm

/-- Whether the image read back may boot (R523, R531). -/
def State.commitPasses (s : State) (valid : Bool) (hdr : ImageHdr) (len : Int) : Bool :=
  valid && (s.rejects s.mram.updateArea hdr none).isNone && len == (512 + hdr.imageLen : Nat) && s.sys.xinCode == some hdr.xinCode

/-- FW_COMMIT_DONE (R531): the oldest FW_COMMIT has been verified. -/
def execFwCommitDone (valid : Bool) (hdr : ImageHdr) (s : State) : Out :=
  match s.handled.find? (·.op == 0xB1) with
  | none => .next s
  | some h =>
    if s.commitPasses valid hdr (h.data.getD 0 0) then
      .next (({ s with mram.trialArea := some s.mram.updateArea, mram.tried := false } : State).complete h.id 0 [hdr.version])
    else .next (s.complete h.id 0x00B [])

end Sys2Proof.Machine
end

