-- ==== Sys2Proof/Machine/Flags.lean ====
section
/-! DEFINITION. The status words of the host window: the fields of every status register, computed from the state (R71, R72, R113, R151, R188, R226, R264, R296, R333, R362, R390, R419, R453, R487, R515). -/

namespace Sys2Proof.Machine

/-- A register of fields, each its value and the place of its lowest bit (R8); bits that no field holds read 0 (R13). -/
def fields (l : List (Nat × Nat)) : Word := BitVec.ofNat 32 (l.foldl (fun n e => n + e.1 * 2 ^ e.2) 0)

/-- A saturating field (R113, R151, R187, R264). -/
def satField (w n : Nat) : Nat := min (2 ^ w - 1) n

/-- An unsigned 32-bit value that saturates. -/
def satWord (i : Int) : Word := BitVec.ofNat 32 (saturate 0xFFFFFFFF i)

/-- A root whose rounding the spec leaves open: the integer below or the one above. -/
def looseSqrt (x : Rat) : Int :=
  let r : Int := Nat.sqrt x.floor.toNat
  if (r : Rat) * r = x then r else if Config.roundUp x.num x.den then r + 1 else r

/-- Whole seconds since a CYC (R6). -/
def State.secondsSince (s : State) (c : Nat) : Nat := (s.sys.cyc - c) / secCyc

/-! ### System and update groups (R487) -/

/-- SYS_STATUS. -/
def State.sysStatus (s : State) : Word :=
  fields [(s.sys.engine.code, 0), (s.twin.role.code, 4), (b2n s.sys.resetOnly, 8), (b2n s.sys.fallback, 9)]

/-- SYS_STRAPS. -/
def State.sysStraps (s : State) : Word :=
  fields [(s.sys.straps.bootsel.val, 0), (s.sys.straps.ownerSel.val, 4), (b2n s.sys.straps.monEn, 8), (b2n s.sys.straps.twinEn, 9)]

/-- UGg_EPOCH. -/
def State.groupEpoch (s : State) (g : Fin 8) : Word := fields [(s.groups[g].epoch.toNat, 0), (s.groups[g].applied.toNat, 16)]

/-- DW_CTRL of a port; LOCKDOWN is the same bit in every port's (R490). -/
def State.dwCtrl (s : State) (hp : Fin 4) : Word := fields [(b2n s.hosts[hp].dwAutoInc, 0), (b2n s.direct.lockdown, 8)]

/-- DW_STATUS of a port. -/
def State.dwStatus (s : State) (hp : Fin 4) : Word := fields [(b2n s.hosts[hp].dwErr, 0), (b2n s.direct.lockdown, 4)]

/-! ### Host port (R453) -/

/-- HP_ID. -/
def State.hpId (s : State) (hp : Fin 4) : Word :=
  fields [(hp.val, 0), (s.sys.owner.val, 4), (b2n (s.sys.owner == hp), 6), (b2n (s.twin.cfg.at Ix.twinWitness == hp.val), 7)]

/-- Flags as the bits of a number, the first in bit 0. -/
def flagBits {n : Nat} (v : Vector Bool n) : Nat := v.toList.foldr (fun b k => b2n b + 2 * k) 0

/-- MB_STATUS. -/
def HostPort.mbStatus (h : HostPort) : Word := fields [(flagBits h.imbFull, 0), (flagBits h.ombFull, 8), (h.imbColl.toNat, 16)]

/-- COUNT and OVERFLOW of a queue, OVERFLOW at bit `b` (R113, R296, R390, R453). -/
def Queue.status (q : Queue) (b : Nat) : Word := fields [((q.wr - q.rd).toNat, 0), (b2n q.overflow, b)]

/-- LOCK_HOLDER_LO or LOCK_HOLDER_HI: the holders of eight locks from lock `n` on (R452). -/
def State.lockHolder (s : State) (n : Nat) : Word :=
  fields ((List.range 8).map fun i =>
    ((match s.locks[(Fin.ofNat 16 (n + i))] with
      | some p => p.val + 1
      | none => 0), 4 * i))

/-! ### Time scale (R71, R72) -/

/-- TIME_STATUS. -/
def State.timeStatus (s : State) : Word :=
  fields [(b2n (s.bound.ts == unknownWord), 0), (b2n (s.sys.engine == .holdover), 1), (b2n (s.ts.smear.toList.any Smear.running), 2),
    (b2n s.ts.rateLimited.isSome, 3), (s.ts.leapPending.val, 4), (s.ts.stepCount.toNat, 8)]

/-- CAP_CTRL of a port. -/
def Capture.ctrl (c : Capture) : Word := fields [(b2n c.valid, 8), (b2n c.busy, 9), (c.count.toNat, 16)]

/-- UTC_OFFSET. -/
def State.utcWord (s : State) : Word := BitVec.ofNat 32 (twos 16 s.ts.utcOffset)

/-! ### TDC channels (R80, R113) -/

/-- Whether a TIO pin is driven as an output (R80, R225). -/
def State.tioDriven (s : State) (t : Fin 64) : Bool :=
  s.outs.pins[tioPin t].cfg.nat Ix.outMode != 0 && !s.outs.startupMute

/-- CHn_STATUS. -/
def State.chStatus (s : State) (n : Fin 88) : Word :=
  let c := s.tdc[n]
  let driven := if h : n.val < 64 then s.tioDriven ⟨n.val, h⟩ else false
  fields [(c.cfg.nat Ix.tdcMode, 0), (b2n c.lineB, 3), (b2n c.stale, 4), (b2n c.armed.isSome, 5), (b2n driven, 6),
    (c.fifo.length, 8), (c.cfg.nat Ix.tdcPortMask, 16)]

/-- CHn_CAL: CAL_SIGMA, whose rounding is open, and CAL_AGE. -/
def State.chCal (s : State) (n : Fin 88) : Word :=
  fields [(satField 12 (looseSqrt (s.calSquare n : Nat)).toNat, 0), (s.calAge n, 16)]

/-! ### Weathervane (R150, R151) -/

/-- REFn_STATUS. -/
def State.refStatus (s : State) (i : Fin 16) : Word :=
  let x := s.wv.slots[i]
  fields [(x.state.code, 0), (b2n (x.state == .disputed && x.freqDispute), 3), (x.cfg.nat Ix.slotRank, 4), (x.kind, 8),
    (b2n (x.cfg.flag Ix.slotEnable), 12), (b2n (s.wv.selected == some i), 13), (b2n x.forced, 14), (b2n x.stepBlocked, 15),
    (b2n (s.wv.aid == some i), 16), (x.cause, 20), (satField 8 (s.flapsOf x).length, 24)]

/-- REFn_TIMER: what is left of WTR or CONFIRM, in seconds, its rounding open (R150). DESIGN CHOICE (log entry 47): what is left above 65,535 s reads as 65,535, the field's largest value. -/
def State.refTimer (s : State) (i : Fin 16) : Word :=
  let x := s.wv.slots[i]
  let left := fun (c total : Nat) => satField 16 (looseRound (cycSeconds (((c + total * secCyc : Nat) : Int) - s.sys.cyc))).toNat
  match x.state, x.timerStart with
  | .qualifying, some c => if x.wtrDone then 0 else loWord (left c (x.cfg.nat Ix.slotWtr))
  | .disputed, some c => if x.freqDispute then 0 else loWord (left c (x.cfg.nat Ix.slotConfirm))
  | _, _ => 0

/-- WV_STATUS. -/
def State.wvStatus (s : State) : Word :=
  fields [((s.wv.selected.map Fin.val).getD 0, 0), (b2n s.wv.selected.isSome, 4), (b2n s.wv.switch.isSome, 5),
    ((s.wv.aid.map Fin.val).getD 0, 8), (b2n s.wv.aid.isSome, 12), (s.wv.switchCount.toNat, 16)]

/-! ### Steering and Forecast (R187, R188) -/

/-- LOOP_STATUS. -/
def State.loopStatus (s : State) : Word :=
  let l := s.loop
  fields [(l.phase.code, 0), (b2n l.slewLimited, 2), (b2n l.frozen.isSome, 3), (s.fc.use % 4, 4), (b2n l.aided, 6), (b2n s.onDeclared, 7),
    (l.cfg.nat Ix.steerTrackBw, 8)]

/-- LOOP_RESID, its rounding open. -/
def State.loopResid (s : State) : Word := saturateSigned (looseRound (s.loop.resid * 256))

/-- LOOP_HOLD. -/
def State.loopHold (s : State) : Word :=
  match s.loop.runStart with
  | some c => loWord (satField 24 (s.secondsSince c))
  | none => 0

/-- HOLD_TIME. -/
def State.holdTime (s : State) : Word :=
  if s.sys.engine = .holdover then satWord s.tauNow.floor else 0

/-- HOLD_SIGMA: σ_h at the last recomputation, its rounding open. -/
def State.holdSigmaWord (s : State) : Word := satWord (looseRound (s.bound.holdSigma * 256))

/-- FWf_STATUS. -/
def State.fwStatus (s : State) (f : Fin 3) : Word :=
  let w := s.fc.fw[f]
  fields [(b2n (w.configured f), 0), (b2n w.model.isSome, 1), (b2n w.ageStale, 2), (b2n w.gapStale, 3), (b2n w.restored, 4),
    (b2n (s.tempFallback f), 5), (b2n w.extrapolating, 6), (b2n w.lost, 7), (b2n w.excluded, 8), (b2n w.inUse, 9)]

/-- The predicted y_f in 2^-64, its rounding open. -/
def State.fwY (s : State) (f : Fin 3) : Int := looseRound (s.predict f * 2 ^ 64)

/-- FWf_UNC (R187), its rounding open; before INIT its reset value. -/
def State.fwUnc (s : State) (f : Fin 3) : Word := if s.afterBoot then satWord (looseSqrt (s.uLinNow f * 2 ^ 112)) else 0xFFFFFFFF

/-- FWf_TEMP, its rounding open; 0 before a reading. -/
def State.fwTemp (s : State) (f : Fin 3) : Word :=
  let w := s.fc.fw[f]
  if w.temp.isNone then 0 else saturateSigned (looseRound (w.tempC * 256))

/-- FWf_AGE. -/
def State.fwAge (s : State) (f : Fin 3) : Word :=
  match s.fc.fw[f].lastAccept with
  | some c => satWord (s.secondsSince c)
  | none => 0xFFFFFFFF

/-! ### Synthesizers and outputs (R225, R226) -/

/-- OSs_STATUS. -/
def State.osStatus (s : State) (o : Fin 4) : Word :=
  let x := s.outs.os[o]
  let walking := match x.align with
    | some (.walk _ _ _) => true
    | _ => false
  let stepping := match x.align with
    | some (.step _ _) => true
    | _ => false
  let lock := match x.lock with
    | .off => 0
    | .searching => 1
    | .locked => 2
    | .lost => 3
  fields [(lock, 0), (x.band.val, 2), (b2n (nearInteger x.cfg), 8), (b2n walking, 9), (b2n stepping, 10),
    (b2n (x.cfg.flag Ix.synthEnable && wholeHertz x.cfg), 11), (b2n (!s.hasApplied 1 o.val), 12), (x.relocks.toNat, 16)]

/-- OSs_MIS in 2^-16 ns, its rounding open. -/
def State.osMis (s : State) (o : Fin 4) : Int := looseRound (s.mis o)

/-- OSs_ALIGN_AT. -/
def State.osAlignAt (s : State) (o : Fin 4) : Word :=
  match s.outs.os[o].align with
  | some (.step at_ _) => loWord at_
  | _ => 0

/-- The pin of OUTn. -/
def outPin (n : Fin 16) : Fin 80 := ⟨n.val, by omega⟩

/-- OUTn_STATUS. -/
def State.outStatus (s : State) (n : Fin 16) : Word :=
  let p := s.outs.pins[outPin n]
  let mode := p.cfg.nat Ix.outMode
  fields [(mode, 0), (b2n (s.afterBoot && s.pinMuted (outPin n)), 2), (b2n (mode == 1 && s.outs.safe), 3), (b2n p.unknown, 4),
    (satField 8 p.verifyFails, 8)]

/-- OUTn_VSIGMA in 2^-16 ns, its rounding open. A CLOCK pin's is the 0.25 ps of R216; a pin that is off has none. -/
def State.outVsigma (s : State) (n : Fin 16) : Word :=
  let p := s.outs.pins[outPin n]
  if p.pulsed then satWord (looseSqrt (p.verifyVar * 2 ^ 32))
  else if p.cfg.nat Ix.outMode == 1 then satWord (looseSqrt (625 / 10000 / (1000 * 1000) * 2 ^ 32))
  else 0xFFFFFFFF

/-- TIO_OUT_LO or TIO_OUT_HI: 32 pins from TIO `t` on. -/
def State.tioOut (s : State) (t : Nat) : Word :=
  fields ((List.range 32).map fun i => (b2n (s.tioDriven (Fin.ofNat 64 (t + i))), i))

/-- OUTPUT_STATUS. -/
def State.outputStatus (s : State) : Word :=
  fields ([(b2n s.outs.startupMute, 0), (b2n s.outs.safe, 1)] ++
    (List.finRange 4).map fun o => (b2n s.outs.os[o].align.isSome, 4 + o.val))

/-! ### GNSS (R263, R264) -/

/-- GNSS_STATUS; MODE reads 0, as R264 gives it for reset, until the receiver starts at INIT (R33). -/
def State.gnssStatus (s : State) : Word :=
  let g := s.gnss
  let sol := match g.solution with
    | .none => 0
    | .valid => 1
    | .survey => 2
    | .integrity => 3

  fields [(if s.afterBoot then g.mode else 0, 0), (sol, 2), (b2n g.dualInUse, 4), (b2n g.jamming, 5), (b2n (g.spoofFlag != 0), 6), (b2n g.refresh, 7),
    (b2n g.dwell.isSome, 8), (g.sysUsed, 12)]

/-- GNSS_SATS. -/
def State.gnssSats (s : State) : Word :=
  let g := s.gnss
  fields [((g.chans.toList.filter fun c => c.state == .tracking).length, 0), (satField 8 g.usedCount, 8), (satField 8 g.exclCount, 16),
    (satField 8 (s.ephCount s.nowSec), 24)]

/-- SPOOF_STATUS. -/
def State.spoofStatus (s : State) : Word :=
  let g := s.gnss
  let pair := fun i : Nat => b2n (bitAt g.spoofRun i) + 2 * b2n (bitAt g.spoofFlag i)
  fields [(pair 0, 0), (pair 1, 2), (pair 2, 4), (satField 8 g.geoExcl, 8), (satField 8 g.geoResid, 16), (satField 8 g.constResid, 24)]

/-- SURVEY_TIME. -/
def State.surveyTime (s : State) : Word :=
  match s.gnss.surveyStart with
  | some c => loWord (satField 24 (s.secondsSince c))
  | none => 0

/-- SNAP_STATUS. -/
def State.snapStatus (s : State) : Word :=
  let p := s.gnss.snap
  let st := match p.state with
    | .empty => 0
    | .pending => 1
    | .capturing => 1
    | .held => 2
    | .processing => 3
  let holds := decide (2 ≤ st)
  fields [(st, 0), (if holds then p.streams else 0, 4), (if holds then p.length else 0, 8), (p.captures.toNat, 16)]

/-- STREAMs_STATUS. -/
def State.streamStatus (s : State) (i : Fin 4) : Word :=
  let x := s.gnss.streams[i]
  fields [(x.jn, 0), (b2n (x.healthy && x.cfg.flag Ix.streamEnable), 8), (b2n x.clip, 9), (flagBits (x.notches.map Option.isSome), 10),
    (satField 16 x.rms, 16)]

/-- STREAMs_NOTCH. -/
def State.streamNotch (s : State) (i : Fin 4) : Word :=
  let x := s.gnss.streams[i]
  fields ((List.finRange 4).map fun j => (twos 8 (x.notches[j].getD 0), 8 * j.val))

/-- GNSS_LEAP. -/
def State.gnssLeap (s : State) : Word :=
  fields [(twos 8 s.gnss.leapNow, 0), (twos 8 s.gnss.leapNext, 8), (b2n s.gnss.leapAnnounced, 16)]

/-- CHANc_A. -/
def GnssChan.wordA (c : GnssChan) : Word :=
  let st := match c.state with
    | .idle => 0
    | .pullIn => 1
    | .tracking => 2
    | .lost => 3
  match c.sat with
  | none => fields [(st, 14)]
  | some y =>
    fields [(y.sv.val, 0), (y.system.val, 6), (c.signal.val, 9), (b2n c.antB, 13), (st, 14), (b2n c.used, 16), (b2n c.excluded, 17),
      (satField 8 c.cn0, 24)]

/-- CHANc_B. -/
def GnssChan.wordB (c : GnssChan) : Word := fields [(twos 8 c.elevation, 0), (c.azimuth % 512, 8)]

/-! ### Ethernet ports (R295, R296) -/

/-- Pp_STATUS. -/
def State.portStatus (s : State) (p : Fin 8) : Word :=
  let x := s.ports[p]
  fields [(b2n x.linkUp, 0), (x.cfg.nat Ix.portSpeed, 1), (b2n (x.cfg.flag Ix.portFec), 3), (b2n (x.cfg.flag Ix.portTxClk), 4),
    (b2n (s.prpOn p), 5), (b2n x.hiBer, 6), (x.fault.val, 7), (b2n (!s.hasApplied 2 p.val), 9), (b2n x.fallback, 10),
    (x.linkDowns.toNat, 16)]

/-- Pp_PRP_STATUS. -/
def State.prpStatus (s : State) (q : Fin 4) : Word :=
  fields [(s.pairs[q].entries.length % 2 ^ 13, 0), (b2n s.pairs[q].singleLan, 13)]

/-! ### Time service (R332, R333) -/

/-- SQ_STATUS. -/
def State.sqStatus (s : State) : Word :=
  fields [(flagBits (s.svc.squall.map Squall.inDispatch), 0), (flagBits (s.svc.squall.map fun e => !e.inDispatch), 16)]

/-- CLASS and ACCURACY of an enabled instance: what it serves now (R66, R68, R321). -/
def State.instServed (s : State) (i : Fin 16) : Nat × Nat :=
  let x := s.svc.inst[i]
  let b := s.instBound i
  if !x.cfg.flag Ix.instEnable then (0, 0)
  else if x.cfg.flag Ix.instService then (x.clockClass, clockAccuracy b)
  else
    let li := s.ntpLeap x b s.now
    (if li = 3 then 16 else x.cfg.nat Ix.instStratum, li)

/-- INSTi_STATUS. -/
def State.instStatus (s : State) (i : Fin 16) : Word :=
  let x := s.svc.inst[i]
  let ptp := x.cfg.flag Ix.instService
  let ramp := !ptp && (match x.cfg.at Ix.instSmear with
    | 0 => s.ts.smear[0].running
    | 1 => s.ts.smear[1].running
    | 2 => s.ts.smear[2].running
    | 3 => s.ts.smear[3].running
    | _ => false)
  let masters := (List.finRange 8).map fun p => (b2n (s.ptpMaster i p), 8 + p.val)
  let passive := ptp && (List.finRange 8).any fun p => x.serves p && s.ptpPassive i p
  fields ([(b2n (x.cfg.flag Ix.instEnable), 0), (b2n ptp, 1), (x.cfg.nat Ix.instProfile, 2), (b2n (s.leapWarning x s.now), 5),
    (b2n ramp, 6), (b2n passive, 7), ((s.instServed i).1, 16), ((s.instServed i).2, 24)] ++ masters)

/-- HL_CTRL. -/
def Lane.ctrl (l : Lane) : Word := fields [(b2n l.enabled, 0), (l.rxSize, 8), (l.txSize, 12)]

/-- HL_STATUS. -/
def Lane.status (l : Lane) : Word := fields [(b2n l.enabled, 0), (b2n l.cfgErr, 1), (b2n l.dmaErr, 2)]

/-! ### Authentication (R361, R362) -/

/-- NTS_KEYk_STATUS. -/
def KeySlot.ntsStatus (k : KeySlot) : Word := fields [(k.state.code, 0), (k.form, 2)]

/-- SAa_STATUS. -/
def KeySlot.saStatus (k : KeySlot) : Word := fields [(k.state.code, 0), (k.alg, 2), (k.form, 3), (k.spp, 8)]

/-- The ID of a key slot; 0 when EMPTY. -/
def KeySlot.idWord (k : KeySlot) : Word := if k.state = .empty then 0 else loWord k.keyId

/-- KEY_STATUS. -/
def Auth.status (a : Auth) : Word :=
  fields [(b2n a.drbgOk, 0), (b2n a.kekEnabled, 1), (b2n a.pairKey.isSome, 2), (a.zeroisations.toNat, 8)]

/-! ### Grid feeds and converter ports (R389, R390) -/

/-- GRIDf_STATUS. -/
def Feed.status (x : Feed) : Word :=
  fields [(b2n (x.cfg.flag Ix.feedEnable), 0), (b2n x.freqValid, 1), (b2n x.range, 2), (b2n x.gteValid, 3), (b2n x.mainsLoss, 4),
    (b2n x.dataLost, 5), (b2n x.underFreq.isSet, 6), (b2n x.overFreq.isSet, 7), (b2n x.rocof.isSet, 8), (x.seconds.toNat, 16)]

/-- CPn_STATUS. -/
def State.cpStatus (s : State) (n : Fin 8) : Word :=
  let x := s.cps[n]
  fields [(b2n x.running, 0), (b2n x.waiting, 1), (b2n x.foreign, 2), (b2n (x.cfg.flag Ix.cpClkMode), 3),
    (b2n (!s.hasApplied 4 (8 + n.val)), 4), (x.smpCnt.toNat, 16)]

/-! ### Twin (R418, R419) -/

/-- TWIN_STATUS. -/
def State.twinStatus (s : State) : Word :=
  let t := s.twin
  fields [(t.role.code, 0), (b2n t.compat, 3), (t.unit, 4), (b2n t.linkUp, 5), (b2n !t.silent[(0 : Fin 2)], 6), (b2n !t.silent[(1 : Fin 2)], 7),
    (b2n s.synced, 8), (b2n s.eligible, 9), (b2n s.admitReady, 10), (b2n t.vote.isSome, 11), (b2n t.calibrating.isSome, 12),
    (t.takeovers.toNat, 16)]

/-- TWIN_PEER. -/
def PeerView.word (p : PeerView) : Word := fields [(p.role, 0), (p.state, 4), (p.flags % 32, 8), (b2n p.valid, 15)]

/-- Milliseconds since the last valid heartbeat of a path; saturates. -/
def State.silenceMs (s : State) (path : Fin 2) : Nat :=
  match s.twin.lastHb[path] with
  | some c => satField 16 ((s.sys.cyc - c) / msCyc)
  | none => 0xFFFF

/-- TWIN_SILENCE. -/
def State.twinSilence (s : State) : Word := fields [(s.silenceMs 0, 0), (s.silenceMs 1, 16)]

/-! ### Faults and counters (R515) -/

/-- DUMP_STATUS. -/
def HostPort.dumpStatus (h : HostPort) : Word := fields [(h.dumpInterval, 0), (b2n h.dumpErr, 16)]

/-- A byte of FLT_REACT: the reaction, FIXED and EXISTS. -/
def State.reactByte (s : State) (source kind : Nat) : Nat :=
  match findKind source kind with
  | none => 0
  | some k => s.reaction (k.msg 0) % 32 + b2n (fixedReaction k) * 2 ^ 6 + 2 ^ 7

/-- The word of FLT_REACT at byte `a` of its range: byte 0x40 × SOURCE + KIND. -/
def State.reactWord (s : State) (a : Nat) : Word :=
  fields ((List.range 4).map fun j => (s.reactByte ((a + j) / 64) ((a + j) % 64), 8 * j))

end Sys2Proof.Machine
end

