-- ==== Sys2Proof/Machine/Operands.lean ====
section
/-! DEFINITION. The host window: what stands at each offset, how a register reads and what a write of it does, widths, alignment, aliases, bus errors, parcel memory on a bus, and the direct window (R421, R428, R434 to R436, R444, R467 to R491, R512). -/

namespace Sys2Proof.Machine

/-! ### What stands at an offset (R485)

Each function gives the word at a byte offset of its block, a multiple of 4; `none` is a reserved location. -/

/-- Word `w` of the record in slot `i` of a queue. A slot that nothing has been written to reads 0 (log entry 10). -/
def Queue.slotWord (q : Queue) (i w : Nat) : Word := (((q.slots.find? (·.1 == i)).map Prod.snd).getD []).getD w 0

/-- The system block (R486). -/
def State.regSystem (s : State) (hp : Fin 4) (a : Nat) : Option Word :=
  let h := s.hosts[hp]
  match a with
  | 0x000 => some 0x00019600
  | 0x004 => some s.sysStatus
  | 0x008 => some s.sysStraps
  | 0x00C => some (loWord s.uptime)
  | 0x010 => some 0
  | 0x014 => some h.busErr
  | 0x018 => some h.busErrCount
  | 0x200 => some (s.dwCtrl hp)
  | 0x204 => some h.dwAddr
  | 0x20C => some (s.dwStatus hp)
  | _ =>
    if 0x100 ≤ a && a < 0x140 then
      let g : Fin 8 := Fin.ofNat 8 ((a - 0x100) / 8)
      some (if a % 8 = 0 then s.groupEpoch g else s.groupCtrl g)
    else none

/-- The host-port block (R452), but for the registers whose read has a side effect. -/
def State.regHostPort (s : State) (hp : Fin 4) (a : Nat) : Option Word :=
  let h := s.hosts[hp]
  match a with
  | 0x000 => some (s.hpId hp)
  | 0x020 => some h.db
  | 0x024 => some h.dbMask
  | 0x028 => some (s.hwStatus hp)
  | 0x02C => some h.hwMask
  | 0x030 => some 0
  | 0x034 => some 0
  | 0x080 => some h.mbStatus
  | 0x090 => some (h.notices.wr.zeroExtend 32)
  | 0x094 => some (h.notices.rd.zeroExtend 32)
  | 0x098 => some (h.notices.status 8)
  | 0x09C => some h.notices.lost
  | 0x0A0 => some (s.lockHolder 0)
  | 0x0A4 => some (s.lockHolder 8)
  | 0x0A8 => some (fields [(if hp.val < 2 then h.ptm.toNat else 0, 16)])
  | _ =>
    if 0x10 ≤ a && a < 0x20 then some (loWord (s.grantsOf (Fin.ofNat 4 (a / 4 % 4))))
    else if 0x40 ≤ a && a < 0x60 then some h.imb[(Fin.ofNat 8 ((a - 0x40) / 4))]
    else none

/-- The time block (R70). -/
def State.regTime (s : State) (hp : Fin 4) (a : Nat) : Option Word :=
  let c := s.hosts[hp].cap
  let now := s.now
  match a with
  | 0x00 => some (BitVec.ofNat 32 (tsSec now / 2 ^ 32 % 2 ^ 16))
  | 0x04 => some (loWord (tsSec now))
  | 0x08 => some (loWord (tsNs now))
  | 0x0C => some s.timeStatus
  | 0x10 => some c.ctrl
  | 0x14 => some (loWord c.cyc)
  | 0x18 => some (hiWord c.cyc)
  | 0x1C => some (BitVec.ofNat 32 (tsSec c.ts / 2 ^ 32 % 2 ^ 16))
  | 0x20 => some (loWord (tsSec c.ts))
  | 0x24 => some (loWord (tsNs c.ts))
  | 0x28 => some (loWord (tsFrac c.ts))
  | 0x2C => some c.bound
  | 0x30 => some (intLo s.setNow.rate)
  | 0x34 => some (intHi s.setNow.rate)
  | 0x38 => some s.utcWord
  | 0x3C => some (BitVec.ofNat 32 (s.ts.leapAt / 2 ^ 32 % 2 ^ 16))
  | 0x40 => some (loWord s.ts.leapAt)
  | 0x44 => some (loWord s.bound.kStaged)
  | 0x48 => some s.bound.epoch
  | 0x4C => some s.bound.ts
  | 0xB0 => some s.bound.twin
  | _ =>
    if 0x50 ≤ a && a < 0x90 then some s.bound.out[(Fin.ofNat 16 ((a - 0x50) / 4))]
    else if 0x90 ≤ a && a < 0xB0 then some s.bound.port[(Fin.ofNat 8 ((a - 0x90) / 4))]
    else none

/-- The channel and event-queue block (R112), from 0x3000. -/
def State.regTdc (s : State) (hp : Fin 4) (a : Nat) : Option Word :=
  let q := s.hosts[hp].evq
  if a < 0xB00 then
    let n : Fin 88 := Fin.ofNat 88 (a / 32)
    let c := s.tdc[n]
    match a % 32 with
    | 0x00 => some (s.chStatus n)
    | 0x04 => some (s.chCal n)
    | 0x08 => some c.edges
    | 0x0C => some c.missed
    | 0x10 => some c.rejected
    | 0x14 => some c.glitch
    | 0x18 => some c.empty
    | _ => some c.lost
  else if 0x1000 ≤ a then some (q.slotWord ((a - 0x1000) / 32) (a % 32 / 4))
  else
    match a with
    | 0xB00 => some (q.wr.zeroExtend 32)
    | 0xB04 => some (q.rd.zeroExtend 32)
    | 0xB08 => some (q.status 9)
    | 0xB0C => some q.lost
    | _ => none

/-- The Weathervane block (R150), from 0x6000. -/
def State.regWv (s : State) (a : Nat) : Option Word :=
  if a < 0x200 then
    let i : Fin 16 := Fin.ofNat 16 (a / 32)
    let x := s.wv.slots[i]
    match a % 32 with
    | 0x00 => some (s.refStatus i)
    | 0x04 => some (s.contribution i)
    | 0x08 => some (intLo (x.lastOffset.getD 0))
    | 0x0C => some (intHi (x.lastOffset.getD 0))
    | 0x10 => some (intLo x.freq)
    | 0x14 => some (intHi x.freq)
    | 0x18 => some (s.refTimer i)
    | _ => some x.glitch
  else
    match a with
    | 0x200 => some s.wvStatus
    | 0x204 => some (intLo s.wv.lastStep)
    | 0x208 => some (intHi s.wv.lastStep)
    | _ => none

/-- The steering and Forecast block (R187), from 0x6400. -/
def State.regSteer (s : State) (a : Nat) : Option Word :=
  if 0x20 ≤ a && a < 0x80 then
    let f : Fin 3 := Fin.ofNat 3 (a / 32 - 1)
    match a % 32 with
    | 0x00 => some (s.fwStatus f)
    | 0x04 => some (intLo (s.fwY f))
    | 0x08 => some (intHi (s.fwY f))
    | 0x0C => some (s.fwUnc f)
    | 0x10 => some (s.fwTemp f)
    | 0x14 => some (s.fwAge f)
    | 0x18 => some (loWord s.mram.hourly[f].length)
    | _ => some s.fc.fw[f].rejectCount
  else
    match a with
    | 0x00 => some s.loopStatus
    | 0x04 => some s.loopResid
    | 0x08 => some s.loopHold
    | 0x0C => some s.holdTime
    | 0x10 => some s.holdSigmaWord
    | 0x14 => some s.bound.holdRemain
    | _ => none

/-- The output block (R225), from 0x6800. -/
def State.regOutputs (s : State) (a : Nat) : Option Word :=
  if a < 0x40 then
    let o : Fin 4 := Fin.ofNat 4 (a / 16)
    match a % 16 with
    | 0x0 => some (s.osStatus o)
    | 0x4 => some (intLo (s.osMis o))
    | 0x8 => some (intHi (s.osMis o))
    | _ => some (s.osAlignAt o)
  else if a < 0xC0 then
    let n : Fin 16 := Fin.ofNat 16 ((a - 0x40) / 8)
    some (if a % 8 = 0 then s.outStatus n else s.outVsigma n)
  else
    match a with
    | 0xC0 => some (s.tioOut 0)
    | 0xC4 => some (s.tioOut 32)
    | 0xC8 => some s.outputStatus
    | _ => none

/-- The twin block (R418), from 0x6C00. -/
def State.regTwin (s : State) (a : Nat) : Option Word :=
  let t := s.twin
  match a with
  | 0x00 => some s.twinStatus
  | 0x04 => some (loWord t.epoch)
  | 0x08 => some (intLo t.offset)
  | 0x0C => some (intHi t.offset)
  | 0x10 => some t.rtt
  | 0x14 => some t.peer.word
  | 0x18 => some s.twinSilence
  | 0x1C => some t.hbBad
  | 0x20 => some t.standbyDrop
  | _ => none

/-- The GNSS block (R263), from 0x7000. -/
def State.regGnss (s : State) (a : Nat) : Option Word :=
  let g := s.gnss
  if 0x100 ≤ a && a < 0x500 then
    let c := g.chans[(Fin.ofNat 128 ((a - 0x100) / 8))]
    some (if a % 8 = 0 then c.wordA else c.wordB)
  else if 0x20 ≤ a && a < 0x30 then some (s.streamStatus (Fin.ofNat 4 (a / 4 % 4)))
  else if 0x30 ≤ a && a < 0x40 then some (s.streamNotch (Fin.ofNat 4 (a / 4 % 4)))
  else
    match a with
    | 0x00 => some s.gnssStatus
    | 0x04 => some s.gnssSats
    | 0x08 => some g.sigma
    | 0x0C => some g.hard
    | 0x10 => some s.spoofStatus
    | 0x14 => some s.surveyTime
    | 0x18 => some g.surveySigma
    | 0x1C => some s.snapStatus
    | 0x40 => some s.gnssLeap
    | _ => none

/-- The grid and converter block (R389), from 0x7800. -/
def State.regGrid (s : State) (hp : Fin 4) (a : Nat) : Option Word :=
  let q := s.hosts[hp].gq
  if a < 0xC0 then
    let x := s.feeds[(Fin.ofNat 6 (a / 32))]
    match a % 32 with
    | 0x00 => some x.status
    | 0x04 => some x.latFreq
    | 0x08 => some x.latRocof
    | 0x0C => some x.latPhase
    | 0x10 => some (x.latGte.extractLsb' 0 32)
    | 0x14 => some (x.latGte.extractLsb' 32 32)
    | 0x18 => some x.resid
    | _ => some x.rejects
  else if 0x200 ≤ a && a < 0x300 then
    let n : Fin 8 := Fin.ofNat 8 ((a - 0x200) / 32)
    let x := s.cps[n]
    match a % 32 with
    | 0x00 => some (s.cpStatus n)
    | 0x04 => some (saturateSigned x.fsDev)
    | 0x08 => some (x.rxWr.zeroExtend 32)
    | 0x0C => some (x.rxRd.zeroExtend 32)
    | 0x10 => some (x.txWr.zeroExtend 32)
    | 0x14 => some (x.txRd.zeroExtend 32)
    | 0x18 => some x.lost
    | _ => some x.underrun
  else if 0x400 ≤ a then some (q.slotWord ((a - 0x400) / 32) (a % 32 / 4))
  else
    match a with
    | 0x100 => some (q.wr.zeroExtend 32)
    | 0x104 => some (q.rd.zeroExtend 32)
    | 0x108 => some (q.status 6)
    | 0x10C => some q.lost
    | _ => none

/-- The port registers (R295), from 0x8000, and the stamp queues, from 0xA000. -/
def State.regPorts (s : State) (hp : Fin 4) (a : Nat) : Option Word :=
  if 0x2000 ≤ a then some (s.ports[(Fin.ofNat 8 ((a - 0x2000) / 0x800))].tsq.slotWord ((a - 0x2000) % 0x800 / 32) (a % 32 / 4))
  else
    let p : Fin 8 := Fin.ofNat 8 (a / 0x400)
    let x := s.ports[p]
    let b := a % 0x400
    let half := s.hosts[hp].half[p]
    if 0x100 ≤ b && b < 0x268 then
      let c := x.counters[(Fin.ofNat 45 ((b - 0x100) / 8))]
      some (if b % 8 = 0 then c.extractLsb' 0 32 else (c.extractLsb' 32 16).zeroExtend 32)
    else
      match b with
      | 0x00 => some (s.portStatus p)
      | 0x04 => some (x.tsq.wr.zeroExtend 32)
      | 0x08 => some (x.tsq.rd.zeroExtend 32)
      | 0x0C => some (x.tsq.status 8)
      | 0x10 => some x.tsq.lost
      | 0x14 => some (x.nextId.zeroExtend 32)
      | 0x18 => some (half.extractLsb' 0 32)
      | 0x1C => some ((half.extractLsb' 32 13).zeroExtend 32)
      | 0x20 => some (s.prpStatus (pairOf p))
      | 0x24 => some (s.pairs[pairOf p].seqNr.zeroExtend 32)
      | _ => none

/-- A port's host-lane registers (R332), from 0xE400. -/
def Lane.reg (l : Lane) (a : Nat) : Option Word :=
  match a with
  | 0x00 => some l.ctrl
  | 0x04 => some l.status
  | 0x08 => some (l.rxBase.extractLsb' 0 32)
  | 0x0C => some (l.rxBase.extractLsb' 32 32)
  | 0x10 => some (l.rxProd.zeroExtend 32)
  | 0x14 => some (l.rxCons.zeroExtend 32)
  | 0x18 => some (l.txBase.extractLsb' 0 32)
  | 0x1C => some (l.txBase.extractLsb' 32 32)
  | 0x20 => some (l.txProd.zeroExtend 32)
  | 0x24 => some (l.txCons.zeroExtend 32)
  | 0x28 => some l.rxDrop
  | _ => none

/-- The time-service block (R332), from 0xE000. -/
def State.regService (s : State) (hp : Fin 4) (a : Nat) : Option Word :=
  if 0x400 ≤ a then
    match laneOf hp with
    | some l => s.svc.lanes[l].reg (a - 0x400)
    | none => none
  else if 0x100 ≤ a && a < 0x180 then
    let i : Fin 16 := Fin.ofNat 16 ((a - 0x100) / 8)
    some (if a % 8 = 0 then s.instStatus i else loWord (s.grantsHeld i))
  else
    match a with
    | 0x00 => some s.sqStatus
    | 0x04 => some s.svc.deferred
    | 0x08 => some s.svc.launchDrop
    | 0x0C => some s.svc.malformed
    | 0x10 => some (loWord s.svc.grants.length)
    | 0x14 => some (loWord (satField 25 (looseRound s.grantLoad).toNat))
    | 0x18 => some s.svc.denied
    | 0x1C => some s.svc.unmatched
    | _ => none

/-- A key slot's four registers (R361). -/
def KeySlot.reg (k : KeySlot) (status : Word) (a : Nat) : Word :=
  match a with
  | 0x0 => status
  | 0x4 => k.idWord
  | 0x8 => loWord k.expiry
  | _ => BitVec.ofNat 32 (k.expiry / 2 ^ 32 % 2 ^ 16)

/-- The authentication block (R361), from 0xE800. -/
def State.regAuth (s : State) (a : Nat) : Option Word :=
  let u := s.auth
  if a < 0x40 then
    let k := u.nts[(Fin.ofNat 4 (a / 16))]
    some (k.reg k.ntsStatus (a % 16))
  else if 0x100 ≤ a && a < 0x500 then
    let k := u.sa[(Fin.ofNat 64 ((a - 0x100) / 16))]
    some (k.reg k.saStatus (a % 16))
  else
    match a with
    | 0x40 => some u.status
    | 0x44 => some u.served
    | 0x48 => some u.malformed
    | 0x4C => some u.required
    | 0x50 => some u.cookieBad
    | 0x54 => some u.authBad
    | 0x58 => some u.noCurrent
    | 0x5C => some u.discard
    | 0x60 => some u.ptpBad
    | 0x64 => some u.ptpMissing
    | 0x68 => some u.ptpNoKey
    | 0x6C => some u.srcLimited
    | 0x70 => some u.instLimited
    | 0x74 => some u.kissSent
    | _ => none

/-- The fault, log and counter block (R514), from 0xF000; the performance values themselves, whoever reads them. -/
def State.regFaults (s : State) (hp : Fin 4) (a : Nat) : Option Word :=
  let f := s.flt
  let p := s.perf
  if 0x300 ≤ a && a < 0x340 then
    let i : Fin 8 := Fin.ofNat 8 ((a - 0x300) / 8)
    some (if a % 8 = 0 then p.rx[i] else p.tx[i])
  else if 0x340 ≤ a && a < 0x380 then some p.sq[(Fin.ofNat 16 ((a - 0x340) / 4))]
  else if 0x380 ≤ a && a < 0x3C0 then some p.inst[(Fin.ofNat 16 ((a - 0x380) / 4))]
  else if 0x400 ≤ a && a < 0x800 then some (s.reactWord (a - 0x400))
  else
    match a with
    | 0x000 => some s.fltFirst
    | 0x004 => some s.fltStatus
    | 0x008 => some (loWord f.firstCyc)
    | 0x00C => some (hiWord f.firstCyc)
    | 0x010 => some f.count[0]
    | 0x014 => some f.count[1]
    | 0x018 => some f.count[2]
    | 0x01C => some f.count[3]
    | 0x020 => some f.dropped
    | 0x024 => some f.masked
    | 0x100 => some s.log.wr
    | 0x104 => some s.log.oldest
    | 0x108 => some (s.log.boot.zeroExtend 32)
    | 0x200 => some (loWord p.window)
    | 0x204 => some p.epoch
    | 0x208 => some (loWord p.permit)
    | 0x20C => some p.denied
    | 0x210 => some s.hosts[hp].dumpStatus
    | 0x214 => some (s.hosts[hp].dumpSeq.zeroExtend 32)
    | _ => none

/-- What a register of the window holds as a port sees it, without the effects of a read; `none` at a reserved location and at the registers whose read has an effect (R485). -/
def State.regWord (s : State) (hp : Fin 4) (a : Nat) : Option Word :=
  if a < 0x1000 then s.regSystem hp a
  else if a < 0x2000 then s.regHostPort hp (a - 0x1000)
  else if a < 0x3000 then s.regTime hp (a - 0x2000)
  else if a < 0x6000 then s.regTdc hp (a - 0x3000)
  else if a < 0x6400 then s.regWv (a - 0x6000)
  else if a < 0x6800 then s.regSteer (a - 0x6400)
  else if a < 0x6C00 then s.regOutputs (a - 0x6800)
  else if a < 0x7000 then s.regTwin (a - 0x6C00)
  else if a < 0x7800 then s.regGnss (a - 0x7000)
  else if a < 0x8000 then s.regGrid hp (a - 0x7800)
  else if a < 0xE000 then s.regPorts hp (a - 0x8000)
  else if a < 0xE800 then s.regService hp (a - 0xE000)
  else if a < 0xF000 then s.regAuth (a - 0xE800)
  else if a < 0x10000 then s.regFaults hp (a - 0xF000)
  else none

/-- Registers whose read has a side effect: OMBm, LOCKn and DW_DATA (R468). -/
def readsEffect (a : Nat) : Bool := a == 0x208 || (0x1060 ≤ a && a < 0x1080) || (0x10C0 ≤ a && a < 0x1100)

/-- Whether a location holds a register, as a port sees it (R470). -/
def State.implemented (s : State) (hp : Fin 4) (a : Nat) : Bool := readsEffect a || (s.regWord hp a).isSome

/-! ### The direct window (R488 to R491) -/

/-- Whether a port may use the direct window: the OWNER while it holds DIRECT (R488). -/
def State.mayDirect (s : State) (hp : Fin 4) : Bool := s.sys.owner == hp && bitAt s.sys.grants[hp] 15

/-- What a direct location is: the spec names each group's contents and gives no offsets, so this is open (log entry 11). -/
inductive DirectKind where
  | absent | readOnly | readWrite | locked | secret
  deriving DecidableEq, Repr

/-- The kind of the location at a group and byte offset; groups above 0x10 hold nothing (R489). In the key store only slot states are readable (R491). -/
def directKind (group offset : Nat) : DirectKind :=
  if 0x10 < group then .absent
  else
    match Config.directKind group offset % 5 with
    | 0 => .absent
    | 1 => .readOnly
    | 2 => .readWrite
    | 3 => .locked
    | _ => if group = 0x0B then .secret else .readWrite

/-- A direct register's word: what was last written to it, else a free value (log entry 11). -/
def State.directWord (s : State) (group offset : Nat) : State × Word :=
  match s.direct.words.find? (·.1 == (group, offset)) with
  | some e => (s, e.2)
  | none => (s.drawn, loWord s.draw)

/-- A direct read (R489, R491): the word, or none where nothing is implemented. -/
def State.directRead (s : State) (group offset : Nat) : State × Option Word :=
  match directKind group offset with
  | .absent => (s, none)
  | .secret => (s, some 0)
  | _ => ((s.directWord group offset).1, some (s.directWord group offset).2)

/-- A direct register is written: a staged one keeps the word for the next strobe of its group, unless its member has IMMEDIATE set, which takes it at once (R483, R489). -/
def State.directPut (s : State) (group offset : Nat) (v : Word) : State :=
  let e : (Nat × Nat) × Word := ((group, offset), v)
  let now := match directStage group with
    | some g => s.immediate g (directMember g group offset)
    | none => false
  ({ s with direct := { s.direct with words := overlay [e] s.direct.words,
                                      taken := if now then overlay [e] s.direct.taken else s.direct.taken } } : State).raise
    Flt.directWrite (group * 256 + offset / 4 % 256)

/-- A direct write (R484, R489): whether the location is implemented. -/
def State.directWrite (s : State) (group offset : Nat) (v : Word) : State × Bool :=
  match directKind group offset with
  | .absent => (s, false)
  | .readOnly => (s, true)
  | .locked => (if s.afterInit then s.raise Flt.writeLocked 0x208 else s.directPut group offset v, true)
  | .readWrite => (s.directPut group offset v, true)
  | .secret => (s.raise Flt.directWrite (group * 256 + offset / 4 % 256), true)

/-- GROUP of a port's DW_ADDR (R487). -/
def HostPort.dwGroup (h : HostPort) : Nat := bitsOf h.dwAddr.toNat 23 16
/-- OFFSET of a port's DW_ADDR, in bytes (R487). -/
def HostPort.dwOffset (h : HostPort) : Nat := bitsOf h.dwAddr.toNat 15 2 * 4

/-- DW_ADDR after an access with AUTO_INC (R487). -/
def State.dwAdvance (s : State) (hp : Fin 4) : State :=
  s.mapHost hp fun h => if h.dwAutoInc then { h with dwAddr := (h.dwAddr + 4) &&& 0x00FFFFFC } else h

/-- A location that is not implemented sets ERR (R489). -/
def State.dwError (s : State) (hp : Fin 4) : State := s.mapHost hp fun h => { h with dwErr := true }

/-- A read of DW_DATA (R488 to R490). -/
def State.readDw (s : State) (hp : Fin 4) : State × Word :=
  if !s.mayDirect hp then (s.raise Flt.directDenied hp.val, 0)
  else if s.direct.lockdown then (s, 0)
  else
    let h := s.hosts[hp]
    match s.directRead h.dwGroup h.dwOffset with
    | (t, some v) => (t.dwAdvance hp, v)
    | (t, none) => ((t.dwError hp).dwAdvance hp, 0)

/-- The rights and LOCKDOWN of a write to a direct-window register, in that order (R488, R490). -/
def State.dwGuard (s : State) (hp : Fin 4) (addr : Nat) (f : State → State) : State :=
  if !s.mayDirect hp then s.denied addr
  else if s.direct.lockdown then s.raise Flt.writeLocked addr
  else f s

/-- A write of DW_CTRL; LOCKDOWN is write-once (R487, R490). -/
def State.writeDwCtrl (s : State) (hp : Fin 4) (v : Word) : State :=
  s.dwGuard hp 0x200 fun t =>
    let t1 := t.mapHost hp fun h => { h with dwAutoInc := v.getLsbD 0 }
    if v.getLsbD 8 then { t1 with direct.lockdown := true } else t1

/-- A write of DW_ADDR (R487). -/
def State.writeDwAddr (s : State) (hp : Fin 4) (v : Word) : State :=
  s.dwGuard hp 0x204 fun t => t.mapHost hp fun h => { h with dwAddr := v &&& 0x00FFFFFC }

/-- A write of DW_DATA (R489, R490). -/
def State.writeDw (s : State) (hp : Fin 4) (v : Word) : State :=
  s.dwGuard hp 0x208 fun t =>
    let h := t.hosts[hp]
    match t.directWrite h.dwGroup h.dwOffset v with
    | (u, true) => u.dwAdvance hp
    | (u, false) => (u.dwError hp).dwAdvance hp

/-! ### Reading a register (R12, R439, R450, R489, R512) -/

/-- The performance values that COUNTER_PERMIT guards (R512). -/
def perfValue (a : Nat) : Bool := 0xF300 ≤ a && a < 0xF3C0

/-- A 32-bit read of an implemented register, with its effect. -/
def State.readReg (s : State) (hp : Fin 4) (a : Nat) : State × Word :=
  if a = 0x208 then s.readDw hp
  else if 0x1060 ≤ a && a < 0x1080 then s.readOmb hp (Fin.ofNat 8 ((a - 0x1060) / 4))
  else if 0x10C0 ≤ a && a < 0x1100 then s.readLock hp (Fin.ofNat 16 ((a - 0x10C0) / 4))
  else if perfValue a && !bitAt s.perf.permit hp.val then ({ s with perf.denied := s.perf.denied + 1 }, 0)
  else (s, (s.regWord hp a).getD 0)

/-! ### Writing a register (R12, R428, R474, R484) -/

/-- OVERFLOW of a queue cleared by a 1 in bit `b` (R12). -/
def Queue.clear (q : Queue) (v : Word) (b : Nat) : Queue := if v.getLsbD b then { q with overflow := false } else q

/-- A 1 clears DMA_ERR, which ends the cause of HOST_LANE_DMA, or CFG_ERR (R309, R333, R496). -/
def State.writeHlStatus (s : State) (l : Fin 2) (v : Word) : State :=
  let s1 := s.mapLane l fun y => { y with cfgErr := y.cfgErr && !v.getLsbD 1, dmaErr := y.dmaErr && !v.getLsbD 2 }
  if v.getLsbD 2 then s1.causeEnds Flt.hostLaneDma l.val else s1

/-- A ring base register: locked while the lane runs (R305, R484). -/
def State.writeHlBase (s : State) (l : Fin 2) (addr : Nat) (f : Lane → Lane) : State :=
  if s.svc.lanes[l].enabled then s.raise Flt.writeLocked addr else s.mapLane l f

/-- The low half of a base: [11:0] read 0 (R332). -/
def baseLo (b : BitVec 64) (v : Word) : BitVec 64 := (b.extractLsb' 32 32) ++ (v &&& 0xFFFFF000)
/-- The high half of a base. -/
def baseHi (b : BitVec 64) (v : Word) : BitVec 64 := v ++ (b.extractLsb' 0 32)

/-- A write of a host-lane register of a port that has a lane (R332). -/
def State.writeLaneReg (s : State) (l : Fin 2) (a : Nat) (v : Word) : State :=
  match a with
  | 0xE400 => s.writeHlCtrl l v
  | 0xE404 => s.writeHlStatus l v
  | 0xE408 => s.writeHlBase l a fun y => { y with rxBase := baseLo y.rxBase v }
  | 0xE40C => s.writeHlBase l a fun y => { y with rxBase := baseHi y.rxBase v }
  | 0xE410 => s.writeProd l false v
  | 0xE418 => s.writeHlBase l a fun y => { y with txBase := baseLo y.txBase v }
  | 0xE41C => s.writeHlBase l a fun y => { y with txBase := baseHi y.txBase v }
  | 0xE420 => s.writeProd l true v
  | _ => s

/-- A write of a register in a port's block of the port registers (R292, R295, R296). -/
def State.writePortReg (s : State) (hp : Fin 4) (p : Fin 8) (b : Nat) (v : Word) : State :=
  let w : BitVec 45 := v.zeroExtend 45
  match b with
  | 0x008 => s.writeTsqRd hp p v
  | 0x00C =>
    if !s.may hp .ports then s.denied (0x8000 + 0x400 * p.val + b) else s.mapPort p fun x => { x with tsq := x.tsq.clear v 8 }
  | 0x018 => s.mapHost hp fun h => { h with half := h.half.set p (h.half[p] &&& ~~~w) }
  | 0x01C => s.mapHost hp fun h => { h with half := h.half.set p (h.half[p] &&& ~~~(w <<< 32)) }
  | _ => s

/-- A write of a register in the grid and converter block (R389). -/
def State.writeGridReg (s : State) (hp : Fin 4) (a : Nat) (v : Word) : State :=
  if a = 0x7904 then s.writeGqRd hp v
  else if a = 0x7908 then s.mapHost hp fun h => { h with gq := h.gq.clear v 6 }
  else if 0x7A00 ≤ a && a < 0x7B00 then
    let n : Fin 8 := Fin.ofNat 8 ((a - 0x7A00) / 32)
    match a % 32 with
    | 0x0C => s.writeCpRxRd hp n v
    | 0x10 => s.writeCpTxWr hp n v
    | _ => s
  else s

/-- A write of a register in the host-port block (R452, R453). -/
def State.writeHostReg (s : State) (hp : Fin 4) (a : Nat) (v : Word) : State :=
  match a with
  | 0x1020 => s.mapHost hp fun h => { h with db := h.db &&& ~~~v }
  | 0x1024 => s.writeMask hp .db v
  | 0x1028 => s.mapHost hp fun h => { h with hwEvents := h.hwEvents &&& ~~~v }
  | 0x102C => s.writeMask hp .hw v
  | 0x1030 => s.writePeerRing hp v
  | 0x1034 => s.writeHpReset hp v
  | 0x1080 => s.mapHost hp fun h => { h with imbColl := h.imbColl &&& ~~~(v.extractLsb' 16 8) }
  | 0x1094 => s.writeNqRd hp v
  | 0x1098 => s.mapHost hp fun h => { h with notices := h.notices.clear v 8 }
  | _ =>
    if 0x1040 ≤ a && a < 0x1060 then s.writeImb hp (Fin.ofNat 8 ((a - 0x1040) / 4)) v
    else if 0x10C0 ≤ a && a < 0x1100 then s.writeLock hp (Fin.ofNat 16 ((a - 0x10C0) / 4)) v
    else s

/-- A write of a register in the system block (R486, R487). -/
def State.writeSystemReg (s : State) (hp : Fin 4) (a : Nat) (v : Word) : State :=
  match a with
  | 0x010 => s.writeStrobe hp v
  | 0x200 => s.writeDwCtrl hp v
  | 0x204 => s.writeDwAddr hp v
  | 0x208 => s.writeDw hp v
  | 0x20C => if v.getLsbD 0 then s.mapHost hp fun h => { h with dwErr := false } else s
  | _ => if 0x100 ≤ a && a < 0x140 && a % 8 = 4 then s.writeGroupCtrl hp (Fin.ofNat 8 ((a - 0x100) / 8)) v else s

/-- A 32-bit base write of an implemented register; one whose fields are all RO ignores it (R12, R474). -/
def State.writeReg (s : State) (hp : Fin 4) (a : Nat) (v : Word) : State :=
  if a < 0x1000 then s.writeSystemReg hp a v
  else if a < 0x2000 then s.writeHostReg hp a v
  else if a = 0x2010 then s.requestCapture hp v
  else if a = 0x2044 then s.hostCoverage hp v.toNat
  else if a = 0x3B04 then s.writeEvqRd hp v
  else if a = 0x3B08 then s.mapHost hp fun h => { h with evq := h.evq.clear v 9 }
  else if 0x7800 ≤ a && a < 0x8000 then s.writeGridReg hp a v
  else if 0x8000 ≤ a && a < 0xA000 then s.writePortReg hp (Fin.ofNat 8 ((a - 0x8000) / 0x400)) (a % 0x400) v
  else if 0xE400 ≤ a && a < 0xE800 then
    match laneOf hp with
    | some l => s.writeLaneReg l a v
    | none => s
  else if a = 0xF210 then (if v.getLsbD 16 then s.mapHost hp fun h => { h with dumpErr := false } else s)
  else s

/-! ### Aliases (R477, R478) -/

/-- The RW and RWS bits of a register that takes alias writes; none of another register. -/
def aliasBits (a : Nat) : Option Word :=
  match a with
  | 0x0200 => some 0x00000001
  | 0x0204 => some 0x00FFFFFC
  | 0x1024 => some 0xFFFFFFFF
  | 0x102C => some 0xFFFFFFFF
  | 0x2044 => some 0x0000000F
  | 0xE400 => some 0x0000FF01
  | 0xE408 => some 0xFFFFF000
  | 0xE40C => some 0xFFFFFFFF
  | 0xE418 => some 0xFFFFF000
  | 0xE41C => some 0xFFFFFFFF
  | _ => if 0x100 ≤ a && a < 0x140 && a % 8 = 4 then some 0xFFFF0000 else none

/-- The value that an alias write gives the register (R477): set, clear, toggle. -/
def aliasValue (kind : Nat) (cur v : Word) : Word :=
  match kind with
  | 1 => cur ||| v
  | 2 => cur &&& ~~~v
  | 3 => cur ^^^ v
  | _ => v

/-- A 32-bit write at an address of the window: a base write, or one read-modify-write of the RW and RWS bits at an alias (R477). -/
def State.writeAt (s : State) (hp : Fin 4) (addr : Nat) (v : Word) : State :=
  let a := addr % 2 ^ 16
  if addr < 2 ^ 16 then s.writeReg hp a v
  else
    let m := (aliasBits a).getD 0
    s.writeReg hp a (aliasValue (addr / 2 ^ 16) ((s.regWord hp a).getD 0 &&& m) (v &&& m))

/-! ### Accesses (R467 to R472) -/

/-- The cause of the bus error of one access of at most 32 bits that is aligned, if it is one: 1 a reserved location, 2 a width or an alias write that is not permitted (R468, R470, R478, R487). -/
def State.accessCause (s : State) (hp : Fin 4) (write : Bool) (addr width : Nat) : Option Nat :=
  let a := addr % 2 ^ 16 / 4 * 4
  if 2 ^ 18 ≤ addr || !s.implemented hp a then some 1
  else if width ≠ 32 && (write || readsEffect a) then some 2
  else if write && 2 ^ 16 ≤ addr && (aliasBits a).isNone then some 2
  else none

/-- The cause of the bus error of an access, if it is one; both halves of a 64-bit access are checked first (R468 to R472). -/
def State.accessError (s : State) (hp : Fin 4) (write : Bool) (acc : Access) : Option Nat :=
  if !(acc.width == 8 || acc.width == 16 || acc.width == 32 || acc.width == 64) then some 2
  else if acc.addr % (acc.width / 8) ≠ 0 then some 3
  else if acc.width = 64 then (s.accessCause hp write acc.addr 32).or (s.accessCause hp write (acc.addr + 4) 32)
  else s.accessCause hp write acc.addr acc.width

/-- A read that is no bus error: the words that return, lowest address first; a narrow one returns the addressed bytes (R468, R469). -/
def State.readLegal (s : State) (hp : Fin 4) (acc : Access) : State × List Word :=
  let a := acc.addr % 2 ^ 16 / 4 * 4
  let lo := s.readReg hp a
  if acc.width = 64 then
    let hi := lo.1.readReg hp (a + 4)
    (hi.1, [lo.2, hi.2])
  else if acc.width = 32 then (lo.1, [lo.2])
  else (lo.1, [(lo.2 >>> (8 * (acc.addr % 4))) &&& BitVec.ofNat 32 (2 ^ acc.width - 1)])

/-- A write that is no bus error; the halves of a 64-bit one in the order of their addresses (R469). -/
def State.writeLegal (s : State) (hp : Fin 4) (acc : Access) (v : BitVec 64) : State :=
  let s1 := s.writeAt hp acc.addr (v.extractLsb' 0 32)
  if acc.width = 64 then s1.writeAt hp (acc.addr + 4) (v.extractLsb' 32 32) else s1

/-- A PCIe read that is a bus error completes with Completer Abort; an SPI word returns 0 (R471). -/
def State.failRead (s : State) (hp : Fin 4) : State :=
  if hp.val < 2 then s.emit (.completerAbort hp) else s.emit (.read hp 0)

/-- A read of the window on a port's bus. -/
def State.busRead (s : State) (hp : Fin 4) (acc : Access) : State :=
  match s.accessError hp false acc with
  | some c => (s.busError hp acc.addr c false 0).failRead hp
  | none => (s.readLegal hp acc).2.foldl (fun t w => t.emit (.read hp w)) (s.readLegal hp acc).1

/-- A write of the window on a port's bus; one that is a bus error is dropped (R471). -/
def State.busWrite (s : State) (hp : Fin 4) (acc : Access) (v : BitVec 64) : State :=
  match s.accessError hp true acc with
  | some c => s.busError hp acc.addr c true 0
  | none => s.writeLegal hp acc v

/-! ### Parcel memory on a bus (R422, R444, R472) -/

/-- The first byte of the notice ring (R444). -/
def ringStart : Nat := 0xF000

/-- A host's write into its parcel memory: one that reaches the notice ring is a bus error, whose CAUSE the spec does not give and so is free, 1 or 2 (R444, R471). -/
def State.writeParcel (s : State) (hp : Fin 4) (offset : Nat) (data : List Byte) : State :=
  if ringStart < offset + data.length then (s.drawn.busError hp offset (1 + s.draw % 2) true 1)
  else s.mapHost hp fun h => { h with parcel := memWriteBytes h.parcel offset data }

/-! ### SPI (R434 to R436, R472, R473) -/

/-- The region of an SPI address, and the address within it (R435, R487). -/
def spiRegion (addr : Nat) : Nat × Nat :=
  if addr < 0x40000 then (0, addr) else if addr < 0x50000 then (1, addr - 0x40000) else (2, addr)

/-- One word of an SPI WRITE (R435). -/
def State.spiPut (s : State) (hp : Fin 4) (addr : Nat) (v : Word) : State :=
  match spiRegion addr with
  | (0, a) => s.busWrite hp ⟨a, 32⟩ (v.zeroExtend 64)
  | (1, a) => s.writeParcel hp a (wordBytes v)
  | (_, a) => s.busError hp a 1 true 2

/-- One word of an SPI READ (R435). -/
def State.spiGet (s : State) (hp : Fin 4) (addr : Nat) : State :=
  match spiRegion addr with
  | (0, a) => s.busRead hp ⟨a, 32⟩
  | (1, a) => s.emit (.read hp (memReadWord s.hosts[hp].parcel a))
  | (_, a) => (s.busError hp a 1 false 2).emit (.read hp 0)

/-- The address of word `i` of a transaction, on 24 bits (R434, R435). -/
def spiAddr (addr i : Nat) : Nat := (addr + 4 * i) % 2 ^ 24

/-- The bus error of a transaction whose address is not a multiple of 4, or of a word cut by the chip select: recorded in its region (R435, R471, R472). -/
def State.spiBusError (s : State) (hp : Fin 4) (addr cause : Nat) (write : Bool) : State :=
  let r := spiRegion addr
  s.busError hp r.2 cause write r.1

/-- The status byte (R436). -/
def State.spiStatusByte (s : State) (hp : Fin 4) : Nat :=
  let h := s.hosts[hp]
  b2n h.spiErr + 2 * b2n h.spiBadOp + 4 * b2n (s.hirq hp) + 8 * b2n h.spiPartial + 16 * b2n s.afterBoot

end Sys2Proof.Machine
end

