-- ==== Sys2Proof/Machine/Registers.lean ====
section
/-! DEFINITION. Accesses of a host port's bus: SPI transactions, reads and writes of the window, aliases, the direct window, and parcel memory (R434 to R436, R444, R467 to R491, R512). -/

namespace Sys2Proof.Machine

/-! ### SPI transactions (R434 to R436, R472, R473) -/

/-- SPI_WRITE (R434, R435): whole words from the address on. -/
def execSpiWrite (hp : Fin 4) (addr : Nat) (words : List Word) (s : State) : Out :=
  if hp.val < 2 then .next s
  else s.opened fun t =>
    if addr % 4 ≠ 0 then t.spiBusError hp addr 3 true
    else t.each words.zipIdx fun u e => u.spiPut hp (spiAddr addr e.2) e.1

/-- SPI_READ (R434, R435): the status byte as it stood at the start, then the words. -/
def execSpiRead (hp : Fin 4) (addr count : Nat) (s : State) : Out :=
  if hp.val < 2 then .next s
  else
    let s1 := s.emit (.spiByte hp (s.spiStatusByte hp))
    let zeros := fun t : State => t.each (List.range count) fun u _ => u.emit (.read hp 0)
    if !s.afterBoot then .next (zeros s1)
    else if addr % 4 ≠ 0 then .next (zeros (s1.spiBusError hp addr 3 false))
    else .next (s1.each (List.range count) fun u i => u.spiGet hp (spiAddr addr i))

/-- SPI_STATUS (R436). -/
def execSpiStatus (hp : Fin 4) (s : State) : Out :=
  if hp.val < 2 then .next s
  else .next ((s.emit (.spiByte hp (s.spiStatusByte hp))).mapHost hp fun h =>
    { h with spiErr := false, spiBadOp := false, spiPartial := false })

/-- SPI_BAD_OPCODE (R434). -/
def execSpiBadOpcode (hp : Fin 4) (s : State) : Out :=
  if hp.val < 2 then .next s else .next (s.mapHost hp fun h => { h with spiBadOp := true })

/-- SPI_CS_CUT (R435): the cut word is not performed, and counts as a bus error. -/
def execSpiCsCut (hp : Fin 4) (addr : Nat) (write : Bool) (s : State) : Out :=
  if hp.val < 2 then .next s
  else s.opened fun t => (t.mapHost hp fun h => { h with spiPartial := true }).spiBusError hp addr 2 write

/-! ### The window (R467 to R478) -/

/-- REGISTER_WRITE (R474). -/
def execRegisterWrite (hp : Fin 4) (acc : Access) (v : BitVec 64) (s : State) : Out := s.opened fun t => t.busWrite hp acc v

/-- An access at an alias of a base register (R477). -/
def aliasAccess (acc : Access) (kind : Nat) : Access := ⟨acc.addr % 2 ^ 16 + kind * 2 ^ 16, acc.width⟩

/-- ALIAS_SET_WRITE (R477). -/
def execAliasSetWrite (hp : Fin 4) (acc : Access) (v : Word) (s : State) : Out :=
  s.opened fun t => t.busWrite hp (aliasAccess acc 1) (v.zeroExtend 64)

/-- ALIAS_CLEAR_WRITE (R477). -/
def execAliasClearWrite (hp : Fin 4) (acc : Access) (v : Word) (s : State) : Out :=
  s.opened fun t => t.busWrite hp (aliasAccess acc 2) (v.zeroExtend 64)

/-- ALIAS_TOGGLE_WRITE (R477). -/
def execAliasToggleWrite (hp : Fin 4) (acc : Access) (v : Word) (s : State) : Out :=
  s.opened fun t => t.busWrite hp (aliasAccess acc 3) (v.zeroExtend 64)

/-- REGISTER_READ (R467 to R473). -/
def execRegisterRead (hp : Fin 4) (acc : Access) (s : State) : Out :=
  if s.afterBoot then .next (s.busRead hp acc)
  else if 2 ≤ hp.val then .next (s.emit (.read hp 0))
  else .next s

/-- PERF_READ (R512): a read of a performance value. -/
def execPerfRead (hp : Fin 4) (acc : Access) (s : State) : Out :=
  if s.afterBoot then .next (s.busRead hp acc)
  else if 2 ≤ hp.val then .next (s.emit (.read hp 0))
  else .next s

/-- PARCEL_WRITE (R444, R472): what lies past the 64 KiB reaches no memory of the port. -/
def execParcelWrite (hp : Fin 4) (offset : Nat) (data : List Byte) (s : State) : Out :=
  s.opened fun t => if 65536 < offset + data.length then t else t.writeParcel hp offset data

/-! ### The direct window (R487 to R490) -/

/-- DW_CTRL_WRITE (R490). -/
def execDwCtrlWrite (hp : Fin 4) (v : Word) (s : State) : Out := s.opened fun t => t.writeDwCtrl hp v

/-- DW_DATA_READ (R489). -/
def execDwDataRead (hp : Fin 4) (s : State) : Out := s.openRead hp fun t => t.readDw hp

/-- DW_DATA_WRITE (R489). -/
def execDwDataWrite (hp : Fin 4) (v : Word) (s : State) : Out := s.opened fun t => t.writeDw hp v

end Sys2Proof.Machine
end

