-- ==== Sys2Proof/Machine/Monitor.lean ====
section
/-! DEFINITION. The Wosirun monitor: the line editor, the commands, and their output (R532 to R534). -/

namespace Sys2Proof.Machine

/-! ### Lines and numbers (R532) -/

/-- A line that the monitor understands (R534). -/
inductive MonLine where
  | help
  | status
  | time
  | bound
  | ref
  | fault
  | faultClear
  | log (n : Nat)
  | twin
  | unlock (passcode : List Byte)
  | lock
  | peek (offset count : Nat)
  | poke (offset : Nat) (v : Word)
  | dpeek (group offset count : Nat)
  | dpoke (group offset : Nat) (v : Word)
  | owner (n : Fin 4)
  | reset
  deriving DecidableEq, Repr

/-- Whether a line needs MAINTAIN (R534). -/
def MonLine.maintain : MonLine → Bool
  | .faultClear | .poke _ _ | .dpeek _ _ _ | .dpoke _ _ _ | .owner _ | .reset => true
  | _ => false

/-- Words of a line, parted by spaces. -/
def splitWords : List Byte → List Byte → List (List Byte)
  | w, [] => if w.isEmpty then [] else [w]
  | w, c :: l => if c = 0x20 then (if w.isEmpty then splitWords [] l else w :: splitWords [] l) else splitWords (w ++ [c]) l

/-- The value of a digit in base `b`. -/
def digitValue (b : Nat) (c : Byte) : Option Nat :=
  let n := (upperOctet c).toNat
  let v := if 0x30 ≤ n && n ≤ 0x39 then n - 0x30 else if 0x41 ≤ n && n ≤ 0x46 then n - 0x37 else 16
  if v < b then some v else none

/-- A number in base `b`; none without a digit or with another character. -/
def parseDigits (b : Nat) (l : List Byte) : Option Nat :=
  if l.isEmpty then none
  else l.foldl (fun n c => match n, digitValue b c with
    | some x, some d => some (x * b + d)
    | _, _ => none) (some 0)

/-- A number: decimal, or hexadecimal with 0x and optional underscores (R532). -/
def parseNumber (w : List Byte) : Option Nat :=
  if (w.take 2).map upperOctet = asciiOf "0X" then parseDigits 16 ((w.drop 2).filter (· != 0x5F)) else parseDigits 10 w

/-- A number that fits a word. -/
def parseWord (w : List Byte) : Option Word :=
  match parseNumber w with
  | some n => if n < 2 ^ 32 then some (loWord n) else none
  | none => none

/-- The arguments of a line as numbers. -/
def parseNumbers : List (List Byte) → Option (List Nat)
  | [] => some []
  | w :: l =>
    match parseNumber w, parseNumbers l with
    | some n, some ns => some (n :: ns)
    | _, _ => none

/-- The passcode of an UNLOCK line: what follows the space after the word. -/
def passcodeOf (l : List Byte) : List Byte := ((l.dropWhile (· == 0x20)).drop 7)

/-- The line that a command word and its arguments make; none for an unknown command, or arguments that its form does not have. -/
def parseLine (l : List Byte) : Option MonLine :=
  let ws := splitWords [] l
  match ws with
  | [] => none
  | w :: args =>
    let word := octetText (w.map upperOctet)
    if word = "UNLOCK" then some (.unlock (passcodeOf l))
    else if word = "FAULT" then
      (match args with
       | [] => some .fault
       | [a] => if octetText (a.map upperOctet) = "CLEAR" then some .faultClear else none
       | _ => none)
    else
      match parseNumbers args with
      | none => none
      | some ns =>
        match word, ns with
        | "HELP", [] => some .help
        | "STATUS", [] => some .status
        | "TIME", [] => some .time
        | "BOUND", [] => some .bound
        | "REF", [] => some .ref
        | "LOG", [] => some (.log 16)
        | "LOG", [n] => some (.log n)
        | "TWIN", [] => some .twin
        | "LOCK", [] => some .lock
        | "PEEK", [o] => some (.peek o 1)
        | "PEEK", [o, c] => some (.peek o c)
        | "POKE", [o, v] => if v < 2 ^ 32 then some (.poke o (loWord v)) else none
        | "DPEEK", [g, o] => some (.dpeek g o 1)
        | "DPEEK", [g, o, c] => some (.dpeek g o c)
        | "DPOKE", [g, o, v] => if v < 2 ^ 32 then some (.dpoke g o (loWord v)) else none
        | "OWNER", [n] => if h : n < 4 then some (.owner ⟨n, h⟩) else none
        | "RESET", [] => some .reset
        | _, _ => none

/-! ### Output (R534) -/

/-- A time in nanoseconds to three decimals, its rounding open. -/
def nsText (x : Rat) : String := milliText (looseRound (x * 1000)).natAbs

/-- The same with its sign. -/
def signedNs (x : Rat) : String := (if x < 0 then "-" else "+") ++ nsText x

/-- A Bound: nanoseconds to three decimals, or UNKNOWN. -/
def boundText (b : Word) : String := if b = unknownWord then "UNKNOWN" else nsText ((b.toNat : Rat) / 256)

/-- Role names (R392). -/
def Role.name : Role → String
  | .solo => "SOLO" | .discovering => "DISCOVERING" | .active => "ACTIVE" | .standby => "STANDBY" | .quarantined => "QUARANTINED"

/-- The name of a role code, as a heartbeat carries it. -/
def roleText (n : Nat) : String :=
  match n with
  | 0 => "SOLO" | 1 => "DISCOVERING" | 2 => "ACTIVE" | 3 => "STANDBY" | _ => "QUARANTINED"

/-- Kind names (R120). -/
def kindText (n : Nat) : String :=
  (["UNUSED", "GNSS", "PPS_10M", "FREQ", "IRIGB", "PTP", "SYNCE", "TOD", "TWIN"] : List String).getD n "UNUSED"

/-- Slot state names (R130). -/
def SlotState.name : SlotState → String
  | .disqualified => "DISQUALIFIED" | .qualifying => "QUALIFYING" | .qualified => "QUALIFIED" | .disputed => "DISPUTED"
  | .lockedOut => "LOCKED-OUT"

/-- Log entry types (R509). -/
def typeText (n : Nat) : String :=
  (["0", "FAULT", "STATE", "STEP", "SLOT", "SWITCH", "ALIGN", "RESET"] : List String).getD n (decText n)

/-- Days of each month. -/
def monthDays (y : Nat) : List Nat := [31, if leapYear y then 29 else 28, 31, 30, 31, 30, 31, 31, 30, 31, 30, 31]

/-- The month and day, both from 1, of a zero-based day of the year. -/
def monthOf : List Nat → Nat → Nat → Nat × Nat
  | [], m, d => (m, d + 1)
  | n :: l, m, d => if d < n then (m, d + 1) else monthOf l (m + 1) (d - n)

/-- A day number since 1970-01-01 as yyyy-mm-dd. -/
def dateText (day : Int) : String :=
  let p := yearOf 400 1970 (day % 146097).toNat
  let m := monthOf (monthDays p.1) 1 p.2
  decPad 4 ((p.1 : Int) + 400 * (day / 146097)).toNat ++ "-" ++ decPad 2 m.1 ++ "-" ++ decPad 2 m.2

/-- UTC as yyyy-mm-dd hh:mm:ss, with 23:59:60 in an inserted second (R47, R50). -/
def State.utcText (s : State) : String :=
  let t := s.nowSec
  let ls := s.ts.leapPending == 1 && t == (s.ts.leapAt : Int) - 1
  let u := t - s.ts.utcOffset - (if ls then 1 else 0)
  let d := (u % 86400).toNat
  dateText (u / 86400) ++ " " ++ decPad 2 (d / 3600) ++ ":" ++ decPad 2 (d / 60 % 60) ++ ":" ++ decPad 2 (d % 60 + b2n ls)

/-- The pending leap second and its UTC date (R48). -/
def State.leapText (s : State) : String :=
  let day := fun sign : Int => ((s.ts.leapAt : Int) - s.ts.utcOffset - sign) / 86400 - 1
  match s.ts.leapPending with
  | 0 => "NONE"
  | 1 => "INS " ++ dateText (day 1)
  | 2 => "DEL " ++ dateText (day (-1))

/-- HELP: the lines of VIEW, then those of MAINTAIN. -/
def State.helpLines (s : State) : List String :=
  ["HELP", "STATUS", "TIME", "BOUND", "REF", "FAULT", "LOG [n]", "TWIN", "UNLOCK <passcode>", "LOCK", "PEEK <offset> [count]"] ++
    if s.mon.maintain then ["FAULT CLEAR", "POKE <offset> <value>", "DPEEK <group> <offset> [count]", "DPOKE <group> <offset> <value>",
      "OWNER <n>", "RESET"] else []

/-- STATUS. -/
def State.statusLine (s : State) : String :=
  "STATE " ++ s.sys.engine.name ++ " ROLE " ++ s.twin.role.name ++ " OWNER " ++ decText s.sys.owner.val ++ " VERSION " ++
    wordText ((s.sys.hdr.map ImageHdr.version).getD 0) ++ " AREA " ++ areaName (s.sys.running.getD .golden) ++ " FALLBACK " ++
    bitText s.sys.fallback ++ " UP " ++ decText s.uptime

/-- TIME. -/
def State.timeLine (s : State) : String :=
  "TAI " ++ decText (tsSec s.now) ++ "." ++ decPad 9 (tsNs s.now) ++ " UTC " ++ s.utcText ++ " OFFSET " ++ intText s.ts.utcOffset ++
    " LEAP " ++ s.leapText

/-- BOUND. -/
def State.boundLines (s : State) : List String :=
  ["K " ++ decText s.bound.k, "TS " ++ boundText s.bound.ts] ++
    (s.bound.out.toList.zipIdx.map fun e => "OUT" ++ decText e.2 ++ " " ++ boundText e.1) ++
    (s.bound.port.toList.zipIdx.map fun e => "P" ++ decText e.2 ++ " " ++ boundText e.1) ++ ["TWIN " ++ boundText s.bound.twin]

/-- A slot or NONE. -/
def slotText (o : Option (Fin 16)) : String :=
  match o with
  | some i => decText i.val
  | none => "NONE"

/-- REF. -/
def State.refLines (s : State) : List String :=
  ((List.finRange 16).filter fun i => s.wv.slots[i].cfg.flag Ix.slotEnable).map (fun i =>
    let x := s.wv.slots[i]
    "REF " ++ decText i.val ++ " " ++ kindText x.kind ++ " RANK " ++ decText (x.cfg.nat Ix.slotRank) ++ " " ++ x.state.name ++
      (if s.wv.selected = some i then " SEL" else "") ++ (if x.forced then " FORCED" else "") ++ " CAUSE " ++ decText x.cause ++
      " OFS " ++ signedNs ((x.lastOffset.getD 0 : Int) / (65536 : Rat)) ++ " CONTRIB " ++ boundText (s.contribution i)) ++
  ["WV SEL " ++ slotText s.wv.selected ++ " SWITCHING " ++ bitText s.wv.switch.isSome ++ " AID " ++ slotText s.wv.aid]

/-- FAULT. -/
def State.faultLine (s : State) : String :=
  "FIRST " ++ wordText s.fltFirst ++ " CYC " ++ hexText 16 s.flt.firstCyc ++ " STATUS " ++ wordText s.fltStatus ++ " WORST " ++
    decText s.flt.worst

/-- One log entry. -/
def logLine (e : Nat × List Word) : String :=
  let w := fun i => e.2.getD i 0
  let w0 := (w 0).toNat
  let at_ := if bitAt w0 4 then "RAW " ++ hexText 16 ((w 6).toNat + (w 7).toNat * 2 ^ 32)
    else decText ((w 4).toNat + bitsOf (w 5).toNat 15 0 * 2 ^ 32) ++ "." ++ decPad 9 (w 3).toNat
  decText e.1 ++ " " ++ typeText (bitsOf w0 3 0) ++ " BOOT " ++ decText (bitsOf w0 15 8) ++ " " ++ at_ ++ " " ++ wordText (w 1) ++ " " ++
    wordText (w 2)

/-- LOG: the last entries, 8,192 at most, oldest first. -/
def State.logLines (s : State) (n : Nat) : List String := (s.log.entries.take (min n 8192)).reverse.map logLine

/-- TWIN. -/
def State.twinLine (s : State) : String :=
  let t := s.twin
  "ROLE " ++ t.role.name ++ " EPOCH " ++ decText t.epoch ++ " LINK " ++ bitText t.linkUp ++ " PATHS " ++ bitText (!t.silent[(0 : Fin 2)]) ++
    " " ++ bitText (!t.silent[(1 : Fin 2)]) ++ " SYNCED " ++ bitText s.synced ++ " ELIGIBLE " ++ bitText s.eligible ++ " OFS " ++
    signedNs ((t.offset : Rat) / 65536) ++ " RTT " ++ nsText ((t.rtt.toNat : Rat) / 256) ++ " PEER " ++ roleText t.peer.role

/-! ### Registers by the monitor (R422, R475, R488 to R490, R534) -/

/-- Registers that are private to a port (R70, R112, R295, R332, R389, R452, R486, R514). -/
def privateReg (a : Nat) : Bool :=
  a == 0x014 || a == 0x018 || (0x200 ≤ a && a < 0x210) ||
    (0x1000 ≤ a && a < 0x2000 && !(0x1010 ≤ a && a < 0x1020) && !(0x10A0 ≤ a && a < 0x10A8) && !(0x10C0 ≤ a && a < 0x1100)) ||
    (0x2010 ≤ a && a < 0x2030) || (0x3B00 ≤ a && a < 0x6000) || (0x7900 ≤ a && a < 0x7910) || (0x7C00 ≤ a && a < 0x8000) ||
    (0x8000 ≤ a && a < 0xA000 && (a % 0x400 == 0x18 || a % 0x400 == 0x1C)) || (0xE400 ≤ a && a < 0xE800) || a == 0xF210 || a == 0xF214

/-- Whether PEEK may read at an offset: a shared register whose read has no effect. -/
def State.peekable (s : State) (o : Nat) : Bool :=
  o % 4 == 0 && decide (o < 2 ^ 18) && !privateReg (o % 2 ^ 16) && !readsEffect (o % 2 ^ 16) && (s.regWord s.sys.owner (o % 2 ^ 16)).isSome

/-- Lines of a read, one for each address, up to the first that cannot be read. -/
def peekLines (read : Nat → Option Word) (err : String) : List Nat → List String
  | [] => []
  | a :: l =>
    match read a with
    | some v => (hexText 8 a ++ " " ++ wordText v) :: peekLines read err l
    | none => [err]

/-- PEEK: at most 64 registers. -/
def State.peek (s : State) (o n : Nat) : List String :=
  peekLines (fun a => if s.peekable a then s.regWord s.sys.owner (a % 2 ^ 16) else none) "ERR ADDR" ((List.range (min n 64)).map fun i => o + 4 * i)

/-- Whether POKE may write at an offset: a shared register, and at an alias one that takes alias writes (R478). -/
def State.pokeable (s : State) (o : Nat) : Bool :=
  let a := o % 2 ^ 16
  o % 4 == 0 && decide (o < 2 ^ 18) && !privateReg a && s.implemented s.sys.owner a && (o < 2 ^ 16 || (aliasBits a).isSome)

/-- Shared registers that can be written (R452, R481, R483, R70, R292, R296, R389). -/
def sharedWritable (a : Nat) : Bool :=
  a == 0x010 || (0x100 ≤ a && a < 0x140 && a % 8 == 4) || (0x10C0 ≤ a && a < 0x1100) || a == 0x2044 ||
    (0x7A00 ≤ a && a < 0x7B00 && (a % 32 == 0x0C || a % 32 == 0x10)) ||
    (0x8000 ≤ a && a < 0xA000 && (a % 0x400 == 0x08 || a % 0x400 == 0x0C))

/-- POKE: with OWNER rights; a locked target is COVERAGE on a follower (R402). -/
def State.pokeReg (s : State) (o : Nat) (v : Word) : State :=
  let a := o % 2 ^ 16
  if !s.pokeable o then s.print "ERR ADDR"
  else if !sharedWritable a then s.print "IGNORED"
  else (s.writeAt s.sys.owner o v).print (if a = 0x2044 && s.follower then "IGNORED" else "OK")

/-- DPEEK: at most 64 registers, up to the first location that is not implemented. -/
def State.dpeekFrom (group : Nat) : List Nat → State → State
  | [], s => s
  | o :: l, s =>
    if o % 4 ≠ 0 || 2 ^ 16 ≤ o then s.print "ERR DIRECT"
    else
      match s.directRead group o with
      | (t, some v) => State.dpeekFrom group l (t.print (hexText 8 (group * 2 ^ 16 + o) ++ " " ++ wordText v))
      | (t, none) => t.print "ERR DIRECT"

/-- DPEEK (R490). -/
def State.dpeek (s : State) (group o n : Nat) : State :=
  if s.direct.lockdown then s.print "ERR CLOSED"
  else State.dpeekFrom group ((List.range (min n 64)).map fun i => o + 4 * i) s

/-- DPOKE (R490). -/
def State.dpoke (s : State) (group o : Nat) (v : Word) : State :=
  if s.direct.lockdown then (s.raise Flt.writeLocked 0x208).print "ERR CLOSED"
  else if o % 4 ≠ 0 || 2 ^ 16 ≤ o then s.print "ERR DIRECT"
  else
    match s.directWrite group o v with
    | (t, false) => t.print "ERR DIRECT"
    | (t, true) =>
      t.print (match directKind group o with
        | .readOnly => "IGNORED"
        | .locked => if s.afterInit then "IGNORED" else "OK"
        | _ => "OK")

/-! ### Levels (R533) -/

/-- A failed UNLOCK; the third in a row starts the wait. -/
def State.unlockFails (s : State) : State :=
  let n := s.mon.fails + 1
  { s with mon.fails := n, mon.waitFrom := if 3 ≤ n then some s.sys.cyc else none }

/-- Whether a passcode of 8 to 32 printable characters matches the image's hash (R533). -/
def imagePasses (h : ImageHdr) (p : List Byte) : Bool :=
  decide (8 ≤ p.length) && decide (p.length ≤ 32) && p.all (fun b => 0x20 ≤ b.toNat && b.toNat < 0x7F) &&
    Config.sha256 (h.passSalt ++ p) == h.passHash

/-- UNLOCK. -/
def State.unlock (s : State) (p : List Byte) : State :=
  match s.sys.hdr with
  | none => s.print "ERR NOPASS"
  | some h =>
    if h.passHash.all (· == 0) then s.print "ERR NOPASS"
    else if s.mon.waitFrom.isSome then s.print "ERR WAIT"
    else if imagePasses h p then ({ s with mon.maintain := true, mon.fails := 0 } : State).print "MAINTAIN"
    else s.unlockFails.print (if s.mon.maintain then "MAINTAIN" else "VIEW")

/-! ### Lines run (R532, R534) -/

/-- Several output lines. -/
def State.printAll (s : State) (l : List String) : State := s.each l State.print

/-- OWNER: the effects of R427; naming the OWNER itself changes nothing. -/
def State.monOwner (s : State) (n : Fin 4) : State :=
  (if n = s.sys.owner then s else s.newOwner n).print ("OWNER " ++ decText n.val)

/-- A line's effect and output at a level that has it; the prompt follows. -/
def State.runLine (s : State) (c : MonLine) : State :=
  match c with
  | .help => (s.printAll s.helpLines).promptAgain
  | .status => (s.print s.statusLine).promptAgain
  | .time => (s.print s.timeLine).promptAgain
  | .bound => (s.printAll s.boundLines).promptAgain
  | .ref => (s.printAll s.refLines).promptAgain
  | .fault => (s.print s.faultLine).promptAgain
  | .faultClear => (s.faultClear.print s.faultClear.faultLine).promptAgain
  | .log n => (s.printAll (s.logLines n)).promptAgain
  | .twin => (s.print s.twinLine).promptAgain
  | .unlock p => (s.unlock p).promptAgain
  | .lock => (({ s with mon.maintain := false } : State).print "VIEW").promptAgain
  | .peek o n => (s.printAll (s.peek o n)).promptAgain
  | .poke o v => (s.pokeReg o v).promptAgain
  | .dpeek g o n => (s.dpeek g o n).promptAgain
  | .dpoke g o v => (s.dpoke g o v).promptAgain
  | .owner n => (s.monOwner n).promptAgain
  | .reset => ((s.print "RESETTING").releaseToken).innerReset 3 0

/-- A whole line has come: in BOOT only STATUS is accepted; a line above the level is refused (R532, R534). -/
def State.enterLine (s : State) (c : MonLine) : State :=
  if s.sys.engine = .boot then
    (if c = .status then (s.print "STATE BOOT").print s.mon.bootLine else s.print "ERR CMD").promptAgain
  else if c.maintain && !s.mon.maintain then (s.print "ERR LEVEL").promptAgain
  else s.runLine c

/-- Input reaches the monitor while it runs (R520); any input counts against the 600 s (R533). -/
def State.monitored (s : State) (f : State → State) : Out :=
  if s.sys.straps.monEn && s.sys.engine != .reset then .next (f { s with mon.lastInput := s.sys.cyc }) else .next s

/-- The end of a typed line (R532). -/
def State.endLine (s : State) : State :=
  let l := s.mon.line
  let s1 : State := (({ s with mon.line := [], mon.tooLong := false } : State).monOut "\r\n")
  if s.mon.tooLong then (s1.print "ERR LONG").promptAgain
  else if (splitWords [] l).isEmpty then s1.promptAgain
  else
    match parseLine l with
    | none => (s1.print "ERR CMD").promptAgain
    | some c => s1.enterLine c

/-- A character joins the line, which holds 80 (R532). -/
def State.typeChar (s : State) (c : Byte) : State :=
  let l := s.mon.line ++ [c]
  let s1 := s.monOut (octetText ((echoOf l).drop s.mon.line.length))
  if 80 < l.length then { s1 with mon.tooLong := true } else { s1 with mon.line := l }

/-- MON_CHARACTER (R532). -/
def execMonCharacter (c : Byte) (s : State) : Out :=
  s.monitored fun t =>
    if c = 0x0D then t.endLine
    else if c = 0x0A then t
    else if c = 0x08 then ({ t with mon.line := t.mon.line.dropLast } : State).monOut (octetText [c])
    else t.typeChar c

/-- MON_HELP (R534). -/
def execMonHelp (s : State) : Out := s.monitored fun t => t.enterLine .help
/-- MON_STATUS (R534). -/
def execMonStatus (s : State) : Out := s.monitored fun t => t.enterLine .status
/-- MON_TIME (R534). -/
def execMonTime (s : State) : Out := s.monitored fun t => t.enterLine .time
/-- MON_BOUND (R534). -/
def execMonBound (s : State) : Out := s.monitored fun t => t.enterLine .bound
/-- MON_REF (R534). -/
def execMonRef (s : State) : Out := s.monitored fun t => t.enterLine .ref
/-- MON_FAULT (R534). -/
def execMonFault (s : State) : Out := s.monitored fun t => t.enterLine .fault
/-- MON_FAULT_CLEAR (R502, R534). -/
def execMonFaultClear (s : State) : Out := s.monitored fun t => t.enterLine .faultClear
/-- MON_LOG (R534). -/
def execMonLog (n : Nat) (s : State) : Out := s.monitored fun t => t.enterLine (.log n)
/-- MON_TWIN (R534). -/
def execMonTwin (s : State) : Out := s.monitored fun t => t.enterLine .twin
/-- MON_UNLOCK (R533). -/
def execMonUnlock (passcode : List Byte) (s : State) : Out := s.monitored fun t => t.enterLine (.unlock passcode)
/-- MON_LOCK (R533). -/
def execMonLock (s : State) : Out := s.monitored fun t => t.enterLine .lock
/-- MON_PEEK (R534). -/
def execMonPeek (offset count : Nat) (s : State) : Out := s.monitored fun t => t.enterLine (.peek offset count)
/-- MON_POKE (R475, R534). -/
def execMonPoke (offset : Nat) (v : Word) (s : State) : Out := s.monitored fun t => t.enterLine (.poke offset v)
/-- MON_DPEEK (R489, R490, R534). -/
def execMonDpeek (group offset count : Nat) (s : State) : Out := s.monitored fun t => t.enterLine (.dpeek group offset count)
/-- MON_DPOKE (R489, R490, R534). -/
def execMonDpoke (group offset : Nat) (v : Word) (s : State) : Out := s.monitored fun t => t.enterLine (.dpoke group offset v)
/-- MON_OWNER (R427, R534). -/
def execMonOwner (n : Fin 4) (s : State) : Out := s.monitored fun t => t.enterLine (.owner n)
/-- MON_RESET (R516, R519, R534). -/
def execMonReset (s : State) : Out := s.monitored fun t => t.enterLine .reset

/-- MON_MAINTAIN_TIMEOUT (R533): 600 s without input. -/
def execMonMaintainTimeout (s : State) : Out :=
  if s.mon.maintain && s.lapsed (s.mon.lastInput + 600 * secCyc) then .next { s with mon.maintain := false } else .next s

/-- MON_UNLOCK_WAIT_EXPIRY (R533): the 60 s are over, and failures count anew. -/
def execMonUnlockWaitExpiry (s : State) : Out :=
  match s.mon.waitFrom with
  | some c => if s.lapsed (c + 60 * secCyc) then .next { s with mon.waitFrom := none, mon.fails := 0 } else .next s
  | none => .next s

end Sys2Proof.Machine
end

