-- ==== Sys2Proof/Machine/Dispatch.lean ====
section
/-! DEFINITION. The meaning of every command, one arm per constructor of `Instr`. -/

namespace Sys2Proof.Machine

/-- What a command does to everything but the queue. -/
def exec (i : Instr) (s : State) : Host.Outcome State Fault Refusal :=
  match i with
  | .powerOnDetect => Sys2Proof.Machine.execPowerOnDetect s
  | .powerOnDetectRelease straps => Sys2Proof.Machine.execPowerOnDetectRelease straps s
  | .resetNLow lowNs => Sys2Proof.Machine.execResetNLow lowNs s
  | .resetNHigh straps => Sys2Proof.Machine.execResetNHigh straps s
  | .rpllLock cclkBefore => Sys2Proof.Machine.execRpllLock cclkBefore s
  | .rpllLockTimeout => Sys2Proof.Machine.execRpllLockTimeout s
  | .bootImageReadDone hdr reject => Sys2Proof.Machine.execBootImageReadDone hdr reject s
  | .initComplete cal failed => Sys2Proof.Machine.execInitComplete cal failed s
  | .watchdogExpiry => Sys2Proof.Machine.execWatchdogExpiry s
  | .warmupTimeExpiry => Sys2Proof.Machine.execWarmupTimeExpiry s
  | .rpllLossOfLock => Sys2Proof.Machine.execRpllLossOfLock s
  | .lockstepMismatch => Sys2Proof.Machine.execLockstepMismatch s
  | .vddDroopDetect det depthMv => Sys2Proof.Machine.execVddDroopDetect det depthMv s
  | .sramEccError memory uncorrectable held => Sys2Proof.Machine.execSramEccError memory uncorrectable held s
  | .collectorSelfFault word => Sys2Proof.Machine.execCollectorSelfFault word s
  | .debugUnlock => Sys2Proof.Machine.execDebugUnlock s
  | .warmResetStart => Sys2Proof.Machine.execWarmResetStart s
  | .conversionSetEffect => Sys2Proof.Machine.execConversionSetEffect s
  | .leapAtReached => Sys2Proof.Machine.execLeapAtReached s
  | .smearRampStart p => Sys2Proof.Machine.execSmearRampStart p s
  | .smearRampEnd p => Sys2Proof.Machine.execSmearRampEnd p s
  | .checkpointWrite ok word => Sys2Proof.Machine.execCheckpointWrite ok word s
  | .boundRecompute => Sys2Proof.Machine.execBoundRecompute s
  | .coverageWrite hp v => Sys2Proof.Machine.execCoverageWrite hp v s
  | .captureRequest hp v => Sys2Proof.Machine.execCaptureRequest hp v s
  | .captureComplete hp => Sys2Proof.Machine.execCaptureComplete hp s
  | .ptmRequest hp => Sys2Proof.Machine.execPtmRequest hp s
  | .tdcEdge ch rising fine => Sys2Proof.Machine.execTdcEdge ch rising fine s
  | .deglitchAccept ch => Sys2Proof.Machine.execDeglitchAccept ch s
  | .windowClose ch => Sys2Proof.Machine.execWindowClose ch s
  | .intervalTimeout ch => Sys2Proof.Machine.execIntervalTimeout ch s
  | .gateEnd ch => Sys2Proof.Machine.execGateEnd ch s
  | .tdcCalComplete ch lineB cal => Sys2Proof.Machine.execTdcCalComplete ch lineB cal s
  | .delayLineSwap ch => Sys2Proof.Machine.execDelayLineSwap ch s
  | .tdcTableStale ch => Sys2Proof.Machine.execTdcTableStale ch s
  | .tempSlewCheck => Sys2Proof.Machine.execTempSlewCheck s
  | .recordBuild => Sys2Proof.Machine.execRecordBuild s
  | .evqRdWrite hp v => Sys2Proof.Machine.execEvqRdWrite hp v s
  | .refMeasurement slot y => Sys2Proof.Machine.execRefMeasurement slot y s
  | .clockSignalLoss c => Sys2Proof.Machine.execClockSignalLoss c s
  | .wtrExpiry slot => Sys2Proof.Machine.execWtrExpiry slot s
  | .confirmExpiry slot => Sys2Proof.Machine.execConfirmExpiry slot s
  | .wvEvaluate => Sys2Proof.Machine.execWvEvaluate s
  | .disputeEvaluate => Sys2Proof.Machine.execDisputeEvaluate s
  | .irigbFrameDecode slot f => Sys2Proof.Machine.execIrigbFrameDecode slot f s
  | .todFrameDecode slot bytes framingOk inTime => Sys2Proof.Machine.execTodFrameDecode slot bytes framingOk inTime s
  | .ptpSlotMessage m arrival => Sys2Proof.Machine.execPtpSlotMessage m arrival s
  | .ptpSlotTimeout => Sys2Proof.Machine.execPtpSlotTimeout s
  | .esmcPduReceive port ssm => Sys2Proof.Machine.execEsmcPduReceive port ssm s
  | .esmcTimeout port => Sys2Proof.Machine.execEsmcTimeout port s
  | .feedforwardUpdate => Sys2Proof.Machine.execFeedforwardUpdate s
  | .loopSlewPersist => Sys2Proof.Machine.execLoopSlewPersist s
  | .senseReadCycle onDie => Sys2Proof.Machine.execSenseReadCycle onDie s
  | .senseReadResult sensor r => Sys2Proof.Machine.execSenseReadResult sensor r s
  | .senseRetry sensor => Sys2Proof.Machine.execSenseRetry sensor s
  | .forecastObservation => Sys2Proof.Machine.execForecastObservation s
  | .hourlyRefit => Sys2Proof.Machine.execHourlyRefit s
  | .dailyRefit => Sys2Proof.Machine.execDailyRefit s
  | .modelAgeExpiry f => Sys2Proof.Machine.execModelAgeExpiry f s
  | .tempGapExpiry f => Sys2Proof.Machine.execTempGapExpiry f s
  | .synthApplyMarker os => Sys2Proof.Machine.execSynthApplyMarker os s
  | .synthLockDone os band => Sys2Proof.Machine.execSynthLockDone os band s
  | .synthLossOfLock os => Sys2Proof.Machine.execSynthLossOfLock os s
  | .synthRelockAttempt os band => Sys2Proof.Machine.execSynthRelockAttempt os band s
  | .pulseEdge pin => Sys2Proof.Machine.execPulseEdge pin s
  | .irigbOutputFrame pin => Sys2Proof.Machine.execIrigbOutputFrame pin s
  | .todFrameSend tio => Sys2Proof.Machine.execTodFrameSend tio s
  | .alignStepExecute os => Sys2Proof.Machine.execAlignStepExecute os s
  | .walkComplete os => Sys2Proof.Machine.execWalkComplete os s
  | .streamHealthCheck stream runs => Sys2Proof.Machine.execStreamHealthCheck stream runs s
  | .acqDwellComplete noise powers => Sys2Proof.Machine.execAcqDwellComplete noise powers s
  | .acqVerifyComplete noise powers => Sys2Proof.Machine.execAcqVerifyComplete noise powers s
  | .trackChannelLost chan => Sys2Proof.Machine.execTrackChannelLost chan s
  | .gnssEpoch meas eph alm view => Sys2Proof.Machine.execGnssEpoch meas eph alm view s
  | .gnssSolutionComplete nav => Sys2Proof.Machine.execGnssSolutionComplete nav s
  | .gnssStartTimeout => Sys2Proof.Machine.execGnssStartTimeout s
  | .exclusionExpiry sat => Sys2Proof.Machine.execExclusionExpiry sat s
  | .surveyTimeEnd => Sys2Proof.Machine.execSurveyTimeEnd s
  | .notchSpectrum stream binsDb => Sys2Proof.Machine.execNotchSpectrum stream binsDb s
  | .jnReport stream power => Sys2Proof.Machine.execJnReport stream power s
  | .ephRefreshLimit => Sys2Proof.Machine.execEphRefreshLimit s
  | .snapshotModeCapture obs nav => Sys2Proof.Machine.execSnapshotModeCapture obs nav s
  | .snapshotCaptureStart => Sys2Proof.Machine.execSnapshotCaptureStart s
  | .snapshotCaptureComplete before samples => Sys2Proof.Machine.execSnapshotCaptureComplete before samples s
  | .snapshotProcessComplete obs nav => Sys2Proof.Machine.execSnapshotProcessComplete obs nav s
  | .frameReceive port f => Sys2Proof.Machine.execFrameReceive port f s
  | .linkUp port => Sys2Proof.Machine.execLinkUp port s
  | .linkLoss port hiBer fault => Sys2Proof.Machine.execLinkLoss port hiBer fault s
  | .portConfigApply port => Sys2Proof.Machine.execPortConfigApply port s
  | .frameLaunch port => Sys2Proof.Machine.execFrameLaunch port s
  | .prpEntryForget pair source => Sys2Proof.Machine.execPrpEntryForget pair source s
  | .tsqRdWrite hp port v => Sys2Proof.Machine.execTsqRdWrite hp port v s
  | .requestDispatch port => Sys2Proof.Machine.execRequestDispatch port s
  | .squallHoldTimeout engine => Sys2Proof.Machine.execSquallHoldTimeout engine s
  | .squallParityError engine => Sys2Proof.Machine.execSquallParityError engine s
  | .squallWorkComplete engine => Sys2Proof.Machine.execSquallWorkComplete engine s
  | .periodicMessage source => Sys2Proof.Machine.execPeriodicMessage source s
  | .esmcEventPdu port => Sys2Proof.Machine.execEsmcEventPdu port s
  | .grantExpiry index => Sys2Proof.Machine.execGrantExpiry index s
  | .garpRepeat => Sys2Proof.Machine.execGarpRepeat s
  | .hlRxProdWrite hp v => Sys2Proof.Machine.execHlRxProdWrite hp v s
  | .hlTxProdWrite hp v => Sys2Proof.Machine.execHlTxProdWrite hp v s
  | .hlTxFetch lane d => Sys2Proof.Machine.execHlTxFetch lane d s
  | .hlCtrlWrite hp v => Sys2Proof.Machine.execHlCtrlWrite hp v s
  | .hlDmaComplete lane ok bufferAddr bufferLen => Sys2Proof.Machine.execHlDmaComplete lane ok bufferAddr bufferLen s
  | .keyExpiry sa slot => Sys2Proof.Machine.execKeyExpiry sa slot s
  | .keyDrainComplete sa slot => Sys2Proof.Machine.execKeyDrainComplete sa slot s
  | .drbgReseed => Sys2Proof.Machine.execDrbgReseed s
  | .entropyTestFail adaptive => Sys2Proof.Machine.execEntropyTestFail adaptive s
  | .drbgResume => Sys2Proof.Machine.execDrbgResume s
  | .sketchRollover => Sys2Proof.Machine.execSketchRollover s
  | .mainsLossTimeout feed => Sys2Proof.Machine.execMainsLossTimeout feed s
  | .gteGapExpiry feed => Sys2Proof.Machine.execGteGapExpiry feed s
  | .gqRdWrite hp v => Sys2Proof.Machine.execGqRdWrite hp v s
  | .cpFrameSync cp samples => Sys2Proof.Machine.execCpFrameSync cp samples s
  | .cpRateMeasure cp => Sys2Proof.Machine.execCpRateMeasure cp s
  | .cpStartExecute => Sys2Proof.Machine.execCpStartExecute s
  | .cpRxRdWrite hp cp v => Sys2Proof.Machine.execCpRxRdWrite hp cp v s
  | .cpTxWrWrite hp cp v => Sys2Proof.Machine.execCpTxWrWrite hp cp v s
  | .ttFrameSend fine => Sys2Proof.Machine.execTtFrameSend fine s
  | .ttFrameReceive f => Sys2Proof.Machine.execTtFrameReceive f s
  | .twinOffsetDeliver => Sys2Proof.Machine.execTwinOffsetDeliver s
  | .heartbeatSend => Sys2Proof.Machine.execHeartbeatSend s
  | .heartbeatReceive net h => Sys2Proof.Machine.execHeartbeatReceive net h s
  | .pathSilence net => Sys2Proof.Machine.execPathSilence net s
  | .witnessWaitExpiry => Sys2Proof.Machine.execWitnessWaitExpiry s
  | .discoverTimeExpiry => Sys2Proof.Machine.execDiscoverTimeExpiry s
  | .bulkTransferComplete items activeKeys => Sys2Proof.Machine.execBulkTransferComplete items activeKeys s
  | .bulkTransferTimeout => Sys2Proof.Machine.execBulkTransferTimeout s
  | .replReceive item => Sys2Proof.Machine.execReplReceive item s
  | .balandouLinkUp => Sys2Proof.Machine.execBalandouLinkUp s
  | .balandouLinkLoss => Sys2Proof.Machine.execBalandouLinkLoss s
  | .twinCalibrateComplete => Sys2Proof.Machine.execTwinCalibrateComplete s
  | .ombRead hp mb => Sys2Proof.Machine.execOmbRead hp mb s
  | .mbStallTimeout hp mb => Sys2Proof.Machine.execMbStallTimeout hp mb s
  | .nqRdWrite hp v => Sys2Proof.Machine.execNqRdWrite hp v s
  | .peerRingWrite hp v => Sys2Proof.Machine.execPeerRingWrite hp v s
  | .hpResetWrite hp v => Sys2Proof.Machine.execHpResetWrite hp v s
  | .lockRead hp lock => Sys2Proof.Machine.execLockRead hp lock s
  | .lockWrite hp lock v => Sys2Proof.Machine.execLockWrite hp lock v s
  | .maskWrite hp reg v => Sys2Proof.Machine.execMaskWrite hp reg v s
  | .pcieFlr hp => Sys2Proof.Machine.execPcieFlr hp s
  | .pcieLinkLoss hp => Sys2Proof.Machine.execPcieLinkLoss hp s
  | .hpPerst hp => Sys2Proof.Machine.execHpPerst hp s
  | .spiWrite hp addr words => Sys2Proof.Machine.execSpiWrite hp addr words s
  | .spiRead hp addr count => Sys2Proof.Machine.execSpiRead hp addr count s
  | .spiStatus hp => Sys2Proof.Machine.execSpiStatus hp s
  | .spiBadOpcode hp => Sys2Proof.Machine.execSpiBadOpcode hp s
  | .spiCsCut hp addr write => Sys2Proof.Machine.execSpiCsCut hp addr write s
  | .registerWrite hp acc v => Sys2Proof.Machine.execRegisterWrite hp acc v s
  | .aliasSetWrite hp acc v => Sys2Proof.Machine.execAliasSetWrite hp acc v s
  | .aliasClearWrite hp acc v => Sys2Proof.Machine.execAliasClearWrite hp acc v s
  | .aliasToggleWrite hp acc v => Sys2Proof.Machine.execAliasToggleWrite hp acc v s
  | .updateGroupStrobe hp v => Sys2Proof.Machine.execUpdateGroupStrobe hp v s
  | .immediateWrite hp group v => Sys2Proof.Machine.execImmediateWrite hp group v s
  | .dwCtrlWrite hp v => Sys2Proof.Machine.execDwCtrlWrite hp v s
  | .dwDataRead hp => Sys2Proof.Machine.execDwDataRead hp s
  | .dwDataWrite hp v => Sys2Proof.Machine.execDwDataWrite hp v s
  | .perfRead hp acc => Sys2Proof.Machine.execPerfRead hp acc s
  | .faultProcess => Sys2Proof.Machine.execFaultProcess s
  | .perfWindowEnd => Sys2Proof.Machine.execPerfWindowEnd s
  | .counterDumpWrite hp ok => Sys2Proof.Machine.execCounterDumpWrite hp ok s
  | .fwWriteDone => Sys2Proof.Machine.execFwWriteDone s
  | .fwCommitDone valid hdr => Sys2Proof.Machine.execFwCommitDone valid hdr s
  | .status hp mb => Sys2Proof.Machine.execStatus hp mb s
  | .reset hp mb => Sys2Proof.Machine.execReset hp mb s
  | .grant hp mb => Sys2Proof.Machine.execGrant hp mb s
  | .ownerHandover hp mb => Sys2Proof.Machine.execOwnerHandover hp mb s
  | .clockId hp mb => Sys2Proof.Machine.execClockId hp mb s
  | .warmupTime hp mb => Sys2Proof.Machine.execWarmupTime hp mb s
  | .step hp mb => Sys2Proof.Machine.execStep hp mb s
  | .rate hp mb => Sys2Proof.Machine.execRate hp mb s
  | .utcOffset hp mb => Sys2Proof.Machine.execUtcOffset hp mb s
  | .leap hp mb => Sys2Proof.Machine.execLeap hp mb s
  | .smear hp mb => Sys2Proof.Machine.execSmear hp mb s
  | .boundThreshold hp mb => Sys2Proof.Machine.execBoundThreshold hp mb s
  | .tdcConfig hp mb => Sys2Proof.Machine.execTdcConfig hp mb s
  | .refConfig hp mb => Sys2Proof.Machine.execRefConfig hp mb s
  | .refForce hp mb => Sys2Proof.Machine.execRefForce hp mb s
  | .refAdmit hp mb => Sys2Proof.Machine.execRefAdmit hp mb s
  | .refLockout hp mb => Sys2Proof.Machine.execRefLockout hp mb s
  | .steerConfig hp mb => Sys2Proof.Machine.execSteerConfig hp mb s
  | .flywheelConfig hp mb => Sys2Proof.Machine.execFlywheelConfig hp mb s
  | .senseConfig hp mb => Sys2Proof.Machine.execSenseConfig hp mb s
  | .holdTarget hp mb => Sys2Proof.Machine.execHoldTarget hp mb s
  | .synthConfig hp mb => Sys2Proof.Machine.execSynthConfig hp mb s
  | .outputConfig hp mb => Sys2Proof.Machine.execOutputConfig hp mb s
  | .alignPulses hp mb => Sys2Proof.Machine.execAlignPulses hp mb s
  | .gnssConfig hp mb => Sys2Proof.Machine.execGnssConfig hp mb s
  | .gnssAid hp mb => Sys2Proof.Machine.execGnssAid hp mb s
  | .snapshot hp mb => Sys2Proof.Machine.execSnapshot hp mb s
  | .snapshotRead hp mb => Sys2Proof.Machine.execSnapshotRead hp mb s
  | .snapshotRelease hp mb => Sys2Proof.Machine.execSnapshotRelease hp mb s
  | .snapshotProcess hp mb => Sys2Proof.Machine.execSnapshotProcess hp mb s
  | .portConfig hp mb => Sys2Proof.Machine.execPortConfig hp mb s
  | .prpConfig hp mb => Sys2Proof.Machine.execPrpConfig hp mb s
  | .hlRule hp mb => Sys2Proof.Machine.execHlRule hp mb s
  | .instanceConfig hp mb => Sys2Proof.Machine.execInstanceConfig hp mb s
  | .esmcConfig hp mb => Sys2Proof.Machine.execEsmcConfig hp mb s
  | .keyLoad hp mb => Sys2Proof.Machine.execKeyLoad hp mb s
  | .keyState hp mb => Sys2Proof.Machine.execKeyState hp mb s
  | .keyWrap hp mb => Sys2Proof.Machine.execKeyWrap hp mb s
  | .zeroise hp mb => Sys2Proof.Machine.execZeroise hp mb s
  | .pairKey hp mb => Sys2Proof.Machine.execPairKey hp mb s
  | .twinConfig hp mb => Sys2Proof.Machine.execTwinConfig hp mb s
  | .twinCalibrate hp mb => Sys2Proof.Machine.execTwinCalibrate hp mb s
  | .twinHandover hp mb => Sys2Proof.Machine.execTwinHandover hp mb s
  | .twinAdmit hp mb => Sys2Proof.Machine.execTwinAdmit hp mb s
  | .twinWitness hp mb => Sys2Proof.Machine.execTwinWitness hp mb s
  | .gridConfig hp mb => Sys2Proof.Machine.execGridConfig hp mb s
  | .gridTime hp mb => Sys2Proof.Machine.execGridTime hp mb s
  | .cpConfig hp mb => Sys2Proof.Machine.execCpConfig hp mb s
  | .cpStart hp mb => Sys2Proof.Machine.execCpStart hp mb s
  | .cpStop hp mb => Sys2Proof.Machine.execCpStop hp mb s
  | .cpRead hp mb => Sys2Proof.Machine.execCpRead hp mb s
  | .cpWrite hp mb => Sys2Proof.Machine.execCpWrite hp mb s
  | .faultClear hp mb => Sys2Proof.Machine.execFaultClear hp mb s
  | .faultReaction hp mb => Sys2Proof.Machine.execFaultReaction hp mb s
  | .logRead hp mb => Sys2Proof.Machine.execLogRead hp mb s
  | .counterPermit hp mb => Sys2Proof.Machine.execCounterPermit hp mb s
  | .counterWindow hp mb => Sys2Proof.Machine.execCounterWindow hp mb s
  | .counterDump hp mb => Sys2Proof.Machine.execCounterDump hp mb s
  | .fwWrite hp mb => Sys2Proof.Machine.execFwWrite hp mb s
  | .fwCommit hp mb => Sys2Proof.Machine.execFwCommit hp mb s
  | .monCharacter c => Sys2Proof.Machine.execMonCharacter c s
  | .monLog n => Sys2Proof.Machine.execMonLog n s
  | .monUnlock passcode => Sys2Proof.Machine.execMonUnlock passcode s
  | .monLock => Sys2Proof.Machine.execMonLock s
  | .monPeek offset count => Sys2Proof.Machine.execMonPeek offset count s
  | .monPoke offset v => Sys2Proof.Machine.execMonPoke offset v s
  | .monDpeek group offset count => Sys2Proof.Machine.execMonDpeek group offset count s
  | .monDpoke group offset v => Sys2Proof.Machine.execMonDpoke group offset v s
  | .monOwner n => Sys2Proof.Machine.execMonOwner n s
  | .monReset => Sys2Proof.Machine.execMonReset s
  | .monMaintainTimeout => Sys2Proof.Machine.execMonMaintainTimeout s
  | .monUnlockWaitExpiry => Sys2Proof.Machine.execMonUnlockWaitExpiry s
  | .pcieLinkUp hp => Sys2Proof.Machine.execPcieLinkUp hp s
  | .hpPerstRelease hp => Sys2Proof.Machine.execHpPerstRelease hp s
  | .witnessTokenTake => Sys2Proof.Machine.execWitnessTokenTake s
  | .delayReqSend departure => Sys2Proof.Machine.execDelayReqSend departure s
  | .registerRead hp acc => Sys2Proof.Machine.execRegisterRead hp acc s
  | .parcelWrite hp offset data => Sys2Proof.Machine.execParcelWrite hp offset data s
  | .monHelp => Sys2Proof.Machine.execMonHelp s
  | .monStatus => Sys2Proof.Machine.execMonStatus s
  | .monTime => Sys2Proof.Machine.execMonTime s
  | .monBound => Sys2Proof.Machine.execMonBound s
  | .monRef => Sys2Proof.Machine.execMonRef s
  | .monFault => Sys2Proof.Machine.execMonFault s
  | .monFaultClear => Sys2Proof.Machine.execMonFaultClear s
  | .monTwin => Sys2Proof.Machine.execMonTwin s

end Sys2Proof.Machine
end

