-- ==== Sys2Proof/Safety.lean ====
section
/-! DEFINITION. What counts as a sound state, in the terms the statements use: canonical byte memories, ranges that every step keeps. -/

namespace Sys2Proof.Machine

/-- Every byte memory of the state is in its canonical form. -/
def State.memoriesWf (s : State) : Bool :=
  memWf s.cpBuf && memWf s.flash.areaA && memWf s.flash.areaB && s.hosts.toList.all fun h => memWf h.parcel

/-- A command answers a next state. -/
def Completes (i : Instr) (s : State) : Prop := ∃ t, exec i s = .next t

/-- The rows of Omend: each opcode of R464 with the command that takes it from a mailbox. -/
def commandRows (hp : Fin 4) (mb : Fin 8) : List (Nat × Instr) :=
  [(0x00, .status hp mb), (0x01, .reset hp mb), (0x02, .grant hp mb), (0x03, .ownerHandover hp mb), (0x04, .clockId hp mb),
   (0x05, .warmupTime hp mb), (0x10, .step hp mb), (0x11, .rate hp mb), (0x12, .utcOffset hp mb), (0x13, .leap hp mb),
   (0x14, .smear hp mb), (0x15, .boundThreshold hp mb), (0x20, .tdcConfig hp mb), (0x21, .refConfig hp mb), (0x22, .refForce hp mb),
   (0x23, .refAdmit hp mb), (0x24, .refLockout hp mb), (0x30, .steerConfig hp mb), (0x31, .flywheelConfig hp mb), (0x32, .senseConfig hp mb)] ++
  [(0x33, .holdTarget hp mb), (0x40, .synthConfig hp mb), (0x41, .outputConfig hp mb), (0x42, .alignPulses hp mb), (0x50, .gnssConfig hp mb),
   (0x51, .gnssAid hp mb), (0x52, .snapshot hp mb), (0x53, .snapshotRead hp mb), (0x54, .snapshotRelease hp mb), (0x55, .snapshotProcess hp mb),
   (0x60, .portConfig hp mb), (0x61, .prpConfig hp mb), (0x62, .hlRule hp mb), (0x63, .instanceConfig hp mb), (0x64, .esmcConfig hp mb),
   (0x70, .keyLoad hp mb), (0x71, .keyState hp mb), (0x72, .keyWrap hp mb), (0x73, .zeroise hp mb), (0x74, .pairKey hp mb)] ++
  [(0x80, .twinConfig hp mb), (0x81, .twinCalibrate hp mb), (0x82, .twinHandover hp mb), (0x83, .twinAdmit hp mb), (0x84, .twinWitness hp mb),
   (0x90, .gridConfig hp mb), (0x91, .gridTime hp mb), (0x92, .cpConfig hp mb), (0x93, .cpStart hp mb), (0x94, .cpStop hp mb),
   (0x95, .cpRead hp mb), (0x96, .cpWrite hp mb), (0xA0, .faultClear hp mb), (0xA1, .faultReaction hp mb), (0xA2, .logRead hp mb),
   (0xA3, .counterPermit hp mb), (0xA4, .counterWindow hp mb), (0xA5, .counterDump hp mb), (0xB0, .fwWrite hp mb), (0xB1, .fwCommit hp mb)]

/-- What R464 says of each of these rows, in the same order: its opcode, its form, and what it does. -/
def commandForms : List CmdForm :=
  [statusForm, resetForm, grantForm, ownerHandoverForm, clockIdForm,
   warmupTimeForm, stepForm, rateForm, utcOffsetForm, leapForm,
   smearForm, boundThresholdForm, tdcConfigForm, refConfigForm, refForceForm,
   refAdmitForm, refLockoutForm, steerConfigForm, flywheelConfigForm, senseConfigForm] ++
  [holdTargetForm, synthConfigForm, outputConfigForm, alignPulsesForm, gnssConfigForm,
   gnssAidForm, snapshotForm, snapshotReadForm, snapshotReleaseForm, snapshotProcessForm,
   portConfigForm, prpConfigForm, hlRuleForm, instanceConfigForm, esmcConfigForm,
   keyLoadForm, keyStateForm, keyWrapForm, zeroiseForm, pairKeyForm] ++
  [twinConfigForm, twinCalibrateForm, twinHandoverForm, twinAdmitForm, twinWitnessForm,
   gridConfigForm, gridTimeForm, cpConfigForm, cpStartForm, cpStopForm,
   cpReadForm, cpWriteForm, faultClearForm, faultReactionForm, logReadForm,
   counterPermitForm, counterWindowForm, counterDumpForm, fwWriteForm, fwCommitForm]

/-- The command `c` is the one to be processed next, it stands in this mailbox, and its opcode, LEN and parcel are as R464 has them. -/
def State.sends (s : State) (hp : Fin 4) (mb : Fin 8) (c : Cmd) (op len results : Nat) : Prop :=
  s.cmdAt hp mb = some c ∧ c.op = op ∧ c.len = len ∧ c.fits results = true

/-- The same for a configuration command: LEN and presence bits fit its table, and with the settings `cur` as they stand it asks for the settings `v`, every row that it carries in its range (R460, R461). -/
def State.asks (s : State) (hp : Fin 4) (mb : Fin 8) (c : Cmd) (op results : Nat) (t : ParamTable) (cur v : Cfg) : Prop :=
  s.cmdAt hp mb = some c ∧ c.op = op ∧ c.rowsFit t = true ∧ c.fits results = true ∧ c.settings t cur = v ∧ badRows c.mask t 0 v = []

/-- No rule of a list is broken. -/
def unbroken {α : Type} (l : List (Bool × α)) : Bool := l.all fun x => !x.1

/-- No row of a list is out of its range. -/
def inRanges (l : List (Nat × Bool)) : Bool := l.all fun x => !x.2

end Sys2Proof.Machine
end

