-- ==== Sys2Proof/WellFormed.lean ====
section
/-! DEFINITION. The well-formed commands: what the operands must satisfy for the command to name something that can come to the block. A command that is not well formed stands for no event of the spec. -/

namespace Sys2Proof

/-- A stamp's FINE lies below 1,024 (R34). -/
def Stamp.wellFormed (t : Stamp) : Bool := t.fine < 1024

/-- The stamps that a command brings, each taken by a delay line or a port (R34, R273). -/
def Instr.stamps : Instr → List Stamp
  | .irigbFrameDecode _ f => [f.pr]
  | .todFrameDecode _ _ _ ended => [ended]
  | .ptpSlotMessage _ arrival => [arrival]
  | .delayReqSend departure => [departure]
  | .frameReceive _ f => [f.arrival]
  | .ttFrameReceive f => [f.arrival]
  | _ => []

/-- A register access: a width that the bus has, within BAR0's 256 KiB (R421, R467 to R469). -/
def Access.wellFormed (a : Access) : Bool := [8, 16, 32, 64].contains a.width && a.addr < 2 ^ 18

/-- The register accesses that a command makes. -/
def Instr.accesses : Instr → List Access
  | .registerRead _ acc | .perfRead _ acc => [acc]
  | .registerWrite _ acc _ => [acc]
  | .aliasSetWrite _ acc _ | .aliasClearWrite _ acc _ | .aliasToggleWrite _ acc _ => [acc]
  | _ => []

/-- The I and Q samples that a command brings, each of 4 bits in two's complement (R229). -/
def Instr.samples : Instr → List (Int × Int)
  | .streamHealthCheck _ runs => runs.map Prod.snd
  | .snapshotCaptureComplete before samples => before.flatten ++ samples.flatten
  | _ => []

/-- The counts that a command brings, each with the first value that it cannot take: a CCLK count, a droop depth in mV, memory instances, collector registers and MRAM words, the octets of a time-of-day line, the 100 elements of an IRIG-B frame, the 128 channels and 4 sensors, SPI addresses of 24 bits, and the 64 KiB of parcel memory (R46, R123, R128, R166, R239, R422, R435, R495). -/
def Instr.limits : Instr → List (Nat × Nat)
  | .rpllLock n => [(n, 2 ^ 64)]
  | .vddDroopDetect _ depth => [(depth, 2 ^ 12)]
  | .sramEccError memory _ _ => [(memory, 2 ^ 8)]
  | .collectorSelfFault word | .checkpointWrite _ word => [(word, 2 ^ 16)]
  | .irigbFrameDecode _ f => [(f.highUs.length, 101), (100, f.highUs.length + 1)]
  | .todFrameDecode _ bytes _ _ => [(bytes.length, 257)]
  | .senseReadCycle onDie => [(onDie.length, 5), (4, onDie.length + 1)]
  | .gnssEpoch meas _ _ _ => [(meas.length, 129)]
  | .spiWrite _ addr _ | .spiRead _ addr _ | .spiCsCut _ addr _ => [(addr, 2 ^ 24)]
  | .parcelWrite _ offset data => [(offset + data.length, 2 ^ 16 + 1)]
  | .monLog n => [(0, n)]
  | _ => []

/-- The checks on a command's operands. -/
def Instr.wellFormed (i : Instr) : Bool :=
  i.stamps.all Stamp.wellFormed && i.accesses.all Access.wellFormed &&
    (i.samples.all fun q => [q.1, q.2].all fun x => (BitVec.ofInt 4 x).toInt == x) && i.limits.all fun l => l.1 < l.2

end Sys2Proof
end

