-- ==== Sys2Proof/Certificates/Slice0/Obligations.lean ====
section
/-! DEFINITION. The statements for the provers: what each command and event does, rule by rule of spec/, with the frame of what it leaves alone; every row of the table completes in one of them. -/

open Sys2Proof Sys2Proof.Machine

/-! ### The block as a machine -/

/-- One step takes the command at the front of the queue and is its meaning on the state with the queue's rest (log entry 1). -/
def Obligations.StepRunsTheFrontCommand : Prop :=
  ∀ (c : Instr) (l : List Instr) (s : State), step { s with pending := c :: l } = exec c { s with pending := l }

/-- With no command waiting, a step is one SCLK cycle: CYC counts once the RPLL has locked, and nothing else changes (R18; that the step is a cycle is the model's choice, log entry 1). -/
def Obligations.StepWithoutCommandIsOneCycle : Prop :=
  ∀ s : State, s.pending = [] →
    step s = .next { s with sys.cyc := if s.sys.rpllLocked then s.sys.cyc + 1 else s.sys.cyc }

/-- No command stops the block: in every state each row of the table answers a next state. -/
def Obligations.EveryCommandAnswersANextState : Prop :=
  ∀ (i : Instr) (s : State), ∃ t, exec i s = .next t

/-- Every step keeps every byte memory (parcel memories, converter buffer, flash areas) in its canonical form. -/
def Obligations.EveryStepKeepsMemoriesCanonical : Prop :=
  ∀ s t : State, s.memoriesWf = true → step s = .next t → t.memoriesWf = true

/-- Nothing writes CYC: a command leaves CYC and the lock as they were, or resets the engine (CYC 0, not locked), or is the lock of the RPLL, after which CYC is 0 (R18; that CYC counts in a step of its own is the model's choice, log entry 1). -/
def Obligations.NothingWritesCyc : Prop :=
  ∀ (i : Instr) (s t : State), exec i s = .next t →
    (t.sys.cyc = s.sys.cyc ∧ t.sys.rpllLocked = s.sys.rpllLocked) ∨ (t.sys.cyc = 0 ∧ t.sys.rpllLocked = false) ∨
    ((∃ n, i = .rpllLock n) ∧ t.sys.cyc = 0 ∧ t.sys.rpllLocked = true)

/-- The state after reset has its byte memories in canonical form. After reset the engine is in RESET, SOLO, its log empty and no fault latched, and registers of every block read the reset values that their tables give (R28, R71, R112, R150, R264, R452, R487, R514). -/
def Obligations.ResetStateReadsItsTables : Prop :=
  (State.reset.memoriesWf = true) ∧
  (State.reset.sys.engine = .reset ∧ State.reset.twin.role = .solo ∧ State.reset.flt.first = none ∧ State.reset.log.entries = [] ∧
   ∀ hp : Fin 4,
     State.reset.regWord hp 0x200C = some 0x00000001 ∧ State.reset.regWord hp 0x2044 = some 0x00000005 ∧
     State.reset.regWord hp 0x204C = some 0xFFFFFFFF ∧ State.reset.regWord hp 0x3000 = some 0x00000010 ∧
     State.reset.regWord hp 0x6000 = some 0x000000F0 ∧ State.reset.regWord hp 0x1024 = some 0xFFFFFFFF ∧
     State.reset.regWord hp 0x102C = some 0xFFFFFFFF ∧ State.reset.regWord hp 0x0000 = some 0x00019600)

/-! ### Resets, boot and the system's faults -/

/-- Power-on and RESET_N: the power-on detector and a RESET_N pulse of at least 1 µs bring every block to its reset values, keep the MRAM, with the checkpoint of the state change where a time scale runs, and (for RESET_N) the log with its boot count advanced, and a shorter pulse does nothing; when the last of the two lets go, the straps are sampled and the engine enters BOOT (R423, R516 to R520). Resets from inside: the watchdog (from INIT on) and the RESET command's warm reset (once its 10 ms have passed) reset the engine and release it into BOOT with their cause; the log and the MRAM stay (R516, R518). That such a reset and its release are one step is the model's choice (log entry 21). -/
def Obligations.ResetsEnterResetAndReleaseToBoot : Prop :=
  ((∀ s : State, ∃ t, exec .powerOnDetect s = .next t ∧ t.sys.engine = .reset ∧ t.sys.por = true ∧ t.sys.resetCause = 0 ∧
     t.log.entries = [] ∧ t.mram = (if s.afterBoot then s.checkpoint.mram else s.mram) ∧ t.ts = State.reset.ts ∧ t.cmds = [] ∧ t.pending = s.pending) ∧
   (∀ (s : State) (n : Nat), n < 1000 → exec (.resetNLow n) s = .next s) ∧
   (∀ (s : State) (n : Nat), 1000 ≤ n → s.sys.engine ≠ .reset →
     ∃ t, exec (.resetNLow n) s = .next t ∧ t.sys.engine = .reset ∧ t.sys.resetN = false ∧ t.sys.resetCause = 1 ∧
       t.log.boot = s.log.boot + 1 ∧ t.mram = (if s.afterBoot then s.checkpoint.mram else s.mram) ∧ t.ts = State.reset.ts ∧ t.cmds = [] ∧ t.pending = s.pending) ∧
   (∀ (s : State) (x : Straps), s.sys.engine = .reset → s.sys.por = false →
     ∃ t, exec (.resetNHigh x) s = .next t ∧ t.sys.engine = .boot ∧ t.sys.resetN = true ∧ t.sys.straps = x ∧ t.sys.owner = x.ownerSel) ∧
   (∀ (s : State) (x : Straps), s.sys.engine = .reset → s.sys.resetN = true →
     ∃ t, exec (.powerOnDetectRelease x) s = .next t ∧ t.sys.engine = .boot ∧ t.sys.por = false ∧ t.sys.straps = x ∧ t.sys.owner = x.ownerSel)) ∧
  ((∀ s : State, s.afterBoot = true → s.sys.resetN = true → s.sys.por = false →
     ∃ t, exec .watchdogExpiry s = .next t ∧ t.sys.engine = .boot ∧ t.sys.resetCause = 4 ∧ t.log.boot = s.log.boot + 1 ∧ t.cmds = []) ∧
   (∀ (s : State) (n : Nat), s.sys.resetDue = some n → n ≤ s.sys.cyc → s.sys.engine ≠ .reset → s.sys.resetN = true → s.sys.por = false →
     ∃ t, exec .warmResetStart s = .next t ∧ t.sys.engine = .boot ∧ t.sys.resetCause = 2 ∧ t.sys.resetPort = s.sys.resetPort ∧
       t.log.boot = s.log.boot + 1 ∧ t.cmds = []))

/-- The ROM: the lock starts CYC at 0 and the read of the candidate's image, a lock that does not come ends the boot with reason 2, and a candidate that passes every check starts Clardasum in INIT (R17, R18, R525, R528). The end of INIT and the end of the warm-up: INIT_COMPLETE enters WARMUP, at the same CYC, and a warm-up whose time has passed with no slot selected enters HOLDOVER where a model is present, and otherwise goes on until a slot is selected, the time counting from each entry to WARMUP and ending once (R29, R30). -/
def Obligations.BootInitAndWarmupEndInTheirStates : Prop :=
  ((∀ (s : State) (n : Nat) (ar : Area), s.sys.engine = .boot → s.sys.stage = .waitLock ar →
     exec (.rpllLock n) s = .next { s with sys.rpllLocked := true, sys.cyc := 0, sys.cclkBefore := n, sys.stage := .reading ar }) ∧
   (∀ (s : State) (ar : Area), s.sys.engine = .boot → s.sys.stage = .waitLock ar →
     ∃ t, exec .rpllLockTimeout s = .next t ∧ t.sys = { s.sys with stage := .failed 2 } ∧ t.ts = s.ts ∧ t.log = s.log ∧ t.flt = s.flt) ∧
   (∀ (s : State) (hdr : ImageHdr) (ar : Area), s.sys.engine = .boot → s.sys.stage = .reading ar → s.sys.straps.twinEn = false →
     hdr.xinCode ≤ 5 → (s.sys.xinCode = none ∨ s.sys.xinCode = some hdr.xinCode) → s.rejects ar hdr none = none →
     ∃ t, exec (.bootImageReadDone hdr none) s = .next t ∧ t.sys.engine = .init ∧ t.sys.running = some ar ∧ t.sys.hdr = some hdr ∧
       t.sys.cyc = s.sys.cyc)) ∧
  ((∀ (s : State) (cal : CalResult) (failed : List (Fin 88)), s.sys.engine = .init → s.sys.safePending = false → s.twin.role = .solo →
     ∃ t, exec (.initComplete cal failed) s = .next t ∧ t.sys.engine = .warmup ∧ t.sys.cyc = s.sys.cyc ∧
       t.sys.warmupStart = s.sys.cyc ∧ t.outs.startupMute = false) ∧
   (∀ s : State, s.sys.engine = .warmup → s.sys.warmupOver = false → s.sys.warmupStart + s.sys.warmupTime * 625000000 < s.sys.cyc →
     s.wv.selected = none →
     ((s.fc.fw.toList.any fun w => w.model.isSome) = true →
       ∃ t, exec .warmupTimeExpiry s = .next t ∧ t.sys.engine = .holdover ∧ t.sys.cyc = s.sys.cyc ∧ t.loop.phase = .off) ∧
     ((s.fc.fw.toList.any fun w => w.model.isSome) = false →
       exec .warmupTimeExpiry s = .next { s with sys.warmupOver := true })) ∧
   (∀ (s : State) (e : EngineState), (s.setEngine e).sys.engine = e ∧
     (s.sys.engine ≠ .warmup → (s.setEngine .warmup).sys.warmupStart = s.sys.cyc ∧ (s.setEngine .warmup).sys.warmupOver = false)))

/-- The fault messages of the system source reach the collector's queue for source 0, oldest first, while it holds fewer than 16, and change nothing outside the collector but the detector's own spacing: RPLL loss of lock, lockstep mismatch, VDD droop (once per detector per 1 ms, its depth in mV above 255 reported as 255), SRAM errors (R20, R25, R493, R495, R499). The collector's own fault and the debug port's unlock: a self-fault sets FLT_STATUS's flag and makes SAFE one that only reset leaves, at once from WARMUP on; a debug unlock disables the device KEK, drops the pair key and empties both key tables (R29, R343, R506). -/
def Obligations.SystemFaultsReachTheCollector : Prop :=
  (∀ s : State, s.sys.engine ≠ .reset → s.flt.queues[(0 : Fin 16)].length < 16 →
     (s.sys.rpllLocked = true → s.flt.present.contains ⟨0, 0, 3, 0⟩ = false →
       ∃ t, exec .rpllLossOfLock s = .next t ∧ t.flt.queues[(0 : Fin 16)] = s.flt.queues[(0 : Fin 16)] ++ [(⟨0, 0, 3, 0⟩, s.sys.cyc)] ∧
         t.flt.present = s.flt.present ++ [⟨0, 0, 3, 0⟩] ∧ t = { s with flt := t.flt }) ∧
     (s.flt.present.contains ⟨0, 1, 3, 0⟩ = false →
       ∃ t, exec .lockstepMismatch s = .next t ∧ t.flt.queues[(0 : Fin 16)] = s.flt.queues[(0 : Fin 16)] ++ [(⟨0, 1, 3, 0⟩, s.sys.cyc)] ∧
         t.flt.present = s.flt.present ++ [⟨0, 1, 3, 0⟩] ∧ t = { s with flt := t.flt }) ∧
     (∀ (det : Fin 16) (mv : Nat), (∀ c, s.sys.droopLast[det] = some c → c + 625000 ≤ s.sys.cyc) →
       ∃ t, exec (.vddDroopDetect det mv) s = .next t ∧
         t.flt.queues[(0 : Fin 16)] = s.flt.queues[(0 : Fin 16)] ++ [(⟨0, 2, 1, det.val + min 255 mv * 256⟩, s.sys.cyc)] ∧
         t = { s with flt := t.flt, sys.droopLast := s.sys.droopLast.set det (some s.sys.cyc) }) ∧
     (∀ mem : Nat, mem < 65536 →
       ∃ t, exec (.sramEccError mem true .configuration) s = .next t ∧
         t.flt.queues[(0 : Fin 16)] = s.flt.queues[(0 : Fin 16)] ++ [(⟨0, 5, 2, mem⟩, s.sys.cyc)] ∧ t = { s with flt := t.flt })) ∧
  ((∀ (s : State) (word : Nat), s.sys.engine ≠ .reset →
     ∃ t, exec (.collectorSelfFault word) s = .next t ∧ t.flt.selfFault = true ∧ t.sys.resetOnly = true ∧
       (s.afterInit = true → t.sys.engine = .safe) ∧ (s.afterInit = false → t.sys.safePending = true)) ∧
   (∀ s : State, ∃ t, exec .debugUnlock s = .next t ∧ t.auth.kekEnabled = false ∧ t.auth.pairKey = none ∧
     (∀ i : Fin 4, t.auth.nts[i].state = .empty) ∧ (∀ i : Fin 64, t.auth.sa[i].state = .empty)))

/-! ### The time scale, captures and Bound -/

/-- A committed set takes effect at its boundary: it becomes the newest of at most 16 sets (RATE as requested, the offset moved by the step), the change of RATE itself leaving the time at the boundary within one unit of 2^-16 ns of what the set before gave, and the older sets stay behind it (R24, R38, R40, R42). -/
def Obligations.CommittedSetBecomesTheNewestAtItsBoundary : Prop :=
  (∀ (s : State) (k : Committed), s.ts.committed = some k → k.effect ≤ s.sys.cyc → exec .conversionSetEffect s = .next (s.setEffect k)) ∧
  (∀ (s : State) (k : Committed), s.ts.committed = some k → s.sys.cyc < k.effect → exec .conversionSetEffect s = .next s) ∧
  (∀ (s : State) (k : Committed), (s.setEffect k).ts.sets = (k.newSet s.setNow :: s.ts.sets).take 16) ∧
  (∀ (c : ConvSet) (k : Committed), k.step = none →
    (k.newSet c).cyc = k.effect ∧ (∀ r, k.rate = some r → (k.newSet c).rate = r.rate) ∧
    (k.newSet c).time (k.effect * 1024) - c.time (k.effect * 1024) ≤ 1 ∧ c.time (k.effect * 1024) - (k.newSet c).time (k.effect * 1024) ≤ 1)

/-- The conversion and its inverse (R41): the time of a step is truncated to 2^-16 ns, and the inverse of a time gives the step whose exact time lies nearest, so that no step is nearer. -/
def Obligations.InverseConversionFindsTheNearestStep : Prop :=
  ∀ (c : ConvSet) (t : Int), -(2 ^ 47) ≤ c.rate → c.rate ≤ 2 ^ 47 →
    let d := fun n : Int => ((t * 2 ^ 32 - c.offset) * 163840 - n * (2 ^ 56 + c.rate)).natAbs
    ∀ n : Int, d (c.inverse t) ≤ d n

/-- A committed set whose boundary has come takes effect: with a change of RATE alone the newest set changes and no step is counted; a host's step is counted and noted at its boundary (R40, R42, R44). At LEAP_AT, UTC_OFFSET changes by the leap second's sign, nothing is pending any more, and the time scale itself (its sets, CYC) does not move; beside that only pins whose grid counts on UTC go on with the new grid (R47, R50, R203). A smear ramp runs from its start S to S + L: it starts when a profile that smears and skips no leap second finds the time between the two, and ends when the time reaches S + L; both change its profile's running mark alone (R53). A checkpoint falls due every 16 s from WARMUP on: a good one becomes the newest record of the ring of 64 with the next sequence number and the time in whole nanoseconds; a failed one takes its place with a CRC that does not match and raises CHECKPOINT_FAIL with the MRAM word, and INIT then restores the good record before it (R46, R177, R178). COVERAGE takes 3 to 8 in its low four bits as the staged factor, and any other value raises COVERAGE_RANGE and leaves it; the routine recomputation of every Bound falls due every 62.5 ms: it counts in BOUND_EPOCH and moves neither time nor CYC (R61, R62). -/
def Obligations.TimeEventsTakeEffectWhenDue : Prop :=
  (∀ (s : State) (k : Committed), s.ts.committed = some k → k.effect ≤ s.sys.cyc →
     (k.step = none → ∃ t, exec .conversionSetEffect s = .next t ∧ t.ts.sets = (k.newSet s.setNow :: s.ts.sets).take 16 ∧
       t.ts.stepCount = s.ts.stepCount ∧ t.ts.utcOffset = s.ts.utcOffset ∧ t.sys.cyc = s.sys.cyc) ∧
     (∀ r id, k.step = some r → r.origin = .host id → ∃ t, exec .conversionSetEffect s = .next t ∧
       t.ts.sets = (k.newSet s.setNow :: s.ts.sets).take 16 ∧ t.ts.stepCount = s.ts.stepCount + 1 ∧ t.ts.lastStepAt = k.effect ∧ t.sys.cyc = s.sys.cyc)) ∧
  (∀ s : State, s.ts.leapPending ≠ 0 → (s.ts.leapAt : Int) * 65536000000000 ≤ s.now →
     ∃ t, exec .leapAtReached s = .next t ∧ t.ts = { s.ts with
       utcOffset := s.ts.utcOffset + (if s.ts.leapPending = 1 then 1 else -1), leapPending := 0, leapAt := 0 } ∧
       t = { s with ts := t.ts, outs := t.outs } ∧ t.outs.os = s.outs.os ∧
       ∀ n : Fin 80, (s.outs.pins[n].pulsed && s.outs.pins[n].onUtc) = false → t.outs.pins[n] = s.outs.pins[n]) ∧
  ((∀ (s : State) (p : Fin 4) (a : Nat) (d n : Int), s.ts.smearLeap = some (a, d, n) → s.ts.smear[p].cfg.at Ix.smearType ≠ 0 →
     s.ts.smear[p].running = false → s.ts.smear[p].skipped = false → s.ts.smear[p].start a ≤ s.now →
     s.now < s.ts.smear[p].start a + s.ts.smear[p].length →
     exec (.smearRampStart p) s = .next { s with ts.smear := upd s.ts.smear p fun y => { y with running := true } }) ∧
   (∀ (s : State) (p : Fin 4) (a : Nat) (d n : Int), s.ts.smearLeap = some (a, d, n) → s.ts.smear[p].running = true →
     s.ts.smear[p].start a + s.ts.smear[p].length ≤ s.now →
     exec (.smearRampEnd p) s = .next { s with ts.smear := upd s.ts.smear p fun y => { y with running := false } })) ∧
  (∀ s : State, s.afterInit = true → s.fc.checkpointDue ≤ s.sys.cyc →
     (∀ w : Nat, ∃ t r, exec (.checkpointWrite true w) s = .next t ∧
       t.mram.ring = (s.mram.nextSeq, r) :: s.mram.ring.filter (fun e => s.mram.nextSeq < e.1 + 64) ∧
       r.seq = s.mram.nextSeq ∧ r.crcGood = true ∧ r.time = s.now / 65536 * 65536 ∧ t.mram.nextSeq = s.mram.nextSeq + 1 ∧
       t.mram.checkpoint = some r ∧
       t = { s with fc.checkpointDue := s.sys.cyc + 10000000000, mram := t.mram, emits := t.emits }) ∧
     (∀ w : Nat, ∃ t r, exec (.checkpointWrite false w) s = .next t ∧
       t.mram.ring = (s.mram.nextSeq, r) :: s.mram.ring.filter (fun e => s.mram.nextSeq < e.1 + 64) ∧
       r.seq = s.mram.nextSeq ∧ r.crcGood = false ∧ t.mram.nextSeq = s.mram.nextSeq + 1 ∧
       t = { s with fc.checkpointDue := s.sys.cyc + 10000000000, mram := t.mram, flt := (s.raise Flt.checkpointFail w).flt })) ∧
  ((∀ (s : State) (hp : Fin 4) (v : Word), s.afterBoot = true → s.may hp .time = true → s.follower = false → s.immediate 0 0 = false →
     3 ≤ v.toNat % 16 → v.toNat % 16 ≤ 8 → exec (.coverageWrite hp v) s = .next { s with bound.kStaged := v.toNat % 16 }) ∧
   (∀ (s : State) (hp : Fin 4) (v : Word), s.afterBoot = true → s.may hp .time = true → s.follower = false →
     (v.toNat % 16 < 3 ∨ 8 < v.toNat % 16) →
     exec (.coverageWrite hp v) s = .next (s.raise Flt.coverageRange (v.toNat % 16)) ∧
       s.raise Flt.coverageRange (v.toNat % 16) = { s with flt := (s.raise Flt.coverageRange (v.toNat % 16)).flt }) ∧
   (∀ s : State, s.bound.due ≤ s.sys.cyc → (s.wv.slots.toList.any Slot.stepBlocked) = false → ∃ t, exec .boundRecompute s = .next t ∧
     t.bound.k = s.bound.kPending.getD s.bound.k ∧ t.bound.epoch = s.bound.epoch + 1 ∧ t.bound.due = s.sys.cyc + 39062500 ∧
     t.ts = s.ts ∧ t.sys = s.sys) ∧
   (∀ s : State, s.sys.cyc < s.bound.due → exec .boundRecompute s = .next s))

/-- A capture: the request marks the capture registers not VALID and busy, with the edge one SCLK cycle on, and touches nothing but that port's capture; from that edge on its completion publishes CYC, the time and the time-scale Bound of that edge, counts it and latches event 14; a PTM request of a linked PCIe port is answered with TAI nanoseconds at a granularity of 2 ns and with the unrounded Bound plus 4 ns, and counted (R73, R76, R447). -/
def Obligations.CapturesLatchOneEdgeAndPtmAnswersInTai : Prop :=
  (∀ (s : State) (hp : Fin 4) (v : Word), s.afterBoot = true → v.getLsbD 0 = true → s.hosts[hp].cap.busy = false →
    exec (.captureRequest hp v) s = .next { s with hosts := upd s.hosts hp fun h =>
      { h with cap := { h.cap with valid := false, busy := true, edge := s.sys.cyc + 1 } } }) ∧
  (∀ (s : State) (hp : Fin 4), s.hosts[hp].cap.busy = true → s.hosts[hp].cap.edge ≤ s.sys.cyc →
    ∃ t, exec (.captureComplete hp) s = .next t ∧ t.hosts[hp].cap.valid = true ∧ t.hosts[hp].cap.busy = false ∧
      t.hosts[hp].cap.count = s.hosts[hp].cap.count + 1 ∧ t.hosts[hp].cap.cyc = s.hosts[hp].cap.edge ∧
      t.hosts[hp].cap.ts = s.convert ⟨s.hosts[hp].cap.edge, 0⟩ ∧ t.hosts[hp].cap.bound = s.tsBoundAt s.hosts[hp].cap.edge ∧
      t.hosts[hp].hwEvents.getLsbD 14 = true ∧ (∀ q, q ≠ hp → t.hosts[q] = s.hosts[q]) ∧
      t = { s with hosts := t.hosts, emits := t.emits }) ∧
  (∀ (s : State) (hp : Fin 4), hp.val < 2 → s.hosts[hp].pcieUp = true → s.afterBoot = true → 0 ≤ s.now →
    ∃ ns : BitVec 64, (s.now / 65536 < 2 ^ 64 → (ns.toNat : Int) = s.now / 65536) ∧
      exec (.ptmRequest hp) s = .next { s with hosts := upd s.hosts hp fun h => { h with ptm := h.ptm + 1 },
                                               emits := .ptm hp ns 2 s.ptmBound :: s.emits }) ∧
  (∀ s : State, (s.bound.exact = none → s.ptmBound = unknownWord) ∧ ∀ b, s.bound.exact = some b → s.ptmBound = toUnits (b + 4))

/-! ### Edge stamping -/

/-- A transition on a pin of a channel without deglitch passes at once, whatever passed before it being accepted first; with deglitch time it waits, and is accepted once it has held its level that long, unless the opposite transition comes first: then both are discarded and GLITCH counts; before the RPLL locks nothing is stamped (R78, R85). An accepted transition that EDGE does not select and no interval waits for changes the channel's level alone (R82, R86). Windows, gates and intervals end when they are due. A window of a REFERENCE channel that has closed is settled: with exactly one edge inside, that edge alone goes to the record builder, with the count of those rejected since the last close; with none, EMPTY counts and no record follows (R92, R108). A gate past its boundary appends its result and the next one starts at that boundary (R98, R99), one that waits for a stamp after COUNT_LIMIT appends none (R101). An armed interval past COARSE 0xFFFFFFFF closes with an INVALID, OVERFLOW record of duration 0 and disarms (R96). The effect on slots and flywheels that follow the channel is stated with them; here none does. -/
def Obligations.EdgesWindowsAndGatesOfChannels : Prop :=
  ((∀ (s : State) (ch : Fin 88) (r : Bool) (f : Fin 1024), s.sys.rpllLocked = true → s.deglitch ch = 0 →
     exec (.tdcEdge ch r f) s = .next ((s.acceptHeld ch).acceptEdge ch ⟨s.sys.cyc, f.val⟩ (!r))) ∧
   (∀ (s : State) (ch : Fin 88) (r : Bool) (f : Fin 1024), s.sys.rpllLocked = true → s.deglitch ch ≠ 0 → s.tdc[ch].pend = none →
     exec (.tdcEdge ch r f) s = .next { s with tdc := upd s.tdc ch fun c => { c with pend := some (⟨s.sys.cyc, f.val⟩, !r) } }) ∧
   (∀ (s : State) (ch : Fin 88) (t : Stamp) (r : Bool) (f : Fin 1024), s.sys.rpllLocked = true → s.deglitch ch ≠ 0 →
     s.tdc[ch].pend = some (t, r) → s.sys.cyc < t.cyc + s.deglitch ch →
     ∃ u : State, exec (.tdcEdge ch r f) s = .next u ∧ u.tdc[ch].pend = none ∧ u.tdc[ch].glitch = s.tdc[ch].glitch + 1 ∧
       u.tdc[ch].edges = s.tdc[ch].edges ∧ (∀ c, c ≠ ch → u.tdc[c] = s.tdc[c]) ∧ u = { s with tdc := u.tdc, flt := u.flt }) ∧
   (∀ (s : State) (ch : Fin 88) (t : Stamp) (fall : Bool), s.tdc[ch].pend = some (t, fall) → t.cyc + s.deglitch ch ≤ s.sys.cyc →
     exec (.deglitchAccept ch) s = .next (s.acceptEdge ch t fall)) ∧
   (∀ (s : State) (ch : Fin 88) (t : Stamp) (fall : Bool), s.tdc[ch].selects fall = false → s.stopsFor ch fall = [] →
     s.acceptEdge ch t fall = { s with tdc := upd s.tdc ch fun c => { c with level := !fall, pend := none } })) ∧
  ((∀ (s : State) (ch : Fin 88) (k close : Int), s.tdc[ch].cfg.nat Ix.tdcMode = 1 → isFeedback ch = false →
     s.closingWindow ch = some (k, close) → s.slotsWith (fun x => x.pulseChannel ch.val) = [] →
     (s.tdc[ch].inside.filter (fun e => e.1 == k) = [] →
       ∃ t, exec (.windowClose ch) s = .next t ∧ t.tdc[ch] = { s.tdc[ch] with
           closedTo := close.toNat, inside := s.tdc[ch].inside.filter fun e => k < e.1, empty := s.tdc[ch].empty + 1,
           emptyRun := s.tdc[ch].emptyRun + 1, rejSince := 0 } ∧
         (∀ c, c ≠ ch → t.tdc[c] = s.tdc[c]) ∧ t = { s with tdc := t.tdc }) ∧
     (∀ e : Int × Stamp × Bool, s.tdc[ch].inside.filter (fun x => x.1 == k) = [e] → s.tdc[ch].fifo.length < 64 → s.tdc[ch].gate.n + 1 < 2 ^ 32 →
       ∃ t, exec (.windowClose ch) s = .next t ∧ t.tdc[ch].closedTo = close.toNat ∧ t.tdc[ch].emptyRun = 0 ∧ t.tdc[ch].rejSince = 0 ∧
         t.tdc[ch].fifo = s.tdc[ch].fifo ++ [s.tdc[ch].entry e.2.1 (s.tdc[ch].cfg.nat Ix.tdcEdge == 1) s.tdc[ch].rejSince e.2.2] ∧
         t.tdc[ch].empty = s.tdc[ch].empty ∧ (∀ c, c ≠ ch → t.tdc[c] = s.tdc[c]) ∧ t = { s with tdc := t.tdc })) ∧
   (∀ (s : State) (ch : Fin 88), s.tdc[ch].cfg.nat Ix.tdcMode = 3 → s.gateEndRaw ch < ((s.sys.cyc : Int) - s.deglitch ch) * 1024 →
     (s.tdc[ch].gate.waiting = true ∨ (isFeedback ch = false ∧ s.flywheelOn ch = none ∧
       s.slotsWith (fun x => x.clockChannel ch.val || (x.pulseChannel ch.val && x.kind != 2)) = [])) →
     ∃ t, exec (.gateEnd ch) s = .next t ∧
       t.tdc[ch].results = s.tdc[ch].results ++
         (if s.tdc[ch].gate.waiting then [] else [s.gateResult ch s.tdc[ch].gate (s.gateEndRaw ch) false false]) ∧
       t.tdc[ch].gate.start = (s.gateEndRaw ch).toNat ∧ t.tdc[ch].gate.waiting = false ∧
       (∀ c, c ≠ ch → t.tdc[c] = s.tdc[c]) ∧ t = { s with tdc := t.tdc }) ∧
   (∀ (s : State) (ch : Fin 88), s.gateEndRaw ch < ((s.sys.cyc : Int) - s.deglitch ch) * 1024 → s.tdc[ch].cfg.nat Ix.tdcMode = 3 →
     s.tdc[ch].gate.waiting = false →
     ∃ r, r = s.gateResult ch s.tdc[ch].gate (s.gateEndRaw ch) false false ∧
       exec (.gateEnd ch) s = .next ((s.endGate ch [r] (s.openGate (s.gateEndRaw ch)) (s.gateEndRaw ch)).gateDelivered ch r)) ∧
   (∀ (s : State) (ch : Fin 88) (g : Gate) (e : Int) (cut limit : Bool), g.n < 3 → (s.gateResult ch g e cut limit).valid? = none) ∧
   (∀ (s : State) (ch : Fin 88) (st : Stamp), s.tdc[ch].armed = some st → st.cyc + 0xFFFFFFFF < s.sys.cyc →
     ∃ t, exec (.intervalTimeout ch) s = .next t ∧ t.tdc[ch].armed = none ∧
       t.tdc[ch].results = s.tdc[ch].results ++
         [.interval st 0xFFFFFFFF 0 0 (s.tdc[ch].cfg.nat Ix.tdcPartner) true true (s.tdc[ch].cfg.nat Ix.tdcEdge == 1)
           s.tdc[ch].armedStale s.tdc[ch].armedLate] ∧
       (∀ c, c ≠ ch → t.tdc[c] = s.tdc[c]) ∧ t = { s with tdc := t.tdc, flt := t.flt }) ∧
   (∀ (s : State) (ch : Fin 88) (st : Stamp), s.tdc[ch].armed = some st → s.sys.cyc ≤ st.cyc + 0xFFFFFFFF →
     exec (.intervalTimeout ch) s = .next s))

/-- Calibration of the delay lines: a table is accepted when its widest bin is at most 8 steps and its anchor error at most 2, replaces that line's table and sigma and leaves the other line alone; otherwise TDC_CAL_FAIL reports channel and line and nothing else changes; a swap falls due every 625,000,000 SCLK cycles and turns to the line with the newer table; staleness follows the active table's age; the temperature check of each second of SYS_UPTIME finds a slew where an on-die sensor has moved by more than 1 °C, 2^24 of its units, since the second before (R103 to R105). -/
def Obligations.DelayLinesTakeGoodTablesAndSwap : Prop :=
  (∀ (s : State) (ch : Fin 88) (lineB : Bool) (c : CalResult), c.widestBin ≤ 8 → c.anchorErr ≤ 2 →
    ∃ t, exec (.tdcCalComplete ch lineB c) s = .next t ∧
      (lineB = false → t.tdc[ch].sigmaA = some c.sigma ∧ t.tdc[ch].ageA = s.sys.cyc ∧ t.tdc[ch].sigmaB = s.tdc[ch].sigmaB) ∧
      (lineB = true → t.tdc[ch].sigmaB = some c.sigma ∧ t.tdc[ch].ageB = s.sys.cyc ∧ t.tdc[ch].sigmaA = s.tdc[ch].sigmaA) ∧
      (∀ d, d ≠ ch → t.tdc[d] = s.tdc[d]) ∧ t = { s with tdc := t.tdc }) ∧
  (∀ (s : State) (ch : Fin 88) (lineB : Bool) (c : CalResult), (8 < c.widestBin ∨ 2 < c.anchorErr) →
    exec (.tdcCalComplete ch lineB c) s = .next (s.raise Flt.tdcCalFail (ch.val + if lineB then 256 else 0))) ∧
  (∀ (s : State) (ch : Fin 88), s.tdc[ch].swapDue ≤ s.sys.cyc →
    ∃ t, exec (.delayLineSwap ch) s = .next t ∧ t.tdc[ch].lineB = s.tdc[ch].newerLine ∧
      t.tdc[ch].swapDue = s.tdc[ch].swapDue + 625000000 ∧ (∀ d, d ≠ ch → t.tdc[d] = s.tdc[d]) ∧ t = { s with tdc := t.tdc, flt := t.flt }) ∧
  (∀ (s : State) (ch : Fin 88), ∃ t, exec (.tdcTableStale ch) s = .next t ∧ t.tdc[ch].stale = s.calOld ch ∧
    (∀ d, d ≠ ch → t.tdc[d] = s.tdc[d]) ∧ t = { s with tdc := t.tdc, flt := t.flt }) ∧
  (∀ s : State, s.sys.slewSec < s.uptime →
    exec .tempSlewCheck s = .next
      { s with calTemp := s.slewing, sys.slewSec := s.uptime, sys.onDiePrev := if s.sys.onDieRead then some s.sys.onDie else none }) ∧
  (∀ s : State, s.slewing = true ↔ ∃ v, s.sys.onDiePrev = some v ∧ ∃ i : Fin 4, 2 ^ 24 < (s.sys.onDie[i] - v[i]).natAbs)

/-- The record builder takes the oldest stamp of the lowest channel that has one into an EDGE record, or its oldest result; a host's write of EVQ_RD moves the read index when it lies at most 256 behind the write index and not ahead of it, and is otherwise ignored with EVQ_INDEX (R110, R114). An EVENT record's path in one piece: with one port on the channel's PORT_MASK and room in its event queue, the EDGE record stands at slot WR mod 256 with the raw stamp's CYC in words 1 and 2, and WR and the channel's SEQ advance (R108, R111, R112). -/
def Obligations.RecordsAreBuiltInOrderAndReadByIndex : Prop :=
  ((∀ (s : State) (ch : Fin 88) (f : FifoStamp) (fs : List FifoStamp), s.tdc[ch].fifo = f :: fs →
     (∀ c, c < ch → s.tdc[c].fifo = [] ∧ s.tdc[c].results = []) →
     exec .recordBuild s = .next (State.edgeRecord { s with tdc := upd s.tdc ch fun c => { c with fifo := fs } } ch f)) ∧
   (∀ (s : State) (ch : Fin 88) (r : Result) (rs : List Result), s.tdc[ch].fifo = [] → s.tdc[ch].results = r :: rs →
     (∀ c, c < ch → s.tdc[c].fifo = [] ∧ s.tdc[c].results = []) →
     exec .recordBuild s = .next (State.resultRecord { s with tdc := upd s.tdc ch fun c => { c with results := rs } } ch r)) ∧
   (∀ (s : State) (hp : Fin 4) (v : Word), s.afterBoot = true → (s.hosts[hp].evq.wr - v.truncate 16).toNat ≤ 256 →
     exec (.evqRdWrite hp v) s = .next { s with hosts := upd s.hosts hp fun h => { h with evq := { h.evq with rd := v.truncate 16 } } }) ∧
   (∀ (s : State) (hp : Fin 4) (v : Word), s.afterBoot = true → 256 < (s.hosts[hp].evq.wr - v.truncate 16).toNat →
     exec (.evqRdWrite hp v) s = .next (s.raise Flt.evqIndex hp.val))) ∧
  (∀ (s : State) (ch : Fin 88) (f : FifoStamp) (hp : Fin 4), s.tdc[ch].cfg.nat Ix.tdcPortMask = 2 ^ hp.val →
     (s.hosts[hp].evq.wr - s.hosts[hp].evq.rd).toNat < 256 →
     let t := s.edgeRecord ch f
     t.hosts[hp].evq.wr = s.hosts[hp].evq.wr + 1 ∧ t.hosts[hp].evq.rd = s.hosts[hp].evq.rd ∧
     (∃ w, t.hosts[hp].evq.slots.head? = some (s.hosts[hp].evq.wr.toNat % 256, w) ∧ w.length = 8 ∧
       w.getD 1 0 = BitVec.ofNat 32 f.stamp.cyc ∧ w.getD 2 0 = BitVec.ofNat 32 (f.stamp.cyc / 2 ^ 32)) ∧
     t.tdc[ch].seq = s.tdc[ch].seq + 1 ∧
     (∀ q, q ≠ hp → t.hosts[q].evq = s.hosts[q].evq))

/-! ### Weathervane -/

/-- An alarm disqualifies: a QUALIFYING, QUALIFIED or DISPUTED slot becomes DISQUALIFIED with the alarm's cause (LOCKED_OUT with cause 7 where this is the FLAP_LIMIT-th alarm of the trailing hour, FLAP_LIMIT not being 0), its timers and its force end, the alarm joins its history, and no other slot, nor time, loop, outputs or channels change; a DISQUALIFIED or LOCKED_OUT slot stays as it is (R131, R135). -/
def Obligations.AlarmDisqualifiesAndFlapsLockOut : Prop :=
  ∀ (s : State) (i : Fin 16) (c : Nat),
    ((s.wv.slots[i].state = .disqualified ∨ s.wv.slots[i].state = .lockedOut) → s.alarm i c = s) ∧
    (s.wv.slots[i].state ≠ .disqualified → s.wv.slots[i].state ≠ .lockedOut →
      ∀ t, t = s.alarm i c →
        (s.wv.slots[i].cfg.nat Ix.slotFlapLimit = 0 ∨ (s.flapsOf s.wv.slots[i]).length + 1 < s.wv.slots[i].cfg.nat Ix.slotFlapLimit →
          t.wv.slots[i].state = .disqualified ∧ t.wv.slots[i].cause = c) ∧
        (s.wv.slots[i].cfg.nat Ix.slotFlapLimit ≠ 0 → s.wv.slots[i].cfg.nat Ix.slotFlapLimit ≤ (s.flapsOf s.wv.slots[i]).length + 1 →
          t.wv.slots[i].state = .lockedOut ∧ t.wv.slots[i].cause = 7) ∧
        t.wv.slots[i].flaps = s.sys.cyc :: s.flapsOf s.wv.slots[i] ∧ t.wv.slots[i].timerStart = none ∧
        t.wv.slots[i].forced = false ∧ t.wv.slots[i].cfg = s.wv.slots[i].cfg ∧
        (∀ j, j ≠ i → t.wv.slots[j] = s.wv.slots[j]) ∧ t.wv.selected = s.wv.selected ∧
        t.ts = s.ts ∧ t.loop = s.loop ∧ t.outs = s.outs ∧ t.tdc = s.tdc ∧ t.sys = s.sys ∧ t.fc = s.fc)

/-- Losses of signal: a channel without an edge for 4 nominal periods, a port's recovered clock, 5 s without an ESMC information PDU, and a PTP slot without Announce or Sync concern the slots that they serve; each of those keeps the loss as a condition and is disqualified or locked out from whatever qualified state it had, and Weathervane evaluates. A PDU is noted; a slot whose set holds its SSM stays as it is, one whose set does not is alarmed (R120, R127, R131, R135, R136). The timers and rounds of Weathervane: the end of a WTR qualifies a frequency slot and lets a time slot whose offset passes the phase check qualify, the end of a CONFIRM_HOLD qualifies a slot disputed in phase, each second's disputes are heard rank by rank and then the returns, and each of these ends in an evaluation of the selection, after which a selected slot is selectable; a timer that has not run out does nothing (R131, R133, R134, R140, R141, R143). -/
def Obligations.LossesTimersAndDisputesOfSlots : Prop :=
  ((∀ (s : State) (ch : Fin 72) (k : Fin 88), k.val = ch.val →
     4 * 640000000000000000 / (s.tdc[k].cfg.at Ix.tdcFNom : Rat) ≤ ((s.sys.cyc : Rat) - s.tdc[k].seenAt - 1) * 1024 →
     ∃ t, exec (.clockSignalLoss (.channel ch)) s = .next t ∧ t.tdc[k].monitor = [] ∧
       ∀ i ∈ s.slotsWith (fun y => y.clockChannel ch.val), t.wv.slots[i].clockLost = true ∧
         (t.wv.slots[i].state = .disqualified ∨ t.wv.slots[i].state = .lockedOut)) ∧
   (∀ (s : State) (p : Fin 8), ∃ t, exec (.clockSignalLoss (.port p)) s = .next t ∧
     ∀ i ∈ s.synceSlots p, t.wv.slots[i].clockLost = true ∧ t.wv.slots[i].clock = [] ∧
       (t.wv.slots[i].state = .disqualified ∨ t.wv.slots[i].state = .lockedOut)) ∧
   (∀ (s : State) (p : Fin 8), s.wv.esmcLast[p] + 3125000000 < s.sys.cyc →
     ∃ t, exec (.esmcTimeout p) s = .next t ∧ ∀ i ∈ s.synceSlots p, t.wv.slots[i].esmcLost = true ∧
       (t.wv.slots[i].state = .disqualified ∨ t.wv.slots[i].state = .lockedOut)) ∧
   (∀ (s : State) (p : Fin 8), s.sys.cyc ≤ s.wv.esmcLast[p] + 3125000000 → exec (.esmcTimeout p) s = .next s) ∧
   (∀ (s : State) (i : Fin 16), s.ptpSlotIx = some i →
     (3 * (profileIntervals s.wv.slots[i].ptpProfile).1 < cycSeconds ((s.sys.cyc : Int) - s.wv.ptp.lastAnnounce) ∨
       4 * (profileIntervals s.wv.slots[i].ptpProfile).2 < cycSeconds ((s.sys.cyc : Int) - s.wv.ptp.lastSync)) →
     ∃ t, exec .ptpSlotTimeout s = .next t ∧ (t.wv.slots[i].state = .disqualified ∨ t.wv.slots[i].state = .lockedOut) ∧
       t.wv.ptp.master = none ∧ t.wv.ptp.masters = [] ∧ t.wv.ptp.seq = s.wv.ptp.seq ∧ t.wv.ptp.lastSync = s.sys.cyc) ∧
   (∀ (s : State) (p : Fin 8) (ssm : Fin 16), ∃ t, exec (.esmcPduReceive p ssm) s = .next t ∧ t.wv.esmcLast[p] = s.sys.cyc ∧
     ∀ i ∈ s.synceSlots p, t.wv.slots[i].esmcLost = false ∧
       (bitAt (s.wv.slots[i].cfg.nat (Ix.slotSource + 1)) ssm.val = true →
         t.wv.slots[i].kindBad = false ∧ t.wv.slots[i].state = s.wv.slots[i].state) ∧
       (bitAt (s.wv.slots[i].cfg.nat (Ix.slotSource + 1)) ssm.val = false →
         t.wv.slots[i].kindBad = true ∧ (t.wv.slots[i].state = .disqualified ∨ t.wv.slots[i].state = .lockedOut)))) ∧
  ((∀ (s : State) (i : Fin 16) (c : Nat), s.wv.slots[i].state = .qualifying → s.wv.slots[i].timerStart = some c → s.wv.slots[i].wtrDone = false →
     (c + s.wv.slots[i].cfg.nat Ix.slotWtr * 625000000 < s.sys.cyc →
       ∃ t, exec (.wtrExpiry i) s = .next t ∧ t.wv.slots[i].wtrDone = true ∧
         (freqKind s.wv.slots[i].kind = true → t.wv.slots[i].state = .qualified) ∧
         (timeKind s.wv.slots[i].kind = true → s.wv.slots[i].var.isSome = true → s.phaseCheck i = true → t.wv.slots[i].state = .qualified) ∧
         (timeKind s.wv.slots[i].kind = true → s.wv.slots[i].var = none → t.wv.slots[i].state = .qualifying) ∧
         (t.wv.slots[i].state ≠ .disputed → t.wv.slots[i].timerStart = none) ∧
         ∀ j, j ≠ i → t.wv.slots[j].state = s.wv.slots[j].state) ∧
     (s.sys.cyc ≤ c + s.wv.slots[i].cfg.nat Ix.slotWtr * 625000000 → exec (.wtrExpiry i) s = .next s)) ∧
   (∀ (s : State) (i : Fin 16) (c : Nat), s.wv.slots[i].state = .disputed → s.wv.slots[i].timerStart = some c → s.wv.slots[i].freqDispute = false →
     (c + s.wv.slots[i].cfg.nat Ix.slotConfirm * 625000000 < s.sys.cyc →
       ∃ t, exec (.confirmExpiry i) s = .next t ∧ t.wv.slots[i].state = .qualified ∧ t.wv.slots[i].timerStart = none ∧
         ∀ j, j ≠ i → t.wv.slots[j].state = s.wv.slots[j].state) ∧
     (s.sys.cyc ≤ c + s.wv.slots[i].cfg.nat Ix.slotConfirm * 625000000 → exec (.confirmExpiry i) s = .next s)) ∧
   (∀ s : State, s.wv.disputeDue ≤ s.sys.cyc → ∃ t, exec .disputeEvaluate s = .next t ∧ t.wv.disputeDue = s.sys.cyc + 625000000 ∧
     t = ((({ s with wv.disputeDue := s.sys.cyc + 625000000 } : State).each (List.range 16) State.disputeRank).each
       (List.finRange 16) State.disputeReturn).evaluate) ∧
   (∀ s : State, s.sys.cyc < s.wv.disputeDue → exec .disputeEvaluate s = .next s) ∧
   (∀ (s : State) (r : Nat), (s.slotsWith fun x => x.state == .qualified && !x.forced && x.cfg.nat Ix.slotRank == r).length < 2 → s.disputeRank r = s) ∧
   (∀ s : State, s.afterInit = true → ∃ t, exec .wvEvaluate s = .next t ∧ t = (s.applied 6 0).evaluate ∧
     ∀ j, t.wv.selected = some j → t.wv.slots[j].selectable = true) ∧
   (∀ s : State, s.afterInit = false → s.evaluate = s))

/-- Measurements and frames reach their slots. The oldest measurement that waits is taken, and an offset of an enabled time slot becomes its last one. A bad IRIG-B or time-of-day frame (a symbol outside its times, a marker out of place, a failed parity; a framing error, a wrong length, header, CRC or place) counts as bad and ends the run of good ones; a good one is counted, and from the second in a row the edge of an IRIG-B frame's Pr that its window accepted gives an offset, while a time-of-day frame names its second (R120, R121, R123, R126, R128). Messages outside the slot's domain do nothing, a Sync of the master fixes t1 and t2, and a Delay_Req leaves stamped and counts its sequence number (R126). -/
def Obligations.FramesAndMessagesReachTheirSlots : Prop :=
  (∀ (s : State) (i : Fin 16) (y : List Nat) (m : Meas) (l : List Meas), s.wv.slots[i].meas = m :: l →
    ∃ t, exec (.refMeasurement i y) s = .next t ∧ t = ((State.takeMeas
        { s with wv.slots := upd s.wv.slots i fun x => { x with meas := l } } i m).followTwin).followCalibration ∧
      ∀ (phi : Int) (a : Nat) (e : Rat), m = .offset phi a e → s.wv.slots[i].cfg.flag Ix.slotEnable = true →
        timeKind s.wv.slots[i].kind = true → s.wv.slots[i].state ≠ .lockedOut → t.wv.slots[i].lastOffset = some phi) ∧
  (∀ (s : State) (i : Fin 16) (y : List Nat), s.wv.slots[i].meas = [] → s.wv.slots[i].cfg.flag Ix.slotEnable = true → s.wv.slots[i].kind = 6 →
    ∃ t, exec (.refMeasurement i y) s = .next t ∧ t = s.recoveredGate i y ∧ (y = [] → t = s)) ∧
  (∀ (s : State) (i : Fin 16) (f : IrigPulses), s.wv.slots[i].cfg.flag Ix.slotEnable = true → s.wv.slots[i].cfg.nat Ix.slotKind = 4 →
    ((irigSymbols f.highUs).bind (s.decodeIrig i) = none → exec (.irigbFrameDecode i f) s = .next (s.badFrame i)) ∧
    (∀ g, (irigSymbols f.highUs).bind (s.decodeIrig i) = some g → g.quality < 12 →
      (s.wv.slots[i].goodRun = 0 ∨ s.wv.slots[i].lastFrame = some (s.irigTai g - 1)) →
      ∃ t, exec (.irigbFrameDecode i f) s = .next t ∧ t.wv.slots[i].goodRun = s.wv.slots[i].goodRun + 1 ∧
        t.wv.slots[i].badRun = 0 ∧ t.wv.slots[i].lastFrame = some (s.irigTai g) ∧ t.wv.slots[i].frameLost = false ∧
        t.wv.slots[i].state = s.wv.slots[i].state ∧ (∀ j, j ≠ i → t.wv.slots[j] = s.wv.slots[j]) ∧
        t = { s with wv := t.wv, flt := t.flt } ∧
        (s.wv.slots[i].goodRun = 0 ∨ s.wv.slots[i].edge ≠ some f.pr → t.wv.slots[i].meas = s.wv.slots[i].meas) ∧
        (s.wv.slots[i].goodRun ≠ 0 → s.wv.slots[i].edge = some f.pr →
          ∃ (phi : Int) (a : Nat) (e : Rat), t.wv.slots[i].meas = s.wv.slots[i].meas ++ [.offset phi a e]))) ∧
  (∀ (s : State) (i : Fin 16) (b : List Byte) (fr : Bool) (en : Stamp), s.wv.slots[i].cfg.flag Ix.slotEnable = true →
    s.wv.slots[i].cfg.nat Ix.slotKind = 7 → (fr = false ∨ b.length ≠ 32 ∨ s.frameInTime (Fin.ofNat 88 (s.wv.slots[i].cfg.nat Ix.slotSource)) en.steps = false) →
    ∃ t, exec (.todFrameDecode i b fr en) s = .next t ∧ t.wv.slots[i].badRun = s.wv.slots[i].badRun + 1 ∧ t.wv.slots[i].goodRun = 0 ∧
      t.wv.slots[i].frames = ((en.steps, none) :: s.wv.slots[i].frames).take 4) ∧
  (∀ (s : State) (i : Fin 16) (b : List Byte) (en : Stamp), s.wv.slots[i].cfg.flag Ix.slotEnable = true → s.wv.slots[i].cfg.nat Ix.slotKind = 7 →
    b.length = 32 → (b.map BitVec.toNat).take 4 = [0x51, 0x54, 1, 32] →
    octetsNat (b.drop 28) = (crc32 ((b.map BitVec.toNat).take 28)).toNat → bitAt ((b.map BitVec.toNat).getD 12 0) 2 = false →
    s.frameInTime (Fin.ofNat 88 (s.wv.slots[i].cfg.nat Ix.slotSource)) en.steps = true →
    ∃ t, exec (.todFrameDecode i b true en) s = .next t ∧
      t.wv.slots[i].frames = ((en.steps, some (octetsNat ((b.drop 4).take 6) : Int)) :: s.wv.slots[i].frames).take 4 ∧
      t.wv.slots[i].badRun = 0 ∧ t.wv.slots[i].goodRun = s.wv.slots[i].goodRun + 1 ∧ t.wv.slots[i].state = s.wv.slots[i].state ∧
      t = { s with wv.slots := t.wv.slots } ∧ ∀ j, j ≠ i → t.wv.slots[j] = s.wv.slots[j]) ∧
  (∀ (s : State) (i : Fin 16),
    (s.badFrame i).wv.slots[i].badRun = s.wv.slots[i].badRun + 1 ∧ (s.badFrame i).wv.slots[i].goodRun = 0 ∧
    (s.badFrame i).wv.slots[i].lastFrame = none ∧
    (s.badFrame i).wv.slots[i].frameLost = decide (s.wv.slots[i].cfg.nat Ix.slotEmptyLimit ≤ s.wv.slots[i].badRun + 1) ∧
    (s.wv.slots[i].badRun + 1 < s.wv.slots[i].cfg.nat Ix.slotEmptyLimit →
      s.badFrame i = { s with wv.slots := (s.badFrame i).wv.slots, flt := (s.badFrame i).flt })) ∧
  (∀ (s : State) (o : List Byte) (a : Stamp), ptpOf o = none → exec (.ptpSlotMessage o a) s = .next s) ∧
  (∀ (s : State) (i : Fin 16) (o : List Byte) (m : PtpMsg) (a : Stamp), ptpOf o = some m → s.ptpSlotIx = some i → m.domain ≠ s.wv.slots[i].ptpDomain →
    exec (.ptpSlotMessage o a) s = .next s) ∧
  (∀ (s : State) (i : Fin 16) (o : List Byte) (m : PtpMsg) (a : Stamp), ptpOf o = some m → s.ptpSlotIx = some i → m.domain = s.wv.slots[i].ptpDomain →
    verifiedKind m.kind = true → s.verifyPtp (s.wv.slots[i].ptpSpp) (bitAt (s.wv.slots[i].source 5) 8) m = 0 →
    ∃ t, exec (.ptpSlotMessage o a) s = .next t ∧ t = s.ptpMessage i m a ∧
      ∀ origin : Int, m.kind = .sync false origin → s.wv.ptp.master = some (m.sourceId, m.sourcePort) →
        t.wv.ptp.t1 = some (origin + m.corr) ∧ t.wv.ptp.t2 = some (s.convert a) ∧ t.wv.ptp.lastSync = s.sys.cyc) ∧
  (∀ (s : State) (i : Fin 16) (m : Nat × Nat) (d : Stamp), s.ptpSlotIx = some i → s.wv.ptp.master = some m →
    s.ports[s.wv.slots[i].ptpPort].linkUp = true → s.follower = false →
    ∃ t, exec (.delayReqSend d) s = .next t ∧ t.wv.ptp.t3 = some (s.convert d) ∧ t.wv.ptp.t4 = none ∧
      t.wv.ptp.seq = s.wv.ptp.seq + 1 ∧ t.wv.slots = s.wv.slots ∧
      t.emits.head? = some (.frame s.wv.slots[i].ptpPort d.steps
        (padded (s.delayReqOctets i) ++ fcsOf (padded (s.delayReqOctets i))) false) ∧
      t = { s with freeCtr := s.freeCtr + 2, ports := t.ports, perf := t.perf, hosts := t.hosts, emits := t.emits, wv := t.wv })

/-! ### The loop and Forecast -/

/-- The loop at an offset: the correction moves by at most SLEW_LIMIT times the interval whatever the offset, SLEW_LIMITED shows exactly when the move was cut short, the integrator stands still while RATE is clamped, and a request outside RATE's range freezes it (R39, R156, R157). -/
def Obligations.LoopCorrectionMovesNoFasterThanTheSlewLimit : Prop :=
  (∀ (s : State) (phi : Int) (c : Nat) (dt : Rat), 0 ≤ dt → 0 ≤ s.loop.cfg.at Ix.steerSlewLimit →
    |(s.loopOffset phi c dt).loop.corr - s.loop.corr| ≤ frac64 (s.loop.cfg.at Ix.steerSlewLimit) * dt ∧
    ((s.loopOffset phi c dt).loop.slewLimited = true ↔
      (s.loopOffset phi c dt).loop.corr - s.loop.corr ≠
        2 * (2 * Config.pi * s.loop.bandwidth) * unitSeconds phi + (s.loopOffset phi c dt).loop.integ - s.loop.corr)) ∧
  (∀ (s : State) (phi : Int) (c : Nat) (dt : Rat), s.loop.frozen.isSome = true → (s.loopOffset phi c dt).loop.integ = s.loop.integ) ∧
  (∀ (s : State) (r : Rat), rateMax < looseRound (r * 2 ^ 56) → (s.loopRequest r).loop.frozen = some true) ∧
  (∀ (s : State) (r : Rat), looseRound (r * 2 ^ 56) < rateMin → (s.loopRequest r).loop.frozen = some false) ∧
  (∀ (s : State) (r : Rat), rateMin ≤ looseRound (r * 2 ^ 56) → looseRound (r * 2 ^ 56) ≤ rateMax → (s.loopRequest r).loop.frozen = none)

/-- The phases: TRACK falls to SETTLE and SETTLE to ACQUIRE on a residual above the exit limit; ACQUIRE becomes SETTLE, and SETTLE TRACK, once the residual has stayed within the limit for the hold time; otherwise the phase stays, and nothing but the loop and the fault messages change (R158). -/
def Obligations.LoopPhaseFollowsTheResidual : Prop :=
  ∀ s : State,
    (s.loop.phase = .track → ((s.loop.cfg.at Ix.steerTrackExit : Rat) < |s.loop.resid| → s.evalPhase.loop.phase = .settle) ∧
      (|s.loop.resid| ≤ (s.loop.cfg.at Ix.steerTrackExit : Rat) → s.evalPhase = s)) ∧
    (s.loop.phase = .settle → (s.loop.cfg.at Ix.steerSettleExit : Rat) < |s.loop.resid| → s.evalPhase.loop.phase = .acquire) ∧
    (s.loop.phase = .settle → |s.loop.resid| ≤ (s.loop.cfg.at Ix.steerSettleExit : Rat) →
      (s.evalPhase.loop.phase = .track ↔ |s.loop.resid| ≤ (s.loop.cfg.at Ix.steerSettleLimit : Rat) ∧
        s.loop.runStart.getD s.sys.cyc + (s.loop.cfg.at Ix.steerSettleHold).toNat * 625000000 ≤ s.sys.cyc) ∧
      (s.evalPhase.loop.phase = .track ∨ s.evalPhase.loop.phase = .settle)) ∧
    (s.loop.phase = .acquire →
      (s.evalPhase.loop.phase = .settle ↔ |s.loop.resid| ≤ (s.loop.cfg.at Ix.steerAcqLimit : Rat) ∧
        s.loop.runStart.getD s.sys.cyc + (s.loop.cfg.at Ix.steerAcqHold).toNat * 625000000 ≤ s.sys.cyc) ∧
      (s.evalPhase.loop.phase = .settle ∨ s.evalPhase.loop.phase = .acquire)) ∧
    (s.loop.phase = .off → s.evalPhase = s) ∧
    s.evalPhase = { s with loop := s.evalPhase.loop, flt := s.evalPhase.flt }

/-- Feed-forward every 100 ms: before INIT completes it only retunes the synthesizers; while holding over RATE follows the frequency aid or Forecast; with a slot selected and no switch it follows Forecast plus the loop's correction; a SLEW_LIMITED that has lasted 60 s raises LOOP_SLEW once (R156, R172, R180, R184, R189). Learning: every 16 s the prediction is recorded, and while LOCKED, with no switch and no dispute open, the newest offset of the selected slot becomes the start of the next window; without a start nothing is observed, and outside LOCKED and WARMUP there is none. An observation of a flywheel without a model enters its hour and its day. The hourly and daily refits fall due 3,600 s and 86,400 s apart, keep the bin of each flywheel that observed, and in holdover change no model. A model not confirmed for MAX_AGE days, or whose sensor gave no good reading for more than 1 h, becomes stale, that cause's run of accepted observations starting again, and no other flywheel changes (R169, R171, R174, R175, R177, R185). -/
def Obligations.FeedforwardLearningAndStaleModels : Prop :=
  ((∀ s : State, s.sys.cyc < s.loop.ffDue → exec .feedforwardUpdate s = .next s) ∧
   (∀ s u : State, s.loop.ffDue ≤ s.sys.cyc → u = (State.applied { s with loop.ffDue := s.sys.cyc + 62500000 } 6 1).retuneAll →
     (s.afterInit = false → exec .feedforwardUpdate s = .next u) ∧
     (s.afterInit = true → u.fc.holding = true → exec .feedforwardUpdate s =
       .next (u.followAid.loopRequest (if u.followAid.loop.aided then u.followAid.loop.aidRate else u.followAid.forecastRate))) ∧
     (s.afterInit = true → u.fc.holding = false → u.loop.phase ≠ .off → u.wv.selected ≠ none → u.wv.switch = none →
       exec .feedforwardUpdate s = .next (State.loopRequest
         { u.useFlywheel u.chooseFlywheel with loop.ff := (u.useFlywheel u.chooseFlywheel).forecastRate }
         ((u.useFlywheel u.chooseFlywheel).forecastRate + u.loop.corr)))) ∧
   (∀ s : State, s.loop.slewLimited = true → s.loop.slewSince + 37500000000 ≤ s.sys.cyc → s.hasCause Flt.loopSlew = false →
     ∃ t, exec .loopSlewPersist s = .next t ∧ t.hasCause Flt.loopSlew = true ∧ t = { s with flt := t.flt })) ∧
  ((∀ (s : State) (i : Fin 16) (b : Nat × Int × Int), s.fc.obsDue ≤ s.sys.cyc → s.sys.engine = .locked → s.wv.switch = none →
     s.disputeOpen = false → s.wv.selected = some i → s.fc.history.head? = some b → s.fc.obsBreak ≤ b.1 →
     ∃ t, exec .forecastObservation s = .next t ∧ t.fc.obsStart = some (i, b) ∧ t.fc.obsDue = s.fc.obsDue + 10000000000 ∧
       t.fc.predictions = ((s.sys.cyc, s.ofUse s.predict) :: s.fc.predictions).take 626 ∧
       (∀ f : Fin 3, s.fc.obsStart = none → t.fc.fw[f].hour = s.fc.fw[f].hour) ∧
       t.ts = s.ts ∧ t.wv = s.wv ∧ t.sys = s.sys ∧ t.outs = s.outs ∧ t.loop = s.loop) ∧
   (∀ s : State, s.fc.obsDue ≤ s.sys.cyc → s.sys.engine ≠ .locked → s.sys.engine ≠ .warmup →
     ∃ t, exec .forecastObservation s = .next t ∧ t.fc.obsStart = none ∧ t.fc.obsDue = s.fc.obsDue + 10000000000 ∧
       (∀ f : Fin 3, t.fc.fw[f].hour = s.fc.fw[f].hour ∧ t.fc.fw[f].model = s.fc.fw[f].model) ∧ t = { s with fc := t.fc }) ∧
   (∀ (s : State) (f : Fin 3) (y : Rat), s.fc.fw[f].model = none →
     (s.takeObservation f y).fc.fw[f].hour = s.fc.fw[f].hour ++ [⟨y, s.fc.fw[f].tempC, s.fc.fw[f].tempSign, s.nowSec⟩] ∧
     (s.takeObservation f y).fc.fw[f].day = s.fc.fw[f].day ++ [y] ∧
     (∀ g, g ≠ f → (s.takeObservation f y).fc.fw[g] = s.fc.fw[g])) ∧
   (∀ s : State, s.fc.hourDue ≤ s.sys.cyc → ∃ t, exec .hourlyRefit s = .next t ∧ t.fc.hourDue = s.fc.hourDue + 2250000000000 ∧
     (∀ f : Fin 3, t.fc.fw[f].hour = [] ∧
       (s.fc.fw[f].hour ≠ [] → ∃ b, t.mram.hourly[f] = (b :: s.mram.hourly[f]).take 8760) ∧
       (s.fc.fw[f].hour = [] → t.mram.hourly[f] = s.mram.hourly[f]) ∧
       (s.fc.holding = true → t.fc.fw[f].model = s.fc.fw[f].model)) ∧
     t = { s with fc := t.fc, mram := t.mram, freeCtr := t.freeCtr }) ∧
   (∀ s : State, s.fc.dayDue ≤ s.sys.cyc → ∃ t, exec .dailyRefit s = .next t ∧ t.fc.dayDue = s.fc.dayDue + 54000000000000 ∧
     (∀ f : Fin 3, t.fc.fw[f].day = [] ∧
       (s.fc.fw[f].day ≠ [] → ∃ b, t.mram.daily[f] = (b :: s.mram.daily[f]).take 7320) ∧
       (s.fc.fw[f].day = [] → t.mram.daily[f] = s.mram.daily[f]) ∧
       (s.fc.holding = true → t.fc.fw[f].model = s.fc.fw[f].model)) ∧
     t = { s with fc := t.fc, mram := t.mram, freeCtr := t.freeCtr }) ∧
   (∀ (s : State) (f : Fin 3) (c : Nat), s.fc.fw[f].model.isSome = true → s.fc.fw[f].lastAccept = some c →
     c + s.fc.fw[f].cfg.nat Ix.fwMaxAge * 54000000000000 < s.sys.cyc →
     ∃ t, exec (.modelAgeExpiry f) s = .next t ∧ t.fc.fw[f] = { s.fc.fw[f] with ageStale := true, ageRun := 0 } ∧
       (∀ g, g ≠ f → t.fc.fw[g] = s.fc.fw[g]) ∧ t = { s with fc.fw := t.fc.fw, flt := t.flt }) ∧
   (∀ (s : State) (f : Fin 3), s.fc.fw[f].model.isSome = true → s.fc.fw[f].cfg.nat Ix.fwTempSrc ≤ 3 →
     s.fc.fw[f].lastGood + 2250000000000 < s.sys.cyc →
     ∃ t, exec (.tempGapExpiry f) s = .next t ∧ t.fc.fw[f] = { s.fc.fw[f] with gapStale := true, gapRun := 0 } ∧
       (∀ g, g ≠ f → t.fc.fw[g] = s.fc.fw[g]) ∧ t = { s with fc.fw := t.fc.fw, flt := t.flt }))

/-- The SENSE bus: a read cycle takes the four on-die values and starts a read of each configured sensor that is not in fallback; a sensor in fallback is tried again; the third failed read in a row starts the fallback, and ten good ones in a row end it; a result counts only for a read that was started (R166, R167). -/
def Obligations.SenseReadsFallBackAndReturn : Prop :=
  (∀ (s : State) (l : List Int), l.length = 4 →
    ∃ t, exec (.senseReadCycle l) s = .next t ∧ (∀ k : Fin 4, t.sys.onDie[k] = l.getD k.val 0) ∧
      (∀ k : Fin 4, t.fc.sensors[k] =
        { s.fc.sensors[k] with reading := s.fc.sensors[k].reading || (!s.fc.sensors[k].absent && !s.fc.sensors[k].fallback) }) ∧
      t = { s with sys := t.sys, fc := t.fc, flt := t.flt, emits := t.emits }) ∧
  (∀ (s : State) (i : Fin 4), s.fc.sensors[i].fallback = true → s.fc.sensors[i].absent = false →
    ∃ t, exec (.senseRetry i) s = .next t ∧ t.fc.sensors[i].reading = true ∧ (∀ j, j ≠ i → t.fc.sensors[j] = s.fc.sensors[j]) ∧
      t.emits = .sense i.val :: s.emits ∧ t = { s with fc.sensors := t.fc.sensors, emits := t.emits }) ∧
  (∀ (s : State) (i : Fin 4) (r : SenseRead), s.fc.sensors[i].reading = false → exec (.senseReadResult i r) s = .next s) ∧
  (∀ (s : State) (i : Fin 4) (r : SenseRead), s.fc.sensors[i].reading = true → s.goodRead s.fc.sensors[i] r = none →
    s.fc.sensors[i].fallback = false →
    ∃ t, exec (.senseReadResult i r) s = .next t ∧ t.fc.sensors[i].reading = false ∧
      (s.fc.sensors[i].fails < 2 → t.fc.sensors[i].fallback = false ∧ t.fc.sensors[i].fails = s.fc.sensors[i].fails + 1) ∧
      (2 ≤ s.fc.sensors[i].fails → t.fc.sensors[i].fallback = true ∧ t.fc.sensors[i].goods = 0) ∧
      (∀ j, j ≠ i → t.fc.sensors[j] = s.fc.sensors[j]) ∧ t = { s with fc := t.fc, flt := t.flt }) ∧
  (∀ (s : State) (i : Fin 4) (r : SenseRead) (v : Rat), s.fc.sensors[i].reading = true → s.goodRead s.fc.sensors[i] r = some v →
    ∃ t, exec (.senseReadResult i r) s = .next t ∧ t.fc.sensors[i].reading = false ∧
      (s.fc.sensors[i].fallback = false → t.fc.sensors[i].lastGood = some v ∧ t.fc.sensors[i].fallback = false) ∧
      (s.fc.sensors[i].fallback = true → (t.fc.sensors[i].fallback = false ↔ 10 ≤ s.fc.sensors[i].goods + 1)) ∧
      (∀ j, j ≠ i → t.fc.sensors[j] = s.fc.sensors[j]) ∧ t = { s with fc := t.fc, flt := t.flt })

/-! ### Synthesizers, outputs and groups -/

/-- A synthesizer's lock and its pins: a band search that ends in a band locks the synthesizer there and lets its pins run, with M as before; one that ends in none turns it off with OS_BAND_FAIL; a loss of lock mutes its pins, ends their pulses, an IRIG-B frame going on unseen, and makes their Bound unknown, other synthesizers' pins keeping theirs; every such change then settles group 1 (R193, R196, R197). Relocks and markers: after a loss of lock up to three attempts follow, 10 ms apart, each that finds no band raising OS_BAND_FAIL and the third being reported with bit 4 of OS_UNLOCK's DETAIL set; a success counts a relock and locks; a locked synthesizer whose strobe waits applies at its second marker, and before it nothing happens (R193, R195, R197). -/
def Obligations.SynthesizersLockLoseLockAndRelock : Prop :=
  ((∀ (s : State) (o : Fin 4) (b : Fin 64), s.outs.os[o].lock = .searching →
     ∃ u : State, exec (.synthLockDone o (some b)) s = .next (u.settle 1) ∧
       u.outs.os[o].lock = .locked ∧ u.outs.os[o].band = b ∧ u.outs.os[o].mis = s.outs.os[o].mis ∧ u.outs.os[o].attempts = 0 ∧
       (∀ n ∈ s.pinsOf o, u.outs.pins[n].muted = false) ∧ (∀ q, q ≠ o → u.outs.os[q] = s.outs.os[q]) ∧
       (∀ n, n ∉ s.pinsOf o → u.outs.pins[n] = s.outs.pins[n])) ∧
   (∀ (s : State) (o : Fin 4), o ≠ 2 → s.outs.os[o].lock = .searching → s.handled = [] →
     ∃ u : State, exec (.synthLockDone o none) s = .next (u.settle 1) ∧ u.outs.os[o].lock = .off ∧ u.flt.present.contains (Flt.osBandFail.msg o.val) = true ∧
       (∀ q, q ≠ o → u.outs.os[q] = s.outs.os[q]) ∧ u = { s with outs := u.outs, flt := u.flt }) ∧
   (∀ (s : State) (o : Fin 4), o ≠ 2 → o ≠ 3 → s.outs.os[o].lock = .locked →
     ∃ u : State, exec (.synthLossOfLock o) s = .next (u.settle 1) ∧ u.outs.os[o].lock = .lost ∧ u.outs.os[o].attempts = 0 ∧
       (∀ n ∈ s.pinsOf o, u.outs.pins[n].muted = true ∧ u.outs.pins[n].unknown = true ∧
         (s.outs.pins[n].cfg.nat Ix.outMode ≠ 3 → u.outs.pins[n].pulse = none)) ∧
       (∀ n, n ∉ s.pinsOf o → u.outs.pins[n] = s.outs.pins[n]) ∧ u.flt.present.contains (Flt.osUnlock.msg o.val) = true ∧ u.ts = s.ts) ∧
   (∀ s : State, s.outs.os[(3 : Fin 4)].lock = .locked →
     ∃ u : State, exec (.synthLossOfLock 3) s = .next ((u.os3Lost.settle 2).settle 1) ∧ u.outs.os[(3 : Fin 4)].lock = .lost) ∧
   (∀ s : State, s.outs.os[(2 : Fin 4)].lock = .locked →
     ∃ u : State, exec (.synthLossOfLock 2) s = .next ((u.stopConverters.settle 4).settle 1) ∧ u.outs.os[(2 : Fin 4)].lock = .lost) ∧
   (∀ (s : State) (o : Fin 4) (b : Option (Fin 64)), s.outs.os[o].lock ≠ .searching → exec (.synthLockDone o b) s = .next s) ∧
   (∀ (s : State) (o : Fin 4), s.outs.os[o].lock ≠ .locked → exec (.synthLossOfLock o) s = .next s)) ∧
  ((∀ (s : State) (o : Fin 4), s.outs.os[o].lock = .lost → s.outs.os[o].attempts < 3 → s.outs.os[o].tryAt ≤ s.sys.cyc →
     (∃ t, exec (.synthRelockAttempt o none) s = .next t ∧ t.outs.os[o].attempts = s.outs.os[o].attempts + 1 ∧
       t.outs.os[o].tryAt = s.sys.cyc + 6250000 ∧ t.outs.os[o].lock = .lost ∧ t.flt.present.contains (Flt.osBandFail.msg o.val) = true ∧
       (s.outs.os[o].attempts = 2 → t.flt.present.contains (Flt.osUnlock.msg (o.val + 16)) = true) ∧
       (∀ q, q ≠ o → t.outs.os[q] = s.outs.os[q]) ∧ t = { s with outs := t.outs, flt := t.flt }) ∧
     (∀ b : Fin 64, ∃ u : State, exec (.synthRelockAttempt o (some b)) s = .next (u.settle 1) ∧ u.outs.os[o].lock = .locked ∧
       u.outs.os[o].band = b ∧ u.outs.os[o].relocks = s.outs.os[o].relocks + 1 ∧ u.outs.os[o].mis = s.outs.os[o].mis ∧
       (∀ n ∈ s.pinsOf o, u.outs.pins[n].muted = false) ∧ (∀ q, q ≠ o → u.outs.os[q] = s.outs.os[q]))) ∧
   (∀ (s : State) (o : Fin 4) (b : Option (Fin 64)), (s.outs.os[o].lock ≠ .lost ∨ 3 ≤ s.outs.os[o].attempts) →
     exec (.synthRelockAttempt o b) s = .next s) ∧
   (∀ (s : State) (o : Fin 4), s.outs.os[o].lock = .locked → s.hasApplied 1 o.val = false →
     (s.applyMarker o ≤ (s.sys.cyc : Int) * 1024 + 1023 →
       ∃ u : State, exec (.synthApplyMarker o) s = .next (u.settle 1) ∧ u = s.applyMember 1 o.val ∧ u.hasApplied 1 o.val = true ∧
         (∀ c, s.outs.os[o].pending = some c → u.outs.os[o].cfg = c ∧ u.outs.os[o].pending = none)) ∧
     ((s.sys.cyc : Int) * 1024 + 1023 < s.applyMarker o → exec (.synthApplyMarker o) s = .next s)))

/-- Pulses and IRIG-B frames: an unmuted pin whose nominal instant is due emits its edge at P + M - COMP, high for WIDTH in its polarity, or its frame of 100 elements from there on, once; a pin muted by a band search skips a pulse and reports it; in SAFE or before the start-up mute ends nothing leaves; the pin's record is all of the outputs that changes (R191, R196, R199, R200, R202, R204, R223). -/
def Obligations.PulsesAndFramesLeaveAtTheirInstants : Prop :=
  (∀ (s : State) (n : Fin 80) (p : Int), (s.outs.pins[n].cfg.nat Ix.outMode = 2 ∨ s.outs.pins[n].cfg.nat Ix.outMode = 4) →
    s.dueInstant n = some p → s.outs.startupMute = false → s.outs.safe = false → s.pinIncapable n = false →
    (s.outs.pins[n].muted = false → s.omitted s.outs.pins[n] p = false →
      ∃ t, exec (.pulseEdge n) s = .next t ∧
        t.outs.pins[n] = { s.outs.pins[n] with lastPulse := some p, pulse := some p, emitted := some p } ∧
        t.emits = .pulse n ((p : Rat) + s.mis (sourceOs s n) - s.outs.pins[n].comp) (s.outs.pins[n].cfg.nat Ix.outWidth)
          (s.outs.pins[n].cfg.flag Ix.outPolarity) :: s.emits ∧
        (∀ m, m ≠ n → t.outs.pins[m] = s.outs.pins[m]) ∧ t = { s with outs.pins := t.outs.pins, emits := t.emits }) ∧
    (s.outs.pins[n].muted = false → s.omitted s.outs.pins[n] p = true →
      exec (.pulseEdge n) s = .next (State.raise
        { s with outs.pins := upd s.outs.pins n fun x => { x with lastPulse := some p } } Flt.pulseSkipped n.val)) ∧
    (s.outs.pins[n].muted = true → s.outs.os[sourceOs s n].lock = .searching →
      exec (.pulseEdge n) s = .next (State.raise
        { s with outs.pins := upd s.outs.pins n fun x => { x with lastPulse := some p } } Flt.pulseSkipped n.val))) ∧
  (∀ (s : State) (n : Fin 80), s.dueInstant n = none → exec (.pulseEdge n) s = .next s ∧ exec (.irigbOutputFrame n) s = .next s) ∧
  (∀ (s : State) (n : Fin 80), (s.outs.startupMute = true ∨ s.outs.safe = true ∨ s.pinIncapable n = true) →
    ∃ t, exec (.pulseEdge n) s = .next t ∧ t.emits = s.emits ∧ t = { s with outs.pins := t.outs.pins } ∧ ∀ m, m ≠ n → t.outs.pins[m] = s.outs.pins[m]) ∧
  (∀ (s : State) (n : Fin 80) (p : Int), s.outs.pins[n].cfg.nat Ix.outMode = 3 → s.dueInstant n = some p → s.outs.startupMute = false →
    s.outs.safe = false → s.pinIncapable n = false → s.outs.os[sourceOs s n].lock ≠ .off →
    ∃ t, exec (.irigbOutputFrame n) s = .next t ∧
      t.outs.pins[n] = { s.outs.pins[n] with lastPulse := some p, pulse := some p, emitted := some p, frame := s.irigFrame n p } ∧
      t.emits = .irig n ((p : Rat) + s.mis (sourceOs s n) - s.outs.pins[n].comp) ((s.irigFrame n p).map irigHigh)
        (s.outs.pins[n].cfg.flag Ix.outPolarity) :: s.emits ∧
      (∀ m, m ≠ n → t.outs.pins[m] = s.outs.pins[m]) ∧ t = { s with outs.pins := t.outs.pins, emits := t.emits })

/-- The frames themselves: an IRIG-B frame has 100 elements, markers exactly at element 0 and at every tenth from element 9 on, and elements are high for 2, 5 or 8 ms; a time-of-day frame has 32 octets, begins 51 54 01 20, names its pulse's TAI second in six octets and ends in the CRC-32 of the 28 before; it is sent FRAME_DELAY after a pulse that its pulse pin emitted, while it can still be valid and the pin is not muted, each octet with a start bit, its 8 bits from the least significant on, and a stop bit, and its sequence number counts (R204, R207 to R209). -/
def Obligations.TimeFramesHaveTheirForm : Prop :=
  (∀ (s : State) (n : Fin 80) (p : Int), (s.irigFrame n p).length = 100 ∧
    ∀ i, i < 100 → ((s.irigFrame n p).getD i 0 = 2 ↔ i = 0 ∨ i % 10 = 9)) ∧
  (irigHigh 0 = 2 ∧ irigHigh 1 = 5 ∧ irigHigh 2 = 8) ∧
  (∀ (s : State) (n : Fin 80) (sec : Nat) (q : BitVec 16), sec < 2 ^ 48 →
    (s.todFrame n sec q).length = 32 ∧ (s.todFrame n sec q).take 4 = [0x51, 0x54, 1, 32] ∧
    ((s.todFrame n sec q).drop 4).take 6 = [sec / 2 ^ 40, sec / 2 ^ 32 % 256, sec / 2 ^ 24 % 256, sec / 2 ^ 16 % 256, sec / 2 ^ 8 % 256, sec % 256] ∧
    (s.todFrame n sec q).drop 28 = netOctets 4 (crc32 ((s.todFrame n sec q).take 28)).toNat) ∧
  (∀ b : Nat, (serialChar b).length = 10 ∧ (serialChar b).getD 0 true = false ∧ (serialChar b).getD 9 false = true ∧
    ∀ i, i < 8 → (serialChar b).getD (i + 1) false = bitAt b i) ∧
  (∀ (s : State) (k : Fin 64) (n pulse : Fin 80) (p : Int), n = tioPin k → pulse = tioPin (Fin.ofNat 64 (s.outs.pins[n].cfg.nat Ix.outPulsePin)) →
    s.outs.pins[n].cfg.nat Ix.outMode = 5 → s.outs.pins[pulse].cfg.nat Ix.outMode = 4 → s.outs.pins[pulse].emitted = some p →
    s.outs.pins[n].lastPulse ≠ some p → s.frameStart s.outs.pins[n] p ≤ (s.now : Rat) → s.frameValid s.outs.pins[n] p s.now = true →
    s.outs.startupMute = false → s.outs.safe = false → s.pinMuted n = false →
    ∃ t bits, exec (.todFrameSend k) s = .next t ∧
      bits = (s.todFrame pulse ((p / 65536000000000).toNat + 1) s.outs.pins[n].todSeq).flatMap serialChar ∧
      t.outs.pins[n] = { s.outs.pins[n] with
        lastPulse := some p, todSeq := s.outs.pins[n].todSeq + 1, serial := bits, serialAt := s.frameStart s.outs.pins[n] p } ∧
      t.emits = .serial k (s.frameStart s.outs.pins[n] p) (baudOf s.outs.pins[n].cfg) bits :: s.emits ∧
      (∀ m, m ≠ n → t.outs.pins[m] = s.outs.pins[m]) ∧ t = { s with outs.pins := t.outs.pins, emits := t.emits })

/-- Alignments: a STEP executes at its instant A and not before, a WALK ends once M has reached zero and not before; each leaves its synthesizer without misalignment, walk or alignment, and the other synthesizers as they were but for walks that waited for the recomputation that follows (R216, R218, R219, R221). Update groups: a strobe with the mask complete advances the epoch by one and gives the staged values to the members, which apply at once or at their boundary; with the mask incomplete it is refused with DETAIL group + 16 x port and nothing else changes; UG_STROBE needs the grant of each group named; setting IMMEDIATE needs it too and reports each member newly set; a member that has applied the latest strobe does not apply again (R480 to R483). -/
def Obligations.AlignmentsEndAndStrobesNeedACompleteMask : Prop :=
  ((∀ (s : State) (o : Fin 4) (a c : Nat), s.outs.os[o].align = some (.step a c) → s.alignInstant o a ≤ s.now →
     ∃ t, exec (.alignStepExecute o) s = .next t ∧ t.outs.os[o].mis = 0 ∧ t.outs.os[o].walk = 0 ∧ t.outs.os[o].align = none ∧
       (∀ q, q ≠ o → (∀ r d, s.outs.os[q].align ≠ some (.walkWait r d)) → t.outs.os[q] = s.outs.os[q]) ∧ t.ts.sets = s.ts.sets) ∧
   (∀ (s : State) (o : Fin 4) (a c : Nat), s.outs.os[o].align = some (.step a c) → s.now < s.alignInstant o a → exec (.alignStepExecute o) s = .next s) ∧
   (∀ (s : State) (o : Fin 4) (r c : Nat) (m : Rat), s.outs.os[o].align = some (.walk r c m) →
     ((0 < s.outs.os[o].walk ∧ 0 < s.mis o) ∨ (s.outs.os[o].walk < 0 ∧ s.mis o < 0)) → exec (.walkComplete o) s = .next s) ∧
   (∀ (s : State) (o : Fin 4) (r c : Nat) (m : Rat), s.outs.os[o].align = some (.walk r c m) →
     ¬ ((0 < s.outs.os[o].walk ∧ 0 < s.mis o) ∨ (s.outs.os[o].walk < 0 ∧ s.mis o < 0)) →
     ∃ t, exec (.walkComplete o) s = .next t ∧ t.outs.os[o].mis = 0 ∧ t.outs.os[o].walk = 0 ∧ t.outs.os[o].align = none ∧
       (∀ q, q ≠ o → (∀ r d, s.outs.os[q].align ≠ some (.walkWait r d)) → t.outs.os[q] = s.outs.os[q]) ∧ t.ts.sets = s.ts.sets)) ∧
  ((∀ (s : State) (g : Fin 8) (hp : Nat), s.groupWhole g = false → s.strobe g hp = s.raise Flt.strobeRefused (g.val + hp * 16)) ∧
   (∀ (s : State) (g : Fin 8) (hp : Nat), s.groupWhole g = true → s.strobe g hp =
     (membersOf g).foldl (fun t m => if t.atOnce g m then t.applyMember g m else t)
       (State.copyStaged { s with direct := s.direct.strobe g, groups := upd s.groups g fun x => { x with epoch := x.epoch + 1, applied := 0 } } g)) ∧
   (∀ (s : State) (hp : Fin 4) (v : Word), s.afterBoot = true → (∀ g : Fin 8, v.getLsbD g.val = true → s.mayStrobe hp g = false) →
     exec (.updateGroupStrobe hp v) s = .next (if v.toNat % 256 = 0 then s else s.denied 0x0010)) ∧
   (∀ (s : State) (hp : Fin 4) (v : Word) (g : Fin 8), s.afterBoot = true → s.mayStrobe hp g = true → v.toNat % 256 = 2 ^ g.val →
     exec (.updateGroupStrobe hp v) s = .next ((s.strobe g hp.val).settle g)) ∧
   (∀ (s : State) (hp : Fin 4) (g : Fin 8) (v : Word), s.afterBoot = true → s.mayStrobe hp g = false →
     exec (.immediateWrite hp g v) s = .next (s.denied (0x0104 + 8 * g.val))) ∧
   (∀ (s : State) (hp : Fin 4) (g : Fin 8) (v : Word), s.afterBoot = true → s.mayStrobe hp g = true → v.toNat / 65536 = 0 →
     exec (.immediateWrite hp g v) s = .next (State.settle { s with groups := upd s.groups g fun x => { x with immediate := 0 } } g)) ∧
   (∀ (s : State) (g : Fin 8) (m : Nat), s.hasApplied g m = true → s.boundary g m = s))

/-! ### GNSS -/

/-- Searches and channels: a dwell that has ended gives way to the next; a power above the threshold at a hypothesis of its block queues that hypothesis for verification, once, others queue nothing; a verification whose powers stay below the threshold gives no channel, a confirmed one gets the channel that the priorities give it; a channel whose C/N0 stayed low for the mode's number of reports is lost; an exclusion that has run out is lifted; nothing outside the receiver changes (R235, R239, R240, R246). Epochs and solutions: each TAI second has one epoch, which first brings a waiting receiver configuration into force and keeps the navigation sets received; a solution answers a latched epoch alone, after the spoofing checks, and shows the broadcast leap counts; without POS and survey it is NONE; no valid solution within 300 s of leaving OFF raises GNSS_NO_SOLUTION; a refresh ends once it has used 60 s (R233, R238, R241, R242, R246, R250, R254, R256). -/
def Obligations.GnssSearchesEpochsAndSolutions : Prop :=
  ((∀ (s : State) (d : Dwell) (n : Nat) (l : List (Nat × Nat)), s.gnss.dwell = some d → d.verify = false → d.ends ≤ s.sys.cyc →
     ((∀ e ∈ l, s.gnss.detects n e.2 = false) →
       ∃ t, exec (.acqDwellComplete n l) s = .next t ∧ t.gnss.toVerify = s.gnss.toVerify ∧ t.gnss.chans = s.gnss.chans ∧ t = { s with gnss := t.gnss }) ∧
     (∀ (h p : Nat) (x : Search), l = [(h, p)] → s.gnss.detects n p = true → hypothesisAt d.block h = some x →
       (s.searchHyps x.sat x.signal x.antB).isSome = true →
       (s.gnss.toVerify.any fun y => y.sat == x.sat && y.signal == x.signal && y.antB == x.antB) = false →
       ∃ t, exec (.acqDwellComplete n l) s = .next t ∧ t.gnss.toVerify = s.gnss.toVerify ++ [x] ∧ t.gnss.chans = s.gnss.chans ∧
         t = { s with gnss := t.gnss })) ∧
   (∀ (s : State) (d : Dwell) (n : Nat) (l : List (Nat × Nat)) (m : List Nat), s.gnss.dwell = some d → s.sys.cyc < d.ends →
     exec (.acqDwellComplete n l) s = .next s ∧ exec (.acqVerifyComplete n m) s = .next s) ∧
   (∀ (s : State) (d : Dwell) (n : Nat) (l : List Nat), s.gnss.dwell = some d → d.verify = true → d.ends ≤ s.sys.cyc →
     ((∀ p ∈ l, s.gnss.detects n p = false) →
       ∃ t, exec (.acqVerifyComplete n l) s = .next t ∧ t.gnss.toVerify = s.gnss.toVerify.drop 1 ∧ t.gnss.chans = s.gnss.chans ∧
         t = { s with gnss := t.gnss }) ∧
     (∀ (u : State) (v : Search) (k : Fin 128), u = { s with gnss.dwell := none, gnss.toVerify := s.gnss.toVerify.drop 1 } →
       (l.any (s.gnss.detects n)) = true → d.block = [v] → (u.searchHyps v.sat v.signal v.antB).isSome = true →
       u.pickChan (u.gnss.class v.sat v.signal v.antB, -u.predicted v.sat) = some k →
       ∃ t, exec (.acqVerifyComplete n l) s = .next t ∧ t.gnss.chans[k].sat = some v.sat ∧ t.gnss.chans[k].signal = v.signal ∧
         t.gnss.chans[k].antB = v.antB ∧ t.gnss.chans[k].state = .pullIn ∧ (∀ j, j ≠ k → t.gnss.chans[j] = s.gnss.chans[j]) ∧
         t = { s with gnss := t.gnss })) ∧
   (∀ (s : State) (k : Fin 128), (s.gnss.chans[k].state = .tracking ∨ s.gnss.chans[k].state = .pullIn) →
     s.gnss.lossRule.2 ≤ s.gnss.chans[k].lowRun →
     ∃ t, exec (.trackChannelLost k) s = .next t ∧
       t.gnss.chans[k] = { s.gnss.chans[k] with state := .lost, used := false, excluded := false, lowRun := 0 } ∧
       (∀ j, j ≠ k → t.gnss.chans[j] = s.gnss.chans[j]) ∧ t = { s with gnss := t.gnss }) ∧
   (∀ (s : State) (k : Fin 128), s.gnss.chans[k].lowRun < s.gnss.lossRule.2 → exec (.trackChannelLost k) s = .next s) ∧
   (∀ (s : State) (sat : Sat), ∃ t, exec (.exclusionExpiry sat) s = .next t ∧
     (∀ e ∈ s.gnss.excludedUntil, (e ∈ t.gnss.excludedUntil ↔ e.1 ≠ sat ∨ s.sys.cyc ≤ e.2)) ∧
     t = { s with gnss.excludedUntil := t.gnss.excludedUntil })) ∧
  ((∀ (s : State) (m : List ChanMeas) (e a v : List (Sat × Int)), s.gnss.epochSec = s.nowSec → exec (.gnssEpoch m e a v) s = .next s) ∧
   (∀ (s : State) (m : List ChanMeas) (e a v : List (Sat × Int)), s.afterBoot = true → s.gnss.epochSec ≠ s.nowSec → s.gnss.mode = 0 → s.gnss.next = none →
     (e.map Prod.fst).Nodup → (a.map Prod.fst).Nodup →
     ∃ t, exec (.gnssEpoch m e a v) s = .next t ∧ t.gnss.epochSec = s.nowSec ∧ (∀ x ∈ e, x ∈ t.mram.ephemerides) ∧ (∀ x ∈ a, x ∈ t.mram.almanacs) ∧
       t.gnss.view = v ∧ t.gnss.epochAt = s.gnss.epochAt ∧ t.gnss.chans = s.gnss.chans ∧ t.ts = s.ts ∧ t.wv = s.wv) ∧
   (∀ (s : State) (m : List ChanMeas) (e a v : List (Sat × Int)), s.gnssTracks = true → s.gnss.epochSec ≠ s.nowSec → s.gnss.next = none →
     ∃ t n, exec (.gnssEpoch m e a v) s = .next t ∧ t.gnss.epochSec = s.nowSec ∧ t.gnss.epochAt = some n ∧ t.ts = s.ts ∧ t.wv = s.wv) ∧
   (∀ (s : State) (nav : NavData), s.gnss.epochAt = none → exec (.gnssSolutionComplete nav) s = .next s) ∧
   (∀ (s : State) (nav : NavData) (n : Nat), s.gnss.epochAt = some n →
     ∃ t, exec (.gnssSolutionComplete nav) s = .next t ∧ t.gnss.epochAt = none ∧ t.gnss.leapNow = nav.leapNow ∧ t.gnss.leapNext = nav.leapNext ∧
       t.gnss.leapAnnounced = nav.leapDay.isSome ∧ (s.gnss.surveys = false → s.gnss.posInvalid = true → t.gnss.solution = .none)) ∧
   (∀ (s : State) (nav : NavData) (n : Nat) (c : State × List Sat), s.gnss.epochAt = some n →
     c = State.spoofChecks { s with gnss.epochAt := none } nav →
     exec (.gnssSolutionComplete nav) s =
       .next ((c.1.settleSolution (c.1.gnssSolve c.1.codeObs nav c.2 s.gnss.surveys) nav s.gnss.surveys n).noteLeap nav)) ∧
   (∀ s : State, s.afterBoot = true → s.gnss.mode ≠ 0 → s.gnss.everValid = false → s.gnss.modeStart + 187500000000 < s.sys.cyc →
     ∃ t, exec .gnssStartTimeout s = .next t ∧ t.flt.present.contains (Flt.gnssNoSolution.msg 0) = true ∧ t = { s with flt := t.flt }) ∧
   (∀ s : State, (s.gnss.everValid = true ∨ s.sys.cyc ≤ s.gnss.modeStart + 187500000000) → exec .gnssStartTimeout s = .next s) ∧
   (∀ s : State, s.gnss.refresh = true → 60 ≤ s.gnss.refreshSecs.length →
     ∃ t, exec .ephRefreshLimit s = .next t ∧ t.gnss.refresh = false ∧ t = { s with gnss.refresh := false, flt := t.flt }))

/-- Streams: a stream with 62,500 identical samples, an rms below 0.5 LSB or more than 5 % of its samples clipped turns unhealthy, loses its channels and reports its first cause; a healthy test of a healthy stream only shows its values; the J/N report keeps the power, gives the stream's code and the jamming flag, and with JAM_ALARM alarms the GNSS slots; spectra place and remove notches of that stream alone, the first in the first free notch (R229, R231, R251, R253, R262). Surveys and snapshots: a survey within SURVEY_LIMIT at its time's end becomes the position and is kept; one that is not goes on for as long again and then starts over with GNSS_SURVEY detail 1; SNAPSHOT mode captures every SNAP_INTERVAL, with an offset only where the time is known to 100 µs and enough ephemerides serve; a requested capture starts at its instant on an FE_SCLK edge with a header that names it, ends LENGTH later with one more capture counted and its header whole, and its processing ends with the command's result (R249, R257 to R261). -/
def Obligations.GnssStreamsSurveysAndSnapshots : Prop :=
  ((∀ (s : State) (i j : Fin 4) (x : List (Nat × Int × Int)), s.afterBoot = true → s.gnss.streams[i].cfg.flag Ix.streamEnable = true → j ≠ i →
     s.gnss.streams[j].healthy = true → (62500 ≤ longestRun x ∨ sampleSquare x < 1 / 4 ∨ tooClipped x = true) →
     ∃ t, exec (.streamHealthCheck i x) s = .next t ∧ t.gnss.streams[i].healthy = false ∧ t.gnss.streams[i].rms = rmsCode (sampleSquare x) ∧
       (∀ k, k ≠ i → t.gnss.streams[k] = s.gnss.streams[k]) ∧
       (∀ c : Fin 128, streamOf s.gnss.chans[c].signal s.gnss.chans[c].antB = i → t.gnss.chans[c].state = .idle) ∧
       t = { s with gnss := t.gnss, flt := t.flt }) ∧
   (∀ (s : State) (i : Fin 4) (x : List (Nat × Int × Int)), s.afterBoot = true → s.gnss.streams[i].cfg.flag Ix.streamEnable = true →
     s.gnss.streams[i].healthy = true → longestRun x < 62500 → 1 / 4 ≤ sampleSquare x → tooClipped x = false →
     ∃ t, exec (.streamHealthCheck i x) s = .next t ∧ t.gnss.streams[i].healthy = true ∧ t.gnss.streams[i].rms = rmsCode (sampleSquare x) ∧
       t.gnss.streams[i].clip = false ∧ t = { s with gnss.streams := t.gnss.streams } ∧ ∀ k, k ≠ i → t.gnss.streams[k] = s.gnss.streams[k]) ∧
   (∀ (s u : State) (i : Fin 4) (p : Nat), s.afterBoot = true → s.gnss.streams[i].cfg.flag Ix.streamEnable = true → u = s.notePower i p →
     u.gnss.jamOver (jnCode (u.jnDepression i)) = false →
     ∃ t, exec (.jnReport i p) s = .next t ∧ t.gnss.streams[i].jn = jnCode (u.jnDepression i) ∧ t.gnss.streams[i].jamOver = false ∧
       t.gnss.streams[i].powers.head? = some (s.sys.cyc, p) ∧
       (t.gnss.jamming = true ↔ ∃ k : Fin 4, k ≠ i ∧ s.gnss.streams[k].jamOver = true) ∧
       t.flt.present.contains (Flt.gnssJamming.msg i.val) = false ∧ t = { s with gnss := t.gnss, flt := t.flt }) ∧
   (∀ (s u : State) (i : Fin 4) (p : Nat), s.afterBoot = true → s.gnss.streams[i].cfg.flag Ix.streamEnable = true → u = s.notePower i p →
     u.gnss.jamOver (jnCode (u.jnDepression i)) = true →
     ∃ t, exec (.jnReport i p) s = .next t ∧ t.gnss.streams[i].jn = jnCode (u.jnDepression i) ∧ t.gnss.jamming = true ∧
       t.flt.present.contains (Flt.gnssJamming.msg i.val) = true ∧
       (s.gnss.cfg.flag Ix.rxJamAlarm = false → t = { s with gnss := t.gnss, flt := t.flt }) ∧
       (s.gnss.cfg.flag Ix.rxJamAlarm = true → ∀ k ∈ s.gnssSlots, t.wv.slots[k].state = .disqualified ∨ t.wv.slots[k].state = .lockedOut)) ∧
   (∀ (s : State) (i : Fin 4) (b : List Int), s.afterBoot = true → s.gnss.streams[i].cfg.flag Ix.streamEnable = true → s.gnss.mode ≠ 0 →
     (∃ t, exec (.notchSpectrum i b) s = .next t ∧ (∀ k, k ≠ i → t.gnss.streams[k] = s.gnss.streams[k]) ∧
       t.gnss.chans = s.gnss.chans ∧ t.ts = s.ts ∧ t.wv = s.wv ∧ t.sys = s.sys) ∧
     ((∀ j : Fin 4, s.gnss.streams[i].notches[j] = none) →
       (interferers b (doubleMedian b + 2 * (s.gnss.cfg.at Ix.rxNotchThresh * 128)) = [] → exec (.notchSpectrum i b) s = .next s) ∧
       (∀ x, interferers b (doubleMedian b + 2 * (s.gnss.cfg.at Ix.rxNotchThresh * 128)) = [x] →
         ∃ t, exec (.notchSpectrum i b) s = .next t ∧ t.gnss.streams[i].notches[(0 : Fin 4)] = some x.1 ∧
           ∀ j : Fin 4, j ≠ 0 → t.gnss.streams[i].notches[j] = none)))) ∧
  ((∀ (s : State) (c : Nat), s.gnss.surveyStart = some c → s.gnss.surveyRound = false →
     c + s.gnss.cfg.nat Ix.rxSurveyTime * 2250000000000 ≤ s.sys.cyc →
     (s.gnss.surveyMet = true →
       ∃ t, exec .surveyTimeEnd s = .next t ∧ t.mram.position.isSome = true ∧ t.gnss.surveyStart = none ∧
         t = { s with gnss := t.gnss, mram := t.mram, flt := t.flt }) ∧
     (s.gnss.surveyMet = false → exec .surveyTimeEnd s = .next { s with gnss.surveyRound := true })) ∧
   (∀ (s : State) (c : Nat), s.gnss.surveyStart = some c → s.gnss.surveyRound = true →
     c + 2 * (s.gnss.cfg.nat Ix.rxSurveyTime * 2250000000000) ≤ s.sys.cyc → s.gnss.surveyMet = false →
     ∃ t, exec .surveyTimeEnd s = .next t ∧ t.gnss.surveyStart = some s.sys.cyc ∧ t.gnss.surveyRound = false ∧ t.gnss.surveyInfo = [] ∧ t.mram = s.mram) ∧
   (∀ (s : State) (o : List CodeObs) (nav : NavData), s.afterBoot = true → s.gnss.mode = 3 → s.gnss.snapDue ≤ s.sys.cyc →
     (∃ t, exec (.snapshotModeCapture o nav) s = .next t ∧ t.gnss.snapDue = s.sys.cyc + s.gnss.cfg.nat Ix.rxSnapInterval * 625000000) ∧
     ((s.ephCount s.nowSec < s.gnss.cfg.nat Ix.rxMinSats ∨ s.timeUncertainty = none ∨ ∃ u, s.timeUncertainty = some u ∧ 1 / 10000 < u) →
       exec (.snapshotModeCapture o nav) s = .next { s with gnss.snapDue := s.sys.cyc + s.gnss.cfg.nat Ix.rxSnapInterval * 625000000 })) ∧
   (∀ s : State, s.gnss.snap.state = .pending → (∀ t, s.gnss.snap.startAt = some t → t ≤ s.now) →
     ∃ t, exec .snapshotCaptureStart s = .next t ∧ t.gnss.snap.state = .capturing ∧ t.gnss.snap.first % 10 = 0 ∧ s.sys.cyc ≤ t.gnss.snap.first ∧
       t.gnss.snap.first < s.sys.cyc + 10 ∧ t.gnss.snap.header.getD 0 0 = 0x534E4150 ∧ t.gnss.snap.header.length = 11 ∧
       t.gnss.snap.header.getD 2 0 = loWord t.gnss.snap.first ∧ t = { s with gnss := t.gnss }) ∧
   (∀ (s : State) (b l : List (List (Int × Int))), s.gnss.snap.state = .capturing →
     s.gnss.snap.first + s.gnss.snap.length * 625000 ≤ s.sys.cyc →
     ∃ t, exec (.snapshotCaptureComplete b l) s = .next t ∧ t.gnss.snap.state = .held ∧ t.gnss.snap.captures = s.gnss.snap.captures + 1 ∧
       (s.gnss.snap.header.length = 11 → t.gnss.snap.header.length = 16) ∧
       t.gnss.snap.cmd = none ∧ t.ts = s.ts ∧ t.wv = s.wv ∧ t.gnss.chans = s.gnss.chans) ∧
   (∀ (s : State) (o : List CodeObs) (nav : NavData), s.gnss.snap.state = .processing →
     ∃ t, exec (.snapshotProcessComplete o nav) s = .next t ∧ t.gnss.snap.state = .held ∧ t.gnss.snap.cmd = none ∧
       t.gnss.snap.data = s.gnss.snap.data ∧ t.ts = s.ts ∧ t.wv = s.wv))

/-! ### Ports and the time service -/

/-- Reception: a frame with a coding error, a bad FCS, a length out of bounds, a foreign address, EtherType 0x8808 or no room is dropped and counted, by the first test it fails, and never waits for dispatch; any other frame is counted in its port and, without a PRP trailer, outside PRP or as a PTP frame, joins the receive buffer last, its stamp moved to the connector; the buffers of other ports stay; a link that is down receives nothing (R276, R278). Duplicate discard: a sequence number within the window is delivered once, its repetition discarded and counted by counter 21; a newer one moves the window; one that lies behind it restarts it and is delivered; an entry idle for longer than ENTRY_FORGET is forgotten, the other entries and pairs staying (R4, R284). -/
def Obligations.FramesAreFilteredAndDuplicatesDiscarded : Prop :=
  ((∀ (s : State) (p : Fin 8) (f : RxFrame), s.ports[p].linkUp = false → exec (.frameReceive p f) s = .next s) ∧
   (∀ (s : State) (p : Fin 8) (f : RxFrame) (i : Fin 45), s.ports[p].linkUp = true → s.dropReason p f = some i →
     ∃ t, exec (.frameReceive p f) s = .next t ∧ t.ports[p].rxBuf = s.ports[p].rxBuf ∧
       (f.fecCorrected = 0 → f.fecLost = 0 → f.blockErr = 0 → t.ports[p].counters[i] = s.ports[p].counters[i] + 1) ∧
       (∀ q, q ≠ p → t.ports[q] = s.ports[q]) ∧ t = { s with ports := t.ports, hosts := t.hosts, flt := t.flt, emits := t.emits }) ∧
   (∀ (s : State) (p : Fin 8) (f : RxFrame), s.ports[p].linkUp = true → s.dropReason p f = none →
     (f.rct = none ∨ s.prpOn p = false ∨ isPtp f.bare = true) →
     ∃ t, exec (.frameReceive p f) s = .next t ∧ t.ports[p].rxBuf = s.ports[p].rxBuf ++ [s.atPlane p f] ∧
       (f.fecCorrected = 0 → f.fecLost = 0 → f.blockErr = 0 → t.ports[p].counters[(0 : Fin 45)] = s.ports[p].counters[(0 : Fin 45)] + 1 ∧
         t.ports[p].counters[(1 : Fin 45)] = s.ports[p].counters[(1 : Fin 45)] + BitVec.ofNat 48 f.len) ∧
       (∀ q, q ≠ p → t.ports[q] = s.ports[q]) ∧ t = { s with ports := t.ports, hosts := t.hosts, flt := t.flt, emits := t.emits, perf := t.perf }) ∧
   (∀ (s : State) (p : Fin 8) (f : RxFrame), f.pcsErr = true → s.dropReason p f = some 17) ∧
   (∀ (s : State) (p : Fin 8) (f : RxFrame), f.pcsErr = false → f.fcsErr = false → f.len < 64 → s.dropReason p f = some 14)) ∧
  ((∀ (e : PrpEntry) (q n : Nat), (e.top + 65536 - q) % 65536 < 2048 → e.seen.contains q = false →
     (e.take q n).2 = (true, none) ∧ ((e.take q n).1.take q n).2 = (false, some 21)) ∧
   (∀ (e : PrpEntry) (q n : Nat), 32768 ≤ (e.top + 65536 - q) % 65536 → (e.take q n).2 = (true, none) ∧ (e.take q n).1.top = q) ∧
   (∀ (e : PrpEntry) (q n : Nat), 2048 ≤ (e.top + 65536 - q) % 65536 → (e.top + 65536 - q) % 65536 < 32768 →
     (e.take q n).2 = (true, some 23) ∧ (e.take q n).1.seen = [q] ∧ (e.take q n).1.top = q) ∧
   (∀ (s : State) (q : Fin 4) (a : Nat), ∃ t, exec (.prpEntryForget q a) s = .next t ∧
     (∀ e ∈ s.pairs[q].entries, (e ∈ t.pairs[q].entries ↔ e.source ≠ a ∨ s.sys.cyc ≤ e.last + s.pairs[q].cfg.nat Ix.prpEntryForget * 625000)) ∧
     (∀ r, r ≠ q → t.pairs[r] = s.pairs[r]) ∧ t = { s with pairs := t.pairs }))

/-- Links and launches: a link that comes up ends LINK_DOWN and announces the addresses, one that goes down empties its transmit buffer, counts and reports LINK_DOWN; a port applies its settings once, at its frame boundary; a timed frame leaves at its own slot with its FCS and is taken from the buffer, a frame without a slot when the line is free, and the line is busy for it and its gap; a host's write of Pp_TSQ_RD moves the index within the 64 entries or is refused (R269, R271 to R273, R292). -/
def Obligations.LinksLaunchesAndStampIndices : Prop :=
  (∀ (s : State) (p : Fin 8), s.afterBoot = true → s.ports[p].cfg.flag Ix.portEnable = true → s.ports[p].linkUp = false →
    exec (.linkUp p) s = .next ((s.linkIsUp p).each (List.finRange 16) fun t i => t.announceAddresses i p) ∧
    ∃ t, exec (.linkUp p) s = .next t ∧ t.ports[p].linkUp = true ∧ t.ports[p].hiBer = false ∧ t.ports[p].fault = 0 ∧
      t.flt.present.contains (Flt.linkDown.msg p.val) = false ∧ (∀ q, pairOf q ≠ pairOf p → t.ports[q] = s.ports[q]) ∧
      t = { s with ports := t.ports, pairs := t.pairs, flt := t.flt }) ∧
  (∀ (s : State) (p : Fin 8) (b : Bool) (x : Fin 3), s.afterBoot = true → s.ports[p].cfg.flag Ix.portEnable = true → s.ports[p].linkUp = true →
    ∃ u : State, exec (.linkLoss p b x) s = .next (u.settle 2) ∧ u.ports[p].linkUp = false ∧ u.ports[p].txBuf = [] ∧
      u.ports[p].linkDowns = s.ports[p].linkDowns + 1 ∧ u.ports[p].hiBer = b ∧ u.ports[p].fault = x ∧
      u.flt.present.contains (Flt.linkDown.msg p.val) = true ∧ (∀ q, q ≠ p → u.ports[q] = s.ports[q]) ∧
      u = { s with ports := u.ports, pairs := u.pairs, flt := u.flt }) ∧
  (∀ (s : State) (p : Fin 8), exec (.portConfigApply p) s = .next (if s.hasApplied 2 p.val then s else (s.applyMember 2 p.val).settle 2)) ∧
  (∀ (s : State) (p : Fin 8) (f : TxFrame) (n : Nat), s.ports[p].linkUp = true → s.nextFrame p = some f → f.slot = some n → f.stampId = none →
    ∃ t, exec (.frameLaunch p) s = .next t ∧ t.ports[p].txBuf = s.ports[p].txBuf.erase f ∧ t.ports[p].busyTo = n + s.ports[p].span f.len ∧
      t.emits.head? = some (.frame p n (s.launched p f ++ fcsOf (s.launched p f)) f.late) ∧ (f.fresh = none → s.launched p f = f.octets) ∧
      (∀ q, q ≠ p → t.ports[q] = s.ports[q]) ∧ t = { s with ports := t.ports, hosts := t.hosts, perf := t.perf, emits := t.emits }) ∧
  (∀ (s : State) (p : Fin 8) (f : TxFrame), s.ports[p].linkUp = true → s.nextFrame p = some f → f.slot = none → f.stampId = none →
    ∃ t, exec (.frameLaunch p) s = .next t ∧ t.ports[p].txBuf = s.ports[p].txBuf.erase f ∧
      t.ports[p].busyTo = s.hostLaunch p + s.ports[p].span f.len ∧ s.ports[p].busyTo ≤ s.hostLaunch p ∧ t.freeCtr = s.freeCtr + 1 ∧
      t.emits.head? = some (.frame p (s.hostLaunch p) (s.launched p f ++ fcsOf (s.launched p f)) f.late) ∧
      (∀ q, q ≠ p → t.ports[q] = s.ports[q]) ∧
      t = { s with ports := t.ports, hosts := t.hosts, perf := t.perf, emits := t.emits, freeCtr := t.freeCtr }) ∧
  (∀ (s : State) (p : Fin 8), s.nextFrame p = none → exec (.frameLaunch p) s = .next s) ∧
  (∀ (s : State) (hp : Fin 4) (p : Fin 8) (v : Word), s.afterBoot = true → s.may hp .ports = true →
    exec (.tsqRdWrite hp p v) s = .next (if (s.ports[p].tsq.wr - v.truncate 16).toNat ≤ 64
      then { s with ports := upd s.ports p fun x => { x with tsq := { x.tsq with rd := v.truncate 16 } } }
      else s.raise Flt.tsqIndex (p.val + hp.val * 16)))

/-- Squall: requests of a port go out oldest first, after waiting instance settings; a client request to an NTP instance without limits takes a launch in the free engine or counts as a dropped launch, and a frame for nobody is counted as unmatched; an engine that held one request beyond 4,096 ECLK cycles, or has a parity error, leaves dispatch with its work dropped, the other engines staying; completed work reaches the transmit buffer, or is dropped and counted less than 92 ns before its slot (R299, R300, R317). Sources of the engine's own frames: a follower sends none; Announce and Sync, ESMC, supervision and grants have sources of their own; a port not in MASTER sends no Announce or Sync; a port's first ESMC PDU takes a launch and notes the code it carries; an ESMC event PDU leaves on a change of code; a grant whose duration has run out is gone, the others staying in order; a takeover's addresses are announced again after 1 s (R318, R322, R329, R331, R408). -/
def Obligations.SquallEnginesServeAndMessagesLeave : Prop :=
  ((∀ (s : State) (p : Fin 8), exec (.requestDispatch p) s = .next ((s.boundary 3 0).dispatch p)) ∧
   (∀ (s : State) (p : Fin 8), s.hasApplied 3 0 = true → s.ports[p].rxBuf = [] → exec (.requestDispatch p) s = .next s) ∧
   (∀ (s : State) (p : Fin 8) (f : RxFrame) (l : List RxFrame), s.hasApplied 3 0 = true → s.ports[p].rxBuf = f :: l → payloadIn f = .data →
     (∀ r : Fin 16, ruleMatches s.svc.rules[r] p f = false) →
     exec (.requestDispatch p) s = .next { s.mapPort p (fun x => { x with rxBuf := l }) with svc.unmatched := s.svc.unmatched + 1 }) ∧
   (∀ (s : State) (p : Fin 8) (f : RxFrame) (l : List RxFrame) (q : NtpReq) (i e : Fin 16), s.hasApplied 3 0 = true →
     s.ports[p].rxBuf = f :: l → payloadIn f = .ntp q → s.instanceFor p f = some i → s.follower = false → s.freeEngine = some e →
     s.afterInit = true → q.mode = 3 → (q.vn = 3 ∨ q.vn = 4) → 48 ≤ q.data.length → s.svc.inst[i].cfg.nat Ix.instNts = 0 →
     s.svc.inst[i].cfg.nat Ix.instSrcRate = 0 → s.svc.inst[i].cfg.nat Ix.instInstRate = 0 →
     ∃ t, exec (.requestDispatch p) s = .next t ∧ t.ports[p].rxBuf = l ∧
       ((∃ w, t.svc.squall[e].work = s.svc.squall[e].work ++ [w] ∧ w.port = p ∧ w.instance_ = some i ∧ w.start = s.sys.cyc ∧ w.slot.isSome = true ∧
           t.svc.launchDrop = s.svc.launchDrop) ∨
         (t.svc.squall[e].work = s.svc.squall[e].work ∧ t.svc.launchDrop = s.svc.launchDrop + 1)) ∧
       (∀ g, g ≠ e → t.svc.squall[g] = s.svc.squall[g]) ∧
       t = { s with ports := t.ports, svc := t.svc, flt := t.flt, freeCtr := t.freeCtr }) ∧
   (∀ (s : State) (e : Fin 16), ∃ t, exec (.squallParityError e) s = .next t ∧ t.svc.squall[e].inDispatch = false ∧ t.svc.squall[e].work = [] ∧
     t.flt.present.contains (Flt.squallHang.msg (e.val + 16)) = true ∧ (∀ g, g ≠ e → t.svc.squall[g] = s.svc.squall[g]) ∧
     t = { s with svc := t.svc, flt := t.flt }) ∧
   (∀ (s : State) (e : Fin 16) (w : Work), w ∈ s.svc.squall[e].work → w.start + 2048 < s.sys.cyc →
     ∃ t, exec (.squallHoldTimeout e) s = .next t ∧ t.svc.squall[e].inDispatch = false ∧ t.svc.squall[e].work = [] ∧
       (∀ g, g ≠ e → t.svc.squall[g] = s.svc.squall[g]) ∧ t = { s with svc := t.svc, flt := t.flt }) ∧
   (∀ (s : State) (e : Fin 16), (∀ w ∈ s.svc.squall[e].work, s.sys.cyc ≤ w.start + 2048) → exec (.squallHoldTimeout e) s = .next s) ∧
   (∀ (s : State) (e : Fin 16) (w : Work) (l : List Work) (n : Nat), s.svc.squall[e].work = w :: l → w.slot = some n →
     n < s.sys.cyc * 1024 + 58880 → w.ready ≠ [] →
     ∃ t, exec (.squallWorkComplete e) s = .next t ∧ t.svc.squall[e].work = l ∧ t.svc.launchDrop = s.svc.launchDrop + 1 ∧ t = { s with svc := t.svc }) ∧
   (∀ (s : State) (e : Fin 16) (w : Work) (l : List Work), s.svc.squall[e].work = w :: l → w.slot = none →
     ∃ t, exec (.squallWorkComplete e) s = .next t ∧ t.svc.squall[e].work = l ∧
       (∀ i, w.instance_ = some i → t.svc.inst[i].sent = s.svc.inst[i].sent + w.ready.length) ∧ t.svc.launchDrop = s.svc.launchDrop ∧
       t = { s with svc := t.svc, ports := t.ports, pairs := t.pairs })) ∧
  ((∀ (s : State) (n : Nat), s.follower = true → exec (.periodicMessage n) s = .next s) ∧
   (∀ (s : State) (n : Nat), s.follower = false → n < 256 → exec (.periodicMessage n) s =
     .next (s.periodicMulticast n (Fin.ofNat 16 (n / 16)) (Fin.ofNat 8 (n / 2 % 8)) (n % 2 == 1))) ∧
   (∀ (s : State) (i : Fin 16) (p : Fin 8) (b : Bool), s.ptpMaster i p = false →
     exec (.periodicMessage (16 * i.val + 2 * p.val + b2n b)) s = .next s) ∧
   (∀ (s : State) (p : Fin 8) (e : Fin 16), s.follower = false → s.svc.esmc[p].cfg.flag Ix.esmcEnable = true → s.ports[p].linkUp = true →
     s.afterInit = true → s.lastNominal (256 + p.val) = none → s.freeEngine = some e →
     ∃ t, exec (.periodicMessage (256 + p.val)) s = .next t ∧ t.svc.esmc[p].lastCode = s.esmcCode p ∧
       t.lastNominal (256 + p.val) = some (s.now + 65536000) ∧
       ((∃ w, t.svc.squall[e].work = s.svc.squall[e].work ++ [w] ∧ w.port = p ∧ w.instance_ = none ∧ w.ready.map TxFrame.octets = [s.esmcFrame p false] ∧
           t.svc.launchDrop = s.svc.launchDrop) ∨
         (t.svc.squall[e].work = s.svc.squall[e].work ∧ t.svc.launchDrop = s.svc.launchDrop + 1)) ∧
       t = { s with svc := t.svc, flt := t.flt, freeCtr := t.freeCtr }) ∧
   (∀ (s : State) (p : Fin 8) (u : Int), s.lastNominal (256 + p.val) = some u → s.now + lookAhead < u + secFrac →
     exec (.periodicMessage (256 + p.val)) s = .next s) ∧
   (∀ (s : State) (n : Nat) (g : Grant), s.follower = false → 268 ≤ n → s.svc.grants[n - 268]? = some g →
     exec (.periodicMessage n) s = .next (s.periodicGrant n g)) ∧
   (∀ (s : State) (p : Fin 8), s.svc.esmc[p].cfg.flag Ix.esmcEnable = true → s.ports[p].linkUp = true → s.follower = false →
     s.svc.esmc[p].lastCode ≠ s.esmcCode p → s.prpOn p = false → field (padded (s.esmcFrame p true)) 6 6 ≠ 0 →
     ∃ t f, exec (.esmcEventPdu p) s = .next t ∧ t.svc.esmc[p].lastCode = s.esmcCode p ∧ t.ports[p].txBuf = s.ports[p].txBuf ++ [f] ∧
       f.kind = Kind.esmc ∧ f.slot = none ∧ f.octets = padded (s.esmcFrame p true) ∧ (∀ q, q ≠ p → t.ports[q] = s.ports[q]) ∧
       t = { s with svc := t.svc, ports := t.ports }) ∧
   (∀ (s : State) (p : Fin 8), s.svc.esmc[p].lastCode = s.esmcCode p → exec (.esmcEventPdu p) s = .next s) ∧
   (∀ (s : State) (n : Nat) (g : Grant), s.svc.grants[n]? = some g → g.start + g.duration * 625000000 < s.sys.cyc →
     ∃ t, exec (.grantExpiry n) s = .next t ∧ t.svc.grants = s.svc.grants.eraseIdx n ∧ t = { s with svc.grants := t.svc.grants, emits := t.emits }) ∧
   (∀ (s : State) (n : Nat) (g : Grant), s.svc.grants[n]? = some g → s.sys.cyc ≤ g.start + g.duration * 625000000 → exec (.grantExpiry n) s = .next s) ∧
   (∀ (s : State) (c : Nat), s.svc.garpDue = some c → c ≤ s.sys.cyc →
     ∃ t, exec .garpRepeat s = .next t ∧ t.svc.garpDue = none ∧ t = { s with svc := t.svc, ports := t.ports, pairs := t.pairs }))

/-- Host lanes: a PCIe port's producer index moves within its ring, and outside it the write is ignored with HOST_LANE_INDEX; the ports without a lane get a bus error; HL_CTRL enables a lane whose ring sizes lie in 6 to 12 and otherwise sets CFG_ERR; a failed transfer stops the lane; a good one writes the oldest frame in flight, as far as the buffer takes it, and then its descriptor; a fetched send descriptor is consumed and written back, its frame padded and queued unless it is refused (R286, R305, R307 to R309, R333). -/
def Obligations.HostLaneRingsMoveWithinTheirSizes : Prop :=
  (∀ (s : State) (hp : Fin 4) (l : Fin 2) (v : Word), s.afterBoot = true → hp.val = l.val →
    exec (.hlRxProdWrite hp v) s = .next (if (v.truncate 16 - s.svc.lanes[l].rxCons).toNat ≤ 2 ^ s.svc.lanes[l].rxSize
      then { s with svc.lanes := upd s.svc.lanes l fun x => { x with rxProd := v.truncate 16 } } else s.raise Flt.hostLaneIndex l.val) ∧
    exec (.hlTxProdWrite hp v) s = .next (if (v.truncate 16 - s.svc.lanes[l].txCons).toNat ≤ 2 ^ s.svc.lanes[l].txSize
      then { s with svc.lanes := upd s.svc.lanes l fun x => { x with txProd := v.truncate 16 } } else s.raise Flt.hostLaneIndex (l.val + 16))) ∧
  (∀ (s : State) (hp : Fin 4) (v : Word), s.afterBoot = true → 2 ≤ hp.val →
    exec (.hlRxProdWrite hp v) s = .next (s.busError hp 0xE410 1 true 0) ∧ exec (.hlTxProdWrite hp v) s = .next (s.busError hp 0xE420 1 true 0) ∧
    exec (.hlCtrlWrite hp v) s = .next (s.busError hp 0xE400 1 true 0)) ∧
  (∀ (s : State) (hp : Fin 4) (l : Fin 2) (v : Word), s.afterBoot = true → hp.val = l.val → s.svc.lanes[l].enabled = false → v.getLsbD 0 = true →
    ∃ t, exec (.hlCtrlWrite hp v) s = .next t ∧
      (t.svc.lanes[l].enabled = true ↔ 6 ≤ bitsOf v.toNat 11 8 ∧ bitsOf v.toNat 11 8 ≤ 12 ∧ 6 ≤ bitsOf v.toNat 15 12 ∧ bitsOf v.toNat 15 12 ≤ 12) ∧
      (t.svc.lanes[l].enabled = false → t.svc.lanes[l].cfgErr = true) ∧ (∀ k, k ≠ l → t.svc.lanes[k] = s.svc.lanes[k]) ∧
      t = { s with svc.lanes := t.svc.lanes, emits := t.emits }) ∧
  (∀ (s : State) (l : Fin 2) (a n : Nat), s.svc.lanes[l].enabled = true →
    ∃ t, exec (.hlDmaComplete l false a n) s = .next t ∧ t.svc.lanes[l].enabled = false ∧ t.svc.lanes[l].dmaErr = true ∧ t.svc.lanes[l].inFlight = [] ∧
      (∀ k, k ≠ l → t.svc.lanes[k] = s.svc.lanes[k]) ∧ t = { s with svc.lanes := t.svc.lanes, emits := t.emits, flt := t.flt }) ∧
  (∀ (s : State) (l : Fin 2) (hp : Fin 4) (a n : Nat) (f : RxFrame) (r : Nat) (p : Fin 8) (fs : List (RxFrame × Nat × Fin 8)),
    hp.val = l.val → s.svc.lanes[l].enabled = true → s.svc.lanes[l].inFlight = (f, r, p) :: fs →
    ∃ t, exec (.hlDmaComplete l true a n) s = .next t ∧ t.svc.lanes[l].inFlight = fs ∧ t.svc.lanes[l].rxCons = s.svc.lanes[l].rxCons + 1 ∧
      t.emits = .hostMem hp (s.svc.lanes[l].rxBase.toNat + 32 * (s.svc.lanes[l].rxCons.toNat % 2 ^ s.svc.lanes[l].rxSize) + 8) (rxWriteBack f r p n) ::
        .hostOctets hp a (f.bare.take n) :: s.emits ∧
      (∀ k, k ≠ l → t.svc.lanes[k] = s.svc.lanes[k]) ∧ t = { s with svc.lanes := t.svc.lanes, emits := t.emits }) ∧
  (∀ (s : State) (l : Fin 2) (d : SendDesc), s.svc.lanes[l].enabled = true → s.svc.lanes[l].txProd ≠ s.svc.lanes[l].txCons →
    ∃ t, exec (.hlTxFetch l d) s = .next t ∧ t.svc.lanes[l].txCons = s.svc.lanes[l].txCons + 1 ∧
      (s.sendRefused d = true → d.stamp = false → t.ports[d.port].txBuf = s.ports[d.port].txBuf ∧ t.ports[d.port].counters[(43 : Fin 45)] = s.ports[d.port].counters[(43 : Fin 45)] + 1) ∧
      (s.sendRefused d = false → d.seg = false → d.stamp = false → s.prpOn d.port = false → s.ports[d.port].linkUp = true →
        t.ports[d.port].txBuf = s.ports[d.port].txBuf ++ [{ slot := none, kind := Kind.host, octets := padded d.octets }]) ∧
      t = { s with svc.lanes := t.svc.lanes, ports := t.ports, pairs := t.pairs, hosts := t.hosts, emits := t.emits })

/-- The key store's clock and the generator: a usable key whose EXPIRY the time has reached drains with KEY_EXPIRED, a draining key that nothing uses is emptied, keys in other slots staying as they are; the generator reseeds every second or 2^20 requests, stops on a failed entropy test and resumes after 1 s of passed tests; the sketch's banks roll over at each whole second (R338, R339, R344, R359). -/
def Obligations.KeysExpireAndTheGeneratorReseeds : Prop :=
  (∀ (s : State) (n : Fin 64), s.auth.sa[n].usable = true → s.auth.sa[n].expiry ≠ 0 → (s.auth.sa[n].expiry : Int) ≤ s.nowSec →
    ∃ t, exec (.keyExpiry true n) s = .next t ∧ t.auth.sa[n].state = .draining ∧ t.auth.sa[n].key = s.auth.sa[n].key ∧
      (∀ k, k ≠ n → t.auth.sa[k] = s.auth.sa[k]) ∧ t.auth.nts = s.auth.nts ∧ t.ts = s.ts) ∧
  (∀ (s : State) (n : Fin 64), s.auth.nts[Fin.ofNat 4 n.val].usable = true → s.auth.nts[Fin.ofNat 4 n.val].expiry ≠ 0 →
    (s.auth.nts[Fin.ofNat 4 n.val].expiry : Int) ≤ s.nowSec →
    ∃ t, exec (.keyExpiry false n) s = .next t ∧ t.auth.nts[Fin.ofNat 4 n.val].state = .draining ∧ t.auth.sa = s.auth.sa) ∧
  (∀ (s : State) (b : Bool) (n : Fin 64), ((s.key b n).expiry = 0 ∨ s.nowSec < ((s.key b n).expiry : Int)) → exec (.keyExpiry b n) s = .next s) ∧
  (∀ (s : State) (n : Fin 64), s.auth.sa[n].state = .draining → s.keyInUse true n = false →
    ∃ t, exec (.keyDrainComplete true n) s = .next t ∧ t.auth.sa[n].state = .empty ∧ t.auth.sa[n].key = [] ∧
      (∀ k, k ≠ n → t.auth.sa[k] = s.auth.sa[k]) ∧ t = { s with auth := t.auth, emits := t.emits } ∧ t.auth.nts = s.auth.nts) ∧
  (∀ s : State, (2 ^ 20 ≤ s.auth.requests ∨ s.auth.reseedAt + 625000000 ≤ s.sys.cyc) →
    exec .drbgReseed s = .next { s with auth.drbgSeed := s.draw, auth.requests := 0, auth.reseedAt := s.sys.cyc, freeCtr := s.freeCtr + 1 }) ∧
  (∀ (s : State) (b : Bool), ∃ t, exec (.entropyTestFail b) s = .next t ∧ t.auth.drbgOk = false ∧ t.auth.testsFrom = some s.sys.cyc ∧
    t = { s with auth := { s.auth with drbgOk := false, testsFrom := some s.sys.cyc }, flt := t.flt }) ∧
  (∀ (s : State) (c : Nat), s.auth.testsFrom = some c → c + 625000000 ≤ s.sys.cyc →
    ∃ t, exec .drbgResume s = .next t ∧ t.auth.drbgOk = true ∧ t.auth.testsFrom = none ∧ t.auth.sa = s.auth.sa ∧ t.auth.nts = s.auth.nts ∧
      t.flt.present.contains (Flt.drbgFail.msg 0) = false) ∧
  (∀ (s : State) (c : Nat), s.auth.testsFrom = some c → s.sys.cyc < c + 625000000 → exec .drbgResume s = .next s) ∧
  (∀ s : State, s.sys.cyc / 625000000 = s.auth.sketchSec + 1 → exec .sketchRollover s =
    .next { s with auth.prev := s.auth.cur, auth.cur := [], auth.sketchSec := s.sys.cyc / 625000000 })

/-! ### Grid, converters and the twin -/

/-- Grid feeds: an edge less than BLANK after the crossing before it only counts as rejected; more than three nominal periods without a crossing, beside the time of lost samples, are a mains loss of that feed alone; more than 10 s without one end the validity of its time error; a write of GQ_RD moves the index within the 32 records or is refused (R4, R366, R374, R377, R380). Converter ports: a frame of a running port advances its frame number and, after BLOCK_FRAMES of them, its block; a frame of a port that stands does nothing but settle; a deviation fitted over a second of stamps stops the port as foreign beyond 50 x 10^-6 and marks it measured within; a common start starts exactly the ports whose instant has come; ring indices written by the CONVERTER grant's holder move within the ring, others are refused (R381, R383, R385, R387, R388). -/
def Obligations.GridFeedsAndConverterPortsRun : Prop :=
  ((∀ (s : State) (f : Fin 6) (t t0 : Int) (k : Nat) (st : Stamp), s.feeds[f].mainsLoss = false → s.feeds[f].dataLost = false →
     s.feeds[f].lastCross = some (k, t0) → s.feeds[f].cfg.flag Ix.feedSrc = false → t - t0 < s.feeds[f].cfg.at Ix.feedBlank * 65536000000 →
     s.crossing f t st = { s with feeds := upd s.feeds f fun y => { y with rejects := y.rejects + 1 } }) ∧
   (∀ (s : State) (f : Fin 6), s.feeds[f].cfg.flag Ix.feedEnable = true → s.feeds[f].mainsLoss = false → s.feeds[f].dataLost = false →
     3 / s.feeds[f].nominal + s.feeds[f].lostTime < cycSeconds ((s.sys.cyc : Int) - s.feeds[f].lossAt) →
     ∃ u : State, exec (.mainsLossTimeout f) s = .next (u.settle 4) ∧ u.feeds[f].mainsLoss = true ∧ u.feeds[f].crossings = [] ∧
       (∀ g, g ≠ f → u.feeds[g] = s.feeds[g]) ∧
       (s.feeds[f].cfg.flag Ix.feedSupply = true → u.flt.present.contains (Flt.mainsLoss.msg f.val) = true) ∧ u.ts = s.ts ∧ u.cps = s.cps) ∧
   (∀ (s : State) (f : Fin 6), (s.feeds[f].cfg.flag Ix.feedEnable = false ∨ s.feeds[f].mainsLoss = true ∨
       cycSeconds ((s.sys.cyc : Int) - s.feeds[f].lossAt) ≤ 3 / s.feeds[f].nominal + s.feeds[f].lostTime) →
     exec (.mainsLossTimeout f) s = .next (s.settle 4)) ∧
   (∀ (s : State) (f : Fin 6), s.feeds[f].gteValid = true → s.feeds[f].lossAt + 6250000000 < s.sys.cyc →
     ∃ t, exec (.gteGapExpiry f) s = .next t ∧ t.feeds[f] = { s.feeds[f] with gteValid := false } ∧ (∀ g, g ≠ f → t.feeds[g] = s.feeds[g]) ∧
       t = { s with feeds := t.feeds, flt := t.flt }) ∧
   (∀ (s : State) (f : Fin 6), s.sys.cyc ≤ s.feeds[f].lossAt + 6250000000 → exec (.gteGapExpiry f) s = .next s) ∧
   (∀ (s : State) (hp : Fin 4) (v : Word), s.afterBoot = true → exec (.gqRdWrite hp v) s = .next (if (s.hosts[hp].gq.wr - v.truncate 16).toNat ≤ 32
     then { s with hosts := upd s.hosts hp fun h => { h with gq := { h.gq with rd := v.truncate 16 } } } else s.raise Flt.gqIndex hp.val))) ∧
  ((∀ (s : State) (n : Fin 8) (l : List Word), s.cps[n].pending = none → s.hasApplied 4 (8 + n.val) = true →
     (s.cps[n].running = false → exec (.cpFrameSync n l) s = .next (s.settle 4)) ∧
     (s.cps[n].running = true → (s.cps[n].stopCmds = [] ∨ s.cps[n].frame ≠ 0) → exec (.cpFrameSync n l) s =
       .next (((s.frameBody n (s.frameStamp s.cps[n].cfg) l).applyCrossed s.feeds).settle 4))) ∧
   (∀ (s u : State) (n : Fin 8) (st : Stamp) (l : List Word), u = s.frameBody n st l →
     (s.cps[n].frame + 1 < s.cps[n].cfg.nat Ix.cpBlockFrames → u.cps[n].frame = s.cps[n].frame + 1 ∧ u.cps[n].blockSeq = s.cps[n].blockSeq) ∧
     (s.cps[n].cfg.nat Ix.cpBlockFrames ≤ s.cps[n].frame + 1 → u.cps[n].frame = 0 ∧ u.cps[n].blockSeq = s.cps[n].blockSeq + 1) ∧
     (∀ m, m ≠ n → u.cps[m] = s.cps[m])) ∧
   (∀ (s : State) (n : Fin 8) (d : Rat), s.cps[n].running = true → s.cps[n].stopCmds = [] → s.cps[n].rateFrom + 625000000 ≤ s.sys.cyc →
     s.deviation n = some d →
     ∃ u : State, exec (.cpRateMeasure n) s = .next (u.settle 4) ∧ (∀ m, m ≠ n → u.cps[m] = s.cps[m]) ∧ u.cps[n].rateFrom = s.cps[n].rateFrom + 625000000 ∧
       (50 / 1000000 < |d| → u.cps[n].running = false ∧ u.cps[n].foreign = true) ∧
       (|d| ≤ 50 / 1000000 → u.cps[n].running = true ∧ u.cps[n].measured = true ∧ u.cps[n].waiting = false) ∧ u.ts = s.ts) ∧
   (∀ (s : State) (n : Fin 8), s.sys.cyc < s.cps[n].rateFrom + 625000000 → exec (.cpRateMeasure n) s = .next (s.settle 4)) ∧
   (∀ s : State, ∃ t, exec .cpStartExecute s = .next t ∧ t.ts = s.ts ∧
     ∀ n : Fin 8, ((∃ p, s.cps[n].startAt = some p ∧ (p.1 : Rat) * secFrac + s.mis 2 ≤ s.now) →
         t.cps[n].running = true ∧ t.cps[n].startAt = none ∧ t.cps[n].frame = 0 ∧ t.cps[n].blockSeq = 0) ∧
       ((∀ p, s.cps[n].startAt = some p → (s.now : Rat) < (p.1 : Rat) * secFrac + s.mis 2) → t.cps[n] = s.cps[n])) ∧
   (∀ (s : State) (hp : Fin 4) (n : Fin 8) (v : Word), s.afterBoot = true → s.may hp .converter = true →
     exec (.cpRxRdWrite hp n v) s = .next (if (s.cps[n].rxWr - v.truncate 16).toNat ≤ s.cps[n].cfg.nat Ix.cpRxBlocks
       then { s with cps := upd s.cps n fun c => { c with rxRd := v.truncate 16 } } else s.raise Flt.cpIndex n.val) ∧
     exec (.cpTxWrWrite hp n v) s = .next (if (v.truncate 16 - s.cps[n].txRd).toNat ≤ s.cps[n].cfg.nat Ix.cpTxBlocks
       then { s with cps := upd s.cps n fun c => { c with txWr := v.truncate 16 } } else s.raise Flt.cpIndex (n.val + 16))) ∧
   (∀ (s : State) (hp : Fin 4) (n : Fin 8) (v : Word), s.afterBoot = true → s.may hp .converter = false →
     exec (.cpRxRdWrite hp n v) s = .next (s.denied (0x7A0C + 0x20 * n.val)) ∧ exec (.cpTxWrWrite hp n v) s = .next (s.denied (0x7A10 + 0x20 * n.val))))

/-- Heartbeats: they leave every 2 ms with their CRC-32, counted on their path, after an active's sequence counters; the last of an active under handover makes it STANDBY; one that fails its check, or is not newer than the path's last, only counts in HB_BAD; one of the same unit or of the other mode raises TWIN_CONFIG; a STANDBY unit that hears RELEASE from the active takes the token with the next EPOCH (R403, R404, R408, R410). -/
def Obligations.HeartbeatsCarryTheToken : Prop :=
  (∀ s : State, s.sys.straps.twinEn = true → s.afterBoot = true → s.twin.hbDue ≤ s.sys.cyc → s.twin.linkUp = true → s.twin.role = .active →
    s.twin.handover = none → s.twin.cfg.at Ix.twinUnitMac = 0 →
    ∃ t, exec .heartbeatSend s = .next t ∧ t.emits = .link 1 (s.hbOctets 0 false ++ linkCrc (s.hbOctets 0 false)) :: s.counters :: s.emits ∧
      t = { s with emits := t.emits, twin := t.twin } ∧
      t.twin = { s.twin with hbDue := s.sys.cyc + 1250000, txSeq := s.twin.txSeq.set 0 (s.twin.txSeq[(0 : Fin 2)] + 1) }) ∧
  (∀ (s : State) (c : Nat), s.sys.straps.twinEn = true → s.afterBoot = true → s.twin.hbDue ≤ s.sys.cyc → s.twin.role = .active → s.twin.handover = some c →
    ∃ t, exec .heartbeatSend s = .next t ∧ t.twin.role = .standby ∧ t.twin.handover = none ∧ t.twin.handed = some c ∧ t.ts = s.ts) ∧
  (∀ s : State, s.sys.cyc < s.twin.hbDue → exec .heartbeatSend s = .next s) ∧
  (∀ (s : State) (net : Bool) (h : Heartbeat), s.sys.straps.twinEn = true → s.afterBoot = true → (net = false → s.twin.linkUp = true) →
    (h.good net = false ∨ s.icvOk h = false) → exec (.heartbeatReceive net h) s = .next { s with twin.hbBad := s.twin.hbBad + 1 }) ∧
  (∀ (s : State) (net : Bool) (h : Heartbeat), s.sys.straps.twinEn = true → s.afterBoot = true → (net = false → s.twin.linkUp = true) →
    h.good net = true → s.icvOk h = true → h.unitId = s.twin.unit → s.twin.configBad ≠ some 0 →
    ∃ t, exec (.heartbeatReceive net h) s = .next t ∧ t.flt.present.contains (Flt.twinConfig.msg 0) = true ∧
      t = { s with twin.configBad := some 0, flt := t.flt }) ∧
  (∀ (s : State) (net : Bool) (h : Heartbeat), s.sys.straps.twinEn = true → s.afterBoot = true → (net = false → s.twin.linkUp = true) →
    h.good net = true → s.icvOk h = true → h.unitId ≠ s.twin.unit → h.mode = s.twin.compat →
    (s.hbFresh (if net then 1 else 0) h = false → exec (.heartbeatReceive net h) s = .next { s with twin.hbBad := s.twin.hbBad + 1 }) ∧
    (s.hbFresh (if net then 1 else 0) h = true → s.twin.role = .standby → h.role = 2 → h.release = true →
      ∃ t, exec (.heartbeatReceive net h) s = .next t ∧ t.twin.role = .active ∧ t.twin.epoch = h.epoch + 1 ∧
        t.twin.takeovers = s.twin.takeovers + 1))

/-- Taking the token, and what leads to it: a taker becomes ACTIVE with the next EPOCH and counts a takeover; one path silent for more than 20 ms alone is only reported; a STANDBY unit without a witness takes the token when both are silent; an active whose witness does not answer in time steps back and a STANDBY unit does not; a granted STANDBY unit takes it 4 ms after the wait; a discovering unit that heard nothing takes it (R4, R405, R406, R408, R412, R413). -/
def Obligations.SilenceAndVotesMoveTheToken : Prop :=
  (∀ (s : State) (w : Nat), (s.takeToken w).twin.role = .active ∧ (s.takeToken w).twin.epoch = s.twin.epoch + 1 ∧
    (s.takeToken w).twin.takeovers = s.twin.takeovers + 1 ∧ (s.takeToken w).twin.vote = none ∧ (s.takeToken w).twin.release = false ∧
    (s.takeToken w).svc.garpDue = some (s.sys.cyc + 625000000) ∧ (s.takeToken w).ts.sets = s.ts.sets) ∧
  (∀ (s : State) (net : Bool) (p q : Fin 2) (c : Nat), p = (if net then 1 else 0) → q ≠ p → s.twin.lastHb[p] = some c → s.twin.silent[p] = false →
    c + 12500000 < s.sys.cyc →
    (s.twin.silent[q] = false → ∃ t, exec (.pathSilence net) s = .next t ∧ t.twin.silent[p] = true ∧ t.twin.silent[q] = false ∧ t.twin.rxSeq[p] = none ∧
      t.twin.role = s.twin.role ∧ t.flt.present.contains (Flt.twinPathSilent.msg p.val) = true ∧ t = { s with twin := t.twin, flt := t.flt }) ∧
    (s.twin.silent[q] = true → s.twin.role = .standby → s.sys.engine ≠ .safe → s.twin.witness = none →
      ∃ t, exec (.pathSilence net) s = .next t ∧ t.twin.role = .active ∧ t.twin.epoch = s.twin.epoch + 1)) ∧
  (∀ (s : State) (net : Bool) (p : Fin 2) (c : Nat), p = (if net then 1 else 0) → s.twin.lastHb[p] = some c → s.sys.cyc ≤ c + 12500000 →
    exec (.pathSilence net) s = .next s) ∧
  (∀ (s : State) (e c : Nat), s.twin.vote = some (e, c) → s.twin.voteAnswer = none → c + s.twin.cfg.nat Ix.twinWitnessWait * 625000 < s.sys.cyc →
    (s.twin.role = .active → ∃ t, exec .witnessWaitExpiry s = .next t ∧ t.twin.role = (if s.twin.compat then .standby else .quarantined) ∧ t.twin.vote = none) ∧
    (s.twin.role ≠ .active → ∃ t, exec .witnessWaitExpiry s = .next t ∧ t.twin.role = s.twin.role ∧ t.twin.vote = none ∧
      t = { s with twin := { s.twin with vote := none, voteAnswer := none }, flt := t.flt })) ∧
  (∀ (s : State) (e c : Nat), s.twin.vote = some (e, c) → s.twin.voteAnswer = some true → s.twin.role = .standby → s.sys.engine ≠ .safe →
    c + (s.twin.cfg.nat Ix.twinWitnessWait + 4) * 625000 < s.sys.cyc → exec .witnessTokenTake s = .next (s.takeToken 3)) ∧
  (∀ s : State, s.twin.role = .discovering → s.twin.peer.valid = false →
    s.twin.roleSince + s.twin.cfg.nat Ix.twinDiscoverTime * 625000000 < s.sys.cyc → exec .discoverTimeExpiry s = .next (s.takeToken 0))

/-- The Balandou link: its rise starts a bulk transfer on a follower, its loss raises TWIN_LINK_DOWN and ends transfers; time frames are stamped as they leave, each once, carry the stamps of the exchange before and their CRC-32, and exchanges give offsets; each 62.5 ms delivers the mean of its offsets to a follower's TWIN slot; a calibration's end sets ASYM; a follower applies what is replicated and ends a bulk transfer synchronized, and a transfer that takes more than 60 s is tried again (R396 to R398, R401, R402, R414). -/
def Obligations.BalandouLinkTransfersTimeAndState : Prop :=
  (∀ s : State, s.sys.straps.twinEn = true → s.twin.linkUp = false →
    ∃ t, exec .balandouLinkUp s = .next t ∧ t.twin.linkUp = true ∧ t.flt.present.contains (Flt.twinLinkDown.msg 0) = false ∧
      (s.follower = true → t.twin.bulkStart = some s.sys.cyc) ∧ t = { s with twin := t.twin, flt := t.flt, emits := t.emits }) ∧
  (∀ s : State, s.twin.linkUp = true → ∃ t, exec .balandouLinkLoss s = .next t ∧ t.twin.linkUp = false ∧ t.twin.bulkStart = none ∧
    t.twin.bulkDone = false ∧ t.twin.offsets = [] ∧ t.flt.present.contains (Flt.twinLinkDown.msg 0) = true ∧ t.ts.sets = s.ts.sets) ∧
  (∀ (s : State) (f : Fin 1024), s.twin.linkUp = true → s.afterBoot = true → s.ttIndex ≠ s.twin.txIndex → s.twin.gotTt = true →
    ∃ t l, exec (.ttFrameSend f) s = .next t ∧ t.twin.lastTx = some (s.convert ⟨s.sys.cyc, f.val⟩) ∧ t.twin.txIndex = s.ttIndex ∧ t.twin.gotTt = false ∧
      t.emits = .link 0 (l ++ linkCrc l) :: s.emits ∧ (s.twin.exch = none → l = []) ∧
      (∀ a d, s.twin.exch = some (a, d) → l = ttStamp d ++ ttStamp a) ∧ t.ts = s.ts ∧ t.wv = s.wv) ∧
  (∀ (s : State) (f : Fin 1024), s.ttIndex = s.twin.txIndex → exec (.ttFrameSend f) s = .next s) ∧
  (∀ (s : State) (f : TtFrame), s.twin.linkUp = true → s.afterBoot = true → linkGood f.octets = false →
    exec (.ttFrameReceive f) s = .next { s with twin.linkErrors := s.twin.linkErrors + 1 }) ∧
  (∀ (s : State) (f : TtFrame) (a d : Int), s.twin.linkUp = true → s.afterBoot = true → linkGood f.octets = true → f.complete = true → s.twin.exch = some (a, d) →
    s.twin.role ≠ .active →
    ∃ t, exec (.ttFrameReceive f) s = .next t ∧
      t.twin.offsets = s.twin.offsets ++ [(f.peerArrive - d) - (a - f.peerDepart) + s.asymActiveStandby] ∧ t.twin.failRun = 0 ∧ t.wv = s.wv) ∧
  (∀ s : State, s.twin.linkUp = true → s.now * 16 / secFrac ≠ s.twin.ofsWindow → s.twin.offsets ≠ [] → s.follower = true → s.twin.calibrating = none →
    ∃ t, exec .twinOffsetDeliver s = .next t ∧ t.twin.offsets = [] ∧ t.twin.ofsWindow = s.now * 16 / secFrac ∧
      t.twin.offset = looseRound (meanOf (s.twin.offsets.map fun i => (i : Rat)) / 2) ∧
      t.wv.slots[(15 : Fin 16)].meas = s.wv.slots[(15 : Fin 16)].meas ++ [.offset t.twin.offset s.sys.cyc s.twinDeclared] ∧
      t = { s with twin := t.twin, wv := t.wv }) ∧
  (∀ (s : State) (k : Fin 16) (st len id : Nat), s.twin.calibrating = some (k, st, len, id) → st + len * 625000000 ≤ s.sys.cyc → s.twin.calSamples ≠ [] →
    ∃ t a u, exec .twinCalibrateComplete s = .next t ∧ t.mram.asym = some (a, u) ∧ t.twin.cfg = (s.twin.cfg.set Ix.twinAsym a).set Ix.twinAsymUnc u ∧
      t.twin.calibrating = none ∧ u ≤ 25600 ∧ t.ts = s.ts) ∧
  (∀ (s : State) (v : Nat), s.twin.linkUp = true → s.afterBoot = true → s.follower = false → s.twin.role = .active → exec (.replReceive (.clockId v)) s = .next s) ∧
  (∀ (s : State) (v : Nat), s.twin.linkUp = true → s.afterBoot = true → s.follower = true →
    exec (.replReceive (.clockId v)) s = .next (State.followTwin { s with svc.clockId := v })) ∧
  (∀ (s : State) (l : List ReplItem) (b : Bool) (c : Nat), s.follower = true → s.twin.linkUp = true → s.twin.bulkStart = some c →
    exec (.bulkTransferComplete l b) s = .next (State.followTwin
      { l.foldl State.applyRepl s with twin.bulkDone := true, twin.bulkStart := none, twin.activeKeys := b })) ∧
  (∀ (s : State) (a : Int) (u : Nat), s.twin.linkUp = true → s.afterBoot = true → s.twin.role = .active →
    ∃ t, exec (.replReceive (.asymmetry a u)) s = .next t ∧ t.mram.asym = some (a, u) ∧ t.twin.cfg = (s.twin.cfg.set Ix.twinAsym a).set Ix.twinAsymUnc u ∧
      t = { s with mram := t.mram, twin := t.twin }) ∧
  (∀ (s : State) (c : Nat), s.twin.bulkStart = some c → c + 37500000000 < s.sys.cyc → s.follower = true → s.twin.linkUp = true →
    ∃ t, exec .bulkTransferTimeout s = .next t ∧ t.twin.bulkStart = some s.sys.cyc ∧ t.twin.bulkDone = false ∧
      t = { s with twin := t.twin, flt := t.flt, emits := t.emits })

/-! ### Host ports, registers and faults -/

/-- Mailboxes and rings: reading a full outbound mailbox answers its word and lets the next reply in, an empty one reads 0; a stall of 1 s raises MB_STALL once; a write of NQ_RD moves the index within the 128 notices or is refused; a command word written over a pending one raises MB_COLLISION; before INIT writes are ignored and SPI reads answer 0 (R429, R438, R439, R444, R473). Locks: reading a free lock takes it and answers 0, reading a held one answers its holder's port + 1 and changes nothing; a write of 0 frees it for its holder, and for the OWNER with LOCK_FORCED; any other write is denied and leaves the lock (R450, R451). -/
def Obligations.MailboxesRepliesAndLocks : Prop :=
  ((∀ (s : State) (hp : Fin 4) (m : Fin 8), s.afterBoot = true →
     (s.hosts[hp].ombFull[m] = true → ∃ t, exec (.ombRead hp m) s = .next t ∧ t.emits.head? = some (.read hp s.hosts[hp].omb[m]) ∧
       (s.hosts[hp].replies = [] → t.hosts[hp].ombFull[m] = false ∧ t.hosts[hp].omb[m] = 0) ∧
       (∀ q, q ≠ hp → t.hosts[q] = s.hosts[q]) ∧ t = { s with hosts := t.hosts, emits := t.emits }) ∧
     (s.hosts[hp].ombFull[m] = false → exec (.ombRead hp m) s = .next { s with emits := .read hp 0 :: s.emits })) ∧
   (∀ (s : State) (hp : Fin 4) (m : Fin 8) (c : Nat), s.hosts[hp].stallFrom[m] = some c → c + 625000000 < s.sys.cyc → s.hosts[hp].stalled[m] = false →
     exec (.mbStallTimeout hp m) s = .next (State.raise { s with hosts := upd s.hosts hp fun h => { h with stalled := h.stalled.set m true } }
       Flt.mbStall (m.val + hp.val * 16))) ∧
   (∀ (s : State) (hp : Fin 4) (m : Fin 8), (s.hosts[hp].stalled[m] = true ∨ s.hosts[hp].stallFrom[m] = some s.sys.cyc) →
     exec (.mbStallTimeout hp m) s = .next s) ∧
   (∀ (s : State) (hp : Fin 4) (v : Word), s.afterBoot = true →
     exec (.nqRdWrite hp v) s = .next (if (s.hosts[hp].notices.wr - v.truncate 16).toNat ≤ 128
       then { s with hosts := upd s.hosts hp fun h => { h with notices := { h.notices with rd := v.truncate 16 } } } else s.raise Flt.nqIndex hp.val)) ∧
   (∀ (s : State) (hp : Fin 4) (m : Fin 8) (v : Word), (s.writeImb hp m v).hosts[hp].imb[m] = v ∧ (s.writeImb hp m v).hosts[hp].imbFull[m] = true ∧
     ((s.sys.cyc * 4 / 25, hp, m) ∈ (s.writeImb hp m v).cmds) ∧
     (s.hosts[hp].imbFull[m] = true → (s.writeImb hp m v).hosts[hp].imbColl.getLsbD m.val = true)) ∧
   (∀ (s : State) (hp : Fin 4) (m : Fin 8) (v : Word), s.afterBoot = false → exec (.nqRdWrite hp v) s = .next s ∧ exec (.peerRingWrite hp v) s = .next s ∧
     (2 ≤ hp.val → exec (.ombRead hp m) s = .next { s with emits := .read hp 0 :: s.emits }) ∧ (hp.val < 2 → exec (.ombRead hp m) s = .next s))) ∧
  ((∀ (s : State) (hp : Fin 4) (k : Fin 16), s.afterBoot = true → s.locks[k] = none →
     exec (.lockRead hp k) s = .next { s with locks := s.locks.set k (some hp), emits := .read hp 0 :: s.emits }) ∧
   (∀ (s : State) (hp p : Fin 4) (k : Fin 16), s.afterBoot = true → s.locks[k] = some p →
     exec (.lockRead hp k) s = .next { s with emits := .read hp (BitVec.ofNat 32 (p.val + 1)) :: s.emits }) ∧
   (∀ (s : State) (hp : Fin 4) (k : Fin 16), s.afterBoot = true → s.locks[k] = some hp → exec (.lockWrite hp k 0) s = .next { s with locks := s.locks.set k none }) ∧
   (∀ (s : State) (hp p : Fin 4) (k : Fin 16), s.afterBoot = true → s.locks[k] = some p → p ≠ hp →
     exec (.lockWrite hp k 0) s = .next (if s.sys.owner = hp then State.raise { s with locks := s.locks.set k none } Flt.lockForced (k.val + p.val * 16)
       else s.denied (0x10C0 + 4 * k.val))) ∧
   (∀ (s : State) (hp : Fin 4) (k : Fin 16) (v : Word), s.afterBoot = true → v ≠ 0 → exec (.lockWrite hp k v) s = .next (s.denied (0x10C0 + 4 * k.val))))

/-- PEER_RING: a write with TARGET t by port p sets DB_STATUS bit 24 + p on port t, whichever ports these are, and no other bit and no other port's state (R448). -/
def Obligations.PeerRingSetsTheDoorbellBit : Prop :=
  ∀ (s : State) (hp p : Fin 4) (v : Word), s.afterBoot = true → v.toNat % 4 = p.val →
    ∃ t, exec (.peerRingWrite hp v) s = .next t ∧ t.hosts[p].db = s.hosts[p].db ||| BitVec.ofNat 32 (2 ^ (24 + hp.val)) ∧
      t.hosts[p].db.getLsbD (24 + hp.val) = true ∧ (∀ q, q ≠ p → t.hosts[q] = s.hosts[q]) ∧
      t = { s with hosts := upd s.hosts p (fun h => { h with db := t.hosts[p].db }), emits := t.emits }

/-- Masks, port resets and links: a mask takes its value, and unmasking a set source sends its vector on a PCIe port; a port reset (HP_RESET with 0xA5A5, function-level reset, link loss, PERST) empties the port's mailboxes and queues, restores its masks, frees its locks, drops its waiting commands and leaves the other ports alone; a link comes up only out of PERST, which ends HP_LINK_DOWN (R430 to R432, R449, R538). -/
def Obligations.MasksResetsAndLinksOfHostPorts : Prop :=
  (∀ (s : State) (hp : Fin 4) (v : Word), s.afterBoot = true →
    exec (.maskWrite hp .db v) s = .next { s with
      hosts := upd s.hosts hp (fun h => { h with dbMask := v }),
      emits := if s.hosts[hp].db &&& s.hosts[hp].dbMask &&& ~~~v ≠ 0 ∧ hp.val < 2 then .msix hp 0 :: s.emits else s.emits } ∧
    exec (.maskWrite hp .hw v) s = .next { s with
      hosts := upd s.hosts hp (fun h => { h with hwMask := v }),
      emits := if s.hwStatus hp &&& s.hosts[hp].hwMask &&& ~~~v ≠ 0 ∧ hp.val < 2 then .msix hp 1 :: s.emits else s.emits }) ∧
  (∀ (s t : State) (hp : Fin 4), t = s.portReset hp →
    (∀ m : Fin 8, t.hosts[hp].imbFull[m] = false ∧ t.hosts[hp].ombFull[m] = false) ∧ t.hosts[hp].db = 0 ∧ t.hosts[hp].dbMask = 0xFFFFFFFF ∧
    t.hosts[hp].hwEvents = 0 ∧ t.hosts[hp].hwMask = 0xFFFFFFFF ∧ t.hosts[hp].evq.wr = 0 ∧ t.hosts[hp].notices.rd = 0 ∧ t.hosts[hp].dumpInterval = 0 ∧
    (∀ k : Fin 16, t.locks[k] ≠ some hp ∧ (s.locks[k] ≠ some hp → t.locks[k] = s.locks[k])) ∧ (∀ c ∈ t.cmds, c.2.1 ≠ hp) ∧
    (∀ q, q ≠ hp → t.hosts[q] = s.hosts[q]) ∧ t.flt = s.flt ∧ t.ts = s.ts ∧ t.outs = s.outs ∧ t.hosts[hp].parcel = s.hosts[hp].parcel) ∧
  (∀ (s : State) (hp : Fin 4) (v : Word), s.afterBoot = true → exec (.hpResetWrite hp v) s = .next (if v = 0xA5A5 then s.portReset hp else s)) ∧
  (∀ (s : State) (hp : Fin 4), hp.val < 2 → exec (.pcieFlr hp) s = .next (s.portReset hp) ∧
    (s.hosts[hp].pcieUp = true → ∃ t, exec (.pcieLinkLoss hp) s = .next t ∧ t.hosts[hp].pcieUp = false ∧
      t.flt.present.contains (Flt.hpLinkDown.msg hp.val) = true ∧ t.hosts[hp].dbMask = 0xFFFFFFFF) ∧
    (∃ t, exec (.hpPerst hp) s = .next t ∧ t.hosts[hp].perst = true ∧ t.hosts[hp].pcieUp = false ∧ t.hosts[hp].dbMask = 0xFFFFFFFF ∧ t.flt = s.flt) ∧
    (s.hosts[hp].perst = true → exec (.pcieLinkUp hp) s = .next s) ∧
    (s.hosts[hp].perst = false → ∃ t, exec (.pcieLinkUp hp) s = .next t ∧ t.hosts[hp].pcieUp = true ∧
      t.flt.present.contains (Flt.hpLinkDown.msg hp.val) = false ∧ t = { s with hosts := t.hosts, flt := t.flt })) ∧
  (∀ (s : State) (hp : Fin 4), exec (.hpPerstRelease hp) s = .next { s with hosts := upd s.hosts hp fun h => { h with perst := false } })

/-- SPI: a transaction on a PCIe port is none; a read answers the status byte as it stood and then its words, zeros when the address is not a multiple of 4; whole words are written from the address on, a misaligned write being one bus error of cause 3 that writes nothing; SPI_STATUS clears the three error bits; a cut word is bus error cause 2 (R434 to R436, R472). That a misaligned transaction is one bus error is the model's choice (log entry 12). -/
def Obligations.SpiTransactionsMoveWholeWords : Prop :=
  (∀ (s : State) (hp : Fin 4) (a n : Nat) (l : List Word) (b : Bool), hp.val < 2 → exec (.spiWrite hp a l) s = .next s ∧ exec (.spiRead hp a n) s = .next s ∧
    exec (.spiStatus hp) s = .next s ∧ exec (.spiBadOpcode hp) s = .next s ∧ exec (.spiCsCut hp a b) s = .next s) ∧
  (∀ (s : State) (hp : Fin 4) (a : Nat) (l : List Word), 2 ≤ hp.val → s.afterBoot = true → a % 4 = 0 → a < 0x40000 → l.length = 1 →
    exec (.spiWrite hp a l) s = .next (s.busWrite hp ⟨a, 32⟩ ((l.getD 0 0).zeroExtend 64))) ∧
  (∀ (s : State) (hp : Fin 4) (a : Nat) (l : List Word), 2 ≤ hp.val → s.afterBoot = true → a % 4 ≠ 0 →
    exec (.spiWrite hp a l) s = .next (s.spiBusError hp a 3 true)) ∧
  (∀ (s : State) (hp : Fin 4) (a : Nat), 2 ≤ hp.val → s.afterBoot = true → a % 4 = 0 → a < 0x40000 →
    exec (.spiRead hp a 1) s = .next (State.busRead { s with emits := .spiByte hp (s.spiStatusByte hp) :: s.emits } hp ⟨a, 32⟩)) ∧
  (∀ (s : State) (hp : Fin 4) (a n : Nat), 2 ≤ hp.val → s.afterBoot = true → a % 4 ≠ 0 →
    ∃ t, exec (.spiRead hp a n) s = .next t ∧ t.emits = List.replicate n (.read hp 0) ++ .spiByte hp (s.spiStatusByte hp) :: s.emits ∧
      t.hosts[hp].busErrCount = s.hosts[hp].busErrCount + 1 ∧ t.hosts[hp].spiErr = true ∧ t = { s with hosts := t.hosts, flt := t.flt, emits := t.emits }) ∧
  (∀ (s : State) (hp : Fin 4), 2 ≤ hp.val →
    exec (.spiStatus hp) s = .next { s with
      hosts := upd s.hosts hp (fun h => { h with spiErr := false, spiBadOp := false, spiPartial := false }),
      emits := .spiByte hp (s.spiStatusByte hp) :: s.emits } ∧
    exec (.spiBadOpcode hp) s = .next { s with hosts := upd s.hosts hp fun h => { h with spiBadOp := true } }) ∧
  (∀ (s : State) (hp : Fin 4) (a : Nat) (b : Bool), 2 ≤ hp.val → s.afterBoot = true →
    ∃ t, exec (.spiCsCut hp a b) s = .next t ∧ t.hosts[hp].spiPartial = true ∧ t.hosts[hp].busErrCount = s.hosts[hp].busErrCount + 1 ∧
      (∀ q, q ≠ hp → t.hosts[q] = s.hosts[q]) ∧ t = { s with hosts := t.hosts, flt := t.flt })

/-- The window: a legal 32-bit read answers the register's value, a legal write has its register's effect; an access that is misaligned, of a width that is not permitted, or at a reserved location is one bus error with its cause, answers Completer Abort on a PCIe port and 0 on SPI, and writes nothing; a 64-bit access is checked in both halves first (R468 to R471, R474, R512). -/
def Obligations.WindowAccessesAreLegalOrBusErrors : Prop :=
  (∀ (s : State) (hp : Fin 4) (acc : Access) (c : Nat), s.afterBoot = true → s.accessError hp false acc = some c →
    exec (.registerRead hp acc) s = .next ((s.busError hp acc.addr c false 0).emit (if hp.val < 2 then .completerAbort hp else .read hp 0)) ∧
    exec (.perfRead hp acc) s = .next ((s.busError hp acc.addr c false 0).emit (if hp.val < 2 then .completerAbort hp else .read hp 0))) ∧
  (∀ (s : State) (hp : Fin 4) (acc : Access) (v : BitVec 64) (c : Nat), s.afterBoot = true → s.accessError hp true acc = some c →
    exec (.registerWrite hp acc v) s = .next (s.busError hp acc.addr c true 0)) ∧
  (∀ (s : State) (hp : Fin 4) (a : Nat) (w : Word), s.afterBoot = true → a < 0x10000 → a % 4 = 0 → s.regWord hp a = some w → readsEffect a = false →
    perfValue a = false → exec (.registerRead hp ⟨a, 32⟩) s = .next { s with emits := .read hp w :: s.emits }) ∧
  (∀ (s : State) (hp : Fin 4) (a : Nat) (w : Word), s.afterBoot = true → a < 0x10000 → a % 4 = 0 → s.regWord hp a = some w → perfValue a = true →
    exec (.perfRead hp ⟨a, 32⟩) s = .next (if bitAt s.perf.permit hp.val then { s with emits := .read hp w :: s.emits }
      else { s with perf.denied := s.perf.denied + 1, emits := .read hp 0 :: s.emits })) ∧
  (∀ (s : State) (hp : Fin 4) (a : Nat) (w : Word) (v : BitVec 64), s.afterBoot = true → a < 0x10000 → a % 4 = 0 → s.regWord hp a = some w →
    exec (.registerWrite hp ⟨a, 32⟩ v) s = .next (s.writeReg hp a (v.extractLsb' 0 32))) ∧
  (∀ (s : State) (hp : Fin 4) (w : Bool) (acc : Access), acc.width = 32 → acc.addr % 4 ≠ 0 → s.accessError hp w acc = some 3) ∧
  (∀ (s : State) (hp : Fin 4) (a : Nat) (w : Bool), a % 8 = 0 → s.accessError hp w ⟨a, 64⟩ = none → s.accessError hp w ⟨a, 32⟩ = none ∧ s.accessError hp w ⟨a + 4, 32⟩ = none)

/-- Alias writes set, clear or toggle exactly the chosen RW bits of a register in one access and are bus errors of cause 2 on a register without such bits; a parcel write below the notice ring stores exactly its bytes, one that reaches the ring stores none; the direct window serves only the OWNER with DIRECT, a word written to a writable location is kept there, reported, and read back, a location with nothing sets ERR, and LOCKDOWN, once set, refuses what would change it (R444, R477, R478, R488 to R490). That a write which reaches the ring is refused as a whole is the model's choice (log entry 12). -/
def Obligations.AliasParcelAndDirectAccesses : Prop :=
  (∀ (s : State) (hp : Fin 4) (a : Nat) (m cur v : Word) (w : Nat), s.afterBoot = true → a < 0x10000 → a % 4 = 0 → s.regWord hp a = some cur → aliasBits a = some m →
    exec (.aliasSetWrite hp ⟨a, 32⟩ v) s = .next (s.writeReg hp a ((cur &&& m) ||| (v &&& m))) ∧
    exec (.aliasClearWrite hp ⟨a, 32⟩ v) s = .next (s.writeReg hp a ((cur &&& m) &&& ~~~(v &&& m))) ∧
    exec (.aliasToggleWrite hp ⟨a, 32⟩ v) s = .next (s.writeReg hp a ((cur &&& m) ^^^ (v &&& m))) ∧ (w = 8 ∨ w = 16 → a % (w / 8) = 0 →
      exec (.aliasSetWrite hp ⟨a, w⟩ v) s = .next (s.busError hp (a + 0x10000) 2 true 0))) ∧
  (∀ (s : State) (hp : Fin 4) (a : Nat) (cur v : Word), s.afterBoot = true → a < 0x10000 → a % 4 = 0 → s.regWord hp a = some cur → aliasBits a = none →
    exec (.aliasSetWrite hp ⟨a, 32⟩ v) s = .next (s.busError hp (a + 0x10000) 2 true 0)) ∧
  (∀ (s : State) (hp : Fin 4) (o : Nat) (l : List Byte), s.afterBoot = true → memWf s.hosts[hp].parcel = true → o + l.length ≤ 0xF000 →
    ∃ t, exec (.parcelWrite hp o l) s = .next t ∧ (∀ i, i < l.length → memRead t.hosts[hp].parcel (o + i) = l.getD i 0) ∧
      (∀ x, x < o ∨ o + l.length ≤ x → memRead t.hosts[hp].parcel x = memRead s.hosts[hp].parcel x) ∧
      t = { s with hosts := upd s.hosts hp fun h => { h with parcel := t.hosts[hp].parcel } }) ∧
  (∀ (s : State) (hp : Fin 4) (o : Nat) (l : List Byte), s.afterBoot = true → 0xF000 < o + l.length → o + l.length ≤ 65536 →
    ∃ t, exec (.parcelWrite hp o l) s = .next t ∧ t.hosts[hp].parcel = s.hosts[hp].parcel ∧ t.hosts[hp].busErrCount = s.hosts[hp].busErrCount + 1) ∧
  (∀ (s : State) (hp : Fin 4) (v : Word), s.afterBoot = true → s.mayDirect hp = false →
    exec (.dwDataRead hp) s = .next ((s.raise Flt.directDenied hp.val).emit (.read hp 0)) ∧
    exec (.dwDataWrite hp v) s = .next (s.denied 0x208) ∧ exec (.dwCtrlWrite hp v) s = .next (s.denied 0x200)) ∧
  (∀ (s : State) (hp : Fin 4) (v : Word), s.afterBoot = true → s.mayDirect hp = true → s.direct.lockdown = true →
    exec (.dwDataRead hp) s = .next { s with emits := .read hp 0 :: s.emits } ∧
    exec (.dwDataWrite hp v) s = .next (s.raise Flt.writeLocked 0x208) ∧ exec (.dwCtrlWrite hp v) s = .next (s.raise Flt.writeLocked 0x200)) ∧
  (∀ (s : State) (hp : Fin 4) (v : Word) (g o : Nat), s.afterBoot = true → s.mayDirect hp = true → s.direct.lockdown = false →
    g = s.hosts[hp].dwGroup → o = s.hosts[hp].dwOffset →
    (∃ t, exec (.dwDataWrite hp v) s = .next t ∧ (directKind g o = .readWrite → t.direct.words.find? (·.1 == (g, o)) = some ((g, o), v)) ∧
      (directKind g o = .absent → t.direct = s.direct ∧ t.hosts[hp].dwErr = true) ∧
      t.hosts[hp].dwAddr = (if s.hosts[hp].dwAutoInc then (s.hosts[hp].dwAddr + 4) &&& 0x00FFFFFC else s.hosts[hp].dwAddr) ∧
      (∀ q, q ≠ hp → t.hosts[q] = s.hosts[q]) ∧ t = { s with hosts := t.hosts, direct := t.direct, flt := t.flt }) ∧
    (∀ w, s.direct.words.find? (·.1 == (g, o)) = some ((g, o), w) →
      ∃ t, exec (.dwDataRead hp) s = .next t ∧ (directKind g o = .readWrite → t.emits = .read hp w :: s.emits) ∧
        (directKind g o = .absent → t.emits = .read hp 0 :: s.emits ∧ t.hosts[hp].dwErr = true) ∧
        t.hosts[hp].dwAddr = (if s.hosts[hp].dwAutoInc then (s.hosts[hp].dwAddr + 4) &&& 0x00FFFFFC else s.hosts[hp].dwAddr) ∧
        t = { s with hosts := t.hosts, emits := t.emits })) ∧
  (∀ (s : State) (hp : Fin 4) (v : Word), s.afterBoot = true → s.mayDirect hp = true → s.direct.lockdown = false →
    ∃ t, exec (.dwCtrlWrite hp v) s = .next t ∧ t.hosts[hp].dwAutoInc = v.getLsbD 0 ∧ t.direct.lockdown = v.getLsbD 8 ∧
      (∀ q, q ≠ hp → t.hosts[q] = s.hosts[q]) ∧ t = { s with hosts := t.hosts, direct.lockdown := t.direct.lockdown })

/-- The collector takes first the message of the highest severity, then of the lowest SOURCE and KIND, then the oldest, and gives it its reactions; a masked one is only counted; the three fixed kinds have reaction 0x1B; the interrupt reaction latches the first fault and counts later ones in OVERFLOW (R497, R500, R501). The end of a performance window latches all its values, starts the next one and clears what it counted; a counter dump writes its record with W63 last, advances its sequence, or on an error ends with DUMP_DMA; a finished flash write programs the update area alone; a verified FW_COMMIT names the trial area, a failed one completes with status 0x00B (R511, R513, R530, R531). -/
def Obligations.CollectorDumpsAndFlashWrites : Prop :=
  ((∀ s : State, (∀ i : Fin 16, s.flt.queues[i] = []) → exec .faultProcess s = .next s) ∧
   (∀ (s : State) (x : FaultMsg × Nat), firstMsg s.flt.queues.toList.flatten = some x →
     exec .faultProcess s = .next ((s.takeMsg x).react x.1 x.2)) ∧
   (∀ (l : List (FaultMsg × Nat)) (x : FaultMsg × Nat), firstMsg l = some x → x ∈ l ∧ ∀ y ∈ l, y.1.before x.1 = false) ∧
   (∀ (s : State) (m : FaultMsg) (c : Nat), s.reaction m = 0 → s.react m c = { s with flt.masked := s.flt.masked + 1 }) ∧
   (∀ (s : State) (m : FaultMsg), m.fixed = true → s.reaction m = 0x1B) ∧
   (∀ (s : State) (m : FaultMsg) (c : Nat), s.flt.first = none → (s.latchFault m c).flt.first = some m ∧ (s.latchFault m c).flt.firstCyc = c) ∧
   (∀ (s : State) (m n : FaultMsg) (c : Nat), s.flt.first = some n → s.latchFault m c = { s with flt := s.flt.overflowed })) ∧
  ((∀ s : State, s.perf.due ≤ s.sys.cyc →
     ∃ t, exec .perfWindowEnd s = .next t ∧ t.perf.epoch = s.perf.epoch + 1 ∧ t.perf.window = s.perf.nextWindow ∧ t.perf.endCyc = s.perf.due ∧
       t.perf.due = s.perf.due + s.perf.nextWindow * 625000 ∧ (∀ i : Fin 16, t.perf.inst[i] = loWord s.svc.inst[i].sent ∧ t.svc.inst[i].sent = 0) ∧
       (∀ p : Fin 8, t.perf.rxOctets[p] = 0 ∧ t.perf.txOctets[p] = 0) ∧ t = { s with perf := t.perf, svc := t.svc }) ∧
   (∀ s : State, s.sys.cyc < s.perf.due → exec .perfWindowEnd s = .next s) ∧
   (∀ (s : State) (hp : Fin 4), hp.val < 2 → s.hosts[hp].dumpInterval ≠ 0 → s.hosts[hp].dumpDue ≤ s.sys.cyc →
     (∃ t, exec (.counterDumpWrite hp true) s = .next t ∧ t.hosts[hp].dumpSeq = s.hosts[hp].dumpSeq + 1 ∧
       t.hosts[hp].dumpDue = s.hosts[hp].dumpDue + s.hosts[hp].dumpInterval * 625000000 ∧
       (∃ a l w, t.emits = .hostMem hp (a + 252) [w] :: .hostMem hp a l :: .hostMem hp (a + 252) [0] :: s.emits ∧ l.length = 63) ∧
       (∀ q, q ≠ hp → t.hosts[q] = s.hosts[q]) ∧ t = { s with hosts := t.hosts, emits := t.emits }) ∧
     (∃ t, exec (.counterDumpWrite hp false) s = .next t ∧ t.hosts[hp].dumpInterval = 0 ∧ t.hosts[hp].dumpErr = true ∧
       (∀ q, q ≠ hp → t.hosts[q] = s.hosts[q]) ∧ t = { s with hosts := t.hosts, flt := t.flt })) ∧
   (∀ (s : State) (hp : Fin 4) (b : Bool), s.hosts[hp].dumpInterval = 0 → exec (.counterDumpWrite hp b) s = .next s) ∧
   (∀ (s : State) (w : FlashWrite), s.flash.writing = some w →
     ∃ t, exec .fwWriteDone s = .next t ∧ t.flash = s.flash.program s.mram.updateArea w ∧ t.flash.writing = none ∧
       (s.mram.updateArea = .a → t.flash.areaB = s.flash.areaB) ∧ (s.mram.updateArea = .b → t.flash.areaA = s.flash.areaA) ∧
       (w.orphan = true → t = { s with flash := t.flash })) ∧
   (∀ (s : State) (v : Bool) (hdr : ImageHdr) (h : Handled), s.handled.find? (·.op == 0xB1) = some h →
     exec (.fwCommitDone v hdr) s = .next (if s.commitPasses v hdr (h.data.getD 0 0)
       then State.complete { s with mram.trialArea := some s.mram.updateArea, mram.tried := false } h.id 0 [hdr.version] else s.complete h.id 0x00B [])))

/-! ### The commands of Omend -/

/-- Every row of Omend, whatever its opcode: a mailbox that is not next leaves the state as it is, a word with another row's opcode is left to that row, a word with no row's opcode is taken and rejected with 0x001, and, but for the two rows that wipe keys, a parcel that does not lie below the notice ring is rejected with 0x002 before anything else is looked at (R440, R455 to R457, R464). The checks of a command come in their order, on STEP and UTC_OFFSET: a wrong LEN is 0x002 whatever the rights, then missing rights 0x003, then a follower 0x009 where the command is not for one, then no free handle slot 0x004, then the command's own checks; a rejection changes nothing but the mailbox and the reply (R441, R443, R457, R459). On a follower (STANDBY or QUARANTINED) the thirteen commands whose settings the active applies are rejected with 0x009 once their form and rights have passed, and no other command is (R459). -/
def Obligations.CommandWordsAreCheckedInOrderByTheirRows : Prop :=
  (∀ (s : State) (hp : Fin 4) (mb : Fin 8) (x : Nat × Instr), x ∈ commandRows hp mb →
     (s.cmdAt hp mb = none → exec x.2 s = .next s) ∧
     ∀ c : Cmd, s.cmdAt hp mb = some c →
       (c.op ≠ x.1 → (∃ y ∈ commandRows hp mb, y.1 = c.op) → exec x.2 s = .next s) ∧
       ((∀ y ∈ commandRows hp mb, y.1 ≠ c.op) → exec x.2 s = .next ((s.takeImb hp mb).rejectCmd c 1 none)) ∧
       (c.op = x.1 → x.1 ≠ 0x70 → x.1 ≠ 0x74 → 15360 < c.ofs + c.len → exec x.2 s = .next ((s.takeImb hp mb).rejectCmd c 2 none))) ∧
  (∀ (s u : State) (hp : Fin 4) (mb : Fin 8) (c : Cmd), u = s.takeImb hp mb → s.cmdAt hp mb = some c →
     (c.op = 0x10 → c.len ≠ 2 → exec (.step hp mb) s = .next (u.rejectCmd c 2 none)) ∧
     (c.op = 0x10 → c.len = 2 → c.fits 2 = true → s.may hp .time = false → exec (.step hp mb) s = .next (u.rejectCmd c 3 none)) ∧
     (c.op = 0x10 → c.len = 2 → c.fits 2 = true → s.may hp .time = true → u.freeSlot hp = none → exec (.step hp mb) s = .next (u.rejectCmd c 4 none)) ∧
     (c.op = 0x12 → c.len ≠ 1 → exec (.utcOffset hp mb) s = .next (u.rejectCmd c 2 none)) ∧
     (c.op = 0x12 → c.len = 1 → c.fits 0 = true → s.may hp .time = false → exec (.utcOffset hp mb) s = .next (u.rejectCmd c 3 none)) ∧
     (c.op = 0x12 → c.len = 1 → c.fits 0 = true → s.may hp .time = true → s.follower = true → exec (.utcOffset hp mb) s = .next (u.rejectCmd c 9 none)) ∧
     (c.op = 0x12 → c.len = 1 → c.fits 0 = true → s.may hp .time = true → s.follower = false → (c.signed 0 < -32768 ∨ 32767 < c.signed 0) →
       exec (.utcOffset hp mb) s = .next (u.rejectCmd c 6 (some 0))) ∧
     (c.op = 0x12 → c.len = 1 → c.fits 0 = true → s.may hp .time = true → s.follower = false → -32768 ≤ c.signed 0 → c.signed 0 ≤ 32767 →
       s.ts.leapPending ≠ 0 → exec (.utcOffset hp mb) s = .next (u.rejectCmd c 8 none)) ∧
     (u.rejectCmd c 1 none).flt = s.flt ∧ (u.rejectCmd c 1 none).ts = s.ts ∧ (u.rejectCmd c 1 none).sys = s.sys ∧
     (u.rejectCmd c 1 none).handled = s.handled ∧ (u.rejectCmd c 1 none).outs = s.outs ∧ (u.rejectCmd c 1 none).wv = s.wv ∧
     (∀ q, q ≠ hp → (u.rejectCmd c 1 none).hosts[q] = s.hosts[q])) ∧
  ((∀ s : State, s.follower = true ↔ s.twin.role = .standby ∨ s.twin.role = .quarantined) ∧
   (∀ f ∈ commandForms, f.follower = true ↔
     f.op ∈ [0x04, 0x12, 0x13, 0x14, 0x60, 0x61, 0x62, 0x63, 0x64, 0x70, 0x71, 0x72, 0x73]) ∧
   (∀ (s u : State) (hp : Fin 4) (mb : Fin 8) (c : Cmd) (f : CmdForm) (x : Nat × Instr), u = s.takeImb hp mb → f ∈ commandForms → x ∈ commandRows hp mb →
     x.1 = f.op → s.cmdAt hp mb = some c → c.op = f.op → f.follower = true → s.follower = true → (c.fits f.results && f.shape u c) = true →
     f.rights u c = true →
     exec x.2 s = .next ((if c.op = 0x70 then u.wipeParcel c 5 else u).rejectCmd c 9 none)) ∧
   (∀ (s : State) (hp : Fin 4) (v : Word), s.afterBoot = true → s.may hp .time = true → s.follower = true →
     ∃ t, exec (.coverageWrite hp v) s = .next t ∧ t.bound = s.bound))

/-- No command word is taken before INIT completes: until then it stays in its mailbox with FULL set, the queue keeps the words in the order in which they were written (those of one CCLK cycle by port and mailbox), and from the end of INIT on, in every engine state, the first of the queue is the one that is taken (R455). -/
def Obligations.CommandsWaitForInitAndKeepTheirOrder : Prop :=
  (∀ s : State, s.afterInit = true ↔ s.sys.engine ∈ [.warmup, .acquire, .locked, .holdover, .safe]) ∧
  (∀ (s : State) (hp : Fin 4) (mb : Fin 8) (x : Nat × Instr), x ∈ commandRows hp mb → s.afterInit = false → exec x.2 s = .next s) ∧
  (∀ (s t : State) (hp : Fin 4) (m : Fin 8) (v : Word), t = s.writeImb hp m v → t.hosts[hp].imb[m] = v ∧ t.hosts[hp].imbFull[m] = true ∧
    (s.cmds.Pairwise (fun a b => cmdBefore b a = false) → t.cmds.Pairwise fun a b => cmdBefore b a = false) ∧
    (∀ c, c ∈ t.cmds ↔ c = (s.sys.cyc * 4 / 25, hp, m) ∨ (c ∈ s.cmds ∧ ¬ (c.2.1 = hp ∧ c.2.2 = m)))) ∧
  (∀ a b : Nat × Fin 4 × Fin 8, cmdBefore a b = true ↔
    a.1 < b.1 ∨ (a.1 = b.1 ∧ (a.2.1 < b.2.1 ∨ (a.2.1 = b.2.1 ∧ a.2.2 < b.2.2)))) ∧
  (∀ (s : State) (cal : CalResult) (failed : List (Fin 88)), s.sys.engine = .init → s.sys.safePending = false → s.twin.role = .solo →
    ∃ t, exec (.initComplete cal failed) s = .next t ∧ t.sys.engine = .warmup ∧ t.cmds = s.cmds ∧
      ∀ (hp : Fin 4) (m : Fin 8), t.hosts[hp].imb[m] = s.hosts[hp].imb[m] ∧ t.hosts[hp].imbFull[m] = s.hosts[hp].imbFull[m]) ∧
  (∀ (s : State) (n : Nat) (hp : Fin 4) (mb : Fin 8) (l : List (Nat × Fin 4 × Fin 8)), s.cmds = (n, hp, mb) :: l → s.afterInit = true →
    s.flash.writing = none → s.cmdAt hp mb = some (s.cmdIn hp mb) ∧ ∀ (p : Fin 4) (m : Fin 8), (p, m) ≠ (hp, mb) → s.cmdAt p m = none)

/-- Handles: a handled command takes a free one of its port's 256 slots, whose sequence number advances by 1, from 1 to 255 and then to 1 again; its handle is the slot and that number; without a free slot it is rejected with 0x004; its completion frees the slot (R443). -/
def Obligations.HandlesNameSlotAndSequence : Prop :=
  (∀ (s : State) (hp : Fin 4), s.freeSlot hp = none ↔ ∀ i : Fin 256, i.val ∈ s.hosts[hp].slotBusy) ∧
  (∀ (s : State) (hp : Fin 4) (slot : Fin 256), s.freeSlot hp = some slot → slot.val ∉ s.hosts[hp].slotBusy) ∧
  (∀ (s t : State) (c : Cmd) (slot : Fin 256) (g : Option (Fin 8)) (k : Nat) (d : List Int) (o : Nat) (v : Cfg), t = s.acceptCmd c slot g k d o v →
    t.hosts[c.hp].slotBusy = slot.val :: s.hosts[c.hp].slotBusy ∧
    1 ≤ t.hosts[c.hp].slotSeq[slot] ∧ t.hosts[c.hp].slotSeq[slot] ≤ 255 ∧
    (s.hosts[c.hp].slotSeq[slot] < 255 → t.hosts[c.hp].slotSeq[slot] = s.hosts[c.hp].slotSeq[slot] + 1) ∧
    (s.hosts[c.hp].slotSeq[slot] = 255 → t.hosts[c.hp].slotSeq[slot] = 1) ∧
    (∀ j : Fin 256, j ≠ slot → t.hosts[c.hp].slotSeq[j] = s.hosts[c.hp].slotSeq[j]) ∧
    t.handleOf c.hp slot.val = slot.val * 256 + t.hosts[c.hp].slotSeq[slot]) ∧
  (∀ (s : State) (c : Cmd) (f : CmdForm), f ∈ commandForms → f.handled = true → (c.fits f.results && f.shape s c) = true → f.rights s c = true →
    (f.follower = true → s.follower = false) → s.freeSlot c.hp = none → s.runCmd c f = s.rejectCmd c 4 none) ∧
  (∀ (s : State) (h : Handled) (st : Nat) (ws : List Word), s.handled.find? (fun x => x.id == h.id) = some h →
    (s.complete h.id st ws).hosts[h.hp].slotBusy = s.hosts[h.hp].slotBusy.erase h.slot ∧
    (∀ x ∈ (s.complete h.id st ws).handled, x.id ≠ h.id))

/-- The system commands complete: STATUS answers state, role, owner, versions and the seconds since reset; RESET sets the warm reset 10 ms off; the OWNER's GRANT sets another port's rights with a notice, its OWNER_HANDOVER passes the role on; CLOCK_ID sets the identity while no PTP instance runs; WARMUP_TIME sets the warm-up's length (R30, R312, R425, R427, R464, R516). -/
def Obligations.SystemCommandsTakeEffect : Prop :=
  ∀ (s u : State) (hp : Fin 4) (mb : Fin 8) (c : Cmd), u = s.takeImb hp mb →
    (s.sends hp mb c 0x00 0 4 → exec (.status hp mb) s = .next (u.finishCmd c
      [BitVec.ofNat 32 (s.sys.engine.code + s.twin.role.code * 16 + s.sys.owner.val * 256), (s.sys.hdr.map ImageHdr.version).getD 0,
       (s.sys.hdr.map ImageHdr.squallVersion).getD 0, BitVec.ofNat 32 s.uptime])) ∧
    (s.sends hp mb c 0x01 0 0 → s.may hp .reset = true → s.sys.resetDue = none →
      exec (.reset hp mb) s = .next ((State.releaseToken { u with sys.resetDue := some (s.sys.cyc + 6250000), sys.resetPort := hp.val }).finishCmd c [])) ∧
    (∀ p : Fin 4, s.sends hp mb c 0x02 2 0 → s.sys.owner = hp → c.word 0 = p.val → p ≠ hp → c.word 1 < 32768 →
      exec (.grant hp mb) s = .next ((State.notice { u with sys.grants := s.sys.grants.set p (c.word 1) } 10 (BitVec.ofNat 32 p.val)
        (BitVec.ofNat 32 (State.grantsOf { u with sys.grants := s.sys.grants.set p (c.word 1) } p))).finishCmd c [])) ∧
    (s.sends hp mb c 0x02 2 0 → s.sys.owner = hp → 3 < c.word 0 → exec (.grant hp mb) s = .next (u.rejectCmd c 5 none)) ∧
    (∀ p : Fin 4, s.sends hp mb c 0x03 1 0 → s.sys.owner = hp → c.word 0 = p.val → p ≠ hp →
      exec (.ownerHandover hp mb) s = .next ((State.notice { u with sys.owner := p, sys.grants := (s.sys.grants.set hp 0).set p 0 } 9
        (BitVec.ofNat 32 (p.val + hp.val * 16)) 0).finishCmd c [])) ∧
    (s.sends hp mb c 0x03 1 0 → s.sys.owner = hp → c.word 0 = hp.val → exec (.ownerHandover hp mb) s = .next (u.rejectCmd c 7 (some 0))) ∧
    (s.sends hp mb c 0x04 2 0 → s.sys.owner = hp → s.follower = false → s.anyPtp = false →
      exec (.clockId hp mb) s = .next ((State.repl { u with svc.clockId := c.octets8 0 } (.clockId (c.octets8 0))).finishCmd c [])) ∧
    (s.sends hp mb c 0x05 1 0 → s.may hp .time = true → c.word 0 ≤ 3600 → s.sys.engine ≠ .warmup →
      exec (.warmupTime hp mb) s = .next (State.finishCmd { u with sys.warmupTime := c.word 0 } c [])) ∧
    (s.sends hp mb c 0x05 1 0 → s.may hp .time = true → 3600 < c.word 0 → exec (.warmupTime hp mb) s = .next (u.rejectCmd c 6 (some 0)))

/-- The commands of the time scale complete: STEP and RATE are accepted into a handle slot and join what the next conversion set brings, STEP only where the stepped time fits and RATE only in WARMUP and within R39; UTC_OFFSET, a cancel of no leap second, a leap second 2 s to 366 days ahead, a smear profile that does not run and a Bound threshold are set at once (R39, R42, R45, R47 to R49, R52, R63). -/
def Obligations.TimeCommandsTakeEffect : Prop :=
  ∀ (s u : State) (hp : Fin 4) (mb : Fin 8) (c : Cmd), u = s.takeImb hp mb → s.may hp .time = true →
    (∀ slot, s.sends hp mb c 0x10 2 2 → u.freeSlot hp = some slot → c.wideSigned 0 ≠ 0 →
      (s.stepFits (c.wideSigned 0) (s.sys.cyc + leadCyc) = true →
        exec (.step hp mb) s = .next ((u.acceptCmd c slot none 0 [] 0 []).requestStep ⟨c.wideSigned 0, .host s.nextHandled⟩)) ∧
      (s.stepFits (c.wideSigned 0) (s.sys.cyc + leadCyc) = false →
        exec (.step hp mb) s = .next ((u.raise Flt.stepRefused 0).rejectCmd c 8 none))) ∧
    (∀ slot, s.sends hp mb c 0x11 2 2 → u.freeSlot hp = some slot → rateMin ≤ c.wideSigned 0 → c.wideSigned 0 ≤ rateMax →
      (s.sys.engine = .warmup →
        exec (.rate hp mb) s = .next ((u.acceptCmd c slot none 0 [] 0 []).requestRate (c.wideSigned 0) (some s.nextHandled))) ∧
      (s.sys.engine ≠ .warmup → exec (.rate hp mb) s = .next (u.rejectCmd c 8 none))) ∧
    (s.sends hp mb c 0x12 1 0 → s.follower = false → -32768 ≤ c.signed 0 → c.signed 0 ≤ 32767 → s.ts.leapPending = 0 →
      exec (.utcOffset hp mb) s =
        .next (((u.changeUtc fun t => { t with ts.utcOffset := c.signed 0, ts.utcSet := true }).repl (.utcOffset (c.signed 0))).finishCmd c [])) ∧
    (s.sends hp mb c 0x13 2 2 → s.follower = false → c.word 0 = 2 → s.ts.leapPending = 0 → exec (.leap hp mb) s = .next (u.finishCmd c [0, 0])) ∧
    (∀ at_ : Int, s.sends hp mb c 0x13 2 2 → s.follower = false → c.word 0 ≤ 1 → s.ts.leapPending = 0 →
      at_ = leapAtOf (c.word 1) s.ts.utcOffset (c.word 0 == 1) →
      (2 * secFrac ≤ at_ * secFrac - s.now → at_ * secFrac - s.now ≤ 366 * 86400 * secFrac →
        exec (.leap hp mb) s = .next (((u.scheduleLeap (if c.word 0 = 1 then 2 else 1) at_.toNat).repl
          (.leap (if c.word 0 = 1 then 2 else 1) at_.toNat)).finishCmd c [loWord at_.toNat, hiWord at_.toNat])) ∧
      ((at_ * secFrac - s.now < 2 * secFrac ∨ 366 * 86400 * secFrac < at_ * secFrac - s.now) →
        exec (.leap hp mb) s = .next ((u.raise Flt.leapRefused 0).rejectCmd c 0x100 none))) ∧
    (∀ (p : Fin 4) (v : Cfg), s.asks hp mb c 0x14 0 smearTable s.ts.smear[p].cfg v → s.follower = false → c.obj = p.val → s.ts.smear[p].running = false →
      exec (.smear hp mb) s = .next ((State.repl { u with ts.smear := upd s.ts.smear p fun x => { x with cfg := v } }
        (.smear p (v.nat 0) (v.nat 1) (v.nat 2))).finishCmd c [])) ∧
    (∀ i : Fin 26, s.sends hp mb c 0x15 2 0 → c.word 0 = i.val →
      exec (.boundThreshold hp mb) s = .next (State.finishCmd { u with bound.threshold := s.bound.threshold.set i (c.word 1) } c [])) ∧
    (s.sends hp mb c 0x15 2 0 → 26 ≤ c.word 0 → exec (.boundThreshold hp mb) s = .next (u.rejectCmd c 5 none))

/-- The commands of channels and references complete: TDC_CONFIG applies a channel's settings where no rule is broken and no holder's setting moves, on the channels above 71 the sender's own PORT_MASK bit alone (that TDC_CONFIG is taken there is the model's reading, log entry 46); REF_CONFIG a slot's or Weathervane's own; REF_FORCE qualifies, forces or releases a time slot, REF_ADMIT admits one that is qualifying or disputed, REF_LOCKOUT locks a slot out with cause 6 or lets it go (R82 to R84, R116 to R119, R131, R149). -/
def Obligations.ReferenceCommandsTakeEffect : Prop :=
  ∀ (s u : State) (hp : Fin 4) (mb : Fin 8) (c : Cmd), u = s.takeImb hp mb →
    (∀ (ch : Fin 88) (v : Cfg), s.asks hp mb c 0x20 0 tdcTable s.tdc[ch].cfg v → c.obj = ch.val →
      ((s.may hp .tdc = true ∧ ch.val ≤ 71) ∨ u.ownMaskBit c = true) →
      v.at Ix.tdcPhase < v.at Ix.tdcPeriod → (v.nat Ix.tdcEdge = 2 → v.nat Ix.tdcMode = 2) → (64 ≤ c.obj → v.at Ix.tdcDeglitch = 0) →
      gateTooLong v = false → (∀ d ∈ u.allDemands ch.val, v.at d.1 = s.tdc[ch].cfg.at d.1) →
      exec (.tdcConfig hp mb) s = .next ((u.configChannel ch v).finishCmd c [])) ∧
    (∀ (i : Fin 16) (v : Cfg), s.asks hp mb c 0x21 0 slotTable s.wv.slots[i].cfg v → s.may hp .reference = true → c.obj = i.val →
      sourceBad (fillSource c v) = false → unbroken (u.slotJoint c i v) = true →
      exec (.refConfig hp mb) s =
        .next ((((u.configSlot i (fillSource c v)).alsoDo (execWtrExpiry i)).alsoDo (execConfirmExpiry i)).finishCmd c [])) ∧
    (∀ v : Cfg, s.asks hp mb c 0x21 0 wvTable s.wv.cfg v → s.may hp .reference = true → c.obj = 16 →
      exec (.refConfig hp mb) s = .next (State.finishCmd { u with wv.cfg := v } c [])) ∧
    (∀ i : Fin 16, s.may hp .reference = true → c.word 0 = i.val → (i = 15 → s.sys.straps.twinEn = false) →
      (s.sends hp mb c 0x22 2 0 → freqKind s.wv.slots[i].kind = false → c.word 1 = 0 → s.wv.slots[i].state ≠ .disqualified →
        s.wv.slots[i].state ≠ .lockedOut → exec (.refForce hp mb) s = .next ((u.forceSlot i).finishCmd c [])) ∧
      (s.sends hp mb c 0x22 2 0 → freqKind s.wv.slots[i].kind = false → c.word 1 = 1 → s.wv.slots[i].forced = true →
        exec (.refForce hp mb) s = .next ((State.evaluate { u with wv.slots := upd s.wv.slots i fun x => { x with forced := false } }).finishCmd c [])) ∧
      (s.sends hp mb c 0x23 1 0 → (s.wv.slots[i].state = .qualifying ∨ s.wv.slots[i].state = .disputed) →
        exec (.refAdmit hp mb) s = .next (((u.hostQualify i).evaluate).finishCmd c [])) ∧
      (s.sends hp mb c 0x23 1 0 → s.wv.slots[i].state = .qualified → exec (.refAdmit hp mb) s = .next (u.rejectCmd c 8 none)) ∧
      (s.sends hp mb c 0x24 2 0 → c.word 1 = 0 → s.wv.slots[i].state ≠ .lockedOut →
        exec (.refLockout hp mb) s = .next (((u.lockOut i 6).evaluate).finishCmd c [])) ∧
      (s.sends hp mb c 0x24 2 0 → c.word 1 = 1 → s.wv.slots[i].state = .lockedOut →
        exec (.refLockout hp mb) s = .next
          (((u.setSlot i .disqualified s.wv.slots[i].cause).causeGone Flt.refLockedOut fun d => d % 16 == i.val).finishCmd c []))) ∧
    (∀ i : Fin 16, (s.wv.slots[i].state = .qualifying ∨ s.wv.slots[i].state = .disputed) →
      (s.hostQualify i).wv.slots[i].state = .qualified ∧ (s.hostQualify i).wv.slots[i].timerStart = none ∧
      (∀ j, j ≠ i → (s.hostQualify i).wv.slots[j] = s.wv.slots[j]) ∧ (s.hostQualify i).ts = s.ts)

/-- The commands of holdover and the GNSS baseband complete: steering, flywheel and stream settings apply, a TRACK_BW that is set stays set, a sensor starts afresh, a hold target and an aid are kept, receiver settings wait for the next epoch; a snapshot is accepted into PENDING or refused with its reason, read and released, and a held one goes to PROCESSING (R155, R161, R166, R186, R230, R233, R236, R258, R261). That a sensor starts afresh and that receiver settings wait for the epoch are the model's choices (log entries 17 and 36). -/
def Obligations.HoldoverAndGnssCommandsTakeEffect : Prop :=
  ∀ (s u : State) (hp : Fin 4) (mb : Fin 8) (c : Cmd), u = s.takeImb hp mb →
    (∀ v : Cfg, s.asks hp mb c 0x30 0 steerTable s.loop.cfg v → s.may hp .holdover = true → c.obj = 0 →
      exec (.steerConfig hp mb) s = .next (State.finishCmd { u with loop.cfg := v, loop.bwSet := s.loop.bwSet || c.has 0 } c [])) ∧
    (∀ (f : Fin 3) (v : Cfg), s.asks hp mb c 0x31 0 flywheelTable s.fc.fw[f].cfg v → s.may hp .holdover = true → c.obj = f.val →
      (f = 0 → c.has 0 = false ∧ c.has 9 = false) → u.flywheelClash f v = false →
      exec (.flywheelConfig hp mb) s = .next ((u.configFlywheel f v).finishCmd c [])) ∧
    (∀ (k : Fin 4) (x : Sensor), s.sends hp mb c 0x32 3 0 → s.may hp .holdover = true → c.word 0 = k.val → c.word 2 ≠ 0 →
      x = { addr := bitsOf (c.word 1) 6 0, pointer := bitsOf (c.word 1) 15 8, lsb := c.signed 2 } →
      exec (.senseConfig hp mb) s =
        .next ((State.causeEnds { u with fc.sensors := s.fc.sensors.set k x } Flt.senseFail k.val).finishCmd c [])) ∧
    (s.sends hp mb c 0x33 1 0 → s.may hp .holdover = true → 1 ≤ c.word 0 → c.word 0 ≤ 1000000000 →
      exec (.holdTarget hp mb) s = .next (State.finishCmd { u with bound.holdTarget := c.word 0 } c [])) ∧
    (∀ (i : Fin 4) (v : Cfg), s.asks hp mb c 0x50 0 (gnssTable i.val) s.gnss.streams[i].cfg v → s.may hp .gnss = true → c.obj = i.val →
      exec (.gnssConfig hp mb) s = .next ((u.configStream i v).finishCmd c [])) ∧
    (∀ v : Cfg, s.asks hp mb c 0x50 0 receiverTable (s.gnss.next.getD s.gnss.cfg) v → s.may hp .gnss = true → c.obj = 4 → v.nat Ix.rxTimeSys ≠ 3 →
      bitAt (v.nat Ix.rxSystems) (v.nat Ix.rxTimeSys) = true →
      exec (.gnssConfig hp mb) s = .next (State.finishCmd { u with gnss.next := some v } c [])) ∧
    (s.sends hp mb c 0x51 6 0 → s.may hp .gnss = true → c.wide 0 ≤ s.sys.cyc → c.wide 2 < 2 ^ 48 → c.word 4 < 1000000000 →
      exec (.gnssAid hp mb) s = .next (State.finishCmd
        { u with gnss.aid := some (c.wide 0, (c.wide 2 : Int) * secFrac + (c.word 4 : Int) * 65536, c.word 5) } c [])) ∧
    (∀ slot, s.sends hp mb c 0x52 4 1 → s.may hp .gnss = true → u.freeSlot hp = some slot → (bitAt (c.word 0) 17 = true ∨ c.word 3 < 1000000000) →
      s.gnss.snap.state ≠ .processing →
      (s.snapReason c.snapAsk = none → ∃ t, exec (.snapshot hp mb) s = .next t ∧ t.gnss.snap.state = .pending ∧ t.gnss.snap.startAt = c.snapAsk.start ∧
        t.gnss.snap.streams = bitsOf (c.word 0) 3 0 ∧ t.gnss.snap.length = bitsOf (c.word 0) 15 8 ∧ t.gnss.snap.cmd = some s.nextHandled ∧
        t.gnss.streams = s.gnss.streams ∧ t.ts = s.ts) ∧
      (∀ r, s.snapReason c.snapAsk = some r →
        exec (.snapshot hp mb) s = .next ((u.raise Flt.snapshotRefused r).rejectCmd c (0x100 + r) none))) ∧
    (s.cmdAt hp mb = some c → c.op = 0x53 → c.len = 3 → c.fits 1 = true → regionFits (c.word 2) (c.word 1) = true → c.word 1 % 4 = 0 →
      s.gnss.snap.state = .held → c.word 0 + c.word 1 ≤ s.gnss.snap.octets.length →
      exec (.snapshotRead hp mb) s =
        .next ((u.copyOut hp (c.word 2) ((s.gnss.snap.octets.drop (c.word 0)).take (c.word 1))).finishCmd c [BitVec.ofNat 32 (c.word 1)])) ∧
    (s.sends hp mb c 0x54 0 0 → s.may hp .gnss = true → s.gnss.snap.state ≠ .processing →
      exec (.snapshotRelease hp mb) s = .next (State.finishCmd
        { u.completeOpt s.gnss.snap.cmd 0x00B [] with gnss.snap := { captures := s.gnss.snap.captures } } c [])) ∧
    (∀ slot, s.sends hp mb c 0x55 0 3 → s.may hp .gnss = true → u.freeSlot hp = some slot →
      (s.gnss.snap.state = .held → ∃ t, exec (.snapshotProcess hp mb) s = .next t ∧
        t.gnss = { s.gnss with snap := { s.gnss.snap with state := .processing, cmd := some s.nextHandled } } ∧ t.ts = s.ts ∧ t.wv = s.wv) ∧
      (s.gnss.snap.state ≠ .held → exec (.snapshotProcess hp mb) s = .next (u.rejectCmd c 8 none)))

/-- The commands that stage into a group complete: accepted with the next handle, the settings are staged for their strobe, which the group issues as it settles, where ranges and joint rules pass: synthesizer, output pin, port, PRP pair, instance, grid feed, converter port (R191, R199, R266, R267, R310, R364, R381, R456, R458, R460). -/
def Obligations.StagedConfigurationsAreAcceptedIntoTheirGroups : Prop :=
  ∀ (s u : State) (hp : Fin 4) (mb : Fin 8) (c : Cmd) (slot : Fin 256) (v : Cfg), u = s.takeImb hp mb → u.freeSlot hp = some slot →
    (∀ o : Fin 4, s.asks hp mb c 0x40 2 synthTable (u.latestSynth o) v → s.may hp .outputs = true → c.obj = o.val →
      unbroken (u.synthJoint c o (u.latestSynth o) v) = true →
      exec (.synthConfig hp mb) s = .next ((u.acceptCmd c slot (some 1) o.val [0, 0, 0, 0] o.val v).settle 1)) ∧
    (∀ (n : Fin 80) (x : Cfg), s.asks hp mb c 0x41 2 outputTable (u.latestPin n) v → s.may hp .outputs = true → c.obj = n.val →
      x = fillWidth (!s.outs.pins[n].widthSet && !c.has 4) v → inRanges (pinRanges n.val x) = true → unbroken (u.pinJoint c n.val x) = true →
      exec (.outputConfig hp mb) s = .next (((u.mapPin n fun p => { p with widthSet := p.widthSet || c.has 4 }).acceptCmd c slot (some 1)
        (pinSource n.val v).val [0, 0, 0, 0] n.val x).settle 1)) ∧
    (∀ p : Fin 8, s.asks hp mb c 0x60 2 portTable (u.latestPort p) v → s.may hp .ports = true → s.follower = false → c.obj = p.val →
      unbroken (u.portJoint c p v) = true →
      exec (.portConfig hp mb) s = .next ((u.acceptCmd c slot (some 2) p.val [0, 0, 0, 0] p.val v).settle 2)) ∧
    (∀ q : Fin 4, s.asks hp mb c 0x61 2 prpTable (u.latestPair q) v → s.may hp .ports = true → s.follower = false → c.obj = q.val →
      u.pairDiffers q v = false →
      exec (.prpConfig hp mb) s = .next ((u.acceptCmd c slot (some 2) q.val [0, 0, 0, 0] q.val v).settle 2)) ∧
    (∀ (i : Fin 16) (x : Cfg), s.asks hp mb c 0x63 2 instTable (u.latestInst i) v → s.may hp .service = true → s.follower = false → c.obj = i.val →
      x = fillProfile c (u.latestInst i) v → inRanges (instRanges x) = true → unbroken (u.instJoint x) = true →
      exec (.instanceConfig hp mb) s = .next ((u.acceptCmd c slot (some 3) i.val [0, 0, 0, 0] i.val x).settle 3)) ∧
    (∀ f : Fin 6, s.asks hp mb c 0x90 1 feedTable (u.latestFeed f) v → (s.may hp .grid = true ∨ u.ownFeedBit c = true) → c.obj = f.val → u.feedClash f v = false →
      exec (.gridConfig hp mb) s = .next (((u.mapFeed f fun x => { x with limitsSet := x.limitsSet || c.has 11 }).acceptCmd c slot (some 4)
        f.val [0, 0, 0, 0] f.val (fillLimits (!s.feeds[f].limitsSet && !c.has 11) v)).settle 4)) ∧
    (∀ n : Fin 8, s.asks hp mb c 0x92 2 cpTable (u.latestCp n) v → s.may hp .converter = true → c.obj = n.val →
      v.at Ix.cpRxBase % 16 = 0 → v.at Ix.cpTxBase % 16 = 0 → unbroken (u.cpJoint n v) = true →
      exec (.cpConfig hp mb) s = .next ((u.acceptCmd c slot (some 4) n.val [0, 0, 0, 0] n.val v).settle 4)) ∧
    (∀ (g : Option (Fin 8)) (k : Nat) (d : List Int) (o : Nat), (u.acceptCmd c slot g k d o v).nextHandled = s.nextHandled + 1 ∧
      (u.acceptCmd c slot g k d o v).handled = s.handled ++ [⟨s.nextHandled, c.op, c.hp, c.mb, slot.val, c.ofs, g, k, d, false, false, o, v⟩])

/-- Alignments, host-lane rules, ESMC and the key store: ALIGN_PULSES is accepted where no synthesizer of its mask has a reason against it and starts each of them; rule and ESMC settings apply at once; KEY_LOAD wipes the key's words and stores it in ACCEPT, KEY_STATE changes a slot, KEY_WRAP answers the wrapped record while the device key is enabled, ZEROISE empties both tables, PAIR_KEY takes a plain pair key (R217 to R220, R306, R331, R336, R337, R341 to R343, R403). -/
def Obligations.AlignRuleAndKeyCommandsTakeEffect : Prop :=
  ∀ (s u : State) (hp : Fin 4) (mb : Fin 8) (c : Cmd), u = s.takeImb hp mb →
    (∀ slot, s.sends hp mb c 0x42 5 8 → s.may hp .outputs = true → u.freeSlot hp = some slot → bitsOf (c.word 0) 9 8 ≠ 3 →
      (bitsOf (c.word 0) 9 8 = 1 → 18446744073 ≤ c.wide 3 ∧ c.wide 3 ≤ 184467440737096) →
      (∀ o ∈ synthsOf (bitsOf (c.word 0) 3 0), u.alignReason (bitsOf (c.word 0) 9 8) (c.wide 1) (c.wide 3) o = none) →
      bitsOf (c.word 0) 9 8 ≠ 2 → bitsOf (c.word 0) 3 0 ≠ 0 →
      exec (.alignPulses hp mb) s = .next ((u.acceptCmd c slot none 0 [(bitsOf (c.word 0) 3 0 : Int)] 0 []).each
        (synthsOf (bitsOf (c.word 0) 3 0)) fun t o => t.startAlign (bitsOf (c.word 0) 9 8) (c.wide 1) (c.wide 3) s.nextHandled o)) ∧
    (∀ (r : Fin 16) (v : Cfg), s.asks hp mb c 0x62 0 ruleTable s.svc.rules[r] v → s.may hp .ports = true → s.follower = false → c.obj = r.val →
      exec (.hlRule hp mb) s = .next ((State.repl { u with svc.rules := s.svc.rules.set r v } (.hlRule r v.rows)).finishCmd c [])) ∧
    (∀ (p : Fin 8) (v : Cfg), s.asks hp mb c 0x64 0 esmcTable s.svc.esmc[p].cfg v → s.may hp .ports = true → s.follower = false → c.obj = p.val →
      exec (.esmcConfig hp mb) s = .next ((State.repl { u with svc.esmc := upd s.svc.esmc p fun x => { x with cfg := v } }
        (.esmc p (v.flag 0) (v.nat 1) (v.nat 2) (v.nat 3))).finishCmd c [])) ∧
    (∀ (w : State) (n : Fin 64) (r : KeyRecord), w = u.wipeParcel c 5 → s.cmdAt hp mb = some c → c.op = 0x70 → c.keyLenFits = true → c.fits 0 = true →
      s.may hp .keys = true → s.follower = false → c.keySlot = n.val → (c.keySa = false → n.val ≤ 3) → c.keyForm ≠ 3 →
      (c.keyForm = 0 → c.wide 2 < 2 ^ 48 ∧ (c.keySa = true → c.word 4 ≤ 1)) →
      w.checkLoad c.keySa n c.keyForm c.plainKey (c.bytesFrom 5) = .ok r →
      exec (.keyLoad hp mb) s = .next (((w.storeKey c.keySa n c.keyForm r).replKey c.keySa n r).finishCmd c []) ∧
      (memWf s.hosts[hp].parcel = true → ∀ i, 5 ≤ i → i < c.len → w.parcelWord hp (c.ofs + i) = 0)) ∧
    (∀ (n : Fin 64) (f : Nat) (r : KeyRecord), (s.storeKey true n f r).auth.sa[n].state = .accept ∧ (s.storeKey true n f r).auth.sa[n].key = r.key ∧
      (s.storeKey true n f r).auth.sa[n].keyId = r.keyId ∧ (s.storeKey true n f r).auth.sa[n].expiry = r.expiry ∧
      (∀ k, k ≠ n → (s.storeKey true n f r).auth.sa[k] = s.auth.sa[k]) ∧ (s.storeKey true n f r).auth.nts = s.auth.nts ∧
      (s.storeKey true n f r).ts = s.ts) ∧
    (∀ (n : Fin 64) (t : State), s.sends hp mb c 0x71 2 0 → s.may hp .keys = true → s.follower = false → c.keySlot = n.val → (c.keySa = false → n.val ≤ 3) →
      c.word 1 ≤ 1 → u.changeKey c.keySa n (c.word 1 == 0) = .ok t →
      exec (.keyState hp mb) s = .next ((t.replState c.keySa n).finishCmd c [])) ∧
    (∀ (n : Fin 64) (r : List Byte), s.sends hp mb c 0x72 1 22 → s.may hp .keys = true → s.follower = false → c.keySlot = n.val →
      (bitsOf (c.word 0) 1 0 = 0 → n.val ≤ 3) → bitsOf (c.word 0) 1 0 ≠ 3 →
      (s.auth.kekEnabled = true → s.recordToWrap (bitsOf (c.word 0) 1 0) n = some r →
        exec (.keyWrap hp mb) s = .next (u.finishCmd c (wordsOf (Config.keyWrap Config.deviceKey r)))) ∧
      (s.auth.kekEnabled = false →
        exec (.keyWrap hp mb) s = .next ((u.keyRefused (bitsOf (c.word 0) 1 0 == 1) n 4).rejectCmd c 0x104 none))) ∧
    (s.sends hp mb c 0x73 0 0 → s.may hp .keys = true → s.follower = false →
      exec (.zeroise hp mb) s = .next (((u.zeroiseKeys 0).repl .zeroise).finishCmd c []) ∧
      (∀ i : Fin 4, (u.zeroiseKeys 0).auth.nts[i].state = .empty ∧ (u.zeroiseKeys 0).auth.nts[i].key = []) ∧
      (∀ i : Fin 64, (u.zeroiseKeys 0).auth.sa[i].state = .empty ∧ (u.zeroiseKeys 0).auth.sa[i].key = []) ∧
      (u.zeroiseKeys 0).auth.pairKey = s.auth.pairKey) ∧
    (s.sends hp mb c 0x74 9 0 → s.may hp .keys = true → c.word 0 = 0 →
      exec (.pairKey hp mb) s = .next ((State.followNoKey { u.wipeParcel c 1 with auth.pairKey := some (c.bytesFrom 1) }).finishCmd c []))

/-- The twin's commands complete: TWIN_CONFIG while TWIN_EN reads 1, an ACTIVE unit keeping UNIT_ID and MODE until it leaves; TWIN_CALIBRATE on a qualified time slot of a linked STANDBY unit, refused with TWIN_CAL_FAIL otherwise; TWIN_HANDOVER from ACTIVE to an eligible peer; TWIN_ADMIT out of quarantine when synchronized; TWIN_WITNESS for an open query, from the witness port alone (R394, R401, R410, R412, R415). -/
def Obligations.TwinCommandsTakeEffect : Prop :=
  ∀ (s u : State) (hp : Fin 4) (mb : Fin 8) (c : Cmd), u = s.takeImb hp mb →
    (∀ v : Cfg, s.asks hp mb c 0x80 0 twinTable u.latestTwin v → s.may hp .twin = true → c.obj = 0 → groupAddress (v.at Ix.twinUnitMac) = false →
      (v.at Ix.twinHbGroup = 0 ∨ (groupAddress (v.at Ix.twinHbGroup) = true ∧ u.groupsFull (Fin.ofNat 4 (v.nat Ix.twinHbPair)) = false)) →
      (s.sys.straps.twinEn = true → exec (.twinConfig hp mb) s = .next (((u.configTwin v).followTwin).finishCmd c [])) ∧
      (s.sys.straps.twinEn = false → exec (.twinConfig hp mb) s = .next (u.rejectCmd c 8 none))) ∧
    (∀ v : Cfg, (s.twin.role ≠ .active → (s.configTwin v) = { s with twin.cfg := v }) ∧
      (s.twin.role = .active → Ix.twinUnitId < v.length → Ix.twinMode < v.length →
        (s.configTwin v).twin.cfg.at Ix.twinUnitId = s.twin.cfg.at Ix.twinUnitId ∧
        (s.configTwin v).twin.cfg.at Ix.twinMode = s.twin.cfg.at Ix.twinMode ∧ (s.configTwin v).twin.nextCfg = some v)) ∧
    (∀ (slot : Fin 256) (i : Fin 16), s.sends hp mb c 0x81 2 3 → s.may hp .twin = true → u.freeSlot hp = some slot → c.word 0 = i.val → 60 ≤ c.word 1 →
      c.word 1 ≤ 86400 →
      (s.twin.role = .standby → s.wv.slots[i].cfg.flag Ix.slotEnable = true → timeKind s.wv.slots[i].kind = true → s.bothQualified i = true →
        s.twin.linkUp = true → s.twin.calibrating = none →
        ∃ t, exec (.twinCalibrate hp mb) s = .next t ∧ t.twin = { s.twin with calibrating := some (i, s.sys.cyc, c.word 1, s.nextHandled), calSamples := [] } ∧
          t.nextHandled = s.nextHandled + 1 ∧ t.ts = s.ts ∧ t.wv = s.wv ∧ t.flt = s.flt) ∧
      (s.twin.role ≠ .standby → exec (.twinCalibrate hp mb) s = .next ((u.raise Flt.twinCalFail i.val).rejectCmd c 8 none))) ∧
    (∀ slot, s.sends hp mb c 0x82 0 1 → s.may hp .twin = true → u.freeSlot hp = some slot →
      (s.twin.role = .active → s.peerEligible = true → s.twin.handover = none →
        ∃ t, exec (.twinHandover hp mb) s = .next t ∧ t.twin = { s.twin with handover := some s.nextHandled } ∧ t.ts = s.ts ∧ t.wv = s.wv ∧ t.flt = s.flt) ∧
      (s.twin.role ≠ .active → exec (.twinHandover hp mb) s = .next (u.rejectCmd c 8 none))) ∧
    (s.sends hp mb c 0x83 0 0 → s.may hp .twin = true →
      (s.twin.role = .quarantined → s.twin.compat = false → s.synced = true →
        exec (.twinAdmit hp mb) s = .next (((u.setRole .standby).followTwin).finishCmd c [])) ∧
      (s.twin.role ≠ .quarantined → exec (.twinAdmit hp mb) s = .next (u.rejectCmd c 8 none))) ∧
    (s.sends hp mb c 0x84 2 0 → c.word 1 ≤ 1 →
      (s.twin.witness = some hp → s.queryOpen (c.word 0) = true → exec (.twinWitness hp mb) s = .next ((u.witnessAnswer (c.word 1 == 1)).finishCmd c [])) ∧
      (s.twin.witness = some hp → s.queryOpen (c.word 0) = false → exec (.twinWitness hp mb) s = .next (u.rejectCmd c 8 none)) ∧
      (s.twin.witness ≠ some hp → exec (.twinWitness hp mb) s = .next (u.rejectCmd c 3 none)))

/-- The commands of grid time and the converter ports complete: GRID_TIME at a second that has come sets a feed's epoch; CP_START is accepted for enabled ports without a reason against it and cancels the starts that waited, CP_STOP for any mask; CP_READ copies held receive blocks and CP_WRITE takes blocks that fit the transmit ring (R374, R383, R385, R388, R462). -/
def Obligations.GridAndConverterCommandsTakeEffect : Prop :=
  ∀ (s u : State) (hp : Fin 4) (mb : Fin 8) (c : Cmd), u = s.takeImb hp mb →
    (∀ f : Fin 6, s.sends hp mb c 0x91 5 0 → s.may hp .grid = true → c.word 0 = f.val → c.wide 1 < 2 ^ 48 →
      ((c.wide 1 : Int) * secFrac ≤ s.now → exec (.gridTime hp mb) s = .next (State.finishCmd
        { u with feeds := upd s.feeds f fun x => x.setEpoch (c.wide 1) (c.wideSigned 3) } c [])) ∧
      (s.now < (c.wide 1 : Int) * secFrac → exec (.gridTime hp mb) s = .next (u.rejectCmd c 6 (some 1)))) ∧
    (∀ (x : Feed) (a b : Int), (x.setEpoch a b).gteValid = true ∧ (x.setEpoch a b).gte0 = b ∧ (x.setEpoch a b).epochS0 = a ∧ (x.setEpoch a b).cfg = x.cfg) ∧
    (∀ (slot : Fin 256) (l : List (Fin 8)) (t : State), s.sends hp mb c 0x93 3 0 → s.may hp .converter = true → u.freeSlot hp = some slot →
      l = portsOf (bitsOf (c.word 0) 7 0) → (∀ n ∈ l, s.cps[n].cfg.flag Ix.cpEnable = true) →
      (∀ r, s.startReason l (c.wide 1) = some r → exec (.cpStart hp mb) s = .next (u.rejectCmd c (0x100 + r) none)) ∧
      (s.startReason l (c.wide 1) = none → l ≠ [] → t = (u.acceptCmd c slot none 0 [] 0 []).cancelStarts l →
        exec (.cpStart hp mb) s = .next (t.each l fun v n => v.mapCp n fun x => { x with startAt := some (c.wide 1, s.nextHandled), waiting := true }))) ∧
    (∀ (slot : Fin 256) (l : List (Fin 8)) (t : State), s.sends hp mb c 0x94 1 0 → s.may hp .converter = true → u.freeSlot hp = some slot →
      l = portsOf (bitsOf (c.word 0) 7 0) → t = (u.acceptCmd c slot none 0 [] 0 []).cancelStarts l →
      exec (.cpStop hp mb) s = .next ((t.each (l.filter fun n => s.cps[n].running) fun v n =>
        v.mapCp n fun x => { x with stopCmds := x.stopCmds ++ [s.nextHandled] }).stopsDone s.nextHandled)) ∧
    (∀ p : Fin 8, s.cmdAt hp mb = some c → c.op = 0x95 → c.len = 4 → c.fits 1 = true → c.word 0 = p.val → c.word 1 ≤ 65535 →
      regionFits (c.word 3) (c.word 2 * rxBlockBytes s.cps[p].cfg) = true →
      ((c.word 1 + 65536 - s.cps[p].rxRd.toNat) % 65536 + c.word 2 ≤ heldBlocks s.cps[p].rxWr s.cps[p].rxRd →
        exec (.cpRead hp mb) s = .next ((u.copyOut hp (c.word 3) (s.rxBlocks p (c.word 1) (c.word 2))).finishCmd c
          [BitVec.ofNat 32 (c.word 2 * rxBlockBytes s.cps[p].cfg)])) ∧
      (heldBlocks s.cps[p].rxWr s.cps[p].rxRd < (c.word 1 + 65536 - s.cps[p].rxRd.toNat) % 65536 + c.word 2 →
        exec (.cpRead hp mb) s = .next (u.rejectCmd c 8 none))) ∧
    (∀ p : Fin 8, s.cmdAt hp mb = some c → c.op = 0x96 → c.len = 3 → c.fits 1 = true → s.may hp .converter = true → c.word 0 = p.val →
      regionFits (c.word 2) (c.word 1 * txBlockBytes s.cps[p].cfg) = true →
      (heldBlocks s.cps[p].txWr s.cps[p].txRd + c.word 1 ≤ s.cps[p].cfg.nat Ix.cpTxBlocks →
        exec (.cpWrite hp mb) s = .next ((u.writeTxBlocks hp p (c.word 1) (c.word 2)).finishCmd c [BitVec.ofNat 32 s.cps[p].txWr.toNat])) ∧
      (s.cps[p].cfg.nat Ix.cpTxBlocks < heldBlocks s.cps[p].txWr s.cps[p].txRd + c.word 1 → exec (.cpWrite hp mb) s = .next (u.rejectCmd c 8 none)))

/-- The commands of faults, the log, counters and the firmware complete: FAULT_CLEAR answers the fault that is then first; FAULT_REACTION writes a kind's reaction but for the three fixed kinds; LOG_READ copies entries and counts them; COUNTER_PERMIT, COUNTER_WINDOW and COUNTER_DUMP keep their values; FW_WRITE takes its data for the flash and answers nothing yet; FW_COMMIT is accepted (R497, R498, R502, R510 to R513, R530, R531). -/
def Obligations.FaultLogAndFirmwareCommandsTakeEffect : Prop :=
  ∀ (s u : State) (hp : Fin 4) (mb : Fin 8) (c : Cmd), u = s.takeImb hp mb →
    (s.sends hp mb c 0xA0 0 1 → s.may hp .log = true → exec (.faultClear hp mb) s = .next (u.faultClear.finishCmd c [u.faultClear.fltFirst])) ∧
    (∀ k : FaultKind, s.sends hp mb c 0xA1 2 0 → s.may hp .log = true → findKind (bitsOf (c.word 0) 7 0) (bitsOf (c.word 0) 13 8) = some k →
      c.word 1 ≤ 31 →
      (fixedReaction k = true → exec (.faultReaction hp mb) s = .next (u.rejectCmd c 7 (some 0))) ∧
      (fixedReaction k = false → k ≠ Flt.boundHigh → k ≠ Flt.boundUnknown → exec (.faultReaction hp mb) s = .next (State.finishCmd
        { u with flt.react := ((k.source, k.kind), c.word 1) :: s.flt.react.filter (·.1 != (k.source, k.kind)) } c []))) ∧
    (s.cmdAt hp mb = some c → c.op = 0xA2 → c.len = 3 → c.fits 2 = true → regionFits (c.word 2) (32 * min (c.word 1) 1920) = true →
      exec (.logRead hp mb) s = .next ((u.copyOut hp (c.word 2) ((s.log.pick (c.word 0) (c.word 1)).flatMap fun e => e.2.flatMap wordBytes)).finishCmd c
        [BitVec.ofNat 32 (s.log.pick (c.word 0) (c.word 1)).length, s.log.oldest])) ∧
    (∀ e ∈ s.log.pick (c.word 0) (c.word 1), e ∈ s.log.entries ∧ c.word 0 ≤ e.1) ∧ (s.log.pick (c.word 0) (c.word 1)).length ≤ min (c.word 1) 1920 ∧
    (s.sends hp mb c 0xA3 1 0 → s.may hp .log = true → c.word 0 ≤ 15 →
      exec (.counterPermit hp mb) s = .next (State.finishCmd { u with perf.permit := c.word 0 } c [])) ∧
    (s.sends hp mb c 0xA4 1 0 → s.may hp .log = true → 1 ≤ c.word 0 → c.word 0 ≤ 10000 →
      exec (.counterWindow hp mb) s = .next (State.finishCmd { u with perf.nextWindow := c.word 0 } c [])) ∧
    (s.sends hp mb c 0xA5 4 0 → c.word 0 ≤ 3600 → c.wide 1 % 4096 = 0 → 2 ≤ c.word 3 → c.word 3 ≤ 4096 →
      (hp.val < 2 → exec (.counterDump hp mb) s = .next (State.finishCmd { u with hosts := upd u.hosts hp fun h =>
        { h with dumpInterval := c.word 0, dumpDue := s.sys.cyc + c.word 0 * 625000000, dumpBase := c.wide 1, dumpEntries := c.word 3 } } c [])) ∧
      (2 ≤ hp.val → exec (.counterDump hp mb) s = .next (u.rejectCmd c 8 none))) ∧
    (∀ w : FlashWrite, s.cmdAt hp mb = some c → c.op = 0xB0 → c.len = 3 → c.fits 1 = true → regionFits (c.word 2) (c.word 1) = true →
      s.may hp .firmware = true → c.word 0 + c.word 1 ≤ 8388608 → c.word 1 % 4 = 0 → s.writtenTo (c.word 0) ≤ c.word 0 →
      (∀ h ∈ s.handled, h.op ≠ 0xB1) →
      w = ⟨hp, mb, c.ofs, c.word 0, memReadBytes s.hosts[hp].parcel (4 * c.word 2) (c.word 1), false⟩ →
      (c.word 0 ≠ 0 → exec (.fwWrite hp mb) s = .next { u with flash.writing := some w }) ∧
      (c.word 0 = 0 → exec (.fwWrite hp mb) s = .next { u.startImage with flash.writing := some w })) ∧
    (∀ slot, s.sends hp mb c 0xB1 1 1 → s.may hp .firmware = true → u.freeSlot hp = some slot →
      exec (.fwCommit hp mb) s = .next (u.acceptCmd c slot none 0 [(c.word 0 : Int)] 0 []))

/-! ### The monitor -/

/-- The monitor's level: it is VIEW after every reset; UNLOCK raises it exactly when the SHA-256 of PASS_SALT followed by a passcode of 8 to 32 printable characters equals a PASS_HASH that is not zero, is refused with ERR NOPASS where it is zero and, for 60 s after 3 consecutive failures, with ERR WAIT; LOCK and 600 s without input end MAINTAIN (R533). -/
def Obligations.MonitorLevelFollowsThePasscode : Prop :=
  State.reset.mon.maintain = false ∧
  (∀ (s : State) (cause port : Nat), (s.enterReset cause port).mon.maintain = false ∧ (s.enterReset cause port).mon.fails = 0) ∧
  (∀ (h : ImageHdr) (p : List Byte), imagePasses h p = true ↔ 8 ≤ p.length ∧ p.length ≤ 32 ∧ (∀ b ∈ p, 0x20 ≤ b.toNat ∧ b.toNat < 0x7F) ∧
    Config.sha256 (h.passSalt ++ p) = h.passHash) ∧
  (∀ s u : State, u = { s with mon.lastInput := s.sys.cyc } → s.sys.straps.monEn = true → s.sys.engine ≠ .reset → s.sys.engine ≠ .boot →
    exec .monLock s = .next ((State.print { u with mon.maintain := false } "VIEW").promptAgain) ∧
    (∀ p, s.sys.hdr = none → exec (.monUnlock p) s = .next ((u.print "ERR NOPASS").promptAgain)) ∧
    (∀ p h, s.sys.hdr = some h → h.passHash.all (· == 0) = true → exec (.monUnlock p) s = .next ((u.print "ERR NOPASS").promptAgain)) ∧
    (∀ p h, s.sys.hdr = some h → h.passHash.all (· == 0) = false →
      (s.mon.waitFrom.isSome = true → exec (.monUnlock p) s = .next ((u.print "ERR WAIT").promptAgain)) ∧
      (s.mon.waitFrom = none → (imagePasses h p = true ∨ s.mon.maintain = false) → exec (.monUnlock p) s = .next
        (if imagePasses h p = true then (State.print { u with mon.maintain := true, mon.fails := 0 } "MAINTAIN").promptAgain
        else (State.print (State.unlockFails u) "VIEW").promptAgain)))) ∧
  (∀ s : State, s.unlockFails =
    { s with mon.fails := s.mon.fails + 1, mon.waitFrom := if 3 ≤ s.mon.fails + 1 then some s.sys.cyc else none }) ∧
  (∀ s : State, exec .monMaintainTimeout s = .next (if s.mon.maintain = true ∧ s.mon.lastInput + 375000000000 < s.sys.cyc
    then { s with mon.maintain := false } else s)) ∧
  (∀ (s : State) (c : Nat), s.mon.waitFrom = some c → exec .monUnlockWaitExpiry s = .next (if c + 37500000000 < s.sys.cyc
    then { s with mon.waitFrom := none, mon.fails := 0 } else s))

/-- The monitor's lines of VIEW, while MON_EN reads 1 and the engine is past BOOT: HELP, STATUS, TIME, BOUND, REF, FAULT, LOG, TWIN and PEEK print their lines and the prompt and change nothing else (R532, R534); in BOOT only STATUS answers; without MON_EN nothing reaches the monitor. -/
def Obligations.MonitorLinesOfViewPrintTheirState : Prop :=
  ∀ s u : State, u = { s with mon.lastInput := s.sys.cyc } →
    (s.sys.straps.monEn = false → exec .monHelp s = .next s ∧ exec .monStatus s = .next s ∧ exec .monReset s = .next s) ∧
    (s.sys.straps.monEn = true → ∀ x : String, s.print x = { s with emits := .monitor (x ++ "\r\n") :: s.emits }) ∧
    (s.sys.straps.monEn = true → s.sys.engine = .boot →
      exec .monStatus s = .next (((u.print "STATE BOOT").print s.mon.bootLine).promptAgain) ∧
      exec .monTime s = .next ((u.print "ERR CMD").promptAgain) ∧ exec .monReset s = .next ((u.print "ERR CMD").promptAgain)) ∧
    (s.sys.straps.monEn = true → s.sys.engine ≠ .reset → s.sys.engine ≠ .boot →
      exec .monHelp s = .next ((u.printAll s.helpLines).promptAgain) ∧ exec .monStatus s = .next ((u.print s.statusLine).promptAgain) ∧
      exec .monTime s = .next ((u.print s.timeLine).promptAgain) ∧ exec .monBound s = .next ((u.printAll s.boundLines).promptAgain) ∧
      exec .monRef s = .next ((u.printAll s.refLines).promptAgain) ∧ exec .monFault s = .next ((u.print s.faultLine).promptAgain) ∧
      (∀ n, exec (.monLog n) s = .next ((u.printAll (s.logLines n)).promptAgain)) ∧ exec .monTwin s = .next ((u.print s.twinLine).promptAgain) ∧
      (∀ o v, s.peekable o = true → s.regWord s.sys.owner (o % 65536) = some v →
        exec (.monPeek o 1) s = .next ((u.print (hexText 8 o ++ " " ++ wordText v)).promptAgain)) ∧
      (∀ o n, s.peekable o = false → exec (.monPeek o (n + 1)) s = .next ((u.print "ERR ADDR").promptAgain)))

/-- Typing, the lines of MAINTAIN and the level's clocks: a character joins a line of at most 80, 0x08 takes the last one away, LF does nothing, the end of a too long line is ERR LONG; at VIEW the six lines of MAINTAIN are ERR LEVEL, at MAINTAIN they act and print (R427, R490, R502, R519, R532, R534). The text of answers that R534 does not fix is the model's choice (log entry 23). -/
def Obligations.MonitorTypingAndMaintainLines : Prop :=
  ∀ s u : State, u = { s with mon.lastInput := s.sys.cyc } →
    (s.sys.straps.monEn = true → s.sys.engine ≠ .reset →
      exec (.monCharacter 0x0A) s = .next u ∧
      exec (.monCharacter 0x08) s = .next (State.monOut { u with mon.line := s.mon.line.dropLast } (octetText [0x08])) ∧
      (∀ c : Byte, c ≠ 0x0D → c ≠ 0x0A → c ≠ 0x08 →
        ∃ t, exec (.monCharacter c) s = .next t ∧
          (s.mon.line.length < 80 → t = { u with mon.line := s.mon.line ++ [c], emits := t.emits }) ∧
          (80 ≤ s.mon.line.length → t = { u with mon.tooLong := true, emits := t.emits })) ∧
      (s.mon.tooLong = true → exec (.monCharacter 0x0D) s = .next ((State.print
        (State.monOut { u with mon.line := [], mon.tooLong := false } "\r\n") "ERR LONG").promptAgain)) ∧
      (s.mon.tooLong = false → (splitWords [] s.mon.line).isEmpty = false → parseLine s.mon.line = none →
        exec (.monCharacter 0x0D) s = .next ((State.print (State.monOut { u with mon.line := [], mon.tooLong := false } "\r\n") "ERR CMD").promptAgain))) ∧
    (s.sys.straps.monEn = true → s.sys.engine ≠ .reset → s.sys.engine ≠ .boot → s.mon.maintain = false → ∀ i : Instr,
      (i = .monFaultClear ∨ i = .monReset ∨ (∃ o v, i = .monPoke o v) ∨ (∃ g o n, i = .monDpeek g o n) ∨ (∃ g o v, i = .monDpoke g o v) ∨
        (∃ n, i = .monOwner n)) → exec i s = .next ((u.print "ERR LEVEL").promptAgain)) ∧
    (s.sys.straps.monEn = true → s.sys.engine ≠ .reset → s.sys.engine ≠ .boot → s.mon.maintain = true →
      exec .monFaultClear s = .next ((u.faultClear.print u.faultClear.faultLine).promptAgain) ∧
      (∀ o v, (s.pokeable o = false → exec (.monPoke o v) s = .next ((u.print "ERR ADDR").promptAgain)) ∧
        (s.pokeable o = true → sharedWritable (o % 65536) = false → exec (.monPoke o v) s = .next ((u.print "IGNORED").promptAgain)) ∧
        (s.pokeable o = true → sharedWritable (o % 65536) = true → s.follower = false →
          exec (.monPoke o v) s = .next (((u.writeAt s.sys.owner o v).print "OK").promptAgain))) ∧
      (∀ g o n, (s.direct.lockdown = true → exec (.monDpeek g o n) s = .next ((u.print "ERR CLOSED").promptAgain)) ∧
        (s.direct.lockdown = false → ∃ t, exec (.monDpeek g o n) s = .next t ∧ t = { u with freeCtr := t.freeCtr, emits := t.emits })) ∧
      (∀ g o v, (s.direct.lockdown = true → exec (.monDpoke g o v) s = .next (((u.raise Flt.writeLocked 0x208).print "ERR CLOSED").promptAgain)) ∧
        (s.direct.lockdown = false → ∃ t, exec (.monDpoke g o v) s = .next t ∧
          t = { u with direct := t.direct, flt := t.flt, emits := t.emits } ∧
          (directKind g o = .readWrite → o % 4 = 0 → o < 65536 → t.direct.words.find? (·.1 == (g, o)) = some ((g, o), v)))) ∧
      (∀ n, exec (.monOwner n) s = .next (((if n = s.sys.owner then u else u.newOwner n).print ("OWNER " ++ decText n.val)).promptAgain)) ∧
      (s.sys.resetN = true → s.sys.por = false → ∃ t, exec .monReset s = .next t ∧ t.sys.engine = .boot ∧ t.sys.resetCause = 3 ∧ t.cmds = [] ∧
        t.mon.maintain = false))
end

