-- ==== Sys2Proof/Laws/Memory.lean ====
section
/-! SUPPORT. Byte memory: what a read after a write gives, and that every operation keeps the canonical form. -/

namespace Sys2Proof.Machine

/-- The canonical form of the cells from address `n` on. -/
def memFrom : Nat → List Host.Cell → Prop
  | _, [] => True
  | n, c :: m => n ≤ c.1 ∧ c.2 ≠ 0 ∧ memFrom (c.1 + 1) m

/-- Cells from a higher address on are cells from a lower one on. -/
theorem memFrom_mono {m : List Host.Cell} {n k : Nat} (h : memFrom k m) (hn : n ≤ k) : memFrom n m := by
  cases m with
  | nil => trivial
  | cons c m => exact ⟨Nat.le_trans hn h.1, h.2⟩

/-- Canonical cells behind a cell start above it. -/
theorem memFrom_behind {c : Host.Cell} {m : List Host.Cell} (h : memWf (c :: m) = true) : memFrom (c.1 + 1) m := by
  induction m generalizing c with
  | nil => trivial
  | cons d m ih =>
    simp only [memWf, Bool.and_eq_true, bne_iff_ne, decide_eq_true_eq] at h
    refine ⟨h.1.2, ?_, ih h.2⟩
    cases m <;> simp_all [memWf]

/-- Cells from some address on are canonical. -/
theorem memWf_of_from {m : List Host.Cell} {n : Nat} (h : memFrom n m) : memWf m = true := by
  induction m generalizing n with
  | nil => rfl
  | cons c m ih =>
    have hm := ih h.2.2
    have hv : ¬c.2 = 0#8 := h.2.1
    cases m with
    | nil => simp [memWf, hv]
    | cons d m => simp [memWf, hv, hm, Nat.lt_of_succ_le h.2.2.1]

/-- The canonical form is that from address 0 on. -/
theorem memWf_iff {m : List Host.Cell} : memWf m = true ↔ memFrom 0 m := by
  refine ⟨fun h => ?_, memWf_of_from⟩
  cases m with
  | nil => trivial
  | cons c m =>
    refine ⟨Nat.zero_le _, ?_, memFrom_behind h⟩
    cases m <;> simp_all [memWf]

/-- Below its first address a memory reads 0. -/
theorem memRead_below {m : List Host.Cell} {n a : Nat} (h : memFrom n m) (ha : a < n) : memRead m a = 0 := by
  induction m generalizing n with
  | nil => rfl
  | cons c m ih =>
    have hc : c.1 ≠ a := Nat.ne_of_gt (Nat.lt_of_lt_of_le ha h.1)
    rw [memRead, if_neg hc]
    exact ih h.2.2 (by have := h.1; omega)

/-- A byte in front of a memory that starts above it keeps the canonical form. -/
theorem memFrom_memCons {m : List Host.Cell} {n a : Nat} (v : Byte) (h : memFrom (a + 1) m) (ha : n ≤ a) : memFrom n (memCons a v m) := by
  by_cases hv : v = 0
  · rw [memCons, if_pos hv]; exact memFrom_mono h (by omega)
  · rw [memCons, if_neg hv]; exact ⟨ha, hv, h⟩

/-- That byte is read at its own address, the rest elsewhere. -/
theorem memRead_memCons {m : List Host.Cell} {a b : Nat} {v : Byte} (h : memFrom (a + 1) m) :
    memRead (memCons a v m) b = if a = b then v else memRead m b := by
  by_cases hv : v = 0
  · rw [memCons, if_pos hv]
    by_cases hb : a = b
    · rw [if_pos hb, ← hb, hv, memRead_below h (Nat.lt_succ_self a)]
    · rw [if_neg hb]
  · rw [memCons, if_neg hv, memRead]

/-- A write at or above the first address keeps the canonical form. -/
theorem memFrom_memWrite {m : List Host.Cell} {n a : Nat} (v : Byte) (h : memFrom n m) (ha : n ≤ a) : memFrom n (memWrite m a v) := by
  induction m generalizing n with
  | nil => exact memFrom_memCons v trivial ha
  | cons c m ih =>
    obtain ⟨b, w⟩ := c
    rcases Nat.lt_trichotomy a b with hlt | heq | hgt
    · rw [memWrite, if_pos hlt]; exact memFrom_memCons v ⟨hlt, h.2⟩ ha
    · subst heq
      rw [memWrite, if_neg (Nat.lt_irrefl a), if_pos rfl]; exact memFrom_memCons v h.2.2 ha
    · rw [memWrite, if_neg (Nat.lt_asymm hgt), if_neg (Nat.ne_of_gt hgt)]
      exact ⟨h.1, h.2.1, ih h.2.2 hgt⟩

/-- Reading after a write, from some address on. -/
theorem memRead_write_from {m : List Host.Cell} {n : Nat} (h : memFrom n m) (a b : Nat) (v : Byte) :
    memRead (memWrite m a v) b = if a = b then v else memRead m b := by
  induction m generalizing n with
  | nil => exact memRead_memCons trivial
  | cons c m ih =>
    obtain ⟨d, w⟩ := c
    rcases Nat.lt_trichotomy a d with hlt | heq | hgt
    · rw [memWrite, if_pos hlt]; exact memRead_memCons ⟨hlt, h.2⟩
    · subst heq
      rw [memWrite, if_neg (Nat.lt_irrefl a), if_pos rfl, memRead_memCons h.2.2, memRead]
      by_cases hb : a = b <;> simp [hb]
    · rw [memWrite, if_neg (Nat.lt_asymm hgt), if_neg (Nat.ne_of_gt hgt), memRead, memRead, ih h.2.2]
      by_cases hd : d = b
      · rw [if_pos hd, if_pos hd, if_neg (by omega)]
      · rw [if_neg hd, if_neg hd]

/-- Reading a byte after a write: the written one at its address, the old ones elsewhere. -/
theorem memRead_memWrite {m : List Host.Cell} (h : memWf m = true) (a b : Nat) (v : Byte) :
    memRead (memWrite m a v) b = if a = b then v else memRead m b := memRead_write_from (memWf_iff.mp h) a b v

/-- A write keeps the canonical form. -/
theorem memWf_memWrite {m : List Host.Cell} (h : memWf m = true) (a : Nat) (v : Byte) : memWf (memWrite m a v) = true :=
  memWf_iff.mpr (memFrom_memWrite v (memWf_iff.mp h) (Nat.zero_le a))

/-- Writing bytes keeps the canonical form. -/
theorem memWf_memWriteBytes {m : List Host.Cell} (h : memWf m = true) (a : Nat) (l : List Byte) : memWf (memWriteBytes m a l) = true := by
  induction l generalizing m a with
  | nil => exact h
  | cons v l ih => exact ih (memWf_memWrite h a v) (a + 1)

/-- Writing words keeps the canonical form. -/
theorem memWf_memWriteWords {m : List Host.Cell} (h : memWf m = true) (a : Nat) (l : List Word) : memWf (memWriteWords m a l) = true :=
  memWf_memWriteBytes h a _

/-- Bytes below and above the written ones read as before. -/
theorem memRead_memWriteBytes_outside {m : List Host.Cell} (h : memWf m = true) (a b : Nat) (l : List Byte) (hb : b < a ∨ a + l.length ≤ b) :
    memRead (memWriteBytes m a l) b = memRead m b := by
  induction l generalizing m a with
  | nil => rfl
  | cons v l ih =>
    rw [List.length_cons] at hb
    rw [memWriteBytes, ih (memWf_memWrite h a v) (a + 1) (by omega), memRead_memWrite h, if_neg (by omega)]

/-- Cells taken out keep the canonical form. -/
theorem memFrom_filter {m : List Host.Cell} {n : Nat} (p : Host.Cell → Bool) (h : memFrom n m) : memFrom n (m.filter p) := by
  induction m generalizing n with
  | nil => trivial
  | cons c m ih =>
    have hm := ih h.2.2
    cases hp : p c
    · rw [List.filter_cons_of_neg (by simp [hp])]; exact memFrom_mono hm (by have := h.1; omega)
    · rw [List.filter_cons_of_pos hp]; exact ⟨h.1, h.2.1, hm⟩

/-- Erasing a sector keeps the canonical form. -/
theorem memWf_eraseSector {m : List Host.Cell} (h : memWf m = true) (sec : Nat) : memWf (eraseSector m sec) = true :=
  memWf_iff.mpr (memFrom_filter _ (memWf_iff.mp h))

/-- Programming bytes keeps the canonical form. -/
theorem memWf_programBytes {m : List Host.Cell} (h : memWf m = true) (a : Nat) (l : List Byte) : memWf (programBytes m a l) = true := by
  induction l generalizing m a with
  | nil => exact h
  | cons v l ih => exact ih (memWf_memWrite h a _) (a + 1)

end Sys2Proof.Machine
end

