-- ==== Sys2Proof/Laws/State.lean ====
section
/-! SUPPORT. One lemma per field of the state for each of its plain updates: an update of one array's element gives that element and leaves every other field as it is. -/

namespace Sys2Proof.Machine

/-- An updated element. -/
@[simp] theorem upd_same {α : Type} {n : Nat} (v : Vector α n) (i : Fin n) (f : α → α) : (upd v i f)[i] = f v[i] := by
  simp [upd]

/-- The elements beside an updated one stay. -/
theorem upd_other {α : Type} {n : Nat} (v : Vector α n) (i j : Fin n) (f : α → α) (h : i ≠ j) : (upd v i f)[j] = v[j] := by
  have h2 : i.val ≠ j.val := fun e => h (Fin.ext e)
  simp [upd, h2]

variable (s : State)

/-! ### mapHost -/

@[simp] theorem State.mapHost_hosts (i : Fin 4) (f : HostPort → HostPort) : (s.mapHost i f).hosts = upd s.hosts i f := rfl
@[simp] theorem State.mapHost_pending (i : Fin 4) (f : HostPort → HostPort) : (s.mapHost i f).pending = s.pending := rfl
@[simp] theorem State.mapHost_freeCtr (i : Fin 4) (f : HostPort → HostPort) : (s.mapHost i f).freeCtr = s.freeCtr := rfl
@[simp] theorem State.mapHost_emits (i : Fin 4) (f : HostPort → HostPort) : (s.mapHost i f).emits = s.emits := rfl
@[simp] theorem State.mapHost_sys (i : Fin 4) (f : HostPort → HostPort) : (s.mapHost i f).sys = s.sys := rfl
@[simp] theorem State.mapHost_mram (i : Fin 4) (f : HostPort → HostPort) : (s.mapHost i f).mram = s.mram := rfl
@[simp] theorem State.mapHost_flash (i : Fin 4) (f : HostPort → HostPort) : (s.mapHost i f).flash = s.flash := rfl
@[simp] theorem State.mapHost_ts (i : Fin 4) (f : HostPort → HostPort) : (s.mapHost i f).ts = s.ts := rfl
@[simp] theorem State.mapHost_bound (i : Fin 4) (f : HostPort → HostPort) : (s.mapHost i f).bound = s.bound := rfl
@[simp] theorem State.mapHost_tdc (i : Fin 4) (f : HostPort → HostPort) : (s.mapHost i f).tdc = s.tdc := rfl
@[simp] theorem State.mapHost_calTemp (i : Fin 4) (f : HostPort → HostPort) : (s.mapHost i f).calTemp = s.calTemp := rfl
@[simp] theorem State.mapHost_wv (i : Fin 4) (f : HostPort → HostPort) : (s.mapHost i f).wv = s.wv := rfl
@[simp] theorem State.mapHost_loop (i : Fin 4) (f : HostPort → HostPort) : (s.mapHost i f).loop = s.loop := rfl
@[simp] theorem State.mapHost_fc (i : Fin 4) (f : HostPort → HostPort) : (s.mapHost i f).fc = s.fc := rfl
@[simp] theorem State.mapHost_outs (i : Fin 4) (f : HostPort → HostPort) : (s.mapHost i f).outs = s.outs := rfl
@[simp] theorem State.mapHost_gnss (i : Fin 4) (f : HostPort → HostPort) : (s.mapHost i f).gnss = s.gnss := rfl
@[simp] theorem State.mapHost_ports (i : Fin 4) (f : HostPort → HostPort) : (s.mapHost i f).ports = s.ports := rfl
@[simp] theorem State.mapHost_pairs (i : Fin 4) (f : HostPort → HostPort) : (s.mapHost i f).pairs = s.pairs := rfl
@[simp] theorem State.mapHost_svc (i : Fin 4) (f : HostPort → HostPort) : (s.mapHost i f).svc = s.svc := rfl
@[simp] theorem State.mapHost_auth (i : Fin 4) (f : HostPort → HostPort) : (s.mapHost i f).auth = s.auth := rfl
@[simp] theorem State.mapHost_feeds (i : Fin 4) (f : HostPort → HostPort) : (s.mapHost i f).feeds = s.feeds := rfl
@[simp] theorem State.mapHost_cps (i : Fin 4) (f : HostPort → HostPort) : (s.mapHost i f).cps = s.cps := rfl
@[simp] theorem State.mapHost_cpBuf (i : Fin 4) (f : HostPort → HostPort) : (s.mapHost i f).cpBuf = s.cpBuf := rfl
@[simp] theorem State.mapHost_twin (i : Fin 4) (f : HostPort → HostPort) : (s.mapHost i f).twin = s.twin := rfl
@[simp] theorem State.mapHost_locks (i : Fin 4) (f : HostPort → HostPort) : (s.mapHost i f).locks = s.locks := rfl
@[simp] theorem State.mapHost_cmds (i : Fin 4) (f : HostPort → HostPort) : (s.mapHost i f).cmds = s.cmds := rfl
@[simp] theorem State.mapHost_handled (i : Fin 4) (f : HostPort → HostPort) : (s.mapHost i f).handled = s.handled := rfl
@[simp] theorem State.mapHost_nextHandled (i : Fin 4) (f : HostPort → HostPort) : (s.mapHost i f).nextHandled = s.nextHandled := rfl
@[simp] theorem State.mapHost_groups (i : Fin 4) (f : HostPort → HostPort) : (s.mapHost i f).groups = s.groups := rfl
@[simp] theorem State.mapHost_direct (i : Fin 4) (f : HostPort → HostPort) : (s.mapHost i f).direct = s.direct := rfl
@[simp] theorem State.mapHost_flt (i : Fin 4) (f : HostPort → HostPort) : (s.mapHost i f).flt = s.flt := rfl
@[simp] theorem State.mapHost_log (i : Fin 4) (f : HostPort → HostPort) : (s.mapHost i f).log = s.log := rfl
@[simp] theorem State.mapHost_perf (i : Fin 4) (f : HostPort → HostPort) : (s.mapHost i f).perf = s.perf := rfl
@[simp] theorem State.mapHost_mon (i : Fin 4) (f : HostPort → HostPort) : (s.mapHost i f).mon = s.mon := rfl

/-! ### mapTdc -/

@[simp] theorem State.mapTdc_tdc (i : Fin 88) (f : TdcChan → TdcChan) : (s.mapTdc i f).tdc = upd s.tdc i f := rfl
@[simp] theorem State.mapTdc_pending (i : Fin 88) (f : TdcChan → TdcChan) : (s.mapTdc i f).pending = s.pending := rfl
@[simp] theorem State.mapTdc_freeCtr (i : Fin 88) (f : TdcChan → TdcChan) : (s.mapTdc i f).freeCtr = s.freeCtr := rfl
@[simp] theorem State.mapTdc_emits (i : Fin 88) (f : TdcChan → TdcChan) : (s.mapTdc i f).emits = s.emits := rfl
@[simp] theorem State.mapTdc_sys (i : Fin 88) (f : TdcChan → TdcChan) : (s.mapTdc i f).sys = s.sys := rfl
@[simp] theorem State.mapTdc_mram (i : Fin 88) (f : TdcChan → TdcChan) : (s.mapTdc i f).mram = s.mram := rfl
@[simp] theorem State.mapTdc_flash (i : Fin 88) (f : TdcChan → TdcChan) : (s.mapTdc i f).flash = s.flash := rfl
@[simp] theorem State.mapTdc_ts (i : Fin 88) (f : TdcChan → TdcChan) : (s.mapTdc i f).ts = s.ts := rfl
@[simp] theorem State.mapTdc_bound (i : Fin 88) (f : TdcChan → TdcChan) : (s.mapTdc i f).bound = s.bound := rfl
@[simp] theorem State.mapTdc_calTemp (i : Fin 88) (f : TdcChan → TdcChan) : (s.mapTdc i f).calTemp = s.calTemp := rfl
@[simp] theorem State.mapTdc_wv (i : Fin 88) (f : TdcChan → TdcChan) : (s.mapTdc i f).wv = s.wv := rfl
@[simp] theorem State.mapTdc_loop (i : Fin 88) (f : TdcChan → TdcChan) : (s.mapTdc i f).loop = s.loop := rfl
@[simp] theorem State.mapTdc_fc (i : Fin 88) (f : TdcChan → TdcChan) : (s.mapTdc i f).fc = s.fc := rfl
@[simp] theorem State.mapTdc_outs (i : Fin 88) (f : TdcChan → TdcChan) : (s.mapTdc i f).outs = s.outs := rfl
@[simp] theorem State.mapTdc_gnss (i : Fin 88) (f : TdcChan → TdcChan) : (s.mapTdc i f).gnss = s.gnss := rfl
@[simp] theorem State.mapTdc_ports (i : Fin 88) (f : TdcChan → TdcChan) : (s.mapTdc i f).ports = s.ports := rfl
@[simp] theorem State.mapTdc_pairs (i : Fin 88) (f : TdcChan → TdcChan) : (s.mapTdc i f).pairs = s.pairs := rfl
@[simp] theorem State.mapTdc_svc (i : Fin 88) (f : TdcChan → TdcChan) : (s.mapTdc i f).svc = s.svc := rfl
@[simp] theorem State.mapTdc_auth (i : Fin 88) (f : TdcChan → TdcChan) : (s.mapTdc i f).auth = s.auth := rfl
@[simp] theorem State.mapTdc_feeds (i : Fin 88) (f : TdcChan → TdcChan) : (s.mapTdc i f).feeds = s.feeds := rfl
@[simp] theorem State.mapTdc_cps (i : Fin 88) (f : TdcChan → TdcChan) : (s.mapTdc i f).cps = s.cps := rfl
@[simp] theorem State.mapTdc_cpBuf (i : Fin 88) (f : TdcChan → TdcChan) : (s.mapTdc i f).cpBuf = s.cpBuf := rfl
@[simp] theorem State.mapTdc_twin (i : Fin 88) (f : TdcChan → TdcChan) : (s.mapTdc i f).twin = s.twin := rfl
@[simp] theorem State.mapTdc_hosts (i : Fin 88) (f : TdcChan → TdcChan) : (s.mapTdc i f).hosts = s.hosts := rfl
@[simp] theorem State.mapTdc_locks (i : Fin 88) (f : TdcChan → TdcChan) : (s.mapTdc i f).locks = s.locks := rfl
@[simp] theorem State.mapTdc_cmds (i : Fin 88) (f : TdcChan → TdcChan) : (s.mapTdc i f).cmds = s.cmds := rfl
@[simp] theorem State.mapTdc_handled (i : Fin 88) (f : TdcChan → TdcChan) : (s.mapTdc i f).handled = s.handled := rfl
@[simp] theorem State.mapTdc_nextHandled (i : Fin 88) (f : TdcChan → TdcChan) : (s.mapTdc i f).nextHandled = s.nextHandled := rfl
@[simp] theorem State.mapTdc_groups (i : Fin 88) (f : TdcChan → TdcChan) : (s.mapTdc i f).groups = s.groups := rfl
@[simp] theorem State.mapTdc_direct (i : Fin 88) (f : TdcChan → TdcChan) : (s.mapTdc i f).direct = s.direct := rfl
@[simp] theorem State.mapTdc_flt (i : Fin 88) (f : TdcChan → TdcChan) : (s.mapTdc i f).flt = s.flt := rfl
@[simp] theorem State.mapTdc_log (i : Fin 88) (f : TdcChan → TdcChan) : (s.mapTdc i f).log = s.log := rfl
@[simp] theorem State.mapTdc_perf (i : Fin 88) (f : TdcChan → TdcChan) : (s.mapTdc i f).perf = s.perf := rfl
@[simp] theorem State.mapTdc_mon (i : Fin 88) (f : TdcChan → TdcChan) : (s.mapTdc i f).mon = s.mon := rfl

/-! ### mapSlot -/

@[simp] theorem State.mapSlot_wv_slots (i : Fin 16) (f : Slot → Slot) : (s.mapSlot i f).wv.slots = upd s.wv.slots i f := rfl
@[simp] theorem State.mapSlot_pending (i : Fin 16) (f : Slot → Slot) : (s.mapSlot i f).pending = s.pending := rfl
@[simp] theorem State.mapSlot_freeCtr (i : Fin 16) (f : Slot → Slot) : (s.mapSlot i f).freeCtr = s.freeCtr := rfl
@[simp] theorem State.mapSlot_emits (i : Fin 16) (f : Slot → Slot) : (s.mapSlot i f).emits = s.emits := rfl
@[simp] theorem State.mapSlot_sys (i : Fin 16) (f : Slot → Slot) : (s.mapSlot i f).sys = s.sys := rfl
@[simp] theorem State.mapSlot_mram (i : Fin 16) (f : Slot → Slot) : (s.mapSlot i f).mram = s.mram := rfl
@[simp] theorem State.mapSlot_flash (i : Fin 16) (f : Slot → Slot) : (s.mapSlot i f).flash = s.flash := rfl
@[simp] theorem State.mapSlot_ts (i : Fin 16) (f : Slot → Slot) : (s.mapSlot i f).ts = s.ts := rfl
@[simp] theorem State.mapSlot_bound (i : Fin 16) (f : Slot → Slot) : (s.mapSlot i f).bound = s.bound := rfl
@[simp] theorem State.mapSlot_tdc (i : Fin 16) (f : Slot → Slot) : (s.mapSlot i f).tdc = s.tdc := rfl
@[simp] theorem State.mapSlot_calTemp (i : Fin 16) (f : Slot → Slot) : (s.mapSlot i f).calTemp = s.calTemp := rfl
@[simp] theorem State.mapSlot_loop (i : Fin 16) (f : Slot → Slot) : (s.mapSlot i f).loop = s.loop := rfl
@[simp] theorem State.mapSlot_fc (i : Fin 16) (f : Slot → Slot) : (s.mapSlot i f).fc = s.fc := rfl
@[simp] theorem State.mapSlot_outs (i : Fin 16) (f : Slot → Slot) : (s.mapSlot i f).outs = s.outs := rfl
@[simp] theorem State.mapSlot_gnss (i : Fin 16) (f : Slot → Slot) : (s.mapSlot i f).gnss = s.gnss := rfl
@[simp] theorem State.mapSlot_ports (i : Fin 16) (f : Slot → Slot) : (s.mapSlot i f).ports = s.ports := rfl
@[simp] theorem State.mapSlot_pairs (i : Fin 16) (f : Slot → Slot) : (s.mapSlot i f).pairs = s.pairs := rfl
@[simp] theorem State.mapSlot_svc (i : Fin 16) (f : Slot → Slot) : (s.mapSlot i f).svc = s.svc := rfl
@[simp] theorem State.mapSlot_auth (i : Fin 16) (f : Slot → Slot) : (s.mapSlot i f).auth = s.auth := rfl
@[simp] theorem State.mapSlot_feeds (i : Fin 16) (f : Slot → Slot) : (s.mapSlot i f).feeds = s.feeds := rfl
@[simp] theorem State.mapSlot_cps (i : Fin 16) (f : Slot → Slot) : (s.mapSlot i f).cps = s.cps := rfl
@[simp] theorem State.mapSlot_cpBuf (i : Fin 16) (f : Slot → Slot) : (s.mapSlot i f).cpBuf = s.cpBuf := rfl
@[simp] theorem State.mapSlot_twin (i : Fin 16) (f : Slot → Slot) : (s.mapSlot i f).twin = s.twin := rfl
@[simp] theorem State.mapSlot_hosts (i : Fin 16) (f : Slot → Slot) : (s.mapSlot i f).hosts = s.hosts := rfl
@[simp] theorem State.mapSlot_locks (i : Fin 16) (f : Slot → Slot) : (s.mapSlot i f).locks = s.locks := rfl
@[simp] theorem State.mapSlot_cmds (i : Fin 16) (f : Slot → Slot) : (s.mapSlot i f).cmds = s.cmds := rfl
@[simp] theorem State.mapSlot_handled (i : Fin 16) (f : Slot → Slot) : (s.mapSlot i f).handled = s.handled := rfl
@[simp] theorem State.mapSlot_nextHandled (i : Fin 16) (f : Slot → Slot) : (s.mapSlot i f).nextHandled = s.nextHandled := rfl
@[simp] theorem State.mapSlot_groups (i : Fin 16) (f : Slot → Slot) : (s.mapSlot i f).groups = s.groups := rfl
@[simp] theorem State.mapSlot_direct (i : Fin 16) (f : Slot → Slot) : (s.mapSlot i f).direct = s.direct := rfl
@[simp] theorem State.mapSlot_flt (i : Fin 16) (f : Slot → Slot) : (s.mapSlot i f).flt = s.flt := rfl
@[simp] theorem State.mapSlot_log (i : Fin 16) (f : Slot → Slot) : (s.mapSlot i f).log = s.log := rfl
@[simp] theorem State.mapSlot_perf (i : Fin 16) (f : Slot → Slot) : (s.mapSlot i f).perf = s.perf := rfl
@[simp] theorem State.mapSlot_mon (i : Fin 16) (f : Slot → Slot) : (s.mapSlot i f).mon = s.mon := rfl

/-! ### mapFw -/

@[simp] theorem State.mapFw_fc_fw (i : Fin 3) (f : Flywheel → Flywheel) : (s.mapFw i f).fc.fw = upd s.fc.fw i f := rfl
@[simp] theorem State.mapFw_pending (i : Fin 3) (f : Flywheel → Flywheel) : (s.mapFw i f).pending = s.pending := rfl
@[simp] theorem State.mapFw_freeCtr (i : Fin 3) (f : Flywheel → Flywheel) : (s.mapFw i f).freeCtr = s.freeCtr := rfl
@[simp] theorem State.mapFw_emits (i : Fin 3) (f : Flywheel → Flywheel) : (s.mapFw i f).emits = s.emits := rfl
@[simp] theorem State.mapFw_sys (i : Fin 3) (f : Flywheel → Flywheel) : (s.mapFw i f).sys = s.sys := rfl
@[simp] theorem State.mapFw_mram (i : Fin 3) (f : Flywheel → Flywheel) : (s.mapFw i f).mram = s.mram := rfl
@[simp] theorem State.mapFw_flash (i : Fin 3) (f : Flywheel → Flywheel) : (s.mapFw i f).flash = s.flash := rfl
@[simp] theorem State.mapFw_ts (i : Fin 3) (f : Flywheel → Flywheel) : (s.mapFw i f).ts = s.ts := rfl
@[simp] theorem State.mapFw_bound (i : Fin 3) (f : Flywheel → Flywheel) : (s.mapFw i f).bound = s.bound := rfl
@[simp] theorem State.mapFw_tdc (i : Fin 3) (f : Flywheel → Flywheel) : (s.mapFw i f).tdc = s.tdc := rfl
@[simp] theorem State.mapFw_calTemp (i : Fin 3) (f : Flywheel → Flywheel) : (s.mapFw i f).calTemp = s.calTemp := rfl
@[simp] theorem State.mapFw_wv (i : Fin 3) (f : Flywheel → Flywheel) : (s.mapFw i f).wv = s.wv := rfl
@[simp] theorem State.mapFw_loop (i : Fin 3) (f : Flywheel → Flywheel) : (s.mapFw i f).loop = s.loop := rfl
@[simp] theorem State.mapFw_outs (i : Fin 3) (f : Flywheel → Flywheel) : (s.mapFw i f).outs = s.outs := rfl
@[simp] theorem State.mapFw_gnss (i : Fin 3) (f : Flywheel → Flywheel) : (s.mapFw i f).gnss = s.gnss := rfl
@[simp] theorem State.mapFw_ports (i : Fin 3) (f : Flywheel → Flywheel) : (s.mapFw i f).ports = s.ports := rfl
@[simp] theorem State.mapFw_pairs (i : Fin 3) (f : Flywheel → Flywheel) : (s.mapFw i f).pairs = s.pairs := rfl
@[simp] theorem State.mapFw_svc (i : Fin 3) (f : Flywheel → Flywheel) : (s.mapFw i f).svc = s.svc := rfl
@[simp] theorem State.mapFw_auth (i : Fin 3) (f : Flywheel → Flywheel) : (s.mapFw i f).auth = s.auth := rfl
@[simp] theorem State.mapFw_feeds (i : Fin 3) (f : Flywheel → Flywheel) : (s.mapFw i f).feeds = s.feeds := rfl
@[simp] theorem State.mapFw_cps (i : Fin 3) (f : Flywheel → Flywheel) : (s.mapFw i f).cps = s.cps := rfl
@[simp] theorem State.mapFw_cpBuf (i : Fin 3) (f : Flywheel → Flywheel) : (s.mapFw i f).cpBuf = s.cpBuf := rfl
@[simp] theorem State.mapFw_twin (i : Fin 3) (f : Flywheel → Flywheel) : (s.mapFw i f).twin = s.twin := rfl
@[simp] theorem State.mapFw_hosts (i : Fin 3) (f : Flywheel → Flywheel) : (s.mapFw i f).hosts = s.hosts := rfl
@[simp] theorem State.mapFw_locks (i : Fin 3) (f : Flywheel → Flywheel) : (s.mapFw i f).locks = s.locks := rfl
@[simp] theorem State.mapFw_cmds (i : Fin 3) (f : Flywheel → Flywheel) : (s.mapFw i f).cmds = s.cmds := rfl
@[simp] theorem State.mapFw_handled (i : Fin 3) (f : Flywheel → Flywheel) : (s.mapFw i f).handled = s.handled := rfl
@[simp] theorem State.mapFw_nextHandled (i : Fin 3) (f : Flywheel → Flywheel) : (s.mapFw i f).nextHandled = s.nextHandled := rfl
@[simp] theorem State.mapFw_groups (i : Fin 3) (f : Flywheel → Flywheel) : (s.mapFw i f).groups = s.groups := rfl
@[simp] theorem State.mapFw_direct (i : Fin 3) (f : Flywheel → Flywheel) : (s.mapFw i f).direct = s.direct := rfl
@[simp] theorem State.mapFw_flt (i : Fin 3) (f : Flywheel → Flywheel) : (s.mapFw i f).flt = s.flt := rfl
@[simp] theorem State.mapFw_log (i : Fin 3) (f : Flywheel → Flywheel) : (s.mapFw i f).log = s.log := rfl
@[simp] theorem State.mapFw_perf (i : Fin 3) (f : Flywheel → Flywheel) : (s.mapFw i f).perf = s.perf := rfl
@[simp] theorem State.mapFw_mon (i : Fin 3) (f : Flywheel → Flywheel) : (s.mapFw i f).mon = s.mon := rfl

/-! ### mapOs -/

@[simp] theorem State.mapOs_outs_os (i : Fin 4) (f : Synth → Synth) : (s.mapOs i f).outs.os = upd s.outs.os i f := rfl
@[simp] theorem State.mapOs_pending (i : Fin 4) (f : Synth → Synth) : (s.mapOs i f).pending = s.pending := rfl
@[simp] theorem State.mapOs_freeCtr (i : Fin 4) (f : Synth → Synth) : (s.mapOs i f).freeCtr = s.freeCtr := rfl
@[simp] theorem State.mapOs_emits (i : Fin 4) (f : Synth → Synth) : (s.mapOs i f).emits = s.emits := rfl
@[simp] theorem State.mapOs_sys (i : Fin 4) (f : Synth → Synth) : (s.mapOs i f).sys = s.sys := rfl
@[simp] theorem State.mapOs_mram (i : Fin 4) (f : Synth → Synth) : (s.mapOs i f).mram = s.mram := rfl
@[simp] theorem State.mapOs_flash (i : Fin 4) (f : Synth → Synth) : (s.mapOs i f).flash = s.flash := rfl
@[simp] theorem State.mapOs_ts (i : Fin 4) (f : Synth → Synth) : (s.mapOs i f).ts = s.ts := rfl
@[simp] theorem State.mapOs_bound (i : Fin 4) (f : Synth → Synth) : (s.mapOs i f).bound = s.bound := rfl
@[simp] theorem State.mapOs_tdc (i : Fin 4) (f : Synth → Synth) : (s.mapOs i f).tdc = s.tdc := rfl
@[simp] theorem State.mapOs_calTemp (i : Fin 4) (f : Synth → Synth) : (s.mapOs i f).calTemp = s.calTemp := rfl
@[simp] theorem State.mapOs_wv (i : Fin 4) (f : Synth → Synth) : (s.mapOs i f).wv = s.wv := rfl
@[simp] theorem State.mapOs_loop (i : Fin 4) (f : Synth → Synth) : (s.mapOs i f).loop = s.loop := rfl
@[simp] theorem State.mapOs_fc (i : Fin 4) (f : Synth → Synth) : (s.mapOs i f).fc = s.fc := rfl
@[simp] theorem State.mapOs_gnss (i : Fin 4) (f : Synth → Synth) : (s.mapOs i f).gnss = s.gnss := rfl
@[simp] theorem State.mapOs_ports (i : Fin 4) (f : Synth → Synth) : (s.mapOs i f).ports = s.ports := rfl
@[simp] theorem State.mapOs_pairs (i : Fin 4) (f : Synth → Synth) : (s.mapOs i f).pairs = s.pairs := rfl
@[simp] theorem State.mapOs_svc (i : Fin 4) (f : Synth → Synth) : (s.mapOs i f).svc = s.svc := rfl
@[simp] theorem State.mapOs_auth (i : Fin 4) (f : Synth → Synth) : (s.mapOs i f).auth = s.auth := rfl
@[simp] theorem State.mapOs_feeds (i : Fin 4) (f : Synth → Synth) : (s.mapOs i f).feeds = s.feeds := rfl
@[simp] theorem State.mapOs_cps (i : Fin 4) (f : Synth → Synth) : (s.mapOs i f).cps = s.cps := rfl
@[simp] theorem State.mapOs_cpBuf (i : Fin 4) (f : Synth → Synth) : (s.mapOs i f).cpBuf = s.cpBuf := rfl
@[simp] theorem State.mapOs_twin (i : Fin 4) (f : Synth → Synth) : (s.mapOs i f).twin = s.twin := rfl
@[simp] theorem State.mapOs_hosts (i : Fin 4) (f : Synth → Synth) : (s.mapOs i f).hosts = s.hosts := rfl
@[simp] theorem State.mapOs_locks (i : Fin 4) (f : Synth → Synth) : (s.mapOs i f).locks = s.locks := rfl
@[simp] theorem State.mapOs_cmds (i : Fin 4) (f : Synth → Synth) : (s.mapOs i f).cmds = s.cmds := rfl
@[simp] theorem State.mapOs_handled (i : Fin 4) (f : Synth → Synth) : (s.mapOs i f).handled = s.handled := rfl
@[simp] theorem State.mapOs_nextHandled (i : Fin 4) (f : Synth → Synth) : (s.mapOs i f).nextHandled = s.nextHandled := rfl
@[simp] theorem State.mapOs_groups (i : Fin 4) (f : Synth → Synth) : (s.mapOs i f).groups = s.groups := rfl
@[simp] theorem State.mapOs_direct (i : Fin 4) (f : Synth → Synth) : (s.mapOs i f).direct = s.direct := rfl
@[simp] theorem State.mapOs_flt (i : Fin 4) (f : Synth → Synth) : (s.mapOs i f).flt = s.flt := rfl
@[simp] theorem State.mapOs_log (i : Fin 4) (f : Synth → Synth) : (s.mapOs i f).log = s.log := rfl
@[simp] theorem State.mapOs_perf (i : Fin 4) (f : Synth → Synth) : (s.mapOs i f).perf = s.perf := rfl
@[simp] theorem State.mapOs_mon (i : Fin 4) (f : Synth → Synth) : (s.mapOs i f).mon = s.mon := rfl

/-! ### mapPin -/

@[simp] theorem State.mapPin_outs_pins (i : Fin 80) (f : OutPin → OutPin) : (s.mapPin i f).outs.pins = upd s.outs.pins i f := rfl
@[simp] theorem State.mapPin_pending (i : Fin 80) (f : OutPin → OutPin) : (s.mapPin i f).pending = s.pending := rfl
@[simp] theorem State.mapPin_freeCtr (i : Fin 80) (f : OutPin → OutPin) : (s.mapPin i f).freeCtr = s.freeCtr := rfl
@[simp] theorem State.mapPin_emits (i : Fin 80) (f : OutPin → OutPin) : (s.mapPin i f).emits = s.emits := rfl
@[simp] theorem State.mapPin_sys (i : Fin 80) (f : OutPin → OutPin) : (s.mapPin i f).sys = s.sys := rfl
@[simp] theorem State.mapPin_mram (i : Fin 80) (f : OutPin → OutPin) : (s.mapPin i f).mram = s.mram := rfl
@[simp] theorem State.mapPin_flash (i : Fin 80) (f : OutPin → OutPin) : (s.mapPin i f).flash = s.flash := rfl
@[simp] theorem State.mapPin_ts (i : Fin 80) (f : OutPin → OutPin) : (s.mapPin i f).ts = s.ts := rfl
@[simp] theorem State.mapPin_bound (i : Fin 80) (f : OutPin → OutPin) : (s.mapPin i f).bound = s.bound := rfl
@[simp] theorem State.mapPin_tdc (i : Fin 80) (f : OutPin → OutPin) : (s.mapPin i f).tdc = s.tdc := rfl
@[simp] theorem State.mapPin_calTemp (i : Fin 80) (f : OutPin → OutPin) : (s.mapPin i f).calTemp = s.calTemp := rfl
@[simp] theorem State.mapPin_wv (i : Fin 80) (f : OutPin → OutPin) : (s.mapPin i f).wv = s.wv := rfl
@[simp] theorem State.mapPin_loop (i : Fin 80) (f : OutPin → OutPin) : (s.mapPin i f).loop = s.loop := rfl
@[simp] theorem State.mapPin_fc (i : Fin 80) (f : OutPin → OutPin) : (s.mapPin i f).fc = s.fc := rfl
@[simp] theorem State.mapPin_gnss (i : Fin 80) (f : OutPin → OutPin) : (s.mapPin i f).gnss = s.gnss := rfl
@[simp] theorem State.mapPin_ports (i : Fin 80) (f : OutPin → OutPin) : (s.mapPin i f).ports = s.ports := rfl
@[simp] theorem State.mapPin_pairs (i : Fin 80) (f : OutPin → OutPin) : (s.mapPin i f).pairs = s.pairs := rfl
@[simp] theorem State.mapPin_svc (i : Fin 80) (f : OutPin → OutPin) : (s.mapPin i f).svc = s.svc := rfl
@[simp] theorem State.mapPin_auth (i : Fin 80) (f : OutPin → OutPin) : (s.mapPin i f).auth = s.auth := rfl
@[simp] theorem State.mapPin_feeds (i : Fin 80) (f : OutPin → OutPin) : (s.mapPin i f).feeds = s.feeds := rfl
@[simp] theorem State.mapPin_cps (i : Fin 80) (f : OutPin → OutPin) : (s.mapPin i f).cps = s.cps := rfl
@[simp] theorem State.mapPin_cpBuf (i : Fin 80) (f : OutPin → OutPin) : (s.mapPin i f).cpBuf = s.cpBuf := rfl
@[simp] theorem State.mapPin_twin (i : Fin 80) (f : OutPin → OutPin) : (s.mapPin i f).twin = s.twin := rfl
@[simp] theorem State.mapPin_hosts (i : Fin 80) (f : OutPin → OutPin) : (s.mapPin i f).hosts = s.hosts := rfl
@[simp] theorem State.mapPin_locks (i : Fin 80) (f : OutPin → OutPin) : (s.mapPin i f).locks = s.locks := rfl
@[simp] theorem State.mapPin_cmds (i : Fin 80) (f : OutPin → OutPin) : (s.mapPin i f).cmds = s.cmds := rfl
@[simp] theorem State.mapPin_handled (i : Fin 80) (f : OutPin → OutPin) : (s.mapPin i f).handled = s.handled := rfl
@[simp] theorem State.mapPin_nextHandled (i : Fin 80) (f : OutPin → OutPin) : (s.mapPin i f).nextHandled = s.nextHandled := rfl
@[simp] theorem State.mapPin_groups (i : Fin 80) (f : OutPin → OutPin) : (s.mapPin i f).groups = s.groups := rfl
@[simp] theorem State.mapPin_direct (i : Fin 80) (f : OutPin → OutPin) : (s.mapPin i f).direct = s.direct := rfl
@[simp] theorem State.mapPin_flt (i : Fin 80) (f : OutPin → OutPin) : (s.mapPin i f).flt = s.flt := rfl
@[simp] theorem State.mapPin_log (i : Fin 80) (f : OutPin → OutPin) : (s.mapPin i f).log = s.log := rfl
@[simp] theorem State.mapPin_perf (i : Fin 80) (f : OutPin → OutPin) : (s.mapPin i f).perf = s.perf := rfl
@[simp] theorem State.mapPin_mon (i : Fin 80) (f : OutPin → OutPin) : (s.mapPin i f).mon = s.mon := rfl

/-! ### mapPort -/

@[simp] theorem State.mapPort_ports (i : Fin 8) (f : Port → Port) : (s.mapPort i f).ports = upd s.ports i f := rfl
@[simp] theorem State.mapPort_pending (i : Fin 8) (f : Port → Port) : (s.mapPort i f).pending = s.pending := rfl
@[simp] theorem State.mapPort_freeCtr (i : Fin 8) (f : Port → Port) : (s.mapPort i f).freeCtr = s.freeCtr := rfl
@[simp] theorem State.mapPort_emits (i : Fin 8) (f : Port → Port) : (s.mapPort i f).emits = s.emits := rfl
@[simp] theorem State.mapPort_sys (i : Fin 8) (f : Port → Port) : (s.mapPort i f).sys = s.sys := rfl
@[simp] theorem State.mapPort_mram (i : Fin 8) (f : Port → Port) : (s.mapPort i f).mram = s.mram := rfl
@[simp] theorem State.mapPort_flash (i : Fin 8) (f : Port → Port) : (s.mapPort i f).flash = s.flash := rfl
@[simp] theorem State.mapPort_ts (i : Fin 8) (f : Port → Port) : (s.mapPort i f).ts = s.ts := rfl
@[simp] theorem State.mapPort_bound (i : Fin 8) (f : Port → Port) : (s.mapPort i f).bound = s.bound := rfl
@[simp] theorem State.mapPort_tdc (i : Fin 8) (f : Port → Port) : (s.mapPort i f).tdc = s.tdc := rfl
@[simp] theorem State.mapPort_calTemp (i : Fin 8) (f : Port → Port) : (s.mapPort i f).calTemp = s.calTemp := rfl
@[simp] theorem State.mapPort_wv (i : Fin 8) (f : Port → Port) : (s.mapPort i f).wv = s.wv := rfl
@[simp] theorem State.mapPort_loop (i : Fin 8) (f : Port → Port) : (s.mapPort i f).loop = s.loop := rfl
@[simp] theorem State.mapPort_fc (i : Fin 8) (f : Port → Port) : (s.mapPort i f).fc = s.fc := rfl
@[simp] theorem State.mapPort_outs (i : Fin 8) (f : Port → Port) : (s.mapPort i f).outs = s.outs := rfl
@[simp] theorem State.mapPort_gnss (i : Fin 8) (f : Port → Port) : (s.mapPort i f).gnss = s.gnss := rfl
@[simp] theorem State.mapPort_pairs (i : Fin 8) (f : Port → Port) : (s.mapPort i f).pairs = s.pairs := rfl
@[simp] theorem State.mapPort_svc (i : Fin 8) (f : Port → Port) : (s.mapPort i f).svc = s.svc := rfl
@[simp] theorem State.mapPort_auth (i : Fin 8) (f : Port → Port) : (s.mapPort i f).auth = s.auth := rfl
@[simp] theorem State.mapPort_feeds (i : Fin 8) (f : Port → Port) : (s.mapPort i f).feeds = s.feeds := rfl
@[simp] theorem State.mapPort_cps (i : Fin 8) (f : Port → Port) : (s.mapPort i f).cps = s.cps := rfl
@[simp] theorem State.mapPort_cpBuf (i : Fin 8) (f : Port → Port) : (s.mapPort i f).cpBuf = s.cpBuf := rfl
@[simp] theorem State.mapPort_twin (i : Fin 8) (f : Port → Port) : (s.mapPort i f).twin = s.twin := rfl
@[simp] theorem State.mapPort_hosts (i : Fin 8) (f : Port → Port) : (s.mapPort i f).hosts = s.hosts := rfl
@[simp] theorem State.mapPort_locks (i : Fin 8) (f : Port → Port) : (s.mapPort i f).locks = s.locks := rfl
@[simp] theorem State.mapPort_cmds (i : Fin 8) (f : Port → Port) : (s.mapPort i f).cmds = s.cmds := rfl
@[simp] theorem State.mapPort_handled (i : Fin 8) (f : Port → Port) : (s.mapPort i f).handled = s.handled := rfl
@[simp] theorem State.mapPort_nextHandled (i : Fin 8) (f : Port → Port) : (s.mapPort i f).nextHandled = s.nextHandled := rfl
@[simp] theorem State.mapPort_groups (i : Fin 8) (f : Port → Port) : (s.mapPort i f).groups = s.groups := rfl
@[simp] theorem State.mapPort_direct (i : Fin 8) (f : Port → Port) : (s.mapPort i f).direct = s.direct := rfl
@[simp] theorem State.mapPort_flt (i : Fin 8) (f : Port → Port) : (s.mapPort i f).flt = s.flt := rfl
@[simp] theorem State.mapPort_log (i : Fin 8) (f : Port → Port) : (s.mapPort i f).log = s.log := rfl
@[simp] theorem State.mapPort_perf (i : Fin 8) (f : Port → Port) : (s.mapPort i f).perf = s.perf := rfl
@[simp] theorem State.mapPort_mon (i : Fin 8) (f : Port → Port) : (s.mapPort i f).mon = s.mon := rfl

/-! ### mapPair -/

@[simp] theorem State.mapPair_pairs (i : Fin 4) (f : Pair → Pair) : (s.mapPair i f).pairs = upd s.pairs i f := rfl
@[simp] theorem State.mapPair_pending (i : Fin 4) (f : Pair → Pair) : (s.mapPair i f).pending = s.pending := rfl
@[simp] theorem State.mapPair_freeCtr (i : Fin 4) (f : Pair → Pair) : (s.mapPair i f).freeCtr = s.freeCtr := rfl
@[simp] theorem State.mapPair_emits (i : Fin 4) (f : Pair → Pair) : (s.mapPair i f).emits = s.emits := rfl
@[simp] theorem State.mapPair_sys (i : Fin 4) (f : Pair → Pair) : (s.mapPair i f).sys = s.sys := rfl
@[simp] theorem State.mapPair_mram (i : Fin 4) (f : Pair → Pair) : (s.mapPair i f).mram = s.mram := rfl
@[simp] theorem State.mapPair_flash (i : Fin 4) (f : Pair → Pair) : (s.mapPair i f).flash = s.flash := rfl
@[simp] theorem State.mapPair_ts (i : Fin 4) (f : Pair → Pair) : (s.mapPair i f).ts = s.ts := rfl
@[simp] theorem State.mapPair_bound (i : Fin 4) (f : Pair → Pair) : (s.mapPair i f).bound = s.bound := rfl
@[simp] theorem State.mapPair_tdc (i : Fin 4) (f : Pair → Pair) : (s.mapPair i f).tdc = s.tdc := rfl
@[simp] theorem State.mapPair_calTemp (i : Fin 4) (f : Pair → Pair) : (s.mapPair i f).calTemp = s.calTemp := rfl
@[simp] theorem State.mapPair_wv (i : Fin 4) (f : Pair → Pair) : (s.mapPair i f).wv = s.wv := rfl
@[simp] theorem State.mapPair_loop (i : Fin 4) (f : Pair → Pair) : (s.mapPair i f).loop = s.loop := rfl
@[simp] theorem State.mapPair_fc (i : Fin 4) (f : Pair → Pair) : (s.mapPair i f).fc = s.fc := rfl
@[simp] theorem State.mapPair_outs (i : Fin 4) (f : Pair → Pair) : (s.mapPair i f).outs = s.outs := rfl
@[simp] theorem State.mapPair_gnss (i : Fin 4) (f : Pair → Pair) : (s.mapPair i f).gnss = s.gnss := rfl
@[simp] theorem State.mapPair_ports (i : Fin 4) (f : Pair → Pair) : (s.mapPair i f).ports = s.ports := rfl
@[simp] theorem State.mapPair_svc (i : Fin 4) (f : Pair → Pair) : (s.mapPair i f).svc = s.svc := rfl
@[simp] theorem State.mapPair_auth (i : Fin 4) (f : Pair → Pair) : (s.mapPair i f).auth = s.auth := rfl
@[simp] theorem State.mapPair_feeds (i : Fin 4) (f : Pair → Pair) : (s.mapPair i f).feeds = s.feeds := rfl
@[simp] theorem State.mapPair_cps (i : Fin 4) (f : Pair → Pair) : (s.mapPair i f).cps = s.cps := rfl
@[simp] theorem State.mapPair_cpBuf (i : Fin 4) (f : Pair → Pair) : (s.mapPair i f).cpBuf = s.cpBuf := rfl
@[simp] theorem State.mapPair_twin (i : Fin 4) (f : Pair → Pair) : (s.mapPair i f).twin = s.twin := rfl
@[simp] theorem State.mapPair_hosts (i : Fin 4) (f : Pair → Pair) : (s.mapPair i f).hosts = s.hosts := rfl
@[simp] theorem State.mapPair_locks (i : Fin 4) (f : Pair → Pair) : (s.mapPair i f).locks = s.locks := rfl
@[simp] theorem State.mapPair_cmds (i : Fin 4) (f : Pair → Pair) : (s.mapPair i f).cmds = s.cmds := rfl
@[simp] theorem State.mapPair_handled (i : Fin 4) (f : Pair → Pair) : (s.mapPair i f).handled = s.handled := rfl
@[simp] theorem State.mapPair_nextHandled (i : Fin 4) (f : Pair → Pair) : (s.mapPair i f).nextHandled = s.nextHandled := rfl
@[simp] theorem State.mapPair_groups (i : Fin 4) (f : Pair → Pair) : (s.mapPair i f).groups = s.groups := rfl
@[simp] theorem State.mapPair_direct (i : Fin 4) (f : Pair → Pair) : (s.mapPair i f).direct = s.direct := rfl
@[simp] theorem State.mapPair_flt (i : Fin 4) (f : Pair → Pair) : (s.mapPair i f).flt = s.flt := rfl
@[simp] theorem State.mapPair_log (i : Fin 4) (f : Pair → Pair) : (s.mapPair i f).log = s.log := rfl
@[simp] theorem State.mapPair_perf (i : Fin 4) (f : Pair → Pair) : (s.mapPair i f).perf = s.perf := rfl
@[simp] theorem State.mapPair_mon (i : Fin 4) (f : Pair → Pair) : (s.mapPair i f).mon = s.mon := rfl

/-! ### mapInst -/

@[simp] theorem State.mapInst_svc_inst (i : Fin 16) (f : Inst → Inst) : (s.mapInst i f).svc.inst = upd s.svc.inst i f := rfl
@[simp] theorem State.mapInst_pending (i : Fin 16) (f : Inst → Inst) : (s.mapInst i f).pending = s.pending := rfl
@[simp] theorem State.mapInst_freeCtr (i : Fin 16) (f : Inst → Inst) : (s.mapInst i f).freeCtr = s.freeCtr := rfl
@[simp] theorem State.mapInst_emits (i : Fin 16) (f : Inst → Inst) : (s.mapInst i f).emits = s.emits := rfl
@[simp] theorem State.mapInst_sys (i : Fin 16) (f : Inst → Inst) : (s.mapInst i f).sys = s.sys := rfl
@[simp] theorem State.mapInst_mram (i : Fin 16) (f : Inst → Inst) : (s.mapInst i f).mram = s.mram := rfl
@[simp] theorem State.mapInst_flash (i : Fin 16) (f : Inst → Inst) : (s.mapInst i f).flash = s.flash := rfl
@[simp] theorem State.mapInst_ts (i : Fin 16) (f : Inst → Inst) : (s.mapInst i f).ts = s.ts := rfl
@[simp] theorem State.mapInst_bound (i : Fin 16) (f : Inst → Inst) : (s.mapInst i f).bound = s.bound := rfl
@[simp] theorem State.mapInst_tdc (i : Fin 16) (f : Inst → Inst) : (s.mapInst i f).tdc = s.tdc := rfl
@[simp] theorem State.mapInst_calTemp (i : Fin 16) (f : Inst → Inst) : (s.mapInst i f).calTemp = s.calTemp := rfl
@[simp] theorem State.mapInst_wv (i : Fin 16) (f : Inst → Inst) : (s.mapInst i f).wv = s.wv := rfl
@[simp] theorem State.mapInst_loop (i : Fin 16) (f : Inst → Inst) : (s.mapInst i f).loop = s.loop := rfl
@[simp] theorem State.mapInst_fc (i : Fin 16) (f : Inst → Inst) : (s.mapInst i f).fc = s.fc := rfl
@[simp] theorem State.mapInst_outs (i : Fin 16) (f : Inst → Inst) : (s.mapInst i f).outs = s.outs := rfl
@[simp] theorem State.mapInst_gnss (i : Fin 16) (f : Inst → Inst) : (s.mapInst i f).gnss = s.gnss := rfl
@[simp] theorem State.mapInst_ports (i : Fin 16) (f : Inst → Inst) : (s.mapInst i f).ports = s.ports := rfl
@[simp] theorem State.mapInst_pairs (i : Fin 16) (f : Inst → Inst) : (s.mapInst i f).pairs = s.pairs := rfl
@[simp] theorem State.mapInst_auth (i : Fin 16) (f : Inst → Inst) : (s.mapInst i f).auth = s.auth := rfl
@[simp] theorem State.mapInst_feeds (i : Fin 16) (f : Inst → Inst) : (s.mapInst i f).feeds = s.feeds := rfl
@[simp] theorem State.mapInst_cps (i : Fin 16) (f : Inst → Inst) : (s.mapInst i f).cps = s.cps := rfl
@[simp] theorem State.mapInst_cpBuf (i : Fin 16) (f : Inst → Inst) : (s.mapInst i f).cpBuf = s.cpBuf := rfl
@[simp] theorem State.mapInst_twin (i : Fin 16) (f : Inst → Inst) : (s.mapInst i f).twin = s.twin := rfl
@[simp] theorem State.mapInst_hosts (i : Fin 16) (f : Inst → Inst) : (s.mapInst i f).hosts = s.hosts := rfl
@[simp] theorem State.mapInst_locks (i : Fin 16) (f : Inst → Inst) : (s.mapInst i f).locks = s.locks := rfl
@[simp] theorem State.mapInst_cmds (i : Fin 16) (f : Inst → Inst) : (s.mapInst i f).cmds = s.cmds := rfl
@[simp] theorem State.mapInst_handled (i : Fin 16) (f : Inst → Inst) : (s.mapInst i f).handled = s.handled := rfl
@[simp] theorem State.mapInst_nextHandled (i : Fin 16) (f : Inst → Inst) : (s.mapInst i f).nextHandled = s.nextHandled := rfl
@[simp] theorem State.mapInst_groups (i : Fin 16) (f : Inst → Inst) : (s.mapInst i f).groups = s.groups := rfl
@[simp] theorem State.mapInst_direct (i : Fin 16) (f : Inst → Inst) : (s.mapInst i f).direct = s.direct := rfl
@[simp] theorem State.mapInst_flt (i : Fin 16) (f : Inst → Inst) : (s.mapInst i f).flt = s.flt := rfl
@[simp] theorem State.mapInst_log (i : Fin 16) (f : Inst → Inst) : (s.mapInst i f).log = s.log := rfl
@[simp] theorem State.mapInst_perf (i : Fin 16) (f : Inst → Inst) : (s.mapInst i f).perf = s.perf := rfl
@[simp] theorem State.mapInst_mon (i : Fin 16) (f : Inst → Inst) : (s.mapInst i f).mon = s.mon := rfl

/-! ### mapLane -/

@[simp] theorem State.mapLane_svc_lanes (i : Fin 2) (f : Lane → Lane) : (s.mapLane i f).svc.lanes = upd s.svc.lanes i f := rfl
@[simp] theorem State.mapLane_pending (i : Fin 2) (f : Lane → Lane) : (s.mapLane i f).pending = s.pending := rfl
@[simp] theorem State.mapLane_freeCtr (i : Fin 2) (f : Lane → Lane) : (s.mapLane i f).freeCtr = s.freeCtr := rfl
@[simp] theorem State.mapLane_emits (i : Fin 2) (f : Lane → Lane) : (s.mapLane i f).emits = s.emits := rfl
@[simp] theorem State.mapLane_sys (i : Fin 2) (f : Lane → Lane) : (s.mapLane i f).sys = s.sys := rfl
@[simp] theorem State.mapLane_mram (i : Fin 2) (f : Lane → Lane) : (s.mapLane i f).mram = s.mram := rfl
@[simp] theorem State.mapLane_flash (i : Fin 2) (f : Lane → Lane) : (s.mapLane i f).flash = s.flash := rfl
@[simp] theorem State.mapLane_ts (i : Fin 2) (f : Lane → Lane) : (s.mapLane i f).ts = s.ts := rfl
@[simp] theorem State.mapLane_bound (i : Fin 2) (f : Lane → Lane) : (s.mapLane i f).bound = s.bound := rfl
@[simp] theorem State.mapLane_tdc (i : Fin 2) (f : Lane → Lane) : (s.mapLane i f).tdc = s.tdc := rfl
@[simp] theorem State.mapLane_calTemp (i : Fin 2) (f : Lane → Lane) : (s.mapLane i f).calTemp = s.calTemp := rfl
@[simp] theorem State.mapLane_wv (i : Fin 2) (f : Lane → Lane) : (s.mapLane i f).wv = s.wv := rfl
@[simp] theorem State.mapLane_loop (i : Fin 2) (f : Lane → Lane) : (s.mapLane i f).loop = s.loop := rfl
@[simp] theorem State.mapLane_fc (i : Fin 2) (f : Lane → Lane) : (s.mapLane i f).fc = s.fc := rfl
@[simp] theorem State.mapLane_outs (i : Fin 2) (f : Lane → Lane) : (s.mapLane i f).outs = s.outs := rfl
@[simp] theorem State.mapLane_gnss (i : Fin 2) (f : Lane → Lane) : (s.mapLane i f).gnss = s.gnss := rfl
@[simp] theorem State.mapLane_ports (i : Fin 2) (f : Lane → Lane) : (s.mapLane i f).ports = s.ports := rfl
@[simp] theorem State.mapLane_pairs (i : Fin 2) (f : Lane → Lane) : (s.mapLane i f).pairs = s.pairs := rfl
@[simp] theorem State.mapLane_auth (i : Fin 2) (f : Lane → Lane) : (s.mapLane i f).auth = s.auth := rfl
@[simp] theorem State.mapLane_feeds (i : Fin 2) (f : Lane → Lane) : (s.mapLane i f).feeds = s.feeds := rfl
@[simp] theorem State.mapLane_cps (i : Fin 2) (f : Lane → Lane) : (s.mapLane i f).cps = s.cps := rfl
@[simp] theorem State.mapLane_cpBuf (i : Fin 2) (f : Lane → Lane) : (s.mapLane i f).cpBuf = s.cpBuf := rfl
@[simp] theorem State.mapLane_twin (i : Fin 2) (f : Lane → Lane) : (s.mapLane i f).twin = s.twin := rfl
@[simp] theorem State.mapLane_hosts (i : Fin 2) (f : Lane → Lane) : (s.mapLane i f).hosts = s.hosts := rfl
@[simp] theorem State.mapLane_locks (i : Fin 2) (f : Lane → Lane) : (s.mapLane i f).locks = s.locks := rfl
@[simp] theorem State.mapLane_cmds (i : Fin 2) (f : Lane → Lane) : (s.mapLane i f).cmds = s.cmds := rfl
@[simp] theorem State.mapLane_handled (i : Fin 2) (f : Lane → Lane) : (s.mapLane i f).handled = s.handled := rfl
@[simp] theorem State.mapLane_nextHandled (i : Fin 2) (f : Lane → Lane) : (s.mapLane i f).nextHandled = s.nextHandled := rfl
@[simp] theorem State.mapLane_groups (i : Fin 2) (f : Lane → Lane) : (s.mapLane i f).groups = s.groups := rfl
@[simp] theorem State.mapLane_direct (i : Fin 2) (f : Lane → Lane) : (s.mapLane i f).direct = s.direct := rfl
@[simp] theorem State.mapLane_flt (i : Fin 2) (f : Lane → Lane) : (s.mapLane i f).flt = s.flt := rfl
@[simp] theorem State.mapLane_log (i : Fin 2) (f : Lane → Lane) : (s.mapLane i f).log = s.log := rfl
@[simp] theorem State.mapLane_perf (i : Fin 2) (f : Lane → Lane) : (s.mapLane i f).perf = s.perf := rfl
@[simp] theorem State.mapLane_mon (i : Fin 2) (f : Lane → Lane) : (s.mapLane i f).mon = s.mon := rfl

/-! ### mapFeed -/

@[simp] theorem State.mapFeed_feeds (i : Fin 6) (f : Feed → Feed) : (s.mapFeed i f).feeds = upd s.feeds i f := rfl
@[simp] theorem State.mapFeed_pending (i : Fin 6) (f : Feed → Feed) : (s.mapFeed i f).pending = s.pending := rfl
@[simp] theorem State.mapFeed_freeCtr (i : Fin 6) (f : Feed → Feed) : (s.mapFeed i f).freeCtr = s.freeCtr := rfl
@[simp] theorem State.mapFeed_emits (i : Fin 6) (f : Feed → Feed) : (s.mapFeed i f).emits = s.emits := rfl
@[simp] theorem State.mapFeed_sys (i : Fin 6) (f : Feed → Feed) : (s.mapFeed i f).sys = s.sys := rfl
@[simp] theorem State.mapFeed_mram (i : Fin 6) (f : Feed → Feed) : (s.mapFeed i f).mram = s.mram := rfl
@[simp] theorem State.mapFeed_flash (i : Fin 6) (f : Feed → Feed) : (s.mapFeed i f).flash = s.flash := rfl
@[simp] theorem State.mapFeed_ts (i : Fin 6) (f : Feed → Feed) : (s.mapFeed i f).ts = s.ts := rfl
@[simp] theorem State.mapFeed_bound (i : Fin 6) (f : Feed → Feed) : (s.mapFeed i f).bound = s.bound := rfl
@[simp] theorem State.mapFeed_tdc (i : Fin 6) (f : Feed → Feed) : (s.mapFeed i f).tdc = s.tdc := rfl
@[simp] theorem State.mapFeed_calTemp (i : Fin 6) (f : Feed → Feed) : (s.mapFeed i f).calTemp = s.calTemp := rfl
@[simp] theorem State.mapFeed_wv (i : Fin 6) (f : Feed → Feed) : (s.mapFeed i f).wv = s.wv := rfl
@[simp] theorem State.mapFeed_loop (i : Fin 6) (f : Feed → Feed) : (s.mapFeed i f).loop = s.loop := rfl
@[simp] theorem State.mapFeed_fc (i : Fin 6) (f : Feed → Feed) : (s.mapFeed i f).fc = s.fc := rfl
@[simp] theorem State.mapFeed_outs (i : Fin 6) (f : Feed → Feed) : (s.mapFeed i f).outs = s.outs := rfl
@[simp] theorem State.mapFeed_gnss (i : Fin 6) (f : Feed → Feed) : (s.mapFeed i f).gnss = s.gnss := rfl
@[simp] theorem State.mapFeed_ports (i : Fin 6) (f : Feed → Feed) : (s.mapFeed i f).ports = s.ports := rfl
@[simp] theorem State.mapFeed_pairs (i : Fin 6) (f : Feed → Feed) : (s.mapFeed i f).pairs = s.pairs := rfl
@[simp] theorem State.mapFeed_svc (i : Fin 6) (f : Feed → Feed) : (s.mapFeed i f).svc = s.svc := rfl
@[simp] theorem State.mapFeed_auth (i : Fin 6) (f : Feed → Feed) : (s.mapFeed i f).auth = s.auth := rfl
@[simp] theorem State.mapFeed_cps (i : Fin 6) (f : Feed → Feed) : (s.mapFeed i f).cps = s.cps := rfl
@[simp] theorem State.mapFeed_cpBuf (i : Fin 6) (f : Feed → Feed) : (s.mapFeed i f).cpBuf = s.cpBuf := rfl
@[simp] theorem State.mapFeed_twin (i : Fin 6) (f : Feed → Feed) : (s.mapFeed i f).twin = s.twin := rfl
@[simp] theorem State.mapFeed_hosts (i : Fin 6) (f : Feed → Feed) : (s.mapFeed i f).hosts = s.hosts := rfl
@[simp] theorem State.mapFeed_locks (i : Fin 6) (f : Feed → Feed) : (s.mapFeed i f).locks = s.locks := rfl
@[simp] theorem State.mapFeed_cmds (i : Fin 6) (f : Feed → Feed) : (s.mapFeed i f).cmds = s.cmds := rfl
@[simp] theorem State.mapFeed_handled (i : Fin 6) (f : Feed → Feed) : (s.mapFeed i f).handled = s.handled := rfl
@[simp] theorem State.mapFeed_nextHandled (i : Fin 6) (f : Feed → Feed) : (s.mapFeed i f).nextHandled = s.nextHandled := rfl
@[simp] theorem State.mapFeed_groups (i : Fin 6) (f : Feed → Feed) : (s.mapFeed i f).groups = s.groups := rfl
@[simp] theorem State.mapFeed_direct (i : Fin 6) (f : Feed → Feed) : (s.mapFeed i f).direct = s.direct := rfl
@[simp] theorem State.mapFeed_flt (i : Fin 6) (f : Feed → Feed) : (s.mapFeed i f).flt = s.flt := rfl
@[simp] theorem State.mapFeed_log (i : Fin 6) (f : Feed → Feed) : (s.mapFeed i f).log = s.log := rfl
@[simp] theorem State.mapFeed_perf (i : Fin 6) (f : Feed → Feed) : (s.mapFeed i f).perf = s.perf := rfl
@[simp] theorem State.mapFeed_mon (i : Fin 6) (f : Feed → Feed) : (s.mapFeed i f).mon = s.mon := rfl

/-! ### mapCp -/

@[simp] theorem State.mapCp_cps (i : Fin 8) (f : ConvPort → ConvPort) : (s.mapCp i f).cps = upd s.cps i f := rfl
@[simp] theorem State.mapCp_pending (i : Fin 8) (f : ConvPort → ConvPort) : (s.mapCp i f).pending = s.pending := rfl
@[simp] theorem State.mapCp_freeCtr (i : Fin 8) (f : ConvPort → ConvPort) : (s.mapCp i f).freeCtr = s.freeCtr := rfl
@[simp] theorem State.mapCp_emits (i : Fin 8) (f : ConvPort → ConvPort) : (s.mapCp i f).emits = s.emits := rfl
@[simp] theorem State.mapCp_sys (i : Fin 8) (f : ConvPort → ConvPort) : (s.mapCp i f).sys = s.sys := rfl
@[simp] theorem State.mapCp_mram (i : Fin 8) (f : ConvPort → ConvPort) : (s.mapCp i f).mram = s.mram := rfl
@[simp] theorem State.mapCp_flash (i : Fin 8) (f : ConvPort → ConvPort) : (s.mapCp i f).flash = s.flash := rfl
@[simp] theorem State.mapCp_ts (i : Fin 8) (f : ConvPort → ConvPort) : (s.mapCp i f).ts = s.ts := rfl
@[simp] theorem State.mapCp_bound (i : Fin 8) (f : ConvPort → ConvPort) : (s.mapCp i f).bound = s.bound := rfl
@[simp] theorem State.mapCp_tdc (i : Fin 8) (f : ConvPort → ConvPort) : (s.mapCp i f).tdc = s.tdc := rfl
@[simp] theorem State.mapCp_calTemp (i : Fin 8) (f : ConvPort → ConvPort) : (s.mapCp i f).calTemp = s.calTemp := rfl
@[simp] theorem State.mapCp_wv (i : Fin 8) (f : ConvPort → ConvPort) : (s.mapCp i f).wv = s.wv := rfl
@[simp] theorem State.mapCp_loop (i : Fin 8) (f : ConvPort → ConvPort) : (s.mapCp i f).loop = s.loop := rfl
@[simp] theorem State.mapCp_fc (i : Fin 8) (f : ConvPort → ConvPort) : (s.mapCp i f).fc = s.fc := rfl
@[simp] theorem State.mapCp_outs (i : Fin 8) (f : ConvPort → ConvPort) : (s.mapCp i f).outs = s.outs := rfl
@[simp] theorem State.mapCp_gnss (i : Fin 8) (f : ConvPort → ConvPort) : (s.mapCp i f).gnss = s.gnss := rfl
@[simp] theorem State.mapCp_ports (i : Fin 8) (f : ConvPort → ConvPort) : (s.mapCp i f).ports = s.ports := rfl
@[simp] theorem State.mapCp_pairs (i : Fin 8) (f : ConvPort → ConvPort) : (s.mapCp i f).pairs = s.pairs := rfl
@[simp] theorem State.mapCp_svc (i : Fin 8) (f : ConvPort → ConvPort) : (s.mapCp i f).svc = s.svc := rfl
@[simp] theorem State.mapCp_auth (i : Fin 8) (f : ConvPort → ConvPort) : (s.mapCp i f).auth = s.auth := rfl
@[simp] theorem State.mapCp_feeds (i : Fin 8) (f : ConvPort → ConvPort) : (s.mapCp i f).feeds = s.feeds := rfl
@[simp] theorem State.mapCp_cpBuf (i : Fin 8) (f : ConvPort → ConvPort) : (s.mapCp i f).cpBuf = s.cpBuf := rfl
@[simp] theorem State.mapCp_twin (i : Fin 8) (f : ConvPort → ConvPort) : (s.mapCp i f).twin = s.twin := rfl
@[simp] theorem State.mapCp_hosts (i : Fin 8) (f : ConvPort → ConvPort) : (s.mapCp i f).hosts = s.hosts := rfl
@[simp] theorem State.mapCp_locks (i : Fin 8) (f : ConvPort → ConvPort) : (s.mapCp i f).locks = s.locks := rfl
@[simp] theorem State.mapCp_cmds (i : Fin 8) (f : ConvPort → ConvPort) : (s.mapCp i f).cmds = s.cmds := rfl
@[simp] theorem State.mapCp_handled (i : Fin 8) (f : ConvPort → ConvPort) : (s.mapCp i f).handled = s.handled := rfl
@[simp] theorem State.mapCp_nextHandled (i : Fin 8) (f : ConvPort → ConvPort) : (s.mapCp i f).nextHandled = s.nextHandled := rfl
@[simp] theorem State.mapCp_groups (i : Fin 8) (f : ConvPort → ConvPort) : (s.mapCp i f).groups = s.groups := rfl
@[simp] theorem State.mapCp_direct (i : Fin 8) (f : ConvPort → ConvPort) : (s.mapCp i f).direct = s.direct := rfl
@[simp] theorem State.mapCp_flt (i : Fin 8) (f : ConvPort → ConvPort) : (s.mapCp i f).flt = s.flt := rfl
@[simp] theorem State.mapCp_log (i : Fin 8) (f : ConvPort → ConvPort) : (s.mapCp i f).log = s.log := rfl
@[simp] theorem State.mapCp_perf (i : Fin 8) (f : ConvPort → ConvPort) : (s.mapCp i f).perf = s.perf := rfl
@[simp] theorem State.mapCp_mon (i : Fin 8) (f : ConvPort → ConvPort) : (s.mapCp i f).mon = s.mon := rfl

/-! ### mapStream -/

@[simp] theorem State.mapStream_gnss_streams (i : Fin 4) (f : Stream → Stream) : (s.mapStream i f).gnss.streams = upd s.gnss.streams i f := rfl
@[simp] theorem State.mapStream_pending (i : Fin 4) (f : Stream → Stream) : (s.mapStream i f).pending = s.pending := rfl
@[simp] theorem State.mapStream_freeCtr (i : Fin 4) (f : Stream → Stream) : (s.mapStream i f).freeCtr = s.freeCtr := rfl
@[simp] theorem State.mapStream_emits (i : Fin 4) (f : Stream → Stream) : (s.mapStream i f).emits = s.emits := rfl
@[simp] theorem State.mapStream_sys (i : Fin 4) (f : Stream → Stream) : (s.mapStream i f).sys = s.sys := rfl
@[simp] theorem State.mapStream_mram (i : Fin 4) (f : Stream → Stream) : (s.mapStream i f).mram = s.mram := rfl
@[simp] theorem State.mapStream_flash (i : Fin 4) (f : Stream → Stream) : (s.mapStream i f).flash = s.flash := rfl
@[simp] theorem State.mapStream_ts (i : Fin 4) (f : Stream → Stream) : (s.mapStream i f).ts = s.ts := rfl
@[simp] theorem State.mapStream_bound (i : Fin 4) (f : Stream → Stream) : (s.mapStream i f).bound = s.bound := rfl
@[simp] theorem State.mapStream_tdc (i : Fin 4) (f : Stream → Stream) : (s.mapStream i f).tdc = s.tdc := rfl
@[simp] theorem State.mapStream_calTemp (i : Fin 4) (f : Stream → Stream) : (s.mapStream i f).calTemp = s.calTemp := rfl
@[simp] theorem State.mapStream_wv (i : Fin 4) (f : Stream → Stream) : (s.mapStream i f).wv = s.wv := rfl
@[simp] theorem State.mapStream_loop (i : Fin 4) (f : Stream → Stream) : (s.mapStream i f).loop = s.loop := rfl
@[simp] theorem State.mapStream_fc (i : Fin 4) (f : Stream → Stream) : (s.mapStream i f).fc = s.fc := rfl
@[simp] theorem State.mapStream_outs (i : Fin 4) (f : Stream → Stream) : (s.mapStream i f).outs = s.outs := rfl
@[simp] theorem State.mapStream_ports (i : Fin 4) (f : Stream → Stream) : (s.mapStream i f).ports = s.ports := rfl
@[simp] theorem State.mapStream_pairs (i : Fin 4) (f : Stream → Stream) : (s.mapStream i f).pairs = s.pairs := rfl
@[simp] theorem State.mapStream_svc (i : Fin 4) (f : Stream → Stream) : (s.mapStream i f).svc = s.svc := rfl
@[simp] theorem State.mapStream_auth (i : Fin 4) (f : Stream → Stream) : (s.mapStream i f).auth = s.auth := rfl
@[simp] theorem State.mapStream_feeds (i : Fin 4) (f : Stream → Stream) : (s.mapStream i f).feeds = s.feeds := rfl
@[simp] theorem State.mapStream_cps (i : Fin 4) (f : Stream → Stream) : (s.mapStream i f).cps = s.cps := rfl
@[simp] theorem State.mapStream_cpBuf (i : Fin 4) (f : Stream → Stream) : (s.mapStream i f).cpBuf = s.cpBuf := rfl
@[simp] theorem State.mapStream_twin (i : Fin 4) (f : Stream → Stream) : (s.mapStream i f).twin = s.twin := rfl
@[simp] theorem State.mapStream_hosts (i : Fin 4) (f : Stream → Stream) : (s.mapStream i f).hosts = s.hosts := rfl
@[simp] theorem State.mapStream_locks (i : Fin 4) (f : Stream → Stream) : (s.mapStream i f).locks = s.locks := rfl
@[simp] theorem State.mapStream_cmds (i : Fin 4) (f : Stream → Stream) : (s.mapStream i f).cmds = s.cmds := rfl
@[simp] theorem State.mapStream_handled (i : Fin 4) (f : Stream → Stream) : (s.mapStream i f).handled = s.handled := rfl
@[simp] theorem State.mapStream_nextHandled (i : Fin 4) (f : Stream → Stream) : (s.mapStream i f).nextHandled = s.nextHandled := rfl
@[simp] theorem State.mapStream_groups (i : Fin 4) (f : Stream → Stream) : (s.mapStream i f).groups = s.groups := rfl
@[simp] theorem State.mapStream_direct (i : Fin 4) (f : Stream → Stream) : (s.mapStream i f).direct = s.direct := rfl
@[simp] theorem State.mapStream_flt (i : Fin 4) (f : Stream → Stream) : (s.mapStream i f).flt = s.flt := rfl
@[simp] theorem State.mapStream_log (i : Fin 4) (f : Stream → Stream) : (s.mapStream i f).log = s.log := rfl
@[simp] theorem State.mapStream_perf (i : Fin 4) (f : Stream → Stream) : (s.mapStream i f).perf = s.perf := rfl
@[simp] theorem State.mapStream_mon (i : Fin 4) (f : Stream → Stream) : (s.mapStream i f).mon = s.mon := rfl

/-! ### mapGroup -/

@[simp] theorem State.mapGroup_groups (i : Fin 8) (f : UpdateGroup → UpdateGroup) : (s.mapGroup i f).groups = upd s.groups i f := rfl
@[simp] theorem State.mapGroup_pending (i : Fin 8) (f : UpdateGroup → UpdateGroup) : (s.mapGroup i f).pending = s.pending := rfl
@[simp] theorem State.mapGroup_freeCtr (i : Fin 8) (f : UpdateGroup → UpdateGroup) : (s.mapGroup i f).freeCtr = s.freeCtr := rfl
@[simp] theorem State.mapGroup_emits (i : Fin 8) (f : UpdateGroup → UpdateGroup) : (s.mapGroup i f).emits = s.emits := rfl
@[simp] theorem State.mapGroup_sys (i : Fin 8) (f : UpdateGroup → UpdateGroup) : (s.mapGroup i f).sys = s.sys := rfl
@[simp] theorem State.mapGroup_mram (i : Fin 8) (f : UpdateGroup → UpdateGroup) : (s.mapGroup i f).mram = s.mram := rfl
@[simp] theorem State.mapGroup_flash (i : Fin 8) (f : UpdateGroup → UpdateGroup) : (s.mapGroup i f).flash = s.flash := rfl
@[simp] theorem State.mapGroup_ts (i : Fin 8) (f : UpdateGroup → UpdateGroup) : (s.mapGroup i f).ts = s.ts := rfl
@[simp] theorem State.mapGroup_bound (i : Fin 8) (f : UpdateGroup → UpdateGroup) : (s.mapGroup i f).bound = s.bound := rfl
@[simp] theorem State.mapGroup_tdc (i : Fin 8) (f : UpdateGroup → UpdateGroup) : (s.mapGroup i f).tdc = s.tdc := rfl
@[simp] theorem State.mapGroup_calTemp (i : Fin 8) (f : UpdateGroup → UpdateGroup) : (s.mapGroup i f).calTemp = s.calTemp := rfl
@[simp] theorem State.mapGroup_wv (i : Fin 8) (f : UpdateGroup → UpdateGroup) : (s.mapGroup i f).wv = s.wv := rfl
@[simp] theorem State.mapGroup_loop (i : Fin 8) (f : UpdateGroup → UpdateGroup) : (s.mapGroup i f).loop = s.loop := rfl
@[simp] theorem State.mapGroup_fc (i : Fin 8) (f : UpdateGroup → UpdateGroup) : (s.mapGroup i f).fc = s.fc := rfl
@[simp] theorem State.mapGroup_outs (i : Fin 8) (f : UpdateGroup → UpdateGroup) : (s.mapGroup i f).outs = s.outs := rfl
@[simp] theorem State.mapGroup_gnss (i : Fin 8) (f : UpdateGroup → UpdateGroup) : (s.mapGroup i f).gnss = s.gnss := rfl
@[simp] theorem State.mapGroup_ports (i : Fin 8) (f : UpdateGroup → UpdateGroup) : (s.mapGroup i f).ports = s.ports := rfl
@[simp] theorem State.mapGroup_pairs (i : Fin 8) (f : UpdateGroup → UpdateGroup) : (s.mapGroup i f).pairs = s.pairs := rfl
@[simp] theorem State.mapGroup_svc (i : Fin 8) (f : UpdateGroup → UpdateGroup) : (s.mapGroup i f).svc = s.svc := rfl
@[simp] theorem State.mapGroup_auth (i : Fin 8) (f : UpdateGroup → UpdateGroup) : (s.mapGroup i f).auth = s.auth := rfl
@[simp] theorem State.mapGroup_feeds (i : Fin 8) (f : UpdateGroup → UpdateGroup) : (s.mapGroup i f).feeds = s.feeds := rfl
@[simp] theorem State.mapGroup_cps (i : Fin 8) (f : UpdateGroup → UpdateGroup) : (s.mapGroup i f).cps = s.cps := rfl
@[simp] theorem State.mapGroup_cpBuf (i : Fin 8) (f : UpdateGroup → UpdateGroup) : (s.mapGroup i f).cpBuf = s.cpBuf := rfl
@[simp] theorem State.mapGroup_twin (i : Fin 8) (f : UpdateGroup → UpdateGroup) : (s.mapGroup i f).twin = s.twin := rfl
@[simp] theorem State.mapGroup_hosts (i : Fin 8) (f : UpdateGroup → UpdateGroup) : (s.mapGroup i f).hosts = s.hosts := rfl
@[simp] theorem State.mapGroup_locks (i : Fin 8) (f : UpdateGroup → UpdateGroup) : (s.mapGroup i f).locks = s.locks := rfl
@[simp] theorem State.mapGroup_cmds (i : Fin 8) (f : UpdateGroup → UpdateGroup) : (s.mapGroup i f).cmds = s.cmds := rfl
@[simp] theorem State.mapGroup_handled (i : Fin 8) (f : UpdateGroup → UpdateGroup) : (s.mapGroup i f).handled = s.handled := rfl
@[simp] theorem State.mapGroup_nextHandled (i : Fin 8) (f : UpdateGroup → UpdateGroup) : (s.mapGroup i f).nextHandled = s.nextHandled := rfl
@[simp] theorem State.mapGroup_direct (i : Fin 8) (f : UpdateGroup → UpdateGroup) : (s.mapGroup i f).direct = s.direct := rfl
@[simp] theorem State.mapGroup_flt (i : Fin 8) (f : UpdateGroup → UpdateGroup) : (s.mapGroup i f).flt = s.flt := rfl
@[simp] theorem State.mapGroup_log (i : Fin 8) (f : UpdateGroup → UpdateGroup) : (s.mapGroup i f).log = s.log := rfl
@[simp] theorem State.mapGroup_perf (i : Fin 8) (f : UpdateGroup → UpdateGroup) : (s.mapGroup i f).perf = s.perf := rfl
@[simp] theorem State.mapGroup_mon (i : Fin 8) (f : UpdateGroup → UpdateGroup) : (s.mapGroup i f).mon = s.mon := rfl

/-! ### emit and drawn -/

@[simp] theorem State.emit_emits (e : Emit) : (s.emit e).emits = e :: s.emits := rfl
@[simp] theorem State.emit_pending (e : Emit) : (s.emit e).pending = s.pending := rfl
@[simp] theorem State.emit_freeCtr (e : Emit) : (s.emit e).freeCtr = s.freeCtr := rfl
@[simp] theorem State.emit_sys (e : Emit) : (s.emit e).sys = s.sys := rfl
@[simp] theorem State.emit_mram (e : Emit) : (s.emit e).mram = s.mram := rfl
@[simp] theorem State.emit_flash (e : Emit) : (s.emit e).flash = s.flash := rfl
@[simp] theorem State.emit_ts (e : Emit) : (s.emit e).ts = s.ts := rfl
@[simp] theorem State.emit_bound (e : Emit) : (s.emit e).bound = s.bound := rfl
@[simp] theorem State.emit_tdc (e : Emit) : (s.emit e).tdc = s.tdc := rfl
@[simp] theorem State.emit_calTemp (e : Emit) : (s.emit e).calTemp = s.calTemp := rfl
@[simp] theorem State.emit_wv (e : Emit) : (s.emit e).wv = s.wv := rfl
@[simp] theorem State.emit_loop (e : Emit) : (s.emit e).loop = s.loop := rfl
@[simp] theorem State.emit_fc (e : Emit) : (s.emit e).fc = s.fc := rfl
@[simp] theorem State.emit_outs (e : Emit) : (s.emit e).outs = s.outs := rfl
@[simp] theorem State.emit_gnss (e : Emit) : (s.emit e).gnss = s.gnss := rfl
@[simp] theorem State.emit_ports (e : Emit) : (s.emit e).ports = s.ports := rfl
@[simp] theorem State.emit_pairs (e : Emit) : (s.emit e).pairs = s.pairs := rfl
@[simp] theorem State.emit_svc (e : Emit) : (s.emit e).svc = s.svc := rfl
@[simp] theorem State.emit_auth (e : Emit) : (s.emit e).auth = s.auth := rfl
@[simp] theorem State.emit_feeds (e : Emit) : (s.emit e).feeds = s.feeds := rfl
@[simp] theorem State.emit_cps (e : Emit) : (s.emit e).cps = s.cps := rfl
@[simp] theorem State.emit_cpBuf (e : Emit) : (s.emit e).cpBuf = s.cpBuf := rfl
@[simp] theorem State.emit_twin (e : Emit) : (s.emit e).twin = s.twin := rfl
@[simp] theorem State.emit_hosts (e : Emit) : (s.emit e).hosts = s.hosts := rfl
@[simp] theorem State.emit_locks (e : Emit) : (s.emit e).locks = s.locks := rfl
@[simp] theorem State.emit_cmds (e : Emit) : (s.emit e).cmds = s.cmds := rfl
@[simp] theorem State.emit_handled (e : Emit) : (s.emit e).handled = s.handled := rfl
@[simp] theorem State.emit_nextHandled (e : Emit) : (s.emit e).nextHandled = s.nextHandled := rfl
@[simp] theorem State.emit_groups (e : Emit) : (s.emit e).groups = s.groups := rfl
@[simp] theorem State.emit_direct (e : Emit) : (s.emit e).direct = s.direct := rfl
@[simp] theorem State.emit_flt (e : Emit) : (s.emit e).flt = s.flt := rfl
@[simp] theorem State.emit_log (e : Emit) : (s.emit e).log = s.log := rfl
@[simp] theorem State.emit_perf (e : Emit) : (s.emit e).perf = s.perf := rfl
@[simp] theorem State.emit_mon (e : Emit) : (s.emit e).mon = s.mon := rfl
@[simp] theorem State.drawn_freeCtr : s.drawn.freeCtr = s.freeCtr + 1 := rfl
@[simp] theorem State.drawn_pending : s.drawn.pending = s.pending := rfl
@[simp] theorem State.drawn_emits : s.drawn.emits = s.emits := rfl
@[simp] theorem State.drawn_sys : s.drawn.sys = s.sys := rfl
@[simp] theorem State.drawn_mram : s.drawn.mram = s.mram := rfl
@[simp] theorem State.drawn_flash : s.drawn.flash = s.flash := rfl
@[simp] theorem State.drawn_ts : s.drawn.ts = s.ts := rfl
@[simp] theorem State.drawn_bound : s.drawn.bound = s.bound := rfl
@[simp] theorem State.drawn_tdc : s.drawn.tdc = s.tdc := rfl
@[simp] theorem State.drawn_calTemp : s.drawn.calTemp = s.calTemp := rfl
@[simp] theorem State.drawn_wv : s.drawn.wv = s.wv := rfl
@[simp] theorem State.drawn_loop : s.drawn.loop = s.loop := rfl
@[simp] theorem State.drawn_fc : s.drawn.fc = s.fc := rfl
@[simp] theorem State.drawn_outs : s.drawn.outs = s.outs := rfl
@[simp] theorem State.drawn_gnss : s.drawn.gnss = s.gnss := rfl
@[simp] theorem State.drawn_ports : s.drawn.ports = s.ports := rfl
@[simp] theorem State.drawn_pairs : s.drawn.pairs = s.pairs := rfl
@[simp] theorem State.drawn_svc : s.drawn.svc = s.svc := rfl
@[simp] theorem State.drawn_auth : s.drawn.auth = s.auth := rfl
@[simp] theorem State.drawn_feeds : s.drawn.feeds = s.feeds := rfl
@[simp] theorem State.drawn_cps : s.drawn.cps = s.cps := rfl
@[simp] theorem State.drawn_cpBuf : s.drawn.cpBuf = s.cpBuf := rfl
@[simp] theorem State.drawn_twin : s.drawn.twin = s.twin := rfl
@[simp] theorem State.drawn_hosts : s.drawn.hosts = s.hosts := rfl
@[simp] theorem State.drawn_locks : s.drawn.locks = s.locks := rfl
@[simp] theorem State.drawn_cmds : s.drawn.cmds = s.cmds := rfl
@[simp] theorem State.drawn_handled : s.drawn.handled = s.handled := rfl
@[simp] theorem State.drawn_nextHandled : s.drawn.nextHandled = s.nextHandled := rfl
@[simp] theorem State.drawn_groups : s.drawn.groups = s.groups := rfl
@[simp] theorem State.drawn_direct : s.drawn.direct = s.direct := rfl
@[simp] theorem State.drawn_flt : s.drawn.flt = s.flt := rfl
@[simp] theorem State.drawn_log : s.drawn.log = s.log := rfl
@[simp] theorem State.drawn_perf : s.drawn.perf = s.perf := rfl
@[simp] theorem State.drawn_mon : s.drawn.mon = s.mon := rfl

end Sys2Proof.Machine
end

