-- ==== Sys2Proof/Laws/Ops.lean ====
section
/-! SUPPORT. What each shared operation can change: every other field of the state stays. Four relations say how far an operation reaches; each is closed under doing one operation after another. -/

namespace Sys2Proof.Machine

variable (s : State)

/-! ### How far an operation reaches -/

/-- Only outputs leave. -/
def Speaks (s t : State) : Prop := ∃ e, t = { s with emits := e }
/-- Only host ports change and outputs leave. -/
def TouchesHosts (s t : State) : Prop := ∃ h e, t = { s with hosts := h, emits := e }
/-- Only the fault collector changes. -/
def TouchesFaults (s t : State) : Prop := ∃ c, t = { s with flt := c }
/-- Only what reports to the hosts and outlasts the moment changes: host ports, outputs, the collector, the trouble log, the MRAM, and the counter of free values. -/
def Reports (s t : State) : Prop :=
  ∃ h e c l m n, t = { s with hosts := h, emits := e, flt := c, log := l, mram := m, freeCtr := n }

variable {s} {t u : State}

theorem TouchesHosts.refl : TouchesHosts s s := ⟨s.hosts, s.emits, rfl⟩
theorem TouchesFaults.refl : TouchesFaults s s := ⟨s.flt, rfl⟩
theorem Speaks.refl : Speaks s s := ⟨s.emits, rfl⟩
theorem Reports.refl : Reports s s := ⟨s.hosts, s.emits, s.flt, s.log, s.mram, s.freeCtr, rfl⟩

theorem Speaks.hosts (a : Speaks s t) : TouchesHosts s t := a.elim fun e he => he ▸ ⟨s.hosts, e, rfl⟩
theorem TouchesHosts.reports (a : TouchesHosts s t) : Reports s t := a.elim fun h ⟨e, he⟩ => he ▸ ⟨h, e, s.flt, s.log, s.mram, s.freeCtr, rfl⟩
theorem TouchesFaults.reports (a : TouchesFaults s t) : Reports s t := a.elim fun c hc => hc ▸ ⟨s.hosts, s.emits, c, s.log, s.mram, s.freeCtr, rfl⟩

theorem Speaks.trans (a : Speaks s t) (b : Speaks t u) : Speaks s u := by
  obtain ⟨_, rfl⟩ := a; obtain ⟨e, rfl⟩ := b; exact ⟨e, rfl⟩
theorem TouchesHosts.trans (a : TouchesHosts s t) (b : TouchesHosts t u) : TouchesHosts s u := by
  obtain ⟨_, _, rfl⟩ := a; obtain ⟨h, e, rfl⟩ := b; exact ⟨h, e, rfl⟩
theorem TouchesFaults.trans (a : TouchesFaults s t) (b : TouchesFaults t u) : TouchesFaults s u := by
  obtain ⟨_, rfl⟩ := a; obtain ⟨c, rfl⟩ := b; exact ⟨c, rfl⟩
theorem Reports.trans (a : Reports s t) (b : Reports t u) : Reports s u := by
  obtain ⟨_, _, _, _, _, _, rfl⟩ := a; obtain ⟨h, e, c, l, m, n, rfl⟩ := b; exact ⟨h, e, c, l, m, n, rfl⟩

/-- An element of `hosts` changed. -/
theorem State.mapHost_touches (p : Fin 4) (f : HostPort → HostPort) : TouchesHosts s (s.mapHost p f) := ⟨_, s.emits, rfl⟩

variable (s)

/-- What holds of a state and is kept by each step of a walk holds after the walk. -/
theorem State.each_keeps {α : Type} {P : State → Prop} (l : List α) (f : State → α → State) (h0 : P s)
    (hf : ∀ t x, P t → P (f t x)) : P (s.each l f) :=
  List.foldlRecOn l f h0 fun t ht x _ => hf t x ht

/-! ### Interrupts and doorbells -/

/-- MSI-X messages only leave the block. -/
theorem State.msix_only (p : Fin 4) (v : Nat) : Speaks s (s.msix p v) := by
  rw [State.msix]
  split
  exacts [⟨_, rfl⟩, Speaks.refl]

/-- A doorbell changes host ports and outputs. -/
theorem State.ring_only (p : Fin 4) (b : Nat) : TouchesHosts s (s.ring p b) := by
  rw [State.ring]
  split
  · exact (State.mapHost_touches p _).trans (State.msix_only _ p 0).hosts
  · exact State.mapHost_touches p _

/-- A hardware status event changes host ports and outputs. -/
theorem State.hwEvent_only (p : Fin 4) (b : Nat) : TouchesHosts s (s.hwEvent p b) := by
  rw [State.hwEvent]
  split
  · exact (State.mapHost_touches p _).trans (State.msix_only _ p 1).hosts
  · exact State.mapHost_touches p _

/-- A level source changes outputs only. -/
theorem State.hwLevelRise_only (p : Fin 4) (b : Nat) : Speaks s (s.hwLevelRise p b) := by
  rw [State.hwLevelRise]
  split
  exacts [Speaks.refl, State.msix_only s p 1]

/-! ### Faults -/

/-- A message at its queue changes the collector only. -/
theorem State.pushMsg_only (m : FaultMsg) : TouchesFaults s (s.pushMsg m) := by
  rw [State.pushMsg]
  dsimp only
  split <;> exact ⟨_, rfl⟩

/-- FAULT_DROPPED changes the collector only. -/
theorem State.raiseDropped_only (i : Fin 16) : TouchesFaults s (s.raiseDropped i) := by
  rw [State.raiseDropped]
  split
  · exact TouchesFaults.trans ⟨{ s.flt with droppedAt := s.flt.droppedAt.set i (some s.sys.cyc) }, rfl⟩ (State.pushMsg_only _ _)
  · exact TouchesFaults.refl

/-- Raising a fault changes the collector only. -/
theorem State.raise_only (k : FaultKind) (d : Nat) : TouchesFaults s (s.raise k d) := by
  rw [State.raise]
  dsimp only
  have noted : ∀ t : State, TouchesFaults t (if (k.cond && !s.flt.present.contains (k.msg d)) = true
      then { t with flt.present := t.flt.present ++ [k.msg d] } else t) := fun t => by
    split
    exacts [⟨_, rfl⟩, TouchesFaults.refl]
  have sent : TouchesFaults s (if 16 ≤ s.flt.queues[sourceIx k.source].length
      then (s.pushMsg (k.msg d)).raiseDropped (sourceIx k.source) else s.pushMsg (k.msg d)) := by
    split
    exacts [(State.pushMsg_only s _).trans (State.raiseDropped_only _ _), State.pushMsg_only s _]
  simpa using sent.trans (noted _)

/-- A cause that goes changes the collector only. -/
theorem State.causeGone_only (k : FaultKind) (p : Nat → Bool) : TouchesFaults s (s.causeGone k p) := ⟨_, rfl⟩

/-- A condition changes the collector only. -/
theorem State.condition_only (k : FaultKind) (d : Nat) : TouchesFaults s (s.condition k d) := by
  rw [State.condition]
  split
  exacts [TouchesFaults.refl, State.raise_only s k d]

/-- A late stamp's fault changes the collector only. -/
theorem State.noteLate_only (t : Stamp) (who : Nat) : TouchesFaults s (s.noteLate t who) := by
  rw [State.noteLate]
  split
  exacts [State.raise_only s _ _, TouchesFaults.refl]

/-! ### Notices, the log, checkpoints, the monitor -/

/-- Words written into parcel memory change that host port only. -/
theorem State.parcelWrite_only (p : Fin 4) (i : Nat) (ws : List Word) :
    s.parcelWrite p i ws = { s with hosts := upd s.hosts p fun h => { h with parcel := memWriteWords h.parcel (4 * i) ws } } := rfl

/-- A notice reports, and leaves the log, the MRAM and the counter alone. -/
theorem State.noticePort_only (p : Fin 4) (code : Nat) (a0 a1 : Word) (t : Int) (cyc : Nat) :
    Reports s (s.noticePort p code a0 a1 t cyc) := by
  rw [State.noticePort]
  dsimp only
  split
  · exact Reports.refl
  · split
    · exact ((State.mapHost_touches p _).trans (State.ring_only _ p 17)).reports.trans (State.raise_only _ _ _).reports
    · exact (((State.mapHost_touches p _).trans (State.mapHost_touches p _)).trans (State.ring_only _ p 16)).reports

/-- A notice to every port reports. -/
theorem State.notice_only (code : Nat) (a0 a1 : Word) : Reports s (s.notice code a0 a1) := by
  rw [State.notice]
  exact State.each_keeps s _ _ Reports.refl fun t p h => h.trans (State.noticePort_only t p code a0 a1 _ _)

/-- A log entry changes the trouble log only. -/
theorem State.logAt_only (type flags : Nat) (a0 a1 : Word) (cyc : Nat) : ∃ l, s.logAt type flags a0 a1 cyc = { s with log := l } := ⟨_, rfl⟩

/-- A checkpoint changes the MRAM, and the collector where its write fails. -/
theorem State.checkpoint_only : ∃ m c n, s.checkpoint = { s with mram := m, flt := c, freeCtr := n } := ⟨_, _, _, rfl⟩

/-- Monitor output only leaves the block. -/
theorem State.monOut_only (t : String) : Speaks s (s.monOut t) := by
  rw [State.monOut]
  split
  exacts [⟨_, rfl⟩, Speaks.refl]

/-- A monitor line only leaves the block. -/
theorem State.print_only (t : String) : Speaks s (s.print t) := State.monOut_only s _

/-- The prompt only leaves the block. -/
theorem State.promptAgain_only : Speaks s s.promptAgain := State.monOut_only s _

/-- What a state change of R29 itself sets: the engine state, the warm-up time on entry to WARMUP, and the end of Forecast's observation. -/
def State.inEngine (s : State) (e : EngineState) : State :=
  { s with
    fc.obsBreak := s.sys.cyc,
    sys := { s.sys with engine := e, warmupStart := if e = .warmup then s.sys.cyc else s.sys.warmupStart,
                        warmupOver := if e = .warmup then false else s.sys.warmupOver } }

/-- A state change of R29 to another state sets that, and for the rest only reports. -/
theorem State.setEngine_only (e : EngineState) (he : s.sys.engine ≠ e) : Reports (s.inEngine e) (s.setEngine e) := by
  rw [State.setEngine, if_neg he]
  have tail : ∀ t : State, Reports t ((t.print ("STATE " ++ e.name)).promptAgain) := fun t =>
    ((State.print_only t _).trans (State.promptAgain_only _)).hosts.reports
  have log : Reports (s.inEngine e) ((s.inEngine e).logAt 2 0 (BitVec.ofNat 32 (s.sys.engine.code + e.code * 16)) 0 s.sys.cyc) :=
    ⟨_, _, _, _, _, _, rfl⟩
  have said := log.trans (State.notice_only _ 1 (BitVec.ofNat 32 (s.sys.engine.code + e.code * 16)) 0)
  dsimp only
  split
  · exact said.trans (tail _)
  · exact (said.trans ⟨_, _, _, _, _, _, rfl⟩).trans (tail _)

/-- After a state change the engine is in the new state. -/
theorem State.setEngine_engine (e : EngineState) : (s.setEngine e).sys.engine = e := by
  by_cases he : s.sys.engine = e
  · rw [State.setEngine, if_pos he, he]
  · obtain ⟨h, o, c, l, m, n, hr⟩ := State.setEngine_only s e he
    rw [hr]; rfl

/-! ### Replies and commands -/

/-- Replies that move into an outbound mailbox change host ports and outputs. -/
theorem State.drainOmb_only (p : Fin 4) (m : Fin 8) : TouchesHosts s (s.drainOmb p m) := by
  rw [State.drainOmb]
  dsimp only
  split
  · exact State.mapHost_touches p _
  · split
    exacts [State.mapHost_touches p _, (State.mapHost_touches p _).trans (State.ring_only _ p m.val)]

/-- A reply changes host ports and outputs. -/
theorem State.reply_only (p : Fin 4) (m : Fin 8) (w : Word) : TouchesHosts s (s.reply p m w) :=
  (State.mapHost_touches p _).trans (State.drainOmb_only _ p m)

/-- A result changes host ports only. -/
theorem State.writeResult_only (p : Fin 4) (ofs : Nat) (ws : List Word) : TouchesHosts s (s.writeResult p ofs ws) := State.mapHost_touches p _

/-- A completion of a handled command changes the commands in hand, host ports and outputs. -/
theorem State.complete_only (id status : Nat) (ws : List Word) : ∃ l, TouchesHosts { s with handled := l } (s.complete id status ws) := by
  rw [State.complete]
  split
  · exact ⟨s.handled, TouchesHosts.refl⟩
  · refine ⟨s.handled.filter (·.id != id), ?_⟩
    dsimp only
    split
    · exact State.mapHost_touches _ _
    · exact ((State.mapHost_touches _ _).trans (State.writeResult_only _ _ _ _)).trans (State.reply_only _ _ _ _)

/-- A command word taken from its mailbox changes the queue of command words, host ports and outputs. -/
theorem State.takeImb_only (p : Fin 4) (m : Fin 8) : TouchesHosts { s with cmds := dropCmd s.cmds p m } (s.takeImb p m) :=
  (State.mapHost_touches p _).trans (State.ring_only _ p (8 + m.val))

/-- A rejection changes host ports and outputs. -/
theorem State.rejectCmd_only (c : Cmd) (status : Nat) (r : Option Nat) : TouchesHosts s (s.rejectCmd c status r) := by
  cases r with
  | none => exact State.reply_only s _ _ _
  | some n => exact (State.writeResult_only s c.hp c.ofs [loWord n]).trans (State.reply_only _ c.hp c.mb _)

/-- The completion of an immediate command changes host ports and outputs. -/
theorem State.finishCmd_only (c : Cmd) (ws : List Word) : TouchesHosts s (s.finishCmd c ws) :=
  (State.writeResult_only s c.hp c.ofs ws).trans (State.reply_only _ c.hp c.mb _)

end Sys2Proof.Machine
end

