-- ==== Sys2Proof/Laws/Omend.lean ====
section
/-! SUPPORT. How a command of Omend runs: which of its ends a mailbox's word comes to, and what each end is. -/

namespace Sys2Proof.Machine

variable (s : State) (hp : Fin 4) (mb : Fin 8) (f : CmdForm)

/-- A mailbox that is not next leaves the state as it is. -/
theorem State.omend_waits (h : s.cmdAt hp mb = none) : s.omend hp mb f = .next s := by
  simp only [State.omend, h]

/-- The row's own command is taken from its mailbox and run. -/
theorem State.omend_runs {c : Cmd} (h : s.cmdAt hp mb = some c) (ho : c.op = f.op) :
    s.omend hp mb f = .next ((s.takeImb hp mb).runCmd c f) := by
  simp only [State.omend, h, ho, if_true]

/-- A word with another known opcode is left to its own row. -/
theorem State.omend_other {c : Cmd} (h : s.cmdAt hp mb = some c) (ho : c.op ≠ f.op) (hk : opcodes.contains c.op = true) :
    s.omend hp mb f = .next s := by
  simp only [State.omend, h, ho, if_false, hk, if_true]

/-- A word with an unknown opcode is rejected with 0x001. -/
theorem State.omend_unknown {c : Cmd} (h : s.cmdAt hp mb = some c) (ho : c.op ≠ f.op) (hk : opcodes.contains c.op = false) :
    s.omend hp mb f = .next ((s.takeImb hp mb).rejectCmd c 1 none) := by
  simp only [State.omend, h, ho, if_false, hk, Bool.false_eq_true]

/-- Every row of Omend answers a next state. -/
theorem State.omend_next : ∃ t, s.omend hp mb f = .next t := by
  cases hc : s.cmdAt hp mb with
  | none => exact ⟨s, s.omend_waits hp mb f hc⟩
  | some c =>
    by_cases ho : c.op = f.op
    · exact ⟨_, s.omend_runs hp mb f hc ho⟩
    · cases hk : opcodes.contains c.op
      · exact ⟨_, s.omend_unknown hp mb f hc ho hk⟩
      · exact ⟨_, s.omend_other hp mb f hc ho hk⟩

/-- A host's write answers a next state. -/
theorem State.opened_next (g : State → State) : ∃ t, s.opened g = .next t := ⟨_, rfl⟩

/-- A host's read answers a next state. -/
theorem State.openRead_next (g : State → State × Word) : ∃ t, s.openRead hp g = .next t := by
  cases ha : s.afterBoot
  · by_cases hs : 2 ≤ hp.val <;> simp [State.openRead, ha, hs]
  · simp [State.openRead, ha]

/-- A command that passes the checks of R457 up to its handle comes to its own body. -/
theorem State.runCmd_body {c : Cmd} (hw : f.wipe = none) (hs : (c.fits f.results && f.shape s c) = true) (hr : f.rights s c = true)
    (hf : (f.follower && s.follower) = false) (hh : f.handled = false) :
    s.runCmd c f = (f.body s c).conclude c ((s.freeSlot c.hp).getD 0) := by
  simp [State.runCmd, hw, hs, hr, hf, hh]

/-- A handled command that passes the checks of R457 with a free slot comes to its own body. -/
theorem State.runCmd_handled {c : Cmd} {slot : Fin 256} (hw : f.wipe = none) (hs : (c.fits f.results && f.shape s c) = true)
    (hr : f.rights s c = true) (hf : (f.follower && s.follower) = false) (hslot : s.freeSlot c.hp = some slot) :
    s.runCmd c f = (f.body s c).conclude c slot := by
  cases hh : f.handled <;> simp [State.runCmd, hw, hs, hr, hf, hslot, hh]

end Sys2Proof.Machine
end

