-- ==== Sys2Proof/Tests/Slice0.lean ====
section
/-! SUPPORT. Tests: the checks of WellFormed, small steps with the results that the spec works out, and for each statement with hypotheses a state and operands that meet them (named witness_ and the statement's name). -/

namespace Sys2Proof.Machine

/-! ### Small states -/

/-- An engine some days after power-on, in WARMUP. -/
def up : State :=
  { State.reset with tdc := Vector.replicate 88 {}, groups := Vector.replicate 8 {}, sys := { engine := .warmup, resetN := true, por := false, rpllLocked := true, cyc := 1000000000000000, warmupStart := 1000000000000000 } }

/-- The same in another engine state. -/
def upIn (e : EngineState) : State := { up with sys.engine := e }

/-- The same with words in HP0's parcel memory, whose command word waits in IMB0: opcode, then the parcel at word 0. -/
def sent (op : Nat) (ws : List Word) (s : State) : State :=
  (s.parcelWrite 0 0 ws).writeImb 0 0 (BitVec.ofNat 32 (op * 2 ^ 24 + ws.length * 2 ^ 16))

/-- The command that `sent` sends. -/
def cmdOf (op : Nat) (ws : List Word) : Cmd := ⟨op, ws.length, 0, 0, 0, ws⟩

/-! ### WellFormed -/

theorem test_wf_lock : (Instr.rpllLock 100).wellFormed = true ∧ (Instr.rpllLock (2 ^ 64)).wellFormed = false := by decide
theorem test_wf_droop : (Instr.vddDroopDetect 0 4096).wellFormed = false := by decide
theorem test_wf_ecc : (Instr.sramEccError 256 true .configuration).wellFormed = false := by decide
theorem test_wf_self_fault : (Instr.collectorSelfFault 65536).wellFormed = false := by decide
theorem test_wf_checkpoint : (Instr.checkpointWrite true 65536).wellFormed = false := by decide
theorem test_wf_irig : (Instr.irigbFrameDecode 0 ⟨[], ⟨0, 0⟩⟩).wellFormed = false ∧
    (Instr.irigbFrameDecode 0 ⟨List.replicate 100 2000, ⟨0, 1024⟩⟩).wellFormed = false := by decide
set_option maxRecDepth 4000 in
theorem test_wf_tod : (Instr.todFrameDecode 0 (List.replicate 257 0) true ⟨0, 0⟩).wellFormed = false ∧
    (Instr.todFrameDecode 0 [] true ⟨0, 1024⟩).wellFormed = false := by decide
theorem test_wf_stamps : (Instr.ptpSlotMessage [] ⟨0, 1024⟩).wellFormed = false ∧ (Instr.delayReqSend ⟨0, 1024⟩).wellFormed = false ∧
    (Instr.frameReceive 0 ⟨[], false, ⟨0, 1024⟩, 0, 0, 0⟩).wellFormed = false := by decide
theorem test_wf_sense : (Instr.senseReadCycle [0, 0, 0]).wellFormed = false := by decide
theorem test_wf_samples : (Instr.streamHealthCheck 0 [(625, 7, -8)]).wellFormed = true ∧ (Instr.streamHealthCheck 0 [(625, 8, 0)]).wellFormed = false ∧
    (Instr.snapshotCaptureComplete [] [[(0, -9)]]).wellFormed = false := by decide
set_option maxRecDepth 4000 in
theorem test_wf_epoch : (Instr.gnssEpoch (List.replicate 129 ⟨0, 0, 0, 0, 0, 0, 0⟩) [] [] []).wellFormed = false := by decide
theorem test_wf_tt : (Instr.ttFrameReceive ⟨[], ⟨0, 1024⟩⟩).wellFormed = false := by decide
theorem test_wf_spi : (Instr.spiWrite 2 (2 ^ 24) []).wellFormed = false ∧ (Instr.spiRead 2 (2 ^ 24) 1).wellFormed = false ∧
    (Instr.spiCsCut 2 (2 ^ 24) true).wellFormed = false := by decide
theorem test_wf_access : (Instr.registerWrite 0 ⟨0, 24⟩ 0).wellFormed = false ∧ (Instr.registerRead 0 ⟨2 ^ 18, 32⟩).wellFormed = false ∧
    (Instr.aliasSetWrite 0 ⟨0, 0⟩ 0).wellFormed = false ∧ (Instr.aliasClearWrite 0 ⟨0, 1⟩ 0).wellFormed = false ∧
    (Instr.aliasToggleWrite 0 ⟨0, 2⟩ 0).wellFormed = false ∧ (Instr.perfRead 0 ⟨0, 33⟩).wellFormed = false := by decide
theorem test_wf_log : (Instr.monLog 0).wellFormed = false := by decide
theorem test_wf_parcel : (Instr.parcelWrite 0 65535 [0, 0]).wellFormed = false := by decide

/-! ### Witnesses: the machine, resets and the time scale -/

theorem witness_StepWithoutCommandIsOneCycle : ∃ s : State, s.pending = [] := ⟨State.reset, by decide⟩

theorem witness_EveryStepKeepsMemoriesCanonical : ∃ s t : State, s.memoriesWf = true ∧ step s = .next t := ⟨State.reset, State.reset, by decide, rfl⟩

theorem witness_NothingWritesCyc : ∃ (i : Instr) (s t : State), exec i s = .next t := ⟨.resetNLow 0, up, up, rfl⟩

theorem witness_ResetsEnterResetAndReleaseToBoot :
    (∃ (s : State) (n : Nat), 1000 ≤ n ∧ s.sys.engine ≠ .reset) ∧ (∃ s : State, s.sys.engine = .reset ∧ s.sys.por = false) ∧
    (∃ s : State, s.sys.engine = .reset ∧ s.sys.resetN = true) ∧
    (∃ s : State, s.afterBoot = true ∧ s.sys.resetN = true ∧ s.sys.por = false) ∧
    (∃ (s : State) (n : Nat), s.sys.resetDue = some n ∧ n ≤ s.sys.cyc ∧ s.sys.engine ≠ .reset ∧ s.sys.resetN = true ∧ s.sys.por = false) :=
  ⟨⟨up, 1000, by decide⟩, ⟨{ up with sys.engine := .reset }, by decide⟩, ⟨{ up with sys.engine := .reset }, by decide⟩, ⟨up, by decide⟩,
   ⟨{ up with sys.resetDue := some 5 }, 5, by decide⟩⟩

/-- A header that asks for XIN code 2 and no customer signature. -/
def someHdr : ImageHdr := ⟨0x51494D47, 1, 0, 0, 2, false, false, 4096, 7, 3, [1], [1], 0⟩

theorem witness_BootInitAndWarmupEndInTheirStates :
    (∃ (s : State) (ar : Area), s.sys.engine = .boot ∧ s.sys.stage = .waitLock ar) ∧
    (∃ (s : State) (hdr : ImageHdr) (ar : Area), s.sys.engine = .boot ∧ s.sys.stage = .reading ar ∧ s.sys.straps.twinEn = false ∧ hdr.xinCode ≤ 5 ∧
      (s.sys.xinCode = none ∨ s.sys.xinCode = some hdr.xinCode) ∧ s.rejects ar hdr none = none) ∧
    (∃ s : State, s.sys.engine = .init ∧ s.sys.safePending = false ∧ s.twin.role = .solo) ∧
    (∃ s : State, s.sys.engine = .warmup ∧ s.sys.warmupOver = false ∧ s.sys.warmupStart + s.sys.warmupTime * 625000000 < s.sys.cyc ∧ s.wv.selected = none ∧
      (s.fc.fw.toList.any fun w => w.model.isSome) = true) ∧
    (∃ s : State, s.sys.engine = .warmup ∧ s.sys.warmupOver = false ∧ s.sys.warmupStart + s.sys.warmupTime * 625000000 < s.sys.cyc ∧ s.wv.selected = none ∧
      (s.fc.fw.toList.any fun w => w.model.isSome) = false) ∧ (∃ s : State, s.sys.engine ≠ .warmup) :=
  ⟨⟨{ upIn .boot with sys.stage := .waitLock .a }, .a, by decide⟩, ⟨{ upIn .boot with sys.stage := .reading .golden }, someHdr, .golden, by decide⟩,
   ⟨upIn .init, by decide⟩, ⟨{ up with sys.warmupStart := 0, fc.fw := upd up.fc.fw 0 fun w => { w with model := some {} } }, by decide⟩,
   ⟨{ up with sys.warmupStart := 0 }, by decide⟩, ⟨State.reset, by decide⟩⟩

theorem witness_SystemFaultsReachTheCollector :
    (∃ s : State, s.sys.engine ≠ .reset ∧ s.flt.queues[(0 : Fin 16)].length < 16 ∧ s.sys.rpllLocked = true ∧ s.flt.present.contains ⟨0, 0, 3, 0⟩ = false ∧
      s.flt.present.contains ⟨0, 1, 3, 0⟩ = false ∧ (∀ c, s.sys.droopLast[(3 : Fin 16)] = some c → c + 625000 ≤ s.sys.cyc)) ∧
    (∃ s : State, s.afterInit = true) ∧ (∃ s : State, s.sys.engine ≠ .reset ∧ s.afterInit = false) :=
  ⟨⟨up, by decide, by decide, by decide, by decide, by decide, by intro c h; cases h⟩, ⟨up, by decide⟩, ⟨upIn .init, by decide⟩⟩

theorem witness_CommittedSetBecomesTheNewestAtItsBoundary :
    (∃ (s : State) (k : Committed), s.ts.committed = some k ∧ k.effect ≤ s.sys.cyc) ∧
    (∃ (s : State) (k : Committed), s.ts.committed = some k ∧ s.sys.cyc < k.effect) ∧ (∃ k : Committed, k.step = none) :=
  ⟨⟨{ up with ts.committed := some ⟨7, none, some ⟨5, none⟩⟩ }, ⟨7, none, some ⟨5, none⟩⟩, by decide⟩,
   ⟨{ State.reset with ts.committed := some ⟨7, none, none⟩ }, ⟨7, none, none⟩, by decide⟩, ⟨⟨7, none, none⟩, by decide⟩⟩

theorem witness_InverseConversionFindsTheNearestStep : ∃ c : ConvSet, -(2 ^ 47) ≤ c.rate ∧ c.rate ≤ 2 ^ 47 := ⟨{ rate := 2 ^ 47 }, by decide⟩

theorem witness_TimeEventsTakeEffectWhenDue :
    (∃ (s : State) (k : Committed), s.ts.committed = some k ∧ k.effect ≤ s.sys.cyc ∧ k.step = none) ∧
    (∃ (s : State) (k : Committed) (r : StepReq) (id : Nat), s.ts.committed = some k ∧ k.effect ≤ s.sys.cyc ∧ k.step = some r ∧ r.origin = .host id) ∧
    (∃ s : State, s.ts.leapPending ≠ 0 ∧ (s.ts.leapAt : Int) * 65536000000000 ≤ s.now) ∧
    (∃ (s : State) (p : Fin 4) (a : Nat) (d n : Int), s.ts.smearLeap = some (a, d, n) ∧ s.ts.smear[p].cfg.at Ix.smearType ≠ 0 ∧
      s.ts.smear[p].running = false ∧ s.ts.smear[p].skipped = false ∧ s.ts.smear[p].start a ≤ s.now ∧
      s.now < s.ts.smear[p].start a + s.ts.smear[p].length) ∧
    (∃ (s : State) (p : Fin 4) (a : Nat) (d n : Int), s.ts.smearLeap = some (a, d, n) ∧ s.ts.smear[p].running = true ∧
      s.ts.smear[p].start a + s.ts.smear[p].length ≤ s.now) ∧
    (∃ s : State, s.afterInit = true ∧ s.fc.checkpointDue ≤ s.sys.cyc) ∧
    (∃ (s : State) (v : Word), s.afterBoot = true ∧ s.may 0 .time = true ∧ s.follower = false ∧ s.immediate 0 0 = false ∧ 3 ≤ v.toNat % 16 ∧ v.toNat % 16 ≤ 8) ∧
    (∃ v : Word, v.toNat % 16 < 3) ∧ (∃ v : Word, 8 < v.toNat % 16) ∧
    (∃ s : State, s.bound.due ≤ s.sys.cyc ∧ (s.wv.slots.toList.any Slot.stepBlocked) = false) ∧ (∃ s : State, s.sys.cyc < s.bound.due) :=
  ⟨⟨{ up with ts.committed := some ⟨7, none, some ⟨5, none⟩⟩ }, ⟨7, none, some ⟨5, none⟩⟩, by decide⟩, ⟨{ up with ts.committed := some ⟨7, some ⟨5, .host 0⟩, none⟩ }, ⟨7, some ⟨5, .host 0⟩, none⟩, ⟨5, .host 0⟩, 0, by decide⟩,
   ⟨{ up with ts.leapPending := 1, ts.leapAt := 1600000 }, by decide⟩,
   ⟨{ up with ts.smear := upd up.ts.smear 1 (fun x => { x with cfg := x.cfg.set Ix.smearType 1 }), ts.smearLeap := some (1600000, 1, 37) }, 1, 1600000, 1, 37, by decide⟩,
   ⟨{ up with ts.smear := upd up.ts.smear 1 (fun x => { x with running := true }), ts.smearLeap := some (1000, 1, 37) }, 1, 1000, 1, 37, by decide⟩,
   ⟨up, by decide⟩, ⟨up, 8, by decide⟩, ⟨2, by decide⟩, ⟨9, by decide⟩, ⟨up, by decide⟩, ⟨State.reset, by decide⟩⟩

theorem witness_CapturesLatchOneEdgeAndPtmAnswersInTai :
    (∃ (s : State) (hp : Fin 4) (v : Word), s.afterBoot = true ∧ v.getLsbD 0 = true ∧ s.hosts[hp].cap.busy = false) ∧
    (∃ (s : State) (hp : Fin 4), s.hosts[hp].cap.busy = true ∧ s.hosts[hp].cap.edge ≤ s.sys.cyc) ∧
    (∃ (s : State) (hp : Fin 4), hp.val < 2 ∧ s.hosts[hp].pcieUp = true ∧ s.afterBoot = true ∧ 0 ≤ s.now) :=
  ⟨⟨up, 3, 1, by decide⟩, ⟨{ up with hosts := upd up.hosts 3 fun h => { h with cap.busy := true } }, 3, by decide⟩,
   ⟨{ up with hosts := upd up.hosts 1 fun h => { h with pcieUp := true } }, 1, by decide⟩⟩

/-! ### Witnesses: edge stamping and Weathervane -/

/-- A channel with other settings. -/
def tdcAt (l : List (Nat × Int)) (s : State) : State := s.mapTdc 3 fun c => { c with cfg := l.foldl (fun v x => v.set x.1 x.2) c.cfg }

theorem witness_EdgesWindowsAndGatesOfChannels :
    (∃ (s : State) (ch : Fin 88), s.sys.rpllLocked = true ∧ s.deglitch ch = 0) ∧
    (∃ (s : State) (ch : Fin 88), s.sys.rpllLocked = true ∧ s.deglitch ch ≠ 0 ∧ s.tdc[ch].pend = none) ∧
    (∃ (s : State) (ch : Fin 88) (t : Stamp) (r : Bool), s.sys.rpllLocked = true ∧ s.deglitch ch ≠ 0 ∧ s.tdc[ch].pend = some (t, r) ∧
      s.sys.cyc < t.cyc + s.deglitch ch) ∧
    (∃ (s : State) (ch : Fin 88) (t : Stamp) (fall : Bool), s.tdc[ch].pend = some (t, fall) ∧ t.cyc + s.deglitch ch ≤ s.sys.cyc) ∧
    (∃ (s : State) (ch : Fin 88) (fall : Bool), s.tdc[ch].selects fall = false ∧ s.stopsFor ch fall = []) ∧
    (∃ (s : State) (ch : Fin 88) (x : Int × Int), s.tdc[ch].cfg.nat Ix.tdcMode = 1 ∧ isFeedback ch = false ∧ s.closingWindow ch = some x ∧
      s.slotsWith (fun y => y.pulseChannel ch.val) = [] ∧ s.tdc[ch].inside.filter (fun e => e.1 == x.1) = []) ∧
    (∃ (s : State) (ch : Fin 88) (x : Int × Int) (e : Int × Stamp × Bool), s.tdc[ch].cfg.nat Ix.tdcMode = 1 ∧ isFeedback ch = false ∧
      s.closingWindow ch = some x ∧ s.slotsWith (fun y => y.pulseChannel ch.val) = [] ∧
      s.tdc[ch].inside.filter (fun y => y.1 == x.1) = [e] ∧ s.tdc[ch].fifo.length < 64 ∧ s.tdc[ch].gate.n + 1 < 2 ^ 32) ∧
    (∃ (s : State) (ch : Fin 88), s.tdc[ch].cfg.nat Ix.tdcMode = 3 ∧ s.gateEndRaw ch < ((s.sys.cyc : Int) - s.deglitch ch) * 1024 ∧
      s.tdc[ch].gate.waiting = true) ∧
    (∃ (s : State) (ch : Fin 88), s.tdc[ch].cfg.nat Ix.tdcMode = 3 ∧ s.gateEndRaw ch < ((s.sys.cyc : Int) - s.deglitch ch) * 1024 ∧
      s.tdc[ch].gate.waiting = false ∧ isFeedback ch = false ∧ s.flywheelOn ch = none ∧
      s.slotsWith (fun x => x.clockChannel ch.val || (x.pulseChannel ch.val && x.kind != 2)) = []) ∧
    (∃ g : Gate, g.n < 3) ∧
    (∃ (s : State) (ch : Fin 88) (st : Stamp), s.tdc[ch].armed = some st ∧ st.cyc + 0xFFFFFFFF < s.sys.cyc) ∧
    (∃ (s : State) (ch : Fin 88) (st : Stamp), s.tdc[ch].armed = some st ∧ s.sys.cyc ≤ st.cyc + 0xFFFFFFFF) :=
  ⟨⟨up, 3, by decide⟩, ⟨tdcAt [(Ix.tdcDeglitch, 5)] up, 3, by decide⟩,
   ⟨(tdcAt [(Ix.tdcDeglitch, 5)] up).mapTdc 3 fun c => { c with pend := some (⟨999999999999996, 0⟩, true) }, 3, ⟨999999999999996, 0⟩, true, by decide⟩,
   ⟨(tdcAt [(Ix.tdcDeglitch, 5)] up).mapTdc 3 fun c => { c with pend := some (⟨999999999999995, 0⟩, true) }, 3, ⟨999999999999995, 0⟩, true, by decide⟩,
   ⟨up, 3, true, by decide⟩,
   ⟨tdcAt [(Ix.tdcMode, 1)] up, 3, (((tdcAt [(Ix.tdcMode, 1)] up).closingWindow 3).getD (0, 0)), by decide +kernel⟩,
   ⟨(tdcAt [(Ix.tdcMode, 1)] up).mapTdc 3 fun c => { c with inside := [((((tdcAt [(Ix.tdcMode, 1)] up).closingWindow 3).getD (0, 0)).1, ⟨9, 9⟩, false)] }, 3,
     (((tdcAt [(Ix.tdcMode, 1)] up).closingWindow 3).getD (0, 0)), ((((tdcAt [(Ix.tdcMode, 1)] up).closingWindow 3).getD (0, 0)).1, ⟨9, 9⟩, false), by decide +kernel⟩,
   ⟨(tdcAt [(Ix.tdcMode, 3)] up).mapTdc 3 fun c => { c with gate := { c.gate with waiting := true } }, 3, by decide +kernel⟩,
   ⟨tdcAt [(Ix.tdcMode, 3)] up, 3, by decide +kernel⟩, ⟨{ n := 2 }, by decide⟩,
   ⟨up.mapTdc 3 fun c => { c with armed := some ⟨1000000000000000 - 0x100000000, 9⟩ }, 3, ⟨1000000000000000 - 0x100000000, 9⟩, by decide⟩,
   ⟨up.mapTdc 3 fun c => { c with armed := some ⟨1000000000000000 - 0xFFFFFFFF, 9⟩ }, 3, ⟨1000000000000000 - 0xFFFFFFFF, 9⟩, by decide⟩⟩

theorem witness_DelayLinesTakeGoodTablesAndSwap :
    (∃ c : CalResult, c.widestBin ≤ 8 ∧ c.anchorErr ≤ 2) ∧ (∃ c : CalResult, 8 < c.widestBin) ∧ (∃ c : CalResult, 2 < c.anchorErr) ∧
    (∃ (s : State) (ch : Fin 88), s.tdc[ch].swapDue ≤ s.sys.cyc) ∧ (∃ s : State, s.sys.slewSec < s.uptime) ∧ (∃ s : State, s.slewing = true) :=
  ⟨⟨⟨8, 2, 5⟩, by decide⟩, ⟨⟨9, 2, 5⟩, by decide⟩, ⟨⟨8, 3, 5⟩, by decide⟩, ⟨up, 87, by decide⟩, ⟨up, by decide⟩,
   ⟨{ up with sys.onDiePrev := some (Vector.replicate 4 0), sys.onDie := Vector.replicate 4 (2 ^ 24 + 1) }, by decide⟩⟩

theorem witness_RecordsAreBuiltInOrderAndReadByIndex :
    (∃ (s : State) (ch : Fin 88) (f : FifoStamp) (fs : List FifoStamp), s.tdc[ch].fifo = f :: fs ∧ ∀ c, c < ch → s.tdc[c].fifo = [] ∧ s.tdc[c].results = []) ∧
    (∃ (s : State) (ch : Fin 88) (r : Result) (rs : List Result), s.tdc[ch].fifo = [] ∧ s.tdc[ch].results = r :: rs ∧
      ∀ c, c < ch → s.tdc[c].fifo = [] ∧ s.tdc[c].results = []) ∧
    (∃ (s : State) (hp : Fin 4) (v : Word), s.afterBoot = true ∧ (s.hosts[hp].evq.wr - v.truncate 16).toNat ≤ 256) ∧
    (∃ (s : State) (hp : Fin 4) (v : Word), s.afterBoot = true ∧ 256 < (s.hosts[hp].evq.wr - v.truncate 16).toNat) ∧
    (∃ (s : State) (ch : Fin 88) (hp : Fin 4), s.tdc[ch].cfg.nat Ix.tdcPortMask = 2 ^ hp.val ∧ (s.hosts[hp].evq.wr - s.hosts[hp].evq.rd).toNat < 256) :=
  ⟨⟨up.mapTdc 2 fun c => { c with fifo := [⟨⟨5, 6⟩, ⟨5, 6⟩, 0, false, 0, false⟩] }, 2, ⟨⟨5, 6⟩, ⟨5, 6⟩, 0, false, 0, false⟩, [], by decide⟩,
   ⟨up.mapTdc 2 fun c => { c with results := [.interval ⟨5, 6⟩ 0xFFFFFFFF 0 0 4 true true false true false] }, 2,
     .interval ⟨5, 6⟩ 0xFFFFFFFF 0 0 4 true true false true false, [], by decide⟩,
   ⟨up, 3, 0xFF00, by decide⟩, ⟨up, 3, 0xFEFF, by decide⟩, ⟨tdcAt [(Ix.tdcPortMask, 8)] up, 3, 3, by decide⟩⟩

/-- A state in which a slot differs. -/
def slotAt (f : Slot → Slot) : State := up.mapSlot 2 f

theorem witness_AlarmDisqualifiesAndFlapsLockOut :
    (∃ (s : State) (i : Fin 16), s.wv.slots[i].state = .disqualified ∨ s.wv.slots[i].state = .lockedOut) ∧
    (∃ (s : State) (i : Fin 16), s.wv.slots[i].state ≠ .disqualified ∧ s.wv.slots[i].state ≠ .lockedOut ∧
      (s.wv.slots[i].cfg.nat Ix.slotFlapLimit = 0 ∨ (s.flapsOf s.wv.slots[i]).length + 1 < s.wv.slots[i].cfg.nat Ix.slotFlapLimit)) ∧
    (∃ (s : State) (i : Fin 16), s.wv.slots[i].state ≠ .disqualified ∧ s.wv.slots[i].state ≠ .lockedOut ∧
      s.wv.slots[i].cfg.nat Ix.slotFlapLimit ≠ 0 ∧ s.wv.slots[i].cfg.nat Ix.slotFlapLimit ≤ (s.flapsOf s.wv.slots[i]).length + 1) :=
  ⟨⟨up, 2, by decide⟩, ⟨slotAt fun x => { x with state := .qualified, cfg := x.cfg.set Ix.slotFlapLimit 2 }, 2, by decide⟩,
   ⟨slotAt fun x => { x with state := .qualified, cfg := x.cfg.set Ix.slotFlapLimit 1 }, 2, by decide⟩⟩

theorem witness_LossesTimersAndDisputesOfSlots :
    (∃ (s : State) (ch : Fin 72) (k : Fin 88), k.val = ch.val ∧
      4 * 640000000000000000 / (s.tdc[k].cfg.at Ix.tdcFNom : Rat) ≤ ((s.sys.cyc : Rat) - s.tdc[k].seenAt - 1) * 1024) ∧
    (∃ (s : State) (p : Fin 8), s.wv.esmcLast[p] + 3125000000 < s.sys.cyc) ∧ (∃ (s : State) (p : Fin 8), s.sys.cyc ≤ s.wv.esmcLast[p] + 3125000000) ∧
    (∃ (s : State) (i : Fin 16), s.ptpSlotIx = some i ∧
      3 * (profileIntervals s.wv.slots[i].ptpProfile).1 < cycSeconds ((s.sys.cyc : Int) - s.wv.ptp.lastAnnounce)) ∧
    (∃ (s : State) (i : Fin 16), s.ptpSlotIx = some i ∧
      4 * (profileIntervals s.wv.slots[i].ptpProfile).2 < cycSeconds ((s.sys.cyc : Int) - s.wv.ptp.lastSync)) ∧
    (∃ (s : State) (p : Fin 8) (ssm : Fin 16), ∃ i ∈ s.synceSlots p, bitAt (s.wv.slots[i].cfg.nat (Ix.slotSource + 1)) ssm.val = true) ∧
    (∃ (s : State) (p : Fin 8) (ssm : Fin 16), ∃ i ∈ s.synceSlots p, bitAt (s.wv.slots[i].cfg.nat (Ix.slotSource + 1)) ssm.val = false) ∧
    (∃ (s : State) (i : Fin 16) (c : Nat), s.wv.slots[i].state = .qualifying ∧ s.wv.slots[i].timerStart = some c ∧ s.wv.slots[i].wtrDone = false ∧
      c + s.wv.slots[i].cfg.nat Ix.slotWtr * 625000000 < s.sys.cyc ∧ freqKind s.wv.slots[i].kind = true) ∧
    (∃ (s : State) (i : Fin 16) (c : Nat), s.wv.slots[i].state = .qualifying ∧ s.wv.slots[i].timerStart = some c ∧ s.wv.slots[i].wtrDone = false ∧
      c + s.wv.slots[i].cfg.nat Ix.slotWtr * 625000000 < s.sys.cyc ∧ timeKind s.wv.slots[i].kind = true ∧ s.wv.slots[i].var.isSome = true ∧
      s.phaseCheck i = true) ∧
    (∃ (s : State) (i : Fin 16) (c : Nat), s.wv.slots[i].state = .qualifying ∧ s.wv.slots[i].timerStart = some c ∧ s.wv.slots[i].wtrDone = false ∧
      c + s.wv.slots[i].cfg.nat Ix.slotWtr * 625000000 < s.sys.cyc ∧ timeKind s.wv.slots[i].kind = true ∧ s.wv.slots[i].var = none) ∧
    (∃ (s : State) (i : Fin 16) (c : Nat), s.wv.slots[i].state = .qualifying ∧ s.wv.slots[i].timerStart = some c ∧ s.wv.slots[i].wtrDone = false ∧
      s.sys.cyc ≤ c + s.wv.slots[i].cfg.nat Ix.slotWtr * 625000000) ∧
    (∃ (s : State) (i : Fin 16) (c : Nat), s.wv.slots[i].state = .disputed ∧ s.wv.slots[i].timerStart = some c ∧ s.wv.slots[i].freqDispute = false ∧
      c + s.wv.slots[i].cfg.nat Ix.slotConfirm * 625000000 < s.sys.cyc) ∧
    (∃ (s : State) (i : Fin 16) (c : Nat), s.wv.slots[i].state = .disputed ∧ s.wv.slots[i].timerStart = some c ∧ s.wv.slots[i].freqDispute = false ∧
      s.sys.cyc ≤ c + s.wv.slots[i].cfg.nat Ix.slotConfirm * 625000000) ∧
    (∃ s : State, s.wv.disputeDue ≤ s.sys.cyc) ∧ (∃ s : State, s.sys.cyc < s.wv.disputeDue) ∧
    (∃ (s : State) (r : Nat), (s.slotsWith fun x => x.state == .qualified && !x.forced && x.cfg.nat Ix.slotRank == r).length < 2) ∧
    (∃ s : State, s.afterInit = true) ∧ (∃ s : State, s.afterInit = false) :=
  ⟨⟨up, 3, 3, by decide +kernel⟩, ⟨up, 7, by decide⟩, ⟨State.reset, 7, by decide⟩,
   ⟨slotAt fun x => { x with cfg := (x.cfg.set Ix.slotKind 5).set Ix.slotEnable 1 }, 2, by decide +kernel⟩,
   ⟨slotAt fun x => { x with cfg := (x.cfg.set Ix.slotKind 5).set Ix.slotEnable 1 }, 2, by decide +kernel⟩,
   ⟨slotAt fun x => { x with cfg := ((x.cfg.set Ix.slotKind 6).set Ix.slotEnable 1).set (Ix.slotSource + 1) 4 }, 0, 2, 2, by decide +kernel⟩,
   ⟨slotAt fun x => { x with cfg := ((x.cfg.set Ix.slotKind 6).set Ix.slotEnable 1).set (Ix.slotSource + 1) 4 }, 0, 3, 2, by decide +kernel⟩,
   ⟨slotAt fun x => { x with state := .qualifying, timerStart := some 999812499999999, cfg := (x.cfg.set Ix.slotWtr 300).set Ix.slotKind 3 }, 2, 999812499999999, by decide⟩,
   ⟨slotAt fun x => { x with state := .qualifying, timerStart := some 999812499999999, var := some 0, cfg := (x.cfg.set Ix.slotWtr 300).set Ix.slotKind 2 }, 2, 999812499999999, by decide +kernel⟩,
   ⟨slotAt fun x => { x with state := .qualifying, timerStart := some 999812499999999, cfg := (x.cfg.set Ix.slotWtr 300).set Ix.slotKind 2 }, 2, 999812499999999, by decide⟩,
   ⟨slotAt fun x => { x with state := .qualifying, timerStart := some 999812500000000, cfg := x.cfg.set Ix.slotWtr 300 }, 2, 999812500000000, by decide⟩,
   ⟨slotAt fun x => { x with state := .disputed, timerStart := some 0 }, 2, 0, by decide⟩,
   ⟨slotAt fun x => { x with state := .disputed, timerStart := some 1000000000000000 }, 2, 1000000000000000, by decide⟩,
   ⟨up, by decide⟩, ⟨{ up with wv.disputeDue := 1000000000000001 }, by decide⟩, ⟨up, 3, by decide⟩, ⟨up, by decide⟩, ⟨State.reset, by decide⟩⟩

/-- Octets of a Sync of one domain. -/
def someSync (domain : Nat) : List Byte := [0, 2, 0, 44, BitVec.ofNat 8 domain] ++ List.replicate 39 0

/-- A slot of KIND k that is enabled. -/
def kindAt (k : Int) (f : Slot → Slot) : State := slotAt fun x => f { x with cfg := (x.cfg.set Ix.slotKind k).set Ix.slotEnable 1 }

/-- High times of a good IRIG-B frame. -/
def someIrig : List Nat := (List.range 100).map fun i => if i = 0 || i % 10 = 9 then 8000 else if i = 50 || i = 30 then 5000 else 2000

theorem witness_FramesAndMessagesReachTheirSlots :
    (∃ (s : State) (i : Fin 16) (phi : Int) (a : Nat) (e : Rat) (l : List Meas), s.wv.slots[i].meas = .offset phi a e :: l ∧
      s.wv.slots[i].cfg.flag Ix.slotEnable = true ∧ timeKind s.wv.slots[i].kind = true ∧ s.wv.slots[i].state ≠ .lockedOut) ∧
    (∃ (s : State) (i : Fin 16), s.wv.slots[i].meas = [] ∧ s.wv.slots[i].cfg.flag Ix.slotEnable = true ∧ s.wv.slots[i].kind = 6) ∧
    (∃ (s : State) (i : Fin 16) (f : IrigPulses), s.wv.slots[i].cfg.flag Ix.slotEnable = true ∧ s.wv.slots[i].cfg.nat Ix.slotKind = 4 ∧
      (irigSymbols f.highUs).bind (s.decodeIrig i) = none) ∧
    (∃ (s : State) (i : Fin 16) (f : IrigPulses), s.wv.slots[i].cfg.flag Ix.slotEnable = true ∧ s.wv.slots[i].cfg.nat Ix.slotKind = 4 ∧
      (((irigSymbols f.highUs).bind (s.decodeIrig i)).map fun g => decide (g.quality < 12)) = some true ∧ s.wv.slots[i].goodRun = 0) ∧
    (∃ (s : State) (i : Fin 16) (f : IrigPulses) (b : Int), s.wv.slots[i].cfg.flag Ix.slotEnable = true ∧ s.wv.slots[i].cfg.nat Ix.slotKind = 4 ∧
      s.wv.slots[i].lastFrame = some b ∧
      (((irigSymbols f.highUs).bind (s.decodeIrig i)).map fun g => decide (g.quality < 12) && b == s.irigTai g - 1) = some true ∧
      s.wv.slots[i].goodRun ≠ 0 ∧ s.wv.slots[i].edge = some f.pr) ∧
    (∃ (s : State) (i : Fin 16) (b : List Byte), s.wv.slots[i].cfg.flag Ix.slotEnable = true ∧ s.wv.slots[i].cfg.nat Ix.slotKind = 7 ∧ b.length ≠ 32) ∧
    (∃ (s : State) (i : Fin 16) (b : List Byte) (en : Stamp), s.wv.slots[i].cfg.flag Ix.slotEnable = true ∧ s.wv.slots[i].cfg.nat Ix.slotKind = 7 ∧
      b.length = 32 ∧ (b.map BitVec.toNat).take 4 = [0x51, 0x54, 1, 32] ∧
      octetsNat (b.drop 28) = (crc32 ((b.map BitVec.toNat).take 28)).toNat ∧ bitAt ((b.map BitVec.toNat).getD 12 0) 2 = false ∧
      s.frameInTime (Fin.ofNat 88 (s.wv.slots[i].cfg.nat Ix.slotSource)) en.steps = true) ∧
    (∃ (s : State) (i : Fin 16), s.wv.slots[i].badRun + 1 < s.wv.slots[i].cfg.nat Ix.slotEmptyLimit) ∧
    (∃ o : List Byte, ptpOf o = none) ∧
    (∃ (s : State) (i : Fin 16) (o : List Byte), s.ptpSlotIx = some i ∧ ((ptpOf o).map fun m => decide (m.domain ≠ s.wv.slots[i].ptpDomain)) = some true) ∧
    (∃ (s : State) (i : Fin 16) (o : List Byte), s.ptpSlotIx = some i ∧ ((ptpOf o).map fun m => m.domain == s.wv.slots[i].ptpDomain &&
      verifiedKind m.kind && m.kind == .sync false 0 && s.verifyPtp (s.wv.slots[i].ptpSpp) (bitAt (s.wv.slots[i].source 5) 8) m == 0) = some true) ∧
    (∃ (s : State) (i : Fin 16) (m : Nat × Nat), s.ptpSlotIx = some i ∧ s.wv.ptp.master = some m ∧ s.ports[s.wv.slots[i].ptpPort].linkUp = true ∧
      s.follower = false) :=
  ⟨⟨kindAt 2 fun x => { x with meas := [.offset 5 6 7] }, 2, 5, 6, 7, [], by decide⟩, ⟨kindAt 6 id, 2, by decide⟩,
   ⟨kindAt 4 id, 2, ⟨[1, 2], ⟨0, 0⟩⟩, by decide +kernel⟩,
   ⟨kindAt 4 id, 2, ⟨someIrig, ⟨0, 0⟩⟩, by decide +kernel⟩,
   ⟨kindAt 4 fun x => { x with goodRun := 1, edge := some ⟨0, 0⟩, lastFrame := ((irigSymbols someIrig).bind ((kindAt 4 id).decodeIrig 2)).map fun g => (kindAt 4 id).irigTai g - 1 },
     2, ⟨someIrig, ⟨0, 0⟩⟩, ((((irigSymbols someIrig).bind ((kindAt 4 id).decodeIrig 2)).map fun g => (kindAt 4 id).irigTai g - 1).getD 0), by decide +kernel⟩,
   ⟨kindAt 7 id, 2, [1], by decide⟩,
   ⟨kindAt 7 id, 2,
      ((([0x51, 0x54, 1, 32] ++ List.replicate 24 0) ++ netOctets 4 (crc32 ([0x51, 0x54, 1, 32] ++ List.replicate 24 0)).toNat).map fun (b : Nat) => (BitVec.ofNat 8 b : Byte)),
      ⟨7, 0⟩, by decide +kernel⟩,
   ⟨slotAt fun x => { x with cfg := x.cfg.set Ix.slotEmptyLimit 2 }, 2, by decide⟩, ⟨[], by decide⟩,
   ⟨kindAt 5 id, 2, someSync 255, by decide +kernel⟩, ⟨kindAt 5 id, 2, someSync 0, by decide +kernel⟩,
   ⟨{ (kindAt 5 id).mapPort 0 fun x => { x with linkUp := true } with wv.ptp.master := some (7, 1) }, 2, (7, 1), by decide⟩⟩

/-! ### Witnesses: the loop, Forecast, synthesizers and outputs -/

theorem witness_LoopCorrectionMovesNoFasterThanTheSlewLimit :
    (∃ (s : State) (dt : Rat), 0 ≤ dt ∧ 0 ≤ s.loop.cfg.at Ix.steerSlewLimit) ∧ (∃ s : State, s.loop.frozen.isSome = true) ∧
    (∃ r : Rat, rateMax < looseRound (r * 2 ^ 56)) ∧ (∃ r : Rat, looseRound (r * 2 ^ 56) < rateMin) ∧
    (∃ r : Rat, rateMin ≤ looseRound (r * 2 ^ 56) ∧ looseRound (r * 2 ^ 56) ≤ rateMax) :=
  ⟨⟨up, 0, by decide +kernel⟩, ⟨{ up with loop.frozen := some true }, by decide⟩, ⟨1 / 512, by decide +kernel⟩,
   ⟨-(2 ^ 47 + 1) / 2 ^ 56, by decide +kernel⟩, ⟨-1 / 512, by decide +kernel⟩⟩

/-- A loop in a phase with a residual. -/
def loopAt (p : LoopPhase) (r : Rat) : State := { up with loop.phase := p, loop.resid := r }

theorem witness_LoopPhaseFollowsTheResidual :
    (∃ s : State, s.loop.phase = .track ∧ (s.loop.cfg.at Ix.steerTrackExit : Rat) < |s.loop.resid|) ∧
    (∃ s : State, s.loop.phase = .track ∧ |s.loop.resid| ≤ (s.loop.cfg.at Ix.steerTrackExit : Rat)) ∧
    (∃ s : State, s.loop.phase = .settle ∧ (s.loop.cfg.at Ix.steerSettleExit : Rat) < |s.loop.resid|) ∧
    (∃ s : State, s.loop.phase = .settle ∧ |s.loop.resid| ≤ (s.loop.cfg.at Ix.steerSettleExit : Rat)) ∧
    (∃ s : State, s.loop.phase = .acquire) ∧ (∃ s : State, s.loop.phase = .off) :=
  ⟨⟨loopAt .track (10 ^ 12), by decide +kernel⟩, ⟨loopAt .track ((up.loop.cfg.at Ix.steerTrackExit : Int) : Rat), by decide +kernel⟩,
   ⟨loopAt .settle (10 ^ 12), by decide +kernel⟩, ⟨loopAt .settle ((up.loop.cfg.at Ix.steerSettleExit : Int) : Rat), by decide +kernel⟩,
   ⟨loopAt .acquire 0, rfl⟩, ⟨up, rfl⟩⟩

theorem witness_FeedforwardLearningAndStaleModels :
    (∃ s : State, s.sys.cyc < s.loop.ffDue) ∧
    (∃ s : State, s.loop.ffDue ≤ s.sys.cyc ∧ s.afterInit = false) ∧
    (∃ s : State, s.loop.ffDue ≤ s.sys.cyc ∧ s.afterInit = true ∧
      (State.applied { s with loop.ffDue := s.sys.cyc + 62500000 } 6 1).retuneAll.fc.holding = true) ∧
    (∃ s u : State, s.loop.ffDue ≤ s.sys.cyc ∧ u = (State.applied { s with loop.ffDue := s.sys.cyc + 62500000 } 6 1).retuneAll ∧
      s.afterInit = true ∧ u.fc.holding = false ∧ u.loop.phase ≠ .off ∧ u.wv.selected ≠ none ∧ u.wv.switch = none) ∧
    (∃ s : State, s.loop.slewLimited = true ∧ s.loop.slewSince + 37500000000 ≤ s.sys.cyc ∧ s.hasCause Flt.loopSlew = false) ∧
    (∃ (s : State) (i : Fin 16) (b : Nat × Int × Int), s.fc.obsDue ≤ s.sys.cyc ∧ s.sys.engine = .locked ∧ s.wv.switch = none ∧ s.disputeOpen = false ∧
      s.wv.selected = some i ∧ s.fc.history.head? = some b ∧ s.fc.obsBreak ≤ b.1 ∧ s.fc.obsStart = none) ∧
    (∃ s : State, s.fc.obsDue ≤ s.sys.cyc ∧ s.sys.engine ≠ .locked ∧ s.sys.engine ≠ .warmup) ∧
    (∃ (s : State) (f : Fin 3), s.fc.fw[f].model = none) ∧
    (∃ (s : State) (f g : Fin 3), s.fc.hourDue ≤ s.sys.cyc ∧ s.fc.holding = true ∧ s.fc.fw[f].hour ≠ [] ∧ s.fc.fw[g].hour = []) ∧
    (∃ (s : State) (f g : Fin 3), s.fc.dayDue ≤ s.sys.cyc ∧ s.fc.holding = true ∧ s.fc.fw[f].day ≠ [] ∧ s.fc.fw[g].day = []) ∧
    (∃ (s : State) (f : Fin 3) (c : Nat), s.fc.fw[f].model.isSome = true ∧ s.fc.fw[f].lastAccept = some c ∧
      c + s.fc.fw[f].cfg.nat Ix.fwMaxAge * 54000000000000 < s.sys.cyc) ∧
    (∃ (s : State) (f : Fin 3), s.fc.fw[f].model.isSome = true ∧ s.fc.fw[f].cfg.nat Ix.fwTempSrc ≤ 3 ∧
      s.fc.fw[f].lastGood + 2250000000000 < s.sys.cyc) :=
  ⟨⟨{ up with loop.ffDue := 1000000000000001 }, by decide⟩, ⟨State.reset, by decide⟩,
   ⟨{ up with fc.holding := true }, by decide, by decide, rfl⟩,
   ⟨{ up with loop.phase := .track, wv.selected := some 2 }, _, by decide, rfl, by decide, rfl,
     (show LoopPhase.track ≠ LoopPhase.off by decide), (show (some 2 : Option (Fin 16)) ≠ none by decide), rfl⟩,
   ⟨{ up with loop.slewLimited := true, loop.slewSince := 999962500000000 }, by decide⟩,
   ⟨{ upIn .locked with wv.selected := some 2, fc.obsBreak := 6, fc.history := [(6, 7, 8)] }, 2, (6, 7, 8), by decide⟩,
   ⟨upIn .holdover, by decide⟩, ⟨up, 1, by decide⟩,
   ⟨{ up.mapFw 1 fun w => { w with hour := [⟨0, 0, 0, 0⟩] } with fc.holding := true }, 1, 2, by decide⟩,
   ⟨{ up.mapFw 1 fun w => { w with day := [0] } with fc.holding := true }, 1, 2, by decide⟩,
   ⟨up.mapFw 1 fun w => { w with model := some {}, lastAccept := some 0, cfg := w.cfg.set Ix.fwMaxAge 1 }, 1, 0, by decide⟩,
   ⟨up.mapFw 1 fun w => { w with model := some {}, cfg := w.cfg.set Ix.fwTempSrc 3 }, 1, by decide⟩⟩

/-- A sensor in some condition. -/
def sensorAt (x : Sensor) : State := { up with fc.sensors := up.fc.sensors.set 2 x }

theorem witness_SenseReadsFallBackAndReturn :
    (∃ l : List Int, l.length = 4) ∧
    (∃ (s : State) (i : Fin 4), s.fc.sensors[i].fallback = true ∧ s.fc.sensors[i].absent = false) ∧
    (∃ (s : State) (i : Fin 4), s.fc.sensors[i].reading = false) ∧
    (∃ (s : State) (i : Fin 4) (r : SenseRead), s.fc.sensors[i].reading = true ∧ s.goodRead s.fc.sensors[i] r = none ∧
      s.fc.sensors[i].fallback = false ∧ s.fc.sensors[i].fails < 2) ∧
    (∃ (s : State) (i : Fin 4) (r : SenseRead), s.fc.sensors[i].reading = true ∧ s.goodRead s.fc.sensors[i] r = none ∧
      s.fc.sensors[i].fallback = false ∧ 2 ≤ s.fc.sensors[i].fails) ∧
    (∃ (s : State) (i : Fin 4) (r : SenseRead) (v : Rat), s.fc.sensors[i].reading = true ∧ s.goodRead s.fc.sensors[i] r = some v ∧
      s.fc.sensors[i].fallback = false) ∧
    (∃ (s : State) (i : Fin 4) (r : SenseRead) (v : Rat), s.fc.sensors[i].reading = true ∧ s.goodRead s.fc.sensors[i] r = some v ∧
      s.fc.sensors[i].fallback = true) :=
  ⟨⟨[1, 2, 3, 4], rfl⟩, ⟨sensorAt { addr := 0x48, fallback := true }, 2, by decide⟩, ⟨up, 2, by decide⟩,
   ⟨sensorAt { addr := 0x48, reading := true, fails := 1 }, 2, .nack, by decide⟩,
   ⟨sensorAt { addr := 0x48, reading := true, fails := 2 }, 2, .stretched, by decide⟩,
   ⟨sensorAt { addr := 0x48, reading := true }, 2, .value (125 * 256), 125, by decide +kernel⟩,
   ⟨sensorAt { addr := 0x48, reading := true, fallback := true, offset := 125 }, 2, .value (125 * 256), 125, by decide +kernel⟩⟩

/-- A synthesizer in some condition. -/
def synthAt (f : Synth → Synth) : State := up.mapOs 1 f

theorem witness_SynthesizersLockLoseLockAndRelock :
    (∃ (s : State) (o : Fin 4), s.outs.os[o].lock = .searching) ∧
    (∃ (s : State) (o : Fin 4), o ≠ 2 ∧ s.outs.os[o].lock = .searching ∧ s.handled = []) ∧
    (∃ (s : State) (o : Fin 4), o ≠ 2 ∧ o ≠ 3 ∧ s.outs.os[o].lock = .locked) ∧
    (∃ s : State, s.outs.os[(3 : Fin 4)].lock = .locked) ∧ (∃ s : State, s.outs.os[(2 : Fin 4)].lock = .locked) ∧
    (∃ (s : State) (o : Fin 4), s.outs.os[o].lock ≠ .searching) ∧ (∃ (s : State) (o : Fin 4), s.outs.os[o].lock ≠ .locked) ∧
    (∃ (s : State) (o : Fin 4), s.outs.os[o].lock = .lost ∧ s.outs.os[o].attempts = 2 ∧ s.outs.os[o].tryAt ≤ s.sys.cyc) ∧
    (∃ (s : State) (o : Fin 4), s.outs.os[o].lock ≠ .lost) ∧ (∃ (s : State) (o : Fin 4), 3 ≤ s.outs.os[o].attempts) ∧
    (∃ (s : State) (o : Fin 4) (c : Cfg), s.outs.os[o].lock = .locked ∧ s.hasApplied 1 o.val = false ∧ s.applyMarker o ≤ (s.sys.cyc : Int) * 1024 + 1023 ∧
      s.outs.os[o].pending = some c) ∧
    (∃ (s : State) (o : Fin 4), s.outs.os[o].lock = .locked ∧ s.hasApplied 1 o.val = false ∧ (s.sys.cyc : Int) * 1024 + 1023 < s.applyMarker o) :=
  ⟨⟨synthAt fun x => { x with lock := .searching }, 1, by decide⟩, ⟨synthAt fun x => { x with lock := .searching }, 1, by decide⟩,
   ⟨synthAt fun x => { x with lock := .locked }, 1, by decide⟩, ⟨up.mapOs 3 fun x => { x with lock := .locked }, by decide⟩,
   ⟨up.mapOs 2 fun x => { x with lock := .locked }, by decide⟩, ⟨up, 1, by decide⟩, ⟨up, 1, by decide⟩,
   ⟨synthAt fun x => { x with lock := .lost, attempts := 2 }, 1, by decide⟩, ⟨up, 1, by decide⟩,
   ⟨synthAt fun x => { x with lock := .lost, attempts := 3 }, 1, by decide⟩,
   ⟨synthAt fun x => { x with lock := .locked, pending := some x.cfg }, 1, up.outs.os[(1 : Fin 4)].cfg, by decide +kernel⟩,
   ⟨synthAt fun x => { x with lock := .locked, strobeAt := 1000000000000000 }, 1, by decide +kernel⟩⟩

/-- Pin n in some condition, mutes of start-up over. -/
def pinAt (n : Fin 80) (f : OutPin → OutPin) : State := { up.mapPin n f with outs.startupMute := false }

theorem witness_PulsesAndFramesLeaveAtTheirInstants :
    (∃ (s : State) (n : Fin 80) (p : Int), (s.outs.pins[n].cfg.nat Ix.outMode = 2 ∨ s.outs.pins[n].cfg.nat Ix.outMode = 4) ∧ s.dueInstant n = some p ∧
      s.outs.startupMute = false ∧ s.outs.safe = false ∧ s.pinIncapable n = false ∧ s.outs.pins[n].muted = false ∧ s.omitted s.outs.pins[n] p = false) ∧
    (∃ (s : State) (n : Fin 80) (p : Int), (s.outs.pins[n].cfg.nat Ix.outMode = 2 ∨ s.outs.pins[n].cfg.nat Ix.outMode = 4) ∧ s.dueInstant n = some p ∧
      s.outs.startupMute = false ∧ s.outs.safe = false ∧ s.pinIncapable n = false ∧ s.outs.pins[n].muted = false ∧ s.omitted s.outs.pins[n] p = true) ∧
    (∃ (s : State) (n : Fin 80) (p : Int), s.outs.pins[n].cfg.nat Ix.outMode = 2 ∧ s.dueInstant n = some p ∧ s.outs.startupMute = false ∧
      s.outs.safe = false ∧ s.pinIncapable n = false ∧ s.outs.pins[n].muted = true ∧ s.outs.os[sourceOs s n].lock = .searching) ∧
    (∃ (s : State) (n : Fin 80), s.dueInstant n = none) ∧
    (∃ s : State, s.outs.startupMute = true) ∧ (∃ s : State, s.outs.safe = true) ∧ (∃ (s : State) (n : Fin 80), s.pinIncapable n = true) ∧
    (∃ (s : State) (n : Fin 80) (p : Int), s.outs.pins[n].cfg.nat Ix.outMode = 3 ∧ s.dueInstant n = some p ∧ s.outs.startupMute = false ∧
      s.outs.safe = false ∧ s.pinIncapable n = false ∧ s.outs.os[sourceOs s n].lock ≠ .off) :=
  ⟨⟨pinAt 0 fun p => { p with cfg := p.cfg.set Ix.outMode 4, muted := false }, 0, 104857600000000000000, by decide +kernel⟩,
   ⟨{ pinAt 0 fun p => { p with cfg := (((p.cfg.set Ix.outMode 2).set Ix.outScale 1).set Ix.outPeriod 2000000000).set Ix.outWidth 1500000000, muted := false } with
        ts.utcOffset := 36, ts.leapPending := 2, ts.leapAt := 1600001 }, 0, 104857600000000000000, by decide +kernel⟩,
   ⟨State.mapOs (pinAt 0 fun p => { p with cfg := p.cfg.set Ix.outMode 2, muted := true }) 0 fun x => { x with lock := .searching }, 0, 104857600000000000000, by decide +kernel⟩,
   ⟨pinAt 0 fun p => { p with lastPulse := some (2 ^ 80) }, 0, by decide +kernel⟩, ⟨up, by decide⟩, ⟨{ up with outs.safe := true }, by decide⟩,
   ⟨State.mapOs (pinAt 0 fun p => { p with cfg := p.cfg.set Ix.outMode 2 }) 0 fun x => { x with cfg := x.cfg.set Ix.synthFvco 1 }, 0, by decide⟩,
   ⟨State.mapOs (pinAt 0 fun p => { p with cfg := p.cfg.set Ix.outMode 3 }) 0 fun x => { x with lock := .searching }, 0, 104857600000000000000, by decide +kernel⟩⟩

theorem witness_TimeFramesHaveTheirForm :
    (∃ sec : Nat, sec < 2 ^ 48) ∧
    (∃ (s : State) (k : Fin 64) (n pulse : Fin 80) (p : Int), n = tioPin k ∧ pulse = tioPin (Fin.ofNat 64 (s.outs.pins[n].cfg.nat Ix.outPulsePin)) ∧
      s.outs.pins[n].cfg.nat Ix.outMode = 5 ∧ s.outs.pins[pulse].cfg.nat Ix.outMode = 4 ∧ s.outs.pins[pulse].emitted = some p ∧
      s.outs.pins[n].lastPulse ≠ some p ∧ s.frameStart s.outs.pins[n] p ≤ (s.now : Rat) ∧ s.frameValid s.outs.pins[n] p s.now = true ∧
      s.outs.startupMute = false ∧ s.outs.safe = false ∧ s.pinMuted n = false) :=
  ⟨⟨2 ^ 48 - 1, by decide⟩,
   ⟨State.mapPin (pinAt (tioPin 5) fun p => { p with cfg := p.cfg.set Ix.outMode 5, muted := false }) (tioPin 0)
       fun p => { p with cfg := p.cfg.set Ix.outMode 4, emitted := some 104857593446400000000 },
     5, tioPin 5, tioPin 0, 104857593446400000000, by decide +kernel⟩⟩

theorem witness_AlignmentsEndAndStrobesNeedACompleteMask :
    (∃ (s : State) (o : Fin 4) (a c : Nat), s.outs.os[o].align = some (.step a c) ∧ s.alignInstant o a ≤ s.now) ∧
    (∃ (s : State) (o : Fin 4) (a c : Nat), s.outs.os[o].align = some (.step a c) ∧ s.now < s.alignInstant o a) ∧
    (∃ (s : State) (o : Fin 4) (r c : Nat) (m : Rat), s.outs.os[o].align = some (.walk r c m) ∧
      ((0 < s.outs.os[o].walk ∧ 0 < s.mis o) ∨ (s.outs.os[o].walk < 0 ∧ s.mis o < 0))) ∧
    (∃ (s : State) (o : Fin 4) (r c : Nat) (m : Rat), s.outs.os[o].align = some (.walk r c m) ∧
      ¬ ((0 < s.outs.os[o].walk ∧ 0 < s.mis o) ∨ (s.outs.os[o].walk < 0 ∧ s.mis o < 0))) ∧
    (∃ (s : State) (g : Fin 8), s.groupWhole g = false) ∧ (∃ (s : State) (g : Fin 8), s.groupWhole g = true) ∧
    (∃ (s : State) (hp : Fin 4) (v : Word), s.afterBoot = true ∧ ∀ g : Fin 8, v.getLsbD g.val = true → s.mayStrobe hp g = false) ∧
    (∃ (s : State) (hp : Fin 4) (v : Word) (g : Fin 8), s.afterBoot = true ∧ s.mayStrobe hp g = true ∧ v.toNat % 256 = 2 ^ g.val) ∧
    (∃ (s : State) (hp : Fin 4) (g : Fin 8), s.afterBoot = true ∧ s.mayStrobe hp g = false) ∧
    (∃ (s : State) (hp : Fin 4) (g : Fin 8) (v : Word), s.afterBoot = true ∧ s.mayStrobe hp g = true ∧ v.toNat / 65536 = 0) ∧
    (∃ (s : State) (g : Fin 8) (m : Nat), s.hasApplied g m = true) ∧ (∃ v : Word, v.toNat % 256 = 0) :=
  ⟨⟨synthAt fun x => { x with align := some (.step 7 3) }, 1, 7, 3, by decide +kernel⟩,
   ⟨synthAt fun x => { x with align := some (.step 7000000 3) }, 1, 7000000, 3, by decide +kernel⟩,
   ⟨synthAt fun x => { x with align := some (.walk 7 3 5), walk := 7, walkFrom := 1000000000000000, mis := 5 }, 1, 7, 3, 5, by decide +kernel⟩,
   ⟨synthAt fun x => { x with align := some (.walk 7 3 5), walk := 7, walkFrom := 1000000000000000, mis := 0 }, 1, 7, 3, 5, by decide +kernel⟩,
   ⟨up, 7, by decide⟩, ⟨up.mapGroup 7 fun x => { x with applied := 1 }, 7, by decide⟩,
   ⟨up, 1, 0xFF, by decide⟩, ⟨up, 0, 0x80, 7, by decide⟩, ⟨up, 1, 7, by decide⟩, ⟨up, 0, 7, 1, by decide⟩,
   ⟨up.mapGroup 7 fun x => { x with applied := 1 }, 7, 0, by decide⟩, ⟨256, by decide⟩⟩

/-! ### Witnesses: GNSS -/

/-- A receiver in a mode, dual-frequency, its streams healthy, and the satellite's main signal tracked on channel 9. -/
def gnssAt (mode : Int) : State :=
  ((up.mapStream 1 fun x => { x with healthy := true }).mapStream 0 fun x => { x with healthy := true }).mapChan 9
    (fun _ => { sat := some ⟨0, 5⟩, signal := 0, state := .tracking }) |>
  fun s => { s with gnss.cfg := (s.gnss.cfg.set Ix.rxMode mode).set Ix.rxDualFreq 1 }

/-- The search of that satellite's second frequency. -/
def someSearch : Search := ⟨⟨0, 5⟩, 2, false, 0, 1, none⟩

/-- A dwell that has ended, on that search alone. -/
def dwellAt (verify : Bool) (found : List Search) : State :=
  { gnssAt 1 with gnss.dwell := some ⟨verify, [someSearch], 5⟩, gnss.toVerify := found }

theorem detects_none (g : Gnss) : g.detects 0 0 = false := by simp [Gnss.detects]

theorem detects_any (g : Gnss) : g.detects 0 1 = true := by simp [Gnss.detects]

theorem witness_GnssSearchesEpochsAndSolutions :
    (∃ (s : State) (d : Dwell) (n : Nat) (l : List (Nat × Nat)), s.gnss.dwell = some d ∧ d.verify = false ∧ d.ends ≤ s.sys.cyc ∧
      l ≠ [] ∧ ∀ e ∈ l, s.gnss.detects n e.2 = false) ∧
    (∃ (s : State) (d : Dwell) (n h p : Nat) (x : Search), s.gnss.dwell = some d ∧ d.verify = false ∧ d.ends ≤ s.sys.cyc ∧
      s.gnss.detects n p = true ∧ hypothesisAt d.block h = some x ∧ (s.searchHyps x.sat x.signal x.antB).isSome = true ∧
      (s.gnss.toVerify.any fun y => y.sat == x.sat && y.signal == x.signal && y.antB == x.antB) = false) ∧
    (∃ (s : State) (d : Dwell), s.gnss.dwell = some d ∧ s.sys.cyc < d.ends) ∧
    (∃ (s : State) (d : Dwell) (n : Nat) (l : List Nat), s.gnss.dwell = some d ∧ d.verify = true ∧ d.ends ≤ s.sys.cyc ∧ l ≠ [] ∧
      ∀ p ∈ l, s.gnss.detects n p = false) ∧
    (∃ (s u : State) (d : Dwell) (n : Nat) (l : List Nat) (v : Search) (k : Fin 128), s.gnss.dwell = some d ∧ d.verify = true ∧ d.ends ≤ s.sys.cyc ∧
      u = { s with gnss.dwell := none, gnss.toVerify := s.gnss.toVerify.drop 1 } ∧ (l.any (s.gnss.detects n)) = true ∧ d.block = [v] ∧
      (u.searchHyps v.sat v.signal v.antB).isSome = true ∧ u.pickChan (u.gnss.class v.sat v.signal v.antB, -u.predicted v.sat) = some k) ∧
    (∃ (s : State) (k : Fin 128), (s.gnss.chans[k].state = .tracking ∨ s.gnss.chans[k].state = .pullIn) ∧ s.gnss.lossRule.2 ≤ s.gnss.chans[k].lowRun) ∧
    (∃ (s : State) (k : Fin 128), s.gnss.chans[k].lowRun < s.gnss.lossRule.2) ∧
    (∃ s : State, s.gnss.epochSec = s.nowSec) ∧
    (∃ s : State, s.afterBoot = true ∧ s.gnss.epochSec ≠ s.nowSec ∧ s.gnss.mode = 0 ∧ s.gnss.next = none) ∧
    (∃ e : List (Sat × Int), e ≠ [] ∧ (e.map Prod.fst).Nodup) ∧
    (∃ s : State, s.gnssTracks = true ∧ s.gnss.epochSec ≠ s.nowSec ∧ s.gnss.next = none) ∧ (∃ s : State, s.gnss.epochAt = none) ∧
    (∃ (s : State) (n : Nat), s.gnss.epochAt = some n ∧ s.gnss.surveys = false ∧ s.gnss.posInvalid = true) ∧
    (∃ s : State, s.afterBoot = true ∧ s.gnss.mode ≠ 0 ∧ s.gnss.everValid = false ∧ s.gnss.modeStart + 187500000000 < s.sys.cyc) ∧
    (∃ s : State, s.gnss.everValid = true) ∧ (∃ s : State, s.sys.cyc ≤ s.gnss.modeStart + 187500000000) ∧
    (∃ s : State, s.gnss.refresh = true ∧ 60 ≤ s.gnss.refreshSecs.length) :=
  ⟨⟨dwellAt false [], _, 0, [(0, 0)], rfl, rfl, by decide, by decide, by intro e h; cases List.mem_singleton.1 h; exact detects_none _⟩,
   ⟨dwellAt false [], _, 0, 0, 1, someSearch, rfl, rfl, by decide, detects_any _, by decide, by decide +kernel, by decide⟩,
   ⟨{ up with gnss.dwell := some ⟨true, [], 1000000000000001⟩ }, _, rfl, by decide⟩,
   ⟨dwellAt true [someSearch], _, 0, [0], rfl, rfl, by decide, by decide, by intro e h; cases List.mem_singleton.1 h; exact detects_none _⟩,
   ⟨dwellAt true [someSearch], _, _, 0, [1], someSearch, 0, rfl, rfl, by decide, rfl, by simp [detects_any], rfl, by decide +kernel, by decide +kernel⟩,
   ⟨(gnssAt 1).mapChan 9 fun x => { x with lowRun := 2 }, 9, by decide +kernel⟩, ⟨gnssAt 1, 9, by decide +kernel⟩,
   ⟨{ up with gnss.epochSec := 1600000 }, by decide⟩, ⟨{ up with gnss.cfg := up.gnss.cfg.set Ix.rxMode 0 }, by decide⟩,
   ⟨[(⟨0, 5⟩, 7), (⟨0, 6⟩, 7)], by decide⟩, ⟨gnssAt 2, by decide +kernel⟩,
   ⟨up, by decide⟩, ⟨{ up with gnss.epochAt := some 5, gnss.cfg := up.gnss.cfg.set Ix.rxSurvey 0 }, 5, by decide⟩, ⟨gnssAt 3, by decide +kernel⟩,
   ⟨{ up with gnss.everValid := true }, by decide⟩, ⟨State.reset, by decide⟩,
   ⟨{ up with gnss.refresh := true, gnss.refreshSecs := List.replicate 60 5 }, by decide⟩⟩

/-- A J/N code is never the code of an unknown J/N when there is a depression. -/
theorem jnCode_some (d : Rat) : jnCode (some d) ≠ 255 := by
  simp only [jnCode]
  omega

/-- Stream 0 with a fixed gain, a day of baseline, and a J/N limit below every report. -/
def jamAt : State :=
  { (gnssAt 1).mapStream 0 (fun x => { x with cfg := x.cfg.set Ix.streamGainMode 0, powers := [(945000000000000, 7)] }) with
      gnss.cfg := ((gnssAt 1).gnss.cfg.set Ix.rxJamLimit (-41)).set Ix.rxJamAlarm 0 }

/-- A survey that began long ago. -/
def surveyAt (round : Bool) (info : List (List Rat)) : State :=
  { up with gnss.surveyStart := some 5, gnss.surveyRound := round, gnss.surveyInfo := info,
            gnss.cfg := (up.gnss.cfg.set Ix.rxSurveyTime 1).set Ix.rxSurveyLimit 2 }

theorem witness_GnssStreamsSurveysAndSnapshots :
    (∃ (s : State) (i j : Fin 4) (x : List (Nat × Int × Int)), s.afterBoot = true ∧ s.gnss.streams[i].cfg.flag Ix.streamEnable = true ∧ j ≠ i ∧
      s.gnss.streams[j].healthy = true ∧ 62500 ≤ longestRun x) ∧
    (∃ x : List (Nat × Int × Int), sampleSquare x < 1 / 4) ∧ (∃ x : List (Nat × Int × Int), tooClipped x = true) ∧
    (∃ (s : State) (i : Fin 4) (x : List (Nat × Int × Int)), s.afterBoot = true ∧ s.gnss.streams[i].cfg.flag Ix.streamEnable = true ∧
      s.gnss.streams[i].healthy = true ∧ longestRun x < 62500 ∧ 1 / 4 ≤ sampleSquare x ∧ tooClipped x = false) ∧
    (∃ (s u : State) (i : Fin 4) (p : Nat), s.afterBoot = true ∧ s.gnss.streams[i].cfg.flag Ix.streamEnable = true ∧ u = s.notePower i p ∧
      u.gnss.jamOver (jnCode (u.jnDepression i)) = false) ∧
    (∃ (s u : State) (i : Fin 4) (p : Nat), s.afterBoot = true ∧ s.gnss.streams[i].cfg.flag Ix.streamEnable = true ∧ u = s.notePower i p ∧
      s.gnss.cfg.flag Ix.rxJamAlarm = false ∧ u.gnss.jamOver (jnCode (u.jnDepression i)) = true) ∧
    (∃ (s : State) (i : Fin 4), s.afterBoot = true ∧ s.gnss.streams[i].cfg.flag Ix.streamEnable = true ∧ s.gnss.mode ≠ 0 ∧
      (∀ j : Fin 4, s.gnss.streams[i].notches[j] = none) ∧
      interferers [] (doubleMedian [] + 2 * (s.gnss.cfg.at Ix.rxNotchThresh * 128)) = [] ∧
      interferers [0, 100000] (doubleMedian [0, 100000] + 2 * (s.gnss.cfg.at Ix.rxNotchThresh * 128)) = [(-127, 100000)]) ∧
    (∃ (s : State) (c : Nat), s.gnss.surveyStart = some c ∧ s.gnss.surveyRound = false ∧ c + s.gnss.cfg.nat Ix.rxSurveyTime * 2250000000000 ≤ s.sys.cyc ∧
      s.gnss.surveyMet = true) ∧
    (∃ (s : State) (c : Nat), s.gnss.surveyStart = some c ∧ s.gnss.surveyRound = false ∧ c + s.gnss.cfg.nat Ix.rxSurveyTime * 2250000000000 ≤ s.sys.cyc ∧
      s.gnss.surveyMet = false) ∧
    (∃ (s : State) (c : Nat), s.gnss.surveyStart = some c ∧ s.gnss.surveyRound = true ∧ c + 2 * (s.gnss.cfg.nat Ix.rxSurveyTime * 2250000000000) ≤ s.sys.cyc ∧
      s.gnss.surveyMet = false) ∧
    (∃ s : State, s.afterBoot = true ∧ s.gnss.mode = 3 ∧ s.gnss.snapDue ≤ s.sys.cyc ∧ s.ephCount s.nowSec < s.gnss.cfg.nat Ix.rxMinSats ∧
      s.timeUncertainty = none) ∧
    (∃ (s : State) (u : Rat), s.timeUncertainty = some u ∧ 1 / 10000 < u) ∧
    (∃ s : State, s.gnss.snap.state = .pending ∧ ∀ t, s.gnss.snap.startAt = some t → t ≤ s.now) ∧
    (∃ s : State, s.gnss.snap.state = .capturing ∧ s.gnss.snap.first + s.gnss.snap.length * 625000 ≤ s.sys.cyc ∧ s.gnss.snap.header.length = 11) ∧
    (∃ s : State, s.gnss.snap.state = .processing) :=
  ⟨⟨gnssAt 1, 0, 1, [(62500, 7, 7)], by decide +kernel⟩, ⟨[(5, 0, 0)], by decide +kernel⟩, ⟨[(1, -8, 3)], by decide +kernel⟩,
   ⟨gnssAt 1, 0, [(62499, 3, -3), (62499, -3, 3)], by decide +kernel⟩,
   ⟨(gnssAt 1).mapStream 0 fun x => { x with cfg := x.cfg.set Ix.streamGainMode 0 }, _, 0, 7, by decide +kernel, by decide +kernel, rfl, by decide +kernel⟩,
   ⟨jamAt, _, 0, 7, by decide +kernel, by decide +kernel, rfl, by decide +kernel, by
      have e : ∃ d, (jamAt.notePower 0 7).jnDepression 0 = some d := ⟨_, rfl⟩
      obtain ⟨d, e⟩ := e
      have h : (jamAt.notePower 0 7).gnss.cfg.at Ix.rxJamLimit = -41 := by decide +kernel
      rw [e, Gnss.jamOver, h, Bool.and_eq_true, bne_iff_ne, decide_eq_true_eq]
      exact ⟨jnCode_some d, by omega⟩⟩,
   ⟨gnssAt 1, 0, by decide +kernel, by decide +kernel, by decide +kernel, by decide +kernel, by simp [interferers], by
      have h : (gnssAt 1).gnss.cfg.at Ix.rxNotchThresh = 30 := by decide +kernel
      simp [h, doubleMedian, interferers, List.mergeSort, List.MergeSort.Internal.splitInTwo, List.zipIdx]⟩,
   ⟨surveyAt false [[1, 0, 0], [0, 1, 0], [0, 0, 1]], 5, by decide +kernel⟩, ⟨surveyAt false [], 5, by decide +kernel⟩, ⟨surveyAt true [], 5, by decide +kernel⟩,
   ⟨gnssAt 3, by decide +kernel⟩, ⟨{ up with bound.ts := 51200000 }, 1 / 5000, by decide +kernel⟩,
   ⟨{ up with gnss.snap := { state := .pending } }, rfl, fun t h => nomatch h⟩,
   ⟨{ up with gnss.snap := { state := .capturing, first := 999999999375000, length := 1, header := List.replicate 11 0 } }, by decide⟩,
   ⟨{ up with gnss.snap := { state := .processing } }, by decide⟩⟩

/-! ### Witnesses: ports, service, lanes and keys -/

/-- Port 0 up, with its enable. -/
def portUp (f : Port → Port) : State := up.mapPort 0 fun p => f { p with linkUp := true, cfg := p.cfg.set Ix.portEnable 1 }

/-- A frame with its FCS, to everybody. -/
def someFrame (etherType : Nat) (l : List Byte) : RxFrame :=
  let b := octs 6 0xFFFFFFFFFFFF ++ octs 6 7 ++ octs 2 etherType ++ l
  ⟨b ++ fcsOf b, false, ⟨5, 6⟩, 0, 0, 0⟩

/-- Octets of nothing. -/
def zeros (n : Nat) : List Byte := List.replicate n 0

set_option maxRecDepth 8000 in
theorem witness_FramesAreFilteredAndDuplicatesDiscarded :
    (∃ (s : State) (p : Fin 8), s.ports[p].linkUp = false) ∧
    (∃ (s : State) (p : Fin 8) (f : RxFrame) (i : Fin 45), s.ports[p].linkUp = true ∧ s.dropReason p f = some i ∧ f.fecCorrected = 0 ∧ f.fecLost = 0 ∧
      f.blockErr = 0) ∧
    (∃ (s : State) (p : Fin 8) (f : RxFrame), s.ports[p].linkUp = true ∧ s.dropReason p f = none ∧ f.rct = none ∧
      f.fecCorrected = 0 ∧ f.fecLost = 0 ∧ f.blockErr = 0) ∧
    (∃ (s : State) (p : Fin 8), s.prpOn p = false) ∧ (∃ f : RxFrame, isPtp f.bare = true) ∧
    (∃ f : RxFrame, f.pcsErr = true) ∧ (∃ f : RxFrame, f.pcsErr = false ∧ f.fcsErr = false ∧ f.len < 64) ∧
    (∃ (e : PrpEntry) (q : Nat), (e.top + 65536 - q) % 65536 < 2048 ∧ e.seen.contains q = false) ∧
    (∃ (e : PrpEntry) (q : Nat), 32768 ≤ (e.top + 65536 - q) % 65536) ∧
    (∃ (e : PrpEntry) (q : Nat), 2048 ≤ (e.top + 65536 - q) % 65536 ∧ (e.top + 65536 - q) % 65536 < 32768) :=
  ⟨⟨up, 0, by decide⟩, ⟨portUp id, 0, someFrame 0x88F7 (zeros 45), 14, by decide +kernel⟩, ⟨portUp id, 0, someFrame 0x88B5 (zeros 46), by decide +kernel⟩,
   ⟨up, 0, by decide⟩, ⟨someFrame 0x88F7 (zeros 46), by decide +kernel⟩,
   ⟨⟨[], true, ⟨5, 6⟩, 0, 0, 0⟩, rfl⟩, ⟨someFrame 0x88F7 (zeros 45), by decide +kernel⟩, ⟨⟨7, 2047, [2047], 0⟩, 0, by decide⟩,
   ⟨⟨7, 32768, [], 0⟩, 0, by decide⟩, ⟨⟨7, 2048, [], 0⟩, 0, by decide⟩⟩

/-- A frame that waits for transmission. -/
def someTx (slot : Option Nat) : TxFrame := { slot := slot, kind := 5, octets := zeros 60 }

theorem witness_LinksLaunchesAndStampIndices :
    (∃ (s : State) (p : Fin 8), s.afterBoot = true ∧ s.ports[p].cfg.flag Ix.portEnable = true ∧ s.ports[p].linkUp = false) ∧
    (∃ (s : State) (p : Fin 8), s.afterBoot = true ∧ s.ports[p].cfg.flag Ix.portEnable = true ∧ s.ports[p].linkUp = true) ∧
    (∃ (s : State) (p : Fin 8) (f : TxFrame) (n : Nat), s.ports[p].linkUp = true ∧ s.nextFrame p = some f ∧ f.slot = some n ∧ f.stampId = none ∧ f.fresh = none) ∧
    (∃ (s : State) (p : Fin 8) (f : TxFrame), s.ports[p].linkUp = true ∧ s.nextFrame p = some f ∧ f.slot = none ∧ f.stampId = none) ∧
    (∃ (s : State) (p : Fin 8), s.nextFrame p = none) ∧ (∃ (s : State) (hp : Fin 4), s.afterBoot = true ∧ s.may hp .ports = true) :=
  ⟨⟨portUp fun p => { p with linkUp := false }, 0, by decide⟩, ⟨portUp id, 0, by decide⟩,
   ⟨portUp fun p => { p with txBuf := [someTx none, someTx (some 7)] }, 0, someTx (some 7), 7, by decide +kernel⟩,
   ⟨portUp fun p => { p with txBuf := [someTx none] }, 0, someTx none, by decide +kernel⟩, ⟨up, 7, by decide⟩, ⟨up, 0, by decide⟩⟩

/-- An engine with one piece of work. -/
def working (w : Work) : State := up.mapSquall 4 fun x => { x with work := [w] }

/-- Work dispatched in a cycle, with a slot. -/
def someWork (start : Nat) (slot : Option Nat) : Work := ⟨0, some 2, start, slot, [someTx slot], []⟩

/-- An NTP request of a client to 10.0.0.3 in a UDP packet, its checksums left out. -/
def someNtp : RxFrame := someFrame 0x0800
  ([0x45, 0] ++ octs 2 76 ++ zeros 4 ++ [64, 17, 0, 0, 10, 0, 0, 9, 10, 0, 0, 3] ++ octs 2 123 ++ octs 2 123 ++ octs 2 56 ++ zeros 2 ++ [0x23] ++ zeros 47)

/-- Port 0 with one received frame, its group applied, and an NTP instance at 10.0.0.3. -/
def asked (f : RxFrame) : State :=
  State.mapInst ((portUp fun p => { p with rxBuf := [f] }).mapGroup 3 fun x => { x with applied := 1 }) 2
    fun x => { x with cfg := (((((x.cfg.set Ix.instEnable 1).set Ix.instPortMask 1).set Ix.instIpv4Count 1).set Ix.instIpv4 0x0A000003).set Ix.instSrcRate 0).set Ix.instInstRate 0 }

/-- A grant that lasts 300 s. -/
def someGrant (start : Nat) : Grant := ⟨2, 0, 7, 1, 0, 0, 300, start, 9, 9, 1⟩

set_option maxRecDepth 8000 in
theorem witness_SquallEnginesServeAndMessagesLeave :
    (∃ (s : State) (p : Fin 8), s.hasApplied 3 0 = true ∧ s.ports[p].rxBuf = []) ∧
    (∃ (s : State) (p : Fin 8) (f : RxFrame) (l : List RxFrame), s.hasApplied 3 0 = true ∧ s.ports[p].rxBuf = f :: l ∧ payloadIn f = .data ∧
      ∀ r : Fin 16, ruleMatches s.svc.rules[r] p f = false) ∧
    (∃ (s : State) (p : Fin 8) (f : RxFrame) (l : List RxFrame) (q : NtpReq) (i e : Fin 16), s.hasApplied 3 0 = true ∧ s.ports[p].rxBuf = f :: l ∧
      payloadIn f = .ntp q ∧ s.instanceFor p f = some i ∧ s.follower = false ∧ s.freeEngine = some e ∧ s.afterInit = true ∧ q.mode = 3 ∧
      (q.vn = 3 ∨ q.vn = 4) ∧ 48 ≤ q.data.length ∧ s.svc.inst[i].cfg.nat Ix.instNts = 0 ∧ s.svc.inst[i].cfg.nat Ix.instSrcRate = 0 ∧
      s.svc.inst[i].cfg.nat Ix.instInstRate = 0) ∧
    (∃ (s : State) (e : Fin 16) (w : Work), w ∈ s.svc.squall[e].work ∧ w.start + 2048 < s.sys.cyc) ∧
    (∃ (s : State) (e : Fin 16), s.svc.squall[e].work ≠ [] ∧ ∀ w ∈ s.svc.squall[e].work, s.sys.cyc ≤ w.start + 2048) ∧
    (∃ (s : State) (e : Fin 16) (w : Work) (l : List Work) (n : Nat), s.svc.squall[e].work = w :: l ∧ w.slot = some n ∧
      n < s.sys.cyc * 1024 + 58880 ∧ w.ready ≠ []) ∧
    (∃ (s : State) (e : Fin 16) (w : Work) (l : List Work) (i : Fin 16), s.svc.squall[e].work = w :: l ∧ w.slot = none ∧ w.instance_ = some i) ∧
    (∃ s : State, s.follower = true) ∧ (∃ s : State, s.follower = false) ∧ (∃ (s : State) (i : Fin 16) (p : Fin 8), s.ptpMaster i p = false) ∧
    (∃ (s : State) (p : Fin 8) (e : Fin 16), s.follower = false ∧ s.svc.esmc[p].cfg.flag Ix.esmcEnable = true ∧ s.ports[p].linkUp = true ∧
      s.afterInit = true ∧ s.lastNominal (256 + p.val) = none ∧ s.freeEngine = some e) ∧
    (∃ (s : State) (p : Fin 8) (u : Int), s.lastNominal (256 + p.val) = some u ∧ s.now + lookAhead < u + secFrac) ∧
    (∃ (s : State) (n : Nat) (g : Grant), s.follower = false ∧ 268 ≤ n ∧ s.svc.grants[n - 268]? = some g) ∧
    (∃ (s : State) (p : Fin 8), s.svc.esmc[p].cfg.flag Ix.esmcEnable = true ∧ s.ports[p].linkUp = true ∧ s.follower = false ∧
      s.svc.esmc[p].lastCode ≠ s.esmcCode p ∧ s.prpOn p = false ∧ field (padded (s.esmcFrame p true)) 6 6 ≠ 0) ∧
    (∃ (s : State) (p : Fin 8), s.svc.esmc[p].lastCode = s.esmcCode p) ∧
    (∃ (s : State) (n : Nat) (g : Grant), s.svc.grants[n]? = some g ∧ g.start + g.duration * 625000000 < s.sys.cyc) ∧
    (∃ (s : State) (n : Nat) (g : Grant), s.svc.grants[n]? = some g ∧ s.sys.cyc ≤ g.start + g.duration * 625000000) ∧
    (∃ (s : State) (c : Nat), s.svc.garpDue = some c ∧ c ≤ s.sys.cyc) :=
  ⟨⟨up.mapGroup 3 fun x => { x with applied := 1 }, 0, by decide⟩,
   ⟨asked (someFrame 0x88B5 (zeros 46)), 0, someFrame 0x88B5 (zeros 46), [], by decide +kernel⟩,
   ⟨asked someNtp, 0, someNtp, [], ntpOf ([0x23] ++ zeros 47), 2, 0, by decide +kernel⟩,
   ⟨working (someWork 999999999997951 none), 4, someWork 999999999997951 none, by decide⟩,
   ⟨working (someWork 999999999997952 none), 4, by decide⟩,
   ⟨working (someWork 5 (some 1024000000000058879)), 4, someWork 5 (some 1024000000000058879), [], 1024000000000058879, by decide⟩,
   ⟨working (someWork 5 none), 4, someWork 5 none, [], 2, by decide⟩,
   ⟨{ up with twin.role := .quarantined }, by decide⟩, ⟨up, by decide⟩, ⟨up, 3, 3, by decide⟩,
   ⟨{ portUp id with svc.esmc := upd up.svc.esmc 0 fun x => { x with cfg := x.cfg.set Ix.esmcEnable 1 } }, 0, 0, by decide⟩,
   ⟨{ up with svc.sentAt := [(259, up.now + 65536000)] }, 3, up.now + 65536000, by decide +kernel⟩,
   ⟨{ up with svc.grants := [someGrant 5] }, 268, someGrant 5, by decide⟩,
   ⟨{ portUp (fun p => { p with cfg := p.cfg.set Ix.portMac 7 }) with
        svc.esmc := upd up.svc.esmc 0 fun x => { x with cfg := x.cfg.set Ix.esmcEnable 1, lastCode := 1 } }, 0, by decide +kernel⟩,
   ⟨{ up with svc.esmc := upd up.svc.esmc 0 fun x => { x with lastCode := up.esmcCode 0 } }, 0, by decide⟩,
   ⟨{ up with svc.grants := [someGrant 999812499999999] }, 0, someGrant 999812499999999, by decide⟩,
   ⟨{ up with svc.grants := [someGrant 999812500000000] }, 0, someGrant 999812500000000, by decide⟩,
   ⟨{ up with svc.garpDue := some 1000000000000000 }, 1000000000000000, by decide⟩⟩

/-- A send of 60 octets on port 0. -/
def someSend : SendDesc := ⟨0, false, false, 0, 0, zeros 60⟩

set_option maxRecDepth 8000 in
theorem witness_HostLaneRingsMoveWithinTheirSizes :
    (∃ (s : State) (hp : Fin 4) (l : Fin 2), s.afterBoot = true ∧ hp.val = l.val) ∧ (∃ (s : State) (hp : Fin 4), s.afterBoot = true ∧ 2 ≤ hp.val) ∧
    (∃ (s : State) (hp : Fin 4) (l : Fin 2) (v : Word), s.afterBoot = true ∧ hp.val = l.val ∧ s.svc.lanes[l].enabled = false ∧ v.getLsbD 0 = true) ∧
    (∃ (s : State) (l : Fin 2), s.svc.lanes[l].enabled = true) ∧
    (∃ (s : State) (l : Fin 2) (f : RxFrame) (r : Nat) (p : Fin 8) (fs : List (RxFrame × Nat × Fin 8)), s.svc.lanes[l].enabled = true ∧
      s.svc.lanes[l].inFlight = (f, r, p) :: fs) ∧
    (∃ (s : State) (l : Fin 2) (d : SendDesc), s.svc.lanes[l].enabled = true ∧ s.svc.lanes[l].txProd ≠ s.svc.lanes[l].txCons ∧
      s.sendRefused d = true ∧ d.stamp = false) ∧
    (∃ (s : State) (l : Fin 2) (d : SendDesc), s.svc.lanes[l].enabled = true ∧ s.svc.lanes[l].txProd ≠ s.svc.lanes[l].txCons ∧
      s.sendRefused d = false ∧ d.seg = false ∧ d.stamp = false ∧ s.prpOn d.port = false ∧ s.ports[d.port].linkUp = true) :=
  ⟨⟨up, 1, 1, by decide⟩, ⟨up, 2, by decide⟩, ⟨up, 1, 1, 0x6C01, by decide⟩, ⟨up.mapLane 1 fun x => { x with enabled := true }, 1, by decide⟩,
   ⟨up.mapLane 1 fun x => { x with enabled := true, inFlight := [(⟨[], false, ⟨5, 6⟩, 0, 0, 0⟩, 3, 2)] }, 1, ⟨[], false, ⟨5, 6⟩, 0, 0, 0⟩, 3, 2, [], by decide⟩,
   ⟨up.mapLane 1 fun x => { x with enabled := true, txProd := 1 }, 1, someSend, by decide +kernel⟩,
   ⟨State.mapLane (portUp id) 1 fun x => { x with enabled := true, txProd := 1 }, 1, someSend, by decide +kernel⟩⟩

/-- A key that ends at a TAI second. -/
def someKey (st : KeyState) (expiry : Nat) : KeySlot := { state := st, key := [1], expiry := expiry }

theorem witness_KeysExpireAndTheGeneratorReseeds :
    (∃ (s : State) (n : Fin 64), s.auth.sa[n].usable = true ∧ s.auth.sa[n].expiry ≠ 0 ∧ (s.auth.sa[n].expiry : Int) ≤ s.nowSec) ∧
    (∃ (s : State) (n : Fin 64), s.auth.nts[Fin.ofNat 4 n.val].usable = true ∧ s.auth.nts[Fin.ofNat 4 n.val].expiry ≠ 0 ∧
      (s.auth.nts[Fin.ofNat 4 n.val].expiry : Int) ≤ s.nowSec) ∧
    (∃ (s : State) (b : Bool) (n : Fin 64), (s.key b n).expiry = 0 ∨ s.nowSec < ((s.key b n).expiry : Int)) ∧
    (∃ (s : State) (n : Fin 64), s.auth.sa[n].state = .draining ∧ s.keyInUse true n = false) ∧
    (∃ s : State, s.auth.requests < 2 ^ 20 ∧ s.auth.reseedAt + 625000000 ≤ s.sys.cyc) ∧
    (∃ (s : State) (c : Nat), s.auth.testsFrom = some c ∧ c + 625000000 ≤ s.sys.cyc) ∧
    (∃ (s : State) (c : Nat), s.auth.testsFrom = some c ∧ s.sys.cyc < c + 625000000) ∧
    (∃ s : State, s.sys.cyc / 625000000 = s.auth.sketchSec + 1) :=
  ⟨⟨{ up with auth.sa := up.auth.sa.set 63 (someKey .current 1600000) }, 63, by decide⟩,
   ⟨{ up with auth.nts := up.auth.nts.set 3 (someKey .accept 1600000) }, 3, by decide⟩,
   ⟨{ up with auth.sa := up.auth.sa.set 63 (someKey .current 1600001) }, true, 63, by decide⟩,
   ⟨{ up with auth.sa := up.auth.sa.set 63 (someKey .draining 0) }, 63, by decide⟩, ⟨up, by decide⟩,
   ⟨{ up with auth.testsFrom := some 999999375000000 }, 999999375000000, by decide⟩,
   ⟨{ up with auth.testsFrom := some 999999375000001 }, 999999375000001, by decide⟩,
   ⟨{ up with auth.sketchSec := 1599999 }, by decide⟩⟩

/-! ### Witnesses: grid, converters and the twin -/

/-- Feed 5 in some condition. -/
def feedAt (f : Feed → Feed) : State := up.mapFeed 5 f
/-- Converter port 7 in some condition, its strobe applied. -/
def cpAt (f : ConvPort → ConvPort) : State := (up.mapCp 7 f).mapGroup 4 fun x => { x with applied := 0x8000 }

/-- A running port of nominally 1 kHz with three stamps, so far apart. -/
def rated (t : Int) (x : ConvPort) : ConvPort :=
  { x with running := true, cfg := (x.cfg.set Ix.cpClkMode 1).set Ix.cpNomFs (1000 * 2 ^ 24), rate := { n := 3, sk := 3, skk := 5, st := 3 * t, skt := 5 * t } }

theorem witness_GridFeedsAndConverterPortsRun :
    (∃ (s : State) (f : Fin 6) (t t0 : Int) (k : Nat), s.feeds[f].mainsLoss = false ∧ s.feeds[f].dataLost = false ∧
      s.feeds[f].lastCross = some (k, t0) ∧ s.feeds[f].cfg.flag Ix.feedSrc = false ∧ t - t0 < s.feeds[f].cfg.at Ix.feedBlank * 65536000000) ∧
    (∃ (s : State) (f : Fin 6), s.feeds[f].cfg.flag Ix.feedEnable = true ∧ s.feeds[f].mainsLoss = false ∧ s.feeds[f].dataLost = false ∧
      3 / s.feeds[f].nominal + s.feeds[f].lostTime < cycSeconds ((s.sys.cyc : Int) - s.feeds[f].lossAt) ∧ s.feeds[f].cfg.flag Ix.feedSupply = true) ∧
    (∃ (s : State) (f : Fin 6), s.feeds[f].cfg.flag Ix.feedEnable = false) ∧ (∃ (s : State) (f : Fin 6), s.feeds[f].mainsLoss = true) ∧
    (∃ (s : State) (f : Fin 6), cycSeconds ((s.sys.cyc : Int) - s.feeds[f].lossAt) ≤ 3 / s.feeds[f].nominal + s.feeds[f].lostTime) ∧
    (∃ (s : State) (f : Fin 6), s.feeds[f].gteValid = true ∧ s.feeds[f].lossAt + 6250000000 < s.sys.cyc) ∧
    (∃ (s : State) (f : Fin 6), s.sys.cyc ≤ s.feeds[f].lossAt + 6250000000) ∧ (∃ s : State, s.afterBoot = true) ∧
    (∃ (s : State) (n : Fin 8), s.cps[n].pending = none ∧ s.hasApplied 4 (8 + n.val) = true ∧ s.cps[n].running = false) ∧
    (∃ (s : State) (n : Fin 8), s.cps[n].pending = none ∧ s.hasApplied 4 (8 + n.val) = true ∧ s.cps[n].running = true ∧ s.cps[n].stopCmds = []) ∧
    (∃ (s : State) (n : Fin 8), s.cps[n].frame + 1 < s.cps[n].cfg.nat Ix.cpBlockFrames) ∧
    (∃ (s : State) (n : Fin 8), s.cps[n].cfg.nat Ix.cpBlockFrames ≤ s.cps[n].frame + 1) ∧
    (∃ (s : State) (n : Fin 8) (d : Rat), s.cps[n].running = true ∧ s.cps[n].stopCmds = [] ∧ s.cps[n].rateFrom + 625000000 ≤ s.sys.cyc ∧
      s.deviation n = some d ∧ |d| ≤ 50 / 1000000) ∧
    (∃ (s : State) (n : Fin 8) (d : Rat), s.cps[n].running = true ∧ s.cps[n].stopCmds = [] ∧ s.cps[n].rateFrom + 625000000 ≤ s.sys.cyc ∧
      s.deviation n = some d ∧ 50 / 1000000 < |d|) ∧
    (∃ (s : State) (n : Fin 8), s.sys.cyc < s.cps[n].rateFrom + 625000000) ∧
    (∃ (s : State) (n : Fin 8), ∃ p, s.cps[n].startAt = some p ∧ (p.1 : Rat) * secFrac + s.mis 2 ≤ s.now) ∧
    (∃ (s : State) (hp : Fin 4), s.afterBoot = true ∧ s.may hp .converter = true) ∧
    (∃ (s : State) (hp : Fin 4), s.afterBoot = true ∧ s.may hp .converter = false) :=
  ⟨⟨feedAt fun x => { x with lastCross := some (3, 100), cfg := (x.cfg.set Ix.feedBlank 1).set Ix.feedSrc 0 }, 5, 65536000099, 100, 3, by decide⟩,
   ⟨feedAt fun x => { x with cfg := (x.cfg.set Ix.feedEnable 1).set Ix.feedSupply 1 }, 5, by decide +kernel⟩, ⟨up, 5, by decide⟩,
   ⟨feedAt fun x => { x with mainsLoss := true }, 5, by decide⟩, ⟨feedAt fun x => { x with lossAt := 1000000000000000 }, 5, by decide +kernel⟩,
   ⟨feedAt fun x => { x with gteValid := true, lossAt := 999993749999999 }, 5, by decide⟩, ⟨feedAt fun x => { x with lossAt := 999993750000000 }, 5, by decide⟩,
   ⟨up, by decide⟩, ⟨cpAt id, 7, by decide⟩, ⟨cpAt fun x => { x with running := true }, 7, by decide⟩,
   ⟨cpAt fun x => { x with cfg := x.cfg.set Ix.cpBlockFrames 2 }, 7, by decide⟩, ⟨cpAt fun x => { x with cfg := x.cfg.set Ix.cpBlockFrames 1 }, 7, by decide⟩,
   ⟨cpAt (rated 65536000000), 7, 0, by decide +kernel⟩, ⟨cpAt (rated 131072000000), 7, -1 / 2, by decide +kernel⟩,
   ⟨cpAt fun x => { x with rateFrom := 1000000000000000 }, 7, by decide⟩, ⟨cpAt fun x => { x with startAt := some (1600000, 3) }, 7, (1600000, 3), by decide +kernel⟩,
   ⟨up, 0, by decide⟩, ⟨up, 1, by decide⟩⟩

/-- A unit of a pair with its link up, in a role. -/
def unitIn (r : Role) : State := { up with sys.straps := ⟨0, 0, true, true⟩, twin.role := r, twin.linkUp := true }

/-- A heartbeat over the network, HB_SEQ 9, with its VERSION and role octets and its flags. -/
def someHb (unit flags : Nat) : Heartbeat :=
  ⟨octs 1 1 ++ octs 1 unit ++ octs 1 4 ++ octs 1 flags ++ octs 4 6 ++ octs 4 9 ++ octs 4 0xFFFFFFFF ++ octs 16 0 ++ octs 12 0, [], []⟩

theorem witness_HeartbeatsCarryTheToken :
    (∃ s : State, s.sys.straps.twinEn = true ∧ s.afterBoot = true ∧ s.twin.hbDue ≤ s.sys.cyc ∧ s.twin.linkUp = true ∧ s.twin.role = .active ∧
      s.twin.handover = none ∧ s.twin.cfg.at Ix.twinUnitMac = 0) ∧
    (∃ (s : State) (c : Nat), s.sys.straps.twinEn = true ∧ s.afterBoot = true ∧ s.twin.hbDue ≤ s.sys.cyc ∧ s.twin.role = .active ∧ s.twin.handover = some c) ∧
    (∃ s : State, s.sys.cyc < s.twin.hbDue) ∧
    (∃ (s : State) (net : Bool) (h : Heartbeat), s.sys.straps.twinEn = true ∧ s.afterBoot = true ∧ (net = false → s.twin.linkUp = true) ∧
      (h.good net = false ∨ s.icvOk h = false)) ∧
    (∃ (s : State) (net : Bool) (h : Heartbeat), s.sys.straps.twinEn = true ∧ s.afterBoot = true ∧ (net = false → s.twin.linkUp = true) ∧
      h.good net = true ∧ s.icvOk h = true ∧ h.unitId = s.twin.unit ∧ s.twin.configBad ≠ some 0) ∧
    (∃ (s : State) (net : Bool) (h : Heartbeat), s.sys.straps.twinEn = true ∧ s.afterBoot = true ∧ (net = false → s.twin.linkUp = true) ∧
      h.good net = true ∧ s.icvOk h = true ∧ h.unitId ≠ s.twin.unit ∧ h.mode = s.twin.compat ∧ s.hbFresh (if net then 1 else 0) h = false) ∧
    (∃ (s : State) (net : Bool) (h : Heartbeat), s.sys.straps.twinEn = true ∧ s.afterBoot = true ∧ (net = false → s.twin.linkUp = true) ∧
      h.good net = true ∧ s.icvOk h = true ∧ h.unitId ≠ s.twin.unit ∧ h.mode = s.twin.compat ∧
      s.hbFresh (if net then 1 else 0) h = true ∧ s.twin.role = .standby ∧ h.role = 2 ∧ h.release = true) :=
  ⟨⟨unitIn .active, by decide⟩, ⟨{ unitIn .active with twin.handover := some 3 }, 3, by decide⟩, ⟨{ up with twin.hbDue := 1000000000000001 }, by decide⟩,
   ⟨unitIn .standby, false, someHb 9 0, by decide +kernel⟩, ⟨unitIn .standby, true, someHb 8 0, by decide +kernel⟩,
   ⟨{ unitIn .standby with twin.rxSeq := (unitIn .standby).twin.rxSeq.set 1 (some 9) }, true, someHb 9 1, by decide +kernel⟩,
   ⟨{ unitIn .standby with twin.rxSeq := (unitIn .standby).twin.rxSeq.set 1 (some 8) }, true, someHb 9 1, by decide +kernel⟩⟩

/-- A unit whose paths were heard at a cycle. -/
def heard (r : Role) (c : Nat) (netSilent : Bool) : State :=
  { unitIn r with twin.lastHb := Vector.replicate 2 (some c), twin.silent := (Vector.replicate 2 false).set 1 netSilent }

theorem witness_SilenceAndVotesMoveTheToken :
    (∃ (s : State) (net : Bool) (p q : Fin 2) (c : Nat), p = (if net then 1 else 0) ∧ q ≠ p ∧ s.twin.lastHb[p] = some c ∧ s.twin.silent[p] = false ∧
      c + 12500000 < s.sys.cyc ∧ s.twin.silent[q] = false) ∧
    (∃ (s : State) (net : Bool) (p q : Fin 2) (c : Nat), p = (if net then 1 else 0) ∧ q ≠ p ∧ s.twin.lastHb[p] = some c ∧ s.twin.silent[p] = false ∧
      c + 12500000 < s.sys.cyc ∧ s.twin.silent[q] = true ∧ s.twin.role = .standby ∧ s.sys.engine ≠ .safe ∧ s.twin.witness = none) ∧
    (∃ (s : State) (net : Bool) (p : Fin 2) (c : Nat), p = (if net then 1 else 0) ∧ s.twin.lastHb[p] = some c ∧ s.sys.cyc ≤ c + 12500000) ∧
    (∃ (s : State) (e c : Nat), s.twin.vote = some (e, c) ∧ s.twin.voteAnswer = none ∧ c + s.twin.cfg.nat Ix.twinWitnessWait * 625000 < s.sys.cyc ∧
      s.twin.role = .active) ∧
    (∃ (s : State) (e c : Nat), s.twin.vote = some (e, c) ∧ s.twin.voteAnswer = none ∧ c + s.twin.cfg.nat Ix.twinWitnessWait * 625000 < s.sys.cyc ∧
      s.twin.role ≠ .active) ∧
    (∃ (s : State) (e c : Nat), s.twin.vote = some (e, c) ∧ s.twin.voteAnswer = some true ∧ s.twin.role = .standby ∧ s.sys.engine ≠ .safe ∧
      c + (s.twin.cfg.nat Ix.twinWitnessWait + 4) * 625000 < s.sys.cyc) ∧
    (∃ s : State, s.twin.role = .discovering ∧ s.twin.peer.valid = false ∧ s.twin.roleSince + s.twin.cfg.nat Ix.twinDiscoverTime * 625000000 < s.sys.cyc) :=
  ⟨⟨heard .standby 999999987499999 false, false, 0, 1, 999999987499999, by decide⟩,
   ⟨heard .standby 999999987499999 true, false, 0, 1, 999999987499999, by decide⟩, ⟨heard .standby 999999987500000 true, true, 1, 999999987500000, by decide⟩,
   ⟨{ unitIn .active with twin.vote := some (7, 5) }, 7, 5, by decide⟩, ⟨{ unitIn .standby with twin.vote := some (7, 5) }, 7, 5, by decide⟩,
   ⟨{ unitIn .standby with twin.vote := some (7, 5), twin.voteAnswer := some true }, 7, 5, by decide⟩, ⟨unitIn .discovering, by decide⟩⟩

theorem witness_BalandouLinkTransfersTimeAndState :
    (∃ s : State, s.sys.straps.twinEn = true ∧ s.twin.linkUp = false ∧ s.follower = true) ∧ (∃ s : State, s.twin.linkUp = true) ∧
    (∃ s : State, s.twin.linkUp = true ∧ s.afterBoot = true ∧ s.ttIndex ≠ s.twin.txIndex ∧ s.twin.gotTt = true ∧ s.twin.exch = none) ∧
    (∃ (s : State) (a d : Int), s.twin.linkUp = true ∧ s.afterBoot = true ∧ s.ttIndex ≠ s.twin.txIndex ∧ s.twin.gotTt = true ∧ s.twin.exch = some (a, d)) ∧
    (∃ s : State, s.ttIndex = s.twin.txIndex) ∧ (∃ (s : State) (f : TtFrame), s.twin.linkUp = true ∧ s.afterBoot = true ∧ linkGood f.octets = false) ∧
    (∃ (s : State) (f : TtFrame) (a d : Int), s.twin.linkUp = true ∧ s.afterBoot = true ∧ linkGood f.octets = true ∧ f.complete = true ∧
      s.twin.exch = some (a, d) ∧ s.twin.role ≠ .active) ∧
    (∃ s : State, s.twin.linkUp = true ∧ s.now * 16 / secFrac ≠ s.twin.ofsWindow ∧ s.twin.offsets ≠ [] ∧ s.follower = true ∧ s.twin.calibrating = none) ∧
    (∃ (s : State) (k : Fin 16) (st len id : Nat), s.twin.calibrating = some (k, st, len, id) ∧ st + len * 625000000 ≤ s.sys.cyc ∧ s.twin.calSamples ≠ []) ∧
    (∃ s : State, s.twin.linkUp = true ∧ s.afterBoot = true ∧ s.follower = false ∧ s.twin.role = .active) ∧
    (∃ (s : State) (c : Nat), s.follower = true ∧ s.twin.linkUp = true ∧ s.afterBoot = true ∧ s.twin.bulkStart = some c ∧ c + 37500000000 < s.sys.cyc) :=
  ⟨⟨{ unitIn .standby with twin.linkUp := false }, by decide⟩, ⟨unitIn .active, by decide⟩, ⟨unitIn .active, by decide⟩,
   ⟨{ unitIn .active with twin.exch := some (5, 3) }, 5, 3, by decide⟩,
   ⟨{ unitIn .active with twin.txIndex := 1638400000 }, by decide⟩, ⟨unitIn .active, ⟨[], ⟨0, 0⟩⟩, by decide⟩,
   ⟨{ unitIn .standby with twin.exch := some (5, 3) }, ⟨List.replicate 24 0 ++ linkCrc (List.replicate 24 0), ⟨0, 0⟩⟩, 5, 3, by decide +kernel⟩,
   ⟨{ unitIn .standby with twin.offsets := [7] }, by decide⟩,
   ⟨{ unitIn .standby with twin.calibrating := some (15, 999962500000000, 60, 2), twin.calSamples := [7] }, 15, 999962500000000, 60, 2,
     rfl, by decide, by decide +kernel⟩,
   ⟨unitIn .active, by decide⟩, ⟨{ unitIn .standby with twin.bulkStart := some 999962499999999 }, 999962499999999, by decide⟩⟩

/-! ### Witnesses: host ports, registers, faults -/

/-- Port 2 in some condition. -/
def hostAt (f : HostPort → HostPort) : State := up.mapHost 2 f

theorem witness_MailboxesRepliesAndLocks :
    (∃ (s : State) (hp : Fin 4) (m : Fin 8), s.afterBoot = true ∧ s.hosts[hp].ombFull[m] = true ∧ s.hosts[hp].replies = []) ∧
    (∃ (s : State) (hp : Fin 4) (m : Fin 8), s.afterBoot = true ∧ s.hosts[hp].ombFull[m] = false) ∧
    (∃ (s : State) (hp : Fin 4) (m : Fin 8) (c : Nat), s.hosts[hp].stallFrom[m] = some c ∧ c + 625000000 < s.sys.cyc ∧ s.hosts[hp].stalled[m] = false) ∧
    (∃ (s : State) (hp : Fin 4) (m : Fin 8), s.hosts[hp].stallFrom[m] = some s.sys.cyc) ∧
    (∃ (s : State) (hp : Fin 4) (m : Fin 8), s.hosts[hp].stalled[m] = true) ∧ (∃ (s : State) (hp : Fin 4) (m : Fin 8), s.hosts[hp].imbFull[m] = true) ∧
    (∃ (s : State) (hp : Fin 4), s.afterBoot = false ∧ 2 ≤ hp.val) ∧ (∃ (s : State) (hp : Fin 4), s.afterBoot = false ∧ hp.val < 2) ∧
    (∃ (s : State) (k : Fin 16), s.afterBoot = true ∧ s.locks[k] = none) ∧ (∃ (s : State) (p : Fin 4) (k : Fin 16), s.afterBoot = true ∧ s.locks[k] = some p) ∧
    (∃ (s : State) (hp p : Fin 4) (k : Fin 16), s.afterBoot = true ∧ s.locks[k] = some p ∧ p ≠ hp) :=
  ⟨⟨hostAt fun h => { h with ombFull := h.ombFull.set 7 true }, 2, 7, by decide⟩, ⟨up, 2, 7, by decide⟩,
   ⟨hostAt fun h => { h with stallFrom := h.stallFrom.set 7 (some 999999374999999) }, 2, 7, 999999374999999, by decide⟩,
   ⟨hostAt fun h => { h with stallFrom := h.stallFrom.set 7 (some 1000000000000000) }, 2, 7, by decide⟩,
   ⟨hostAt fun h => { h with stalled := h.stalled.set 7 true }, 2, 7, by decide⟩, ⟨hostAt fun h => { h with imbFull := h.imbFull.set 7 true }, 2, 7, by decide⟩,
   ⟨State.reset, 2, by decide⟩, ⟨State.reset, 1, by decide⟩, ⟨up, 15, by decide⟩, ⟨{ up with locks := up.locks.set 15 (some 3) }, 3, 15, by decide⟩,
   ⟨{ up with locks := up.locks.set 15 (some 3) }, 0, 3, 15, by decide⟩⟩

theorem witness_PeerRingSetsTheDoorbellBit : ∃ (s : State) (p : Fin 4) (v : Word), s.afterBoot = true ∧ v.toNat % 4 = p.val := ⟨up, 3, 0xFFFFFFFF, by decide⟩

theorem witness_MasksResetsAndLinksOfHostPorts :
    (∃ s : State, s.afterBoot = true) ∧ (∃ hp : Fin 4, hp.val < 2) ∧ (∃ (s : State) (hp : Fin 4), hp.val < 2 ∧ s.hosts[hp].pcieUp = true) ∧
    (∃ (s : State) (hp : Fin 4), hp.val < 2 ∧ s.hosts[hp].perst = true) ∧ (∃ (s : State) (hp : Fin 4), hp.val < 2 ∧ s.hosts[hp].perst = false) :=
  ⟨⟨up, by decide⟩, ⟨1, by decide⟩, ⟨up.mapHost 1 fun h => { h with pcieUp := true }, 1, by decide⟩,
   ⟨up.mapHost 1 fun h => { h with perst := true }, 1, by decide⟩, ⟨up, 1, by decide⟩⟩

theorem witness_SpiTransactionsMoveWholeWords :
    (∃ hp : Fin 4, hp.val < 2) ∧
    (∃ (s : State) (hp : Fin 4) (a : Nat) (l : List Word), 2 ≤ hp.val ∧ s.afterBoot = true ∧ a % 4 = 0 ∧ a < 0x40000 ∧ l.length = 1) ∧
    (∃ (s : State) (hp : Fin 4) (a : Nat), 2 ≤ hp.val ∧ s.afterBoot = true ∧ a % 4 ≠ 0) :=
  ⟨⟨1, by decide⟩, ⟨up, 3, 0x3FFFC, [7], by decide⟩, ⟨up, 3, 0x3FFFD, by decide⟩⟩

theorem witness_WindowAccessesAreLegalOrBusErrors :
    (∃ (s : State) (hp : Fin 4) (acc : Access) (c : Nat), s.afterBoot = true ∧ s.accessError hp false acc = some c) ∧
    (∃ (s : State) (hp : Fin 4) (acc : Access) (c : Nat), s.afterBoot = true ∧ s.accessError hp true acc = some c) ∧
    (∃ (s : State) (hp : Fin 4) (a : Nat) (w : Word), s.afterBoot = true ∧ a < 0x10000 ∧ a % 4 = 0 ∧ s.regWord hp a = some w ∧ readsEffect a = false ∧
      perfValue a = false) ∧
    (∃ (s : State) (hp : Fin 4) (a : Nat) (w : Word), s.afterBoot = true ∧ a < 0x10000 ∧ a % 4 = 0 ∧ s.regWord hp a = some w ∧ perfValue a = true ∧
      bitAt s.perf.permit hp.val = true) ∧
    (∃ (s : State) (hp : Fin 4) (a : Nat) (w : Word), s.afterBoot = true ∧ a < 0x10000 ∧ a % 4 = 0 ∧ s.regWord hp a = some w ∧ perfValue a = true ∧
      bitAt s.perf.permit hp.val = false) ∧
    (∃ acc : Access, acc.width = 32 ∧ acc.addr % 4 ≠ 0) ∧
    (∃ (s : State) (hp : Fin 4) (a : Nat) (w : Bool), a % 8 = 0 ∧ s.accessError hp w ⟨a, 64⟩ = none) :=
  ⟨⟨up, 1, ⟨0x2001, 32⟩, 3, by decide +kernel⟩, ⟨up, 1, ⟨0x2001, 32⟩, 3, by decide +kernel⟩, ⟨up, 1, 0x200C, 1, by decide +kernel⟩,
   ⟨up, 1, 0xF300, 0, by decide +kernel⟩, ⟨{ up with perf.permit := 0 }, 1, 0xF300, 0, by decide +kernel⟩, ⟨⟨0x2002, 32⟩, by decide⟩,
   ⟨up, 1, 0x2020, false, by decide +kernel⟩⟩

theorem witness_AliasParcelAndDirectAccesses :
    (∃ (s : State) (hp : Fin 4) (a : Nat) (m cur : Word) (w : Nat), s.afterBoot = true ∧ a < 0x10000 ∧ a % 4 = 0 ∧ s.regWord hp a = some cur ∧ aliasBits a = some m ∧
      (w = 8 ∨ w = 16) ∧ a % (w / 8) = 0) ∧
    (∃ (s : State) (hp : Fin 4) (a : Nat) (cur : Word), s.afterBoot = true ∧ a < 0x10000 ∧ a % 4 = 0 ∧ s.regWord hp a = some cur ∧ aliasBits a = none) ∧
    (∃ (s : State) (hp : Fin 4) (o : Nat) (l : List Byte), s.afterBoot = true ∧ memWf s.hosts[hp].parcel = true ∧ l ≠ [] ∧ o + l.length ≤ 0xF000) ∧
    (∃ (s : State) (o : Nat) (l : List Byte), s.afterBoot = true ∧ 0xF000 < o + l.length ∧ o + l.length ≤ 65536) ∧
    (∃ (s : State) (hp : Fin 4), s.afterBoot = true ∧ s.mayDirect hp = false) ∧
    (∃ (s : State) (hp : Fin 4), s.afterBoot = true ∧ s.mayDirect hp = true ∧ s.direct.lockdown = true) ∧
    (∃ (s : State) (hp : Fin 4) (w : Word), s.afterBoot = true ∧ s.mayDirect hp = true ∧ s.direct.lockdown = false ∧
      s.direct.words.find? (·.1 == (s.hosts[hp].dwGroup, s.hosts[hp].dwOffset)) = some ((s.hosts[hp].dwGroup, s.hosts[hp].dwOffset), w)) ∧
    (∃ g o : Nat, directKind g o = .absent) :=
  ⟨⟨up, 1, 0x1024, 0xFFFFFFFF, 0xFFFFFFFF, 16, by decide +kernel⟩, ⟨up, 1, 0x200C, 1, by decide +kernel⟩, ⟨up, 1, 0xEFFF, [7], by decide⟩,
   ⟨up, 0xF000, [7], by decide⟩, ⟨up, 0, by decide⟩, ⟨{ up with sys.grants := up.sys.grants.set 0 32768, direct.lockdown := true }, 0, by decide⟩,
   ⟨{ up with sys.grants := up.sys.grants.set 0 32768, direct.words := [((0, 0), 7)] }, 0, 7, by decide⟩, ⟨0x11, 0, by decide⟩⟩

/-- A message that waits in a queue of the collector. -/
def someMsg : FaultMsg × Nat := (⟨1, 2, 3, 4⟩, 5)

theorem witness_CollectorDumpsAndFlashWrites :
    (∃ s : State, ∀ i : Fin 16, s.flt.queues[i] = []) ∧
    (∃ (s : State) (x : FaultMsg × Nat), firstMsg s.flt.queues.toList.flatten = some x) ∧
    (∃ (l : List (FaultMsg × Nat)) (x : FaultMsg × Nat), firstMsg l = some x) ∧ (∃ (s : State) (m : FaultMsg), s.reaction m = 0) ∧
    (∃ m : FaultMsg, m.fixed = true) ∧ (∃ s : State, s.flt.first = none) ∧ (∃ (s : State) (n : FaultMsg), s.flt.first = some n) ∧
    (∃ s : State, s.perf.due ≤ s.sys.cyc) ∧ (∃ s : State, s.sys.cyc < s.perf.due) ∧
    (∃ (s : State) (hp : Fin 4), hp.val < 2 ∧ s.hosts[hp].dumpInterval ≠ 0 ∧ s.hosts[hp].dumpDue ≤ s.sys.cyc) ∧
    (∃ (s : State) (hp : Fin 4), s.hosts[hp].dumpInterval = 0) ∧ (∃ (s : State) (w : FlashWrite), s.flash.writing = some w) ∧
    (∃ (s : State) (h : Handled), s.handled.find? (·.op == 0xB1) = some h) :=
  ⟨⟨up, by decide⟩, ⟨{ up with flt.queues := up.flt.queues.set 1 [someMsg] }, someMsg, by decide⟩, ⟨[someMsg], someMsg, by decide⟩,
   ⟨{ up with flt.react := [((1, 2), 0)] }, someMsg.1, by decide +kernel⟩, ⟨(Flt.lockstep.msg 0), by decide⟩, ⟨up, by decide⟩,
   ⟨{ up with flt.first := some someMsg.1 }, someMsg.1, by decide⟩, ⟨up, by decide⟩, ⟨State.reset, by decide⟩,
   ⟨up.mapHost 1 fun h => { h with dumpInterval := 1 }, 1, by decide⟩, ⟨up, 1, by decide⟩,
   ⟨{ up with flash.writing := some ⟨0, 0, 0, 0, [], false⟩ }, ⟨0, 0, 0, 0, [], false⟩, by decide⟩,
   ⟨{ up with handled := [⟨0, 0xB1, 0, 0, 0, 0, none, 0, [1], false, false, 0, []⟩] }, _, rfl⟩⟩

/-! ### Witnesses: the commands of Omend -/

theorem witness_CommandWordsAreCheckedInOrderByTheirRows :
    (∃ (s : State) (hp : Fin 4) (mb : Fin 8), s.cmdAt hp mb = none) ∧
    (∃ (s : State) (hp : Fin 4) (mb : Fin 8) (x : Nat × Instr) (c : Cmd), x ∈ commandRows hp mb ∧ s.cmdAt hp mb = some c ∧ c.op ≠ x.1 ∧
      ∃ y ∈ commandRows hp mb, y.1 = c.op) ∧
    (∃ (s : State) (hp : Fin 4) (mb : Fin 8) (c : Cmd), s.cmdAt hp mb = some c ∧ ∀ y ∈ commandRows hp mb, y.1 ≠ c.op) ∧
    (∃ (s : State) (hp : Fin 4) (mb : Fin 8) (x : Nat × Instr) (c : Cmd), x ∈ commandRows hp mb ∧ s.cmdAt hp mb = some c ∧ c.op = x.1 ∧ x.1 ≠ 0x70 ∧
      x.1 ≠ 0x74 ∧ 15360 < c.ofs + c.len) ∧
    (∃ (s : State) (c : Cmd), s.cmdAt 0 0 = some c ∧ c.op = 0x10 ∧ c.len ≠ 2) ∧
    (∃ (s : State) (c : Cmd), s.cmdAt 0 0 = some c ∧ c.op = 0x10 ∧ c.len = 2 ∧ c.fits 2 = true ∧ s.may 0 .time = false) ∧
    (∃ (s : State) (c : Cmd), s.cmdAt 0 0 = some c ∧ c.op = 0x10 ∧ c.len = 2 ∧ c.fits 2 = true ∧ s.may 0 .time = true ∧
      (s.takeImb 0 0).freeSlot 0 = none) ∧
    (∃ (s : State) (c : Cmd), s.cmdAt 0 0 = some c ∧ c.op = 0x12 ∧ c.len ≠ 1) ∧
    (∃ (s : State) (c : Cmd), s.cmdAt 0 0 = some c ∧ c.op = 0x12 ∧ c.len = 1 ∧ c.fits 0 = true ∧ s.may 0 .time = false) ∧
    (∃ (s : State) (c : Cmd), s.cmdAt 0 0 = some c ∧ c.op = 0x12 ∧ c.len = 1 ∧ c.fits 0 = true ∧ s.may 0 .time = true ∧ s.follower = true) ∧
    (∃ (s : State) (c : Cmd), s.cmdAt 0 0 = some c ∧ c.op = 0x12 ∧ c.len = 1 ∧ c.fits 0 = true ∧ s.may 0 .time = true ∧ s.follower = false ∧
      (c.signed 0 < -32768 ∨ 32767 < c.signed 0)) ∧
    (∃ (s : State) (c : Cmd), s.cmdAt 0 0 = some c ∧ c.op = 0x12 ∧ c.len = 1 ∧ c.fits 0 = true ∧ s.may 0 .time = true ∧ s.follower = false ∧
      -32768 ≤ c.signed 0 ∧ c.signed 0 ≤ 32767 ∧ s.ts.leapPending ≠ 0) ∧
    (∃ (s : State) (c : Cmd) (f : CmdForm) (x : Nat × Instr), f ∈ commandForms ∧ x ∈ commandRows 0 0 ∧
      x.1 = f.op ∧ s.cmdAt 0 0 = some c ∧ c.op = f.op ∧ f.follower = true ∧ s.follower = true ∧ (c.fits f.results && f.shape (s.takeImb 0 0) c) = true ∧
      f.rights (s.takeImb 0 0) c = true) ∧
    (∃ (s : State) (hp : Fin 4), s.afterBoot = true ∧ s.may hp .time = true ∧ s.follower = true) :=
  ⟨⟨up, 0, 0, by decide⟩, ⟨sent 0x10 [1, 0] up, 0, 0, (0x11, .rate 0 0), cmdOf 0x10 [1, 0], by decide +kernel⟩,
   ⟨sent 0x06 [] up, 0, 0, cmdOf 0x06 [], by decide +kernel⟩,
   ⟨up.writeImb 0 0 0x11013C00, 0, 0, (0x11, .rate 0 0), (up.writeImb 0 0 0x11013C00).cmdIn 0 0, by decide +kernel⟩,
   ⟨sent 0x10 [1] up, cmdOf 0x10 [1], by decide +kernel⟩,
   ⟨{ sent 0x10 [1, 0] up with sys.owner := 1 }, cmdOf 0x10 [1, 0], by decide +kernel⟩,
   ⟨(sent 0x10 [1, 0] up).mapHost 0 fun h => { h with slotBusy := List.range 256 }, cmdOf 0x10 [1, 0], by decide +kernel⟩,
   ⟨sent 0x12 [1, 0] up, cmdOf 0x12 [1, 0], by decide +kernel⟩, ⟨{ sent 0x12 [1] up with sys.owner := 1 }, cmdOf 0x12 [1], by decide +kernel⟩,
   ⟨{ sent 0x12 [1] up with twin.role := .standby }, cmdOf 0x12 [1], by decide +kernel⟩,
   ⟨sent 0x12 [32768] up, cmdOf 0x12 [32768], by decide +kernel⟩,
   ⟨{ sent 0x12 [0xFFFF8000] up with ts.leapPending := 1 }, cmdOf 0x12 [0xFFFF8000], by decide +kernel⟩,
   ⟨{ sent 0x12 [1] up with twin.role := .standby }, cmdOf 0x12 [1], utcOffsetForm, (0x12, .utcOffset 0 0), by simp [commandForms], by simp [commandRows], rfl,
     by decide +kernel, by decide +kernel, by decide +kernel, by decide +kernel, by decide +kernel, by decide +kernel⟩,
   ⟨{ up with twin.role := .standby }, 0, by decide⟩⟩

theorem witness_CommandsWaitForInitAndKeepTheirOrder :
    (∃ s : State, s.afterInit = false) ∧ (∃ s : State, s.cmds ≠ [] ∧ s.cmds.Pairwise fun a b => cmdBefore b a = false) ∧
    (∃ s : State, s.sys.engine = .init ∧ s.sys.safePending = false ∧ s.twin.role = .solo) ∧
    (∃ (s : State) (n : Nat) (hp : Fin 4) (mb : Fin 8) (l : List (Nat × Fin 4 × Fin 8)), s.cmds = (n, hp, mb) :: l ∧ s.afterInit = true ∧
      s.flash.writing = none) :=
  ⟨⟨State.reset, by decide⟩, ⟨{ up with cmds := [(5, 0, 7), (5, 1, 0)] }, by decide⟩, ⟨upIn .init, by decide⟩,
   ⟨{ up with cmds := [(5, 0, 7), (5, 1, 0)] }, 5, 0, 7, [(5, 1, 0)], by decide⟩⟩

theorem witness_HandlesNameSlotAndSequence :
    (∃ (s : State) (hp : Fin 4) (slot : Fin 256), s.freeSlot hp = some slot ∧ s.hosts[hp].slotSeq[slot] = 255) ∧
    (∃ (s : State) (c : Cmd) (f : CmdForm), f ∈ commandForms ∧ f.handled = true ∧ (c.fits f.results && f.shape s c) = true ∧ f.rights s c = true ∧
      (f.follower = true → s.follower = false) ∧ s.freeSlot c.hp = none) ∧
    (∃ (s : State) (h : Handled), s.handled.find? (fun x => x.id == h.id) = some h) :=
  ⟨⟨up.mapHost 3 fun h => { h with slotBusy := [0], slotSeq := h.slotSeq.set 1 255 }, 3, 1, by decide +kernel⟩,
   ⟨up.mapHost 0 fun h => { h with slotBusy := List.range 256 }, cmdOf 0x10 [1, 0], stepForm, by simp [commandForms], by decide +kernel⟩,
   ⟨{ up with handled := [⟨0, 0xB1, 0, 0, 0, 0, none, 0, [1], false, false, 0, []⟩] }, ⟨0, 0xB1, 0, 0, 0, 0, none, 0, [1], false, false, 0, []⟩, rfl⟩⟩

theorem witness_SystemCommandsTakeEffect :
    (∃ (s : State) (c : Cmd), s.sends 0 0 c 0x00 0 4) ∧
    (∃ (s : State) (c : Cmd), s.sends 0 0 c 0x01 0 0 ∧ s.may 0 .reset = true ∧ s.sys.resetDue = none) ∧
    (∃ (s : State) (c : Cmd) (p : Fin 4), s.sends 0 0 c 0x02 2 0 ∧ s.sys.owner = 0 ∧ c.word 0 = p.val ∧ p ≠ 0 ∧ c.word 1 < 32768) ∧
    (∃ (s : State) (c : Cmd), s.sends 0 0 c 0x02 2 0 ∧ s.sys.owner = 0 ∧ 3 < c.word 0) ∧
    (∃ (s : State) (c : Cmd) (p : Fin 4), s.sends 0 0 c 0x03 1 0 ∧ s.sys.owner = 0 ∧ c.word 0 = p.val ∧ p ≠ 0) ∧
    (∃ (s : State) (c : Cmd), s.sends 0 0 c 0x03 1 0 ∧ s.sys.owner = 0 ∧ c.word 0 = 0) ∧
    (∃ (s : State) (c : Cmd), s.sends 0 0 c 0x04 2 0 ∧ s.sys.owner = 0 ∧ s.follower = false ∧ s.anyPtp = false) ∧
    (∃ (s : State) (c : Cmd), s.sends 0 0 c 0x05 1 0 ∧ s.may 0 .time = true ∧ c.word 0 ≤ 3600 ∧ s.sys.engine ≠ .warmup) ∧
    (∃ (s : State) (c : Cmd), s.sends 0 0 c 0x05 1 0 ∧ s.may 0 .time = true ∧ 3600 < c.word 0) := by
  unfold State.sends
  exact ⟨⟨sent 0 [] up, cmdOf 0 [], by decide +kernel⟩, ⟨sent 1 [] up, cmdOf 1 [], by decide +kernel⟩,
    ⟨sent 2 [3, 32767] up, cmdOf 2 [3, 32767], 3, by decide +kernel⟩, ⟨sent 2 [4, 1] up, cmdOf 2 [4, 1], by decide +kernel⟩,
    ⟨sent 3 [3] up, cmdOf 3 [3], 3, by decide +kernel⟩, ⟨sent 3 [0] up, cmdOf 3 [0], by decide +kernel⟩,
    ⟨sent 4 [1, 2] up, cmdOf 4 [1, 2], by decide +kernel⟩, ⟨sent 5 [3600] (upIn .locked), cmdOf 5 [3600], by decide +kernel⟩,
    ⟨sent 5 [3601] up, cmdOf 5 [3601], by decide +kernel⟩⟩

theorem witness_TimeCommandsTakeEffect :
    (∃ (s : State) (c : Cmd) (slot : Fin 256), s.sends 0 0 c 0x10 2 2 ∧ s.may 0 .time = true ∧ (s.takeImb 0 0).freeSlot 0 = some slot ∧ c.wideSigned 0 ≠ 0 ∧
      s.stepFits (c.wideSigned 0) (s.sys.cyc + leadCyc) = true) ∧
    (∃ (s : State) (c : Cmd) (slot : Fin 256), s.sends 0 0 c 0x10 2 2 ∧ s.may 0 .time = true ∧ (s.takeImb 0 0).freeSlot 0 = some slot ∧ c.wideSigned 0 ≠ 0 ∧
      s.stepFits (c.wideSigned 0) (s.sys.cyc + leadCyc) = false) ∧
    (∃ (s : State) (c : Cmd) (slot : Fin 256), s.sends 0 0 c 0x11 2 2 ∧ s.may 0 .time = true ∧ (s.takeImb 0 0).freeSlot 0 = some slot ∧
      rateMin ≤ c.wideSigned 0 ∧ c.wideSigned 0 ≤ rateMax ∧ s.sys.engine = .warmup) ∧
    (∃ (s : State) (c : Cmd), s.sends 0 0 c 0x12 1 0 ∧ s.may 0 .time = true ∧ s.follower = false ∧ -32768 ≤ c.signed 0 ∧ c.signed 0 ≤ 32767 ∧ s.ts.leapPending = 0) ∧
    (∃ (s : State) (c : Cmd), s.sends 0 0 c 0x13 2 2 ∧ s.may 0 .time = true ∧ s.follower = false ∧ c.word 0 = 2 ∧ s.ts.leapPending = 0) ∧
    (∃ (s : State) (c : Cmd) (at_ : Int), s.sends 0 0 c 0x13 2 2 ∧ s.may 0 .time = true ∧ s.follower = false ∧ c.word 0 ≤ 1 ∧ s.ts.leapPending = 0 ∧
      at_ = leapAtOf (c.word 1) s.ts.utcOffset (c.word 0 == 1) ∧ 2 * secFrac ≤ at_ * secFrac - s.now ∧ at_ * secFrac - s.now ≤ 366 * 86400 * secFrac) ∧
    (∃ (s : State) (c : Cmd) (at_ : Int), s.sends 0 0 c 0x13 2 2 ∧ s.may 0 .time = true ∧ s.follower = false ∧ c.word 0 ≤ 1 ∧ s.ts.leapPending = 0 ∧
      at_ = leapAtOf (c.word 1) s.ts.utcOffset (c.word 0 == 1) ∧ at_ * secFrac - s.now < 2 * secFrac) ∧
    (∃ (s : State) (c : Cmd) (p : Fin 4) (v : Cfg), s.asks 0 0 c 0x14 0 smearTable s.ts.smear[p].cfg v ∧ s.may 0 .time = true ∧ s.follower = false ∧
      c.obj = p.val ∧ s.ts.smear[p].running = false) ∧
    (∃ (s : State) (c : Cmd) (i : Fin 26), s.sends 0 0 c 0x15 2 0 ∧ s.may 0 .time = true ∧ c.word 0 = i.val) ∧
    (∃ (s : State) (c : Cmd), s.sends 0 0 c 0x15 2 0 ∧ s.may 0 .time = true ∧ 26 ≤ c.word 0) := by
  unfold State.sends State.asks
  exact ⟨⟨sent 0x10 [1, 0] up, cmdOf 0x10 [1, 0], 0, by decide +kernel⟩,
    ⟨{ sent 0x10 [0, 0x80000000] up with sys.cyc := 5 }, cmdOf 0x10 [0, 0x80000000], 0, by decide +kernel⟩,
    ⟨sent 0x11 [0, 0xFFFF8000] up, cmdOf 0x11 [0, 0xFFFF8000], 0, by decide +kernel⟩,
    ⟨sent 0x12 [0xFFFF8000] up, cmdOf 0x12 [0xFFFF8000], by decide +kernel⟩, ⟨sent 0x13 [2, 0] up, cmdOf 0x13 [2, 0], by decide +kernel⟩,
    ⟨sent 0x13 [0, 40605] up, cmdOf 0x13 [0, 40605], _, by decide +kernel, by decide +kernel, by decide +kernel, by decide +kernel, by decide +kernel, rfl, by decide +kernel, by decide +kernel⟩,
    ⟨sent 0x13 [1, 40604] up, cmdOf 0x13 [1, 40604], _, by decide +kernel, by decide +kernel, by decide +kernel, by decide +kernel, by decide +kernel, rfl, by decide +kernel⟩,
    ⟨sent 0x14 [3, 1, 0, 1] up, cmdOf 0x14 [3, 1, 0, 1], 3, (cmdOf 0x14 [3, 1, 0, 1]).settings smearTable up.ts.smear[3].cfg, by decide +kernel⟩,
    ⟨sent 0x15 [25, 7] up, cmdOf 0x15 [25, 7], 25, by decide +kernel⟩, ⟨sent 0x15 [26, 7] up, cmdOf 0x15 [26, 7], by decide +kernel⟩⟩

/-- The settings that a parcel asks for. -/
def want (op : Nat) (ws : List Word) (t : ParamTable) (cur : Cfg) : Cfg := (cmdOf op ws).settings t cur

theorem witness_ReferenceCommandsTakeEffect :
    (∃ (s : State) (c : Cmd) (ch : Fin 88) (v : Cfg), s.asks 0 0 c 0x20 0 tdcTable s.tdc[ch].cfg v ∧ c.obj = ch.val ∧ (s.may 0 .tdc = true ∧ ch.val ≤ 71) ∧
      v.at Ix.tdcPhase < v.at Ix.tdcPeriod ∧ (v.nat Ix.tdcEdge = 2 → v.nat Ix.tdcMode = 2) ∧ (64 ≤ c.obj → v.at Ix.tdcDeglitch = 0) ∧
      gateTooLong v = false ∧ ∀ d ∈ (s.takeImb 0 0).allDemands ch.val, v.at d.1 = s.tdc[ch].cfg.at d.1) ∧
    (∃ (s : State) (c : Cmd) (ch : Fin 88) (v : Cfg), s.asks 0 0 c 0x20 0 tdcTable s.tdc[ch].cfg v ∧ c.obj = ch.val ∧ 71 < ch.val ∧ (s.takeImb 0 0).ownMaskBit c = true ∧
      v.at Ix.tdcPhase < v.at Ix.tdcPeriod ∧ (v.nat Ix.tdcEdge = 2 → v.nat Ix.tdcMode = 2) ∧ (64 ≤ c.obj → v.at Ix.tdcDeglitch = 0) ∧
      gateTooLong v = false ∧ ∀ d ∈ (s.takeImb 0 0).allDemands ch.val, v.at d.1 = s.tdc[ch].cfg.at d.1) ∧
    (∃ (s : State) (c : Cmd) (i : Fin 16) (v : Cfg), s.asks 0 0 c 0x21 0 slotTable s.wv.slots[i].cfg v ∧ s.may 0 .reference = true ∧ c.obj = i.val ∧
      sourceBad (fillSource c v) = false ∧ unbroken ((s.takeImb 0 0).slotJoint c i v) = true) ∧
    (∃ (s : State) (c : Cmd) (v : Cfg), s.asks 0 0 c 0x21 0 wvTable s.wv.cfg v ∧ s.may 0 .reference = true ∧ c.obj = 16) ∧
    (∃ (s : State) (c : Cmd) (i : Fin 16), s.may 0 .reference = true ∧ c.word 0 = i.val ∧ (i = 15 → s.sys.straps.twinEn = false) ∧ s.sends 0 0 c 0x22 2 0 ∧
      freqKind s.wv.slots[i].kind = false ∧ c.word 1 = 0 ∧ s.wv.slots[i].state ≠ .disqualified ∧ s.wv.slots[i].state ≠ .lockedOut) ∧
    (∃ (s : State) (c : Cmd) (i : Fin 16), s.may 0 .reference = true ∧ c.word 0 = i.val ∧ (i = 15 → s.sys.straps.twinEn = false) ∧ s.sends 0 0 c 0x22 2 0 ∧
      freqKind s.wv.slots[i].kind = false ∧ c.word 1 = 1 ∧ s.wv.slots[i].forced = true) ∧
    (∃ (s : State) (c : Cmd) (i : Fin 16), s.may 0 .reference = true ∧ c.word 0 = i.val ∧ (i = 15 → s.sys.straps.twinEn = false) ∧ s.sends 0 0 c 0x23 1 0 ∧
      s.wv.slots[i].state = .disputed) ∧
    (∃ (s : State) (c : Cmd) (i : Fin 16), s.may 0 .reference = true ∧ c.word 0 = i.val ∧ (i = 15 → s.sys.straps.twinEn = false) ∧ s.sends 0 0 c 0x23 1 0 ∧
      s.wv.slots[i].state = .qualified) ∧
    (∃ (s : State) (c : Cmd) (i : Fin 16), s.may 0 .reference = true ∧ c.word 0 = i.val ∧ (i = 15 → s.sys.straps.twinEn = false) ∧ s.sends 0 0 c 0x24 2 0 ∧
      c.word 1 = 0 ∧ s.wv.slots[i].state ≠ .lockedOut) ∧
    (∃ (s : State) (c : Cmd) (i : Fin 16), s.may 0 .reference = true ∧ c.word 0 = i.val ∧ (i = 15 → s.sys.straps.twinEn = false) ∧ s.sends 0 0 c 0x24 2 0 ∧
      c.word 1 = 1 ∧ s.wv.slots[i].state = .lockedOut) ∧
    (∃ (s : State) (i : Fin 16), s.wv.slots[i].state = .qualifying ∨ s.wv.slots[i].state = .disputed) := by
  unfold State.sends State.asks
  exact ⟨⟨sent 0x20 [71, 1, 0, 3] up, cmdOf 0x20 [71, 1, 0, 3], 71, want 0x20 [71, 1, 0, 3] tdcTable up.tdc[71].cfg, by decide +kernel⟩,
    ⟨sent 0x20 [87, 0x2000, 0, 1] up, cmdOf 0x20 [87, 0x2000, 0, 1], 87, want 0x20 [87, 0x2000, 0, 1] tdcTable up.tdc[87].cfg, by decide +kernel⟩,
    ⟨sent 0x21 [2, 13, 0, 4, 1, 7] up, cmdOf 0x21 [2, 13, 0, 4, 1, 7], 2, want 0x21 [2, 13, 0, 4, 1, 7] slotTable up.wv.slots[2].cfg, by decide +kernel⟩,
    ⟨sent 0x21 [16, 1, 0, 9] up, cmdOf 0x21 [16, 1, 0, 9], want 0x21 [16, 1, 0, 9] wvTable up.wv.cfg, by decide +kernel⟩,
    ⟨sent 0x22 [2, 0] (slotAt fun x => { x with state := .qualifying }), cmdOf 0x22 [2, 0], 2, by decide +kernel⟩,
    ⟨sent 0x22 [2, 1] (slotAt fun x => { x with forced := true }), cmdOf 0x22 [2, 1], 2, by decide +kernel⟩,
    ⟨sent 0x23 [2] (slotAt fun x => { x with state := .disputed }), cmdOf 0x23 [2], 2, by decide +kernel⟩,
    ⟨sent 0x23 [2] (slotAt fun x => { x with state := .qualified }), cmdOf 0x23 [2], 2, by decide +kernel⟩,
    ⟨sent 0x24 [15, 0] up, cmdOf 0x24 [15, 0], 15, by decide +kernel⟩,
    ⟨sent 0x24 [2, 1] (slotAt fun x => { x with state := .lockedOut }), cmdOf 0x24 [2, 1], 2, by decide +kernel⟩,
    ⟨slotAt fun x => { x with state := .disputed }, 2, by decide⟩⟩

/-- A receiver that holds a capture of eight octets. -/
def holding : State := { gnssAt 1 with gnss.snap := { state := .held, data := List.replicate 8 7 } }

theorem witness_HoldoverAndGnssCommandsTakeEffect :
    (∃ (s : State) (c : Cmd) (v : Cfg), s.asks 0 0 c 0x30 0 steerTable s.loop.cfg v ∧ s.may 0 .holdover = true ∧ c.obj = 0) ∧
    (∃ (s : State) (c : Cmd) (f : Fin 3) (v : Cfg), s.asks 0 0 c 0x31 0 flywheelTable s.fc.fw[f].cfg v ∧ s.may 0 .holdover = true ∧ c.obj = f.val ∧
      (f = 0 → c.has 0 = false ∧ c.has 9 = false) ∧ (s.takeImb 0 0).flywheelClash f v = false) ∧
    (∃ (s : State) (c : Cmd) (k : Fin 4), s.sends 0 0 c 0x32 3 0 ∧ s.may 0 .holdover = true ∧ c.word 0 = k.val ∧ c.word 2 ≠ 0) ∧
    (∃ (s : State) (c : Cmd), s.sends 0 0 c 0x33 1 0 ∧ s.may 0 .holdover = true ∧ 1 ≤ c.word 0 ∧ c.word 0 ≤ 1000000000) ∧
    (∃ (s : State) (c : Cmd) (i : Fin 4) (v : Cfg), s.asks 0 0 c 0x50 0 (gnssTable i.val) s.gnss.streams[i].cfg v ∧ s.may 0 .gnss = true ∧ c.obj = i.val) ∧
    (∃ (s : State) (c : Cmd) (v : Cfg), s.asks 0 0 c 0x50 0 receiverTable (s.gnss.next.getD s.gnss.cfg) v ∧ s.may 0 .gnss = true ∧ c.obj = 4 ∧
      v.nat Ix.rxTimeSys ≠ 3 ∧ bitAt (v.nat Ix.rxSystems) (v.nat Ix.rxTimeSys) = true) ∧
    (∃ (s : State) (c : Cmd), s.sends 0 0 c 0x51 6 0 ∧ s.may 0 .gnss = true ∧ c.wide 0 ≤ s.sys.cyc ∧ c.wide 2 < 2 ^ 48 ∧ c.word 4 < 1000000000) ∧
    (∃ (s : State) (c : Cmd) (slot : Fin 256), s.sends 0 0 c 0x52 4 1 ∧ s.may 0 .gnss = true ∧ (s.takeImb 0 0).freeSlot 0 = some slot ∧
      (bitAt (c.word 0) 17 = true ∨ c.word 3 < 1000000000) ∧ s.gnss.snap.state ≠ .processing ∧ s.snapReason c.snapAsk = none) ∧
    (∃ (s : State) (c : Cmd) (slot : Fin 256) (r : Nat), s.sends 0 0 c 0x52 4 1 ∧ s.may 0 .gnss = true ∧ (s.takeImb 0 0).freeSlot 0 = some slot ∧
      (bitAt (c.word 0) 17 = true ∨ c.word 3 < 1000000000) ∧ s.gnss.snap.state ≠ .processing ∧ s.snapReason c.snapAsk = some r) ∧
    (∃ (s : State) (c : Cmd), s.cmdAt 0 0 = some c ∧ c.op = 0x53 ∧ c.len = 3 ∧ c.fits 1 = true ∧ regionFits (c.word 2) (c.word 1) = true ∧ c.word 1 % 4 = 0 ∧
      s.gnss.snap.state = .held ∧ c.word 0 + c.word 1 ≤ s.gnss.snap.octets.length) ∧
    (∃ (s : State) (c : Cmd), s.sends 0 0 c 0x54 0 0 ∧ s.may 0 .gnss = true ∧ s.gnss.snap.state ≠ .processing) ∧
    (∃ (s : State) (c : Cmd) (slot : Fin 256), s.sends 0 0 c 0x55 0 3 ∧ s.may 0 .gnss = true ∧ (s.takeImb 0 0).freeSlot 0 = some slot ∧ s.gnss.snap.state = .held) ∧
    (∃ (s : State) (c : Cmd) (slot : Fin 256), s.sends 0 0 c 0x55 0 3 ∧ s.may 0 .gnss = true ∧ (s.takeImb 0 0).freeSlot 0 = some slot ∧ s.gnss.snap.state ≠ .held) := by
  unfold State.sends State.asks
  exact ⟨⟨sent 0x30 [0, 1, 0, 10] up, cmdOf 0x30 [0, 1, 0, 10], want 0x30 [0, 1, 0, 10] steerTable up.loop.cfg, by decide +kernel⟩,
    ⟨sent 0x31 [2, 1, 0, 71] up, cmdOf 0x31 [2, 1, 0, 71], 2, want 0x31 [2, 1, 0, 71] flywheelTable up.fc.fw[2].cfg, by decide +kernel⟩,
    ⟨sent 0x32 [3, 0x48, 65536] up, cmdOf 0x32 [3, 0x48, 65536], 3, by decide +kernel⟩, ⟨sent 0x33 [1000000000] up, cmdOf 0x33 [1000000000], by decide +kernel⟩,
    ⟨sent 0x50 [3, 1, 0, 1] up, cmdOf 0x50 [3, 1, 0, 1], 3, want 0x50 [3, 1, 0, 1] (gnssTable 3) up.gnss.streams[3].cfg, by decide +kernel⟩,
    ⟨sent 0x50 [4, 1, 0, 2] up, cmdOf 0x50 [4, 1, 0, 2], want 0x50 [4, 1, 0, 2] receiverTable up.gnss.cfg, by decide +kernel⟩,
    ⟨sent 0x51 [5, 0, 7, 65535, 999999999, 3] up, cmdOf 0x51 [5, 0, 7, 65535, 999999999, 3], by decide +kernel⟩,
    ⟨sent 0x52 [0x20101, 0, 0, 0] (gnssAt 1), cmdOf 0x52 [0x20101, 0, 0, 0], 0, by decide +kernel⟩,
    ⟨sent 0x52 [0x20001, 0, 0, 0] (gnssAt 1), cmdOf 0x52 [0x20001, 0, 0, 0], 0, 4, by decide +kernel⟩,
    ⟨sent 0x53 [4, 4, 100] holding, cmdOf 0x53 [4, 4, 100], by decide +kernel⟩, ⟨sent 0x54 [] holding, cmdOf 0x54 [], by decide +kernel⟩,
    ⟨sent 0x55 [] holding, cmdOf 0x55 [], 0, by decide +kernel⟩, ⟨sent 0x55 [] up, cmdOf 0x55 [], 0, by decide +kernel⟩⟩

/-- HP0 without its rights asks for its own bit of a feed's PORT_MASK. -/
def noRight : State := { sent 0x90 [5, 0x10000, 0, 1] up with sys.owner := 1, sys.grants := Vector.replicate 4 0 }

theorem witness_StagedConfigurationsAreAcceptedIntoTheirGroups :
    (∃ (s : State) (c : Cmd) (slot : Fin 256) (o : Fin 4) (v : Cfg), (s.takeImb 0 0).freeSlot 0 = some slot ∧
      s.asks 0 0 c 0x40 2 synthTable ((s.takeImb 0 0).latestSynth o) v ∧ s.may 0 .outputs = true ∧ c.obj = o.val ∧
      unbroken ((s.takeImb 0 0).synthJoint c o ((s.takeImb 0 0).latestSynth o) v) = true) ∧
    (∃ (s : State) (c : Cmd) (slot : Fin 256) (n : Fin 80) (x v : Cfg), (s.takeImb 0 0).freeSlot 0 = some slot ∧
      s.asks 0 0 c 0x41 2 outputTable ((s.takeImb 0 0).latestPin n) v ∧ s.may 0 .outputs = true ∧ c.obj = n.val ∧
      x = fillWidth (!s.outs.pins[n].widthSet && !c.has 4) v ∧ inRanges (pinRanges n.val x) = true ∧ unbroken ((s.takeImb 0 0).pinJoint c n.val x) = true) ∧
    (∃ (s : State) (c : Cmd) (slot : Fin 256) (p : Fin 8) (v : Cfg), (s.takeImb 0 0).freeSlot 0 = some slot ∧
      s.asks 0 0 c 0x60 2 portTable ((s.takeImb 0 0).latestPort p) v ∧ s.may 0 .ports = true ∧ s.follower = false ∧ c.obj = p.val ∧
      unbroken ((s.takeImb 0 0).portJoint c p v) = true) ∧
    (∃ (s : State) (c : Cmd) (slot : Fin 256) (q : Fin 4) (v : Cfg), (s.takeImb 0 0).freeSlot 0 = some slot ∧
      s.asks 0 0 c 0x61 2 prpTable ((s.takeImb 0 0).latestPair q) v ∧ s.may 0 .ports = true ∧ s.follower = false ∧ c.obj = q.val ∧
      (s.takeImb 0 0).pairDiffers q v = false) ∧
    (∃ (s : State) (c : Cmd) (slot : Fin 256) (i : Fin 16) (x v : Cfg), (s.takeImb 0 0).freeSlot 0 = some slot ∧
      s.asks 0 0 c 0x63 2 instTable ((s.takeImb 0 0).latestInst i) v ∧ s.may 0 .service = true ∧ s.follower = false ∧ c.obj = i.val ∧
      x = fillProfile c ((s.takeImb 0 0).latestInst i) v ∧ inRanges (instRanges x) = true ∧ unbroken ((s.takeImb 0 0).instJoint x) = true) ∧
    (∃ (s : State) (c : Cmd) (slot : Fin 256) (f : Fin 6) (v : Cfg), (s.takeImb 0 0).freeSlot 0 = some slot ∧
      s.asks 0 0 c 0x90 1 feedTable ((s.takeImb 0 0).latestFeed f) v ∧ s.may 0 .grid = true ∧ c.obj = f.val ∧ (s.takeImb 0 0).feedClash f v = false) ∧
    (∃ (s : State) (c : Cmd) (slot : Fin 256) (f : Fin 6) (v : Cfg), (s.takeImb 0 0).freeSlot 0 = some slot ∧
      s.asks 0 0 c 0x90 1 feedTable ((s.takeImb 0 0).latestFeed f) v ∧ s.may 0 .grid = false ∧ (s.takeImb 0 0).ownFeedBit c = true ∧ c.obj = f.val ∧ (s.takeImb 0 0).feedClash f v = false) ∧
    (∃ (s : State) (c : Cmd) (slot : Fin 256) (n : Fin 8) (v : Cfg), (s.takeImb 0 0).freeSlot 0 = some slot ∧
      s.asks 0 0 c 0x92 2 cpTable ((s.takeImb 0 0).latestCp n) v ∧ s.may 0 .converter = true ∧ c.obj = n.val ∧
      v.at Ix.cpRxBase % 16 = 0 ∧ v.at Ix.cpTxBase % 16 = 0 ∧ unbroken ((s.takeImb 0 0).cpJoint n v) = true) := by
  unfold State.asks
  exact ⟨⟨sent 0x40 [3, 1, 0, 1] up, cmdOf 0x40 [3, 1, 0, 1], 0, 3, want 0x40 [3, 1, 0, 1] synthTable (up.latestSynth 3), by decide +kernel⟩,
    ⟨sent 0x41 [0, 1, 0, 2] up, cmdOf 0x41 [0, 1, 0, 2], 0, 0, _, want 0x41 [0, 1, 0, 2] outputTable (up.latestPin 0), by decide +kernel, by decide +kernel,
      by decide +kernel, by decide +kernel, rfl, by decide +kernel, by decide +kernel⟩,
    ⟨sent 0x60 [7, 1, 0, 1] up, cmdOf 0x60 [7, 1, 0, 1], 0, 7, want 0x60 [7, 1, 0, 1] portTable (up.latestPort 7), by decide +kernel⟩,
    ⟨sent 0x61 [3, 1, 0, 1] up, cmdOf 0x61 [3, 1, 0, 1], 0, 3, want 0x61 [3, 1, 0, 1] prpTable (up.latestPair 3), by decide +kernel⟩,
    ⟨sent 0x63 [15, 1, 0, 1] up, cmdOf 0x63 [15, 1, 0, 1], 0, 15, _, want 0x63 [15, 1, 0, 1] instTable (up.latestInst 15), by decide +kernel, by decide +kernel,
      by decide +kernel, by decide +kernel, by decide +kernel, rfl, by decide +kernel, by decide +kernel⟩,
    ⟨sent 0x90 [5, 1, 0, 1] up, cmdOf 0x90 [5, 1, 0, 1], 0, 5, want 0x90 [5, 1, 0, 1] feedTable (up.latestFeed 5), by decide +kernel⟩,
    ⟨noRight, cmdOf 0x90 [5, 0x10000, 0, 1], 0, 5, want 0x90 [5, 0x10000, 0, 1] feedTable (up.latestFeed 5), by decide +kernel⟩,
    ⟨sent 0x92 [7, 1, 0, 1] up, cmdOf 0x92 [7, 1, 0, 1], 0, 7, want 0x92 [7, 1, 0, 1] cpTable (up.latestCp 7), by decide +kernel⟩⟩

/-- A load of SA slot 63 with a plain GMAC key that ends at TAI second 1600001. -/
def plainKeyWords : List Word := [0x01003F01, 7, 1600001, 0, 0] ++ List.replicate 8 9

theorem witness_AlignRuleAndKeyCommandsTakeEffect :
    (∃ (s : State) (c : Cmd) (slot : Fin 256), s.sends 0 0 c 0x42 5 8 ∧ s.may 0 .outputs = true ∧ (s.takeImb 0 0).freeSlot 0 = some slot ∧
      bitsOf (c.word 0) 9 8 ≠ 3 ∧ (bitsOf (c.word 0) 9 8 = 1 → 18446744073 ≤ c.wide 3 ∧ c.wide 3 ≤ 184467440737096) ∧
      (∀ o ∈ synthsOf (bitsOf (c.word 0) 3 0), (s.takeImb 0 0).alignReason (bitsOf (c.word 0) 9 8) (c.wide 1) (c.wide 3) o = none) ∧
      bitsOf (c.word 0) 9 8 ≠ 2 ∧ bitsOf (c.word 0) 3 0 ≠ 0) ∧
    (∃ (s : State) (c : Cmd) (r : Fin 16) (v : Cfg), s.asks 0 0 c 0x62 0 ruleTable s.svc.rules[r] v ∧ s.may 0 .ports = true ∧ s.follower = false ∧ c.obj = r.val) ∧
    (∃ (s : State) (c : Cmd) (p : Fin 8) (v : Cfg), s.asks 0 0 c 0x64 0 esmcTable s.svc.esmc[p].cfg v ∧ s.may 0 .ports = true ∧ s.follower = false ∧ c.obj = p.val) ∧
    (∃ (s w : State) (c : Cmd) (n : Fin 64) (r : KeyRecord), w = (s.takeImb 0 0).wipeParcel c 5 ∧ s.cmdAt 0 0 = some c ∧ c.op = 0x70 ∧ c.keyLenFits = true ∧
      c.fits 0 = true ∧ s.may 0 .keys = true ∧ s.follower = false ∧ c.keySlot = n.val ∧ (c.keySa = false → n.val ≤ 3) ∧ c.keyForm ≠ 3 ∧
      (c.keyForm = 0 → c.wide 2 < 2 ^ 48 ∧ (c.keySa = true → c.word 4 ≤ 1)) ∧
      w.checkLoad c.keySa n c.keyForm c.plainKey (c.bytesFrom 5) = .ok r ∧ memWf s.hosts[(0 : Fin 4)].parcel = true) ∧
    (∃ (s t : State) (c : Cmd) (n : Fin 64), s.sends 0 0 c 0x71 2 0 ∧ s.may 0 .keys = true ∧ s.follower = false ∧ c.keySlot = n.val ∧ (c.keySa = false → n.val ≤ 3) ∧
      c.word 1 ≤ 1 ∧ (s.takeImb 0 0).changeKey c.keySa n (c.word 1 == 0) = .ok t) ∧
    (∃ (s : State) (c : Cmd) (n : Fin 64) (r : List Byte), s.sends 0 0 c 0x72 1 22 ∧ s.may 0 .keys = true ∧ s.follower = false ∧ c.keySlot = n.val ∧
      (bitsOf (c.word 0) 1 0 = 0 → n.val ≤ 3) ∧ bitsOf (c.word 0) 1 0 ≠ 3 ∧ s.auth.kekEnabled = true ∧ s.recordToWrap (bitsOf (c.word 0) 1 0) n = some r) ∧
    (∃ (s : State) (c : Cmd) (n : Fin 64), s.sends 0 0 c 0x72 1 22 ∧ s.may 0 .keys = true ∧ s.follower = false ∧ c.keySlot = n.val ∧
      (bitsOf (c.word 0) 1 0 = 0 → n.val ≤ 3) ∧ bitsOf (c.word 0) 1 0 ≠ 3 ∧ s.auth.kekEnabled = false) ∧
    (∃ (s : State) (c : Cmd), s.sends 0 0 c 0x73 0 0 ∧ s.may 0 .keys = true ∧ s.follower = false) ∧
    (∃ (s : State) (c : Cmd), s.sends 0 0 c 0x74 9 0 ∧ s.may 0 .keys = true ∧ c.word 0 = 0) := by
  unfold State.sends State.asks
  exact ⟨⟨sent 0x42 [0x108, 0, 0, 1266874889, 4] (up.mapOs 3 fun x => { x with lock := .locked, cfg := x.cfg.set Ix.synthEnable 1 }),
      cmdOf 0x42 [0x108, 0, 0, 1266874889, 4], 0, by decide +kernel⟩,
    ⟨sent 0x62 [15, 1, 0, 1] up, cmdOf 0x62 [15, 1, 0, 1], 15, want 0x62 [15, 1, 0, 1] ruleTable up.svc.rules[15], by decide +kernel⟩,
    ⟨sent 0x64 [7, 1, 0, 1] up, cmdOf 0x64 [7, 1, 0, 1], 7, want 0x64 [7, 1, 0, 1] esmcTable up.svc.esmc[7].cfg, by decide +kernel⟩,
    ⟨sent 0x70 plainKeyWords up, _, cmdOf 0x70 plainKeyWords, 63, (cmdOf 0x70 plainKeyWords).plainKey, rfl, by decide +kernel, by decide +kernel, by decide +kernel,
      by decide +kernel, by decide +kernel, by decide +kernel, by decide +kernel, by decide +kernel, by decide +kernel, by decide +kernel, rfl, by decide +kernel⟩,
    ⟨{ sent 0x71 [0x3F01, 0] up with auth.sa := up.auth.sa.set 63 (someKey .accept 0) }, _, cmdOf 0x71 [0x3F01, 0], 63, by decide +kernel, by decide +kernel,
      by decide +kernel, by decide +kernel, by decide +kernel, by decide +kernel, rfl⟩,
    ⟨{ sent 0x72 [0x3F01] up with auth.sa := up.auth.sa.set 63 (someKey .accept 0) }, cmdOf 0x72 [0x3F01], 63, _, by decide +kernel, by decide +kernel,
      by decide +kernel, by decide +kernel, by decide +kernel, by decide +kernel, by decide +kernel, rfl⟩,
    ⟨{ sent 0x72 [0x3F01] up with auth.kekEnabled := false }, cmdOf 0x72 [0x3F01], 63, by decide +kernel⟩,
    ⟨sent 0x73 [] up, cmdOf 0x73 [], by decide +kernel⟩,
    ⟨sent 0x74 (0 :: List.replicate 8 5) up, cmdOf 0x74 (0 :: List.replicate 8 5), by decide +kernel⟩⟩

/-- A standby whose slot 2 the pair can calibrate on. -/
def calUnit : State := { (unitIn .standby).mapSlot 2 fun x => { x with state := .qualified, cfg := (x.cfg.set Ix.slotKind 1).set Ix.slotEnable 1 } with
  twin.activeSlots := [⟨2, 1600000, 0, 2, 5, 0⟩] }

theorem witness_TwinCommandsTakeEffect :
    (∃ (s : State) (c : Cmd) (v : Cfg), s.asks 0 0 c 0x80 0 twinTable (s.takeImb 0 0).latestTwin v ∧ s.may 0 .twin = true ∧ c.obj = 0 ∧
      groupAddress (v.at Ix.twinUnitMac) = false ∧ (v.at Ix.twinHbGroup = 0 ∨ (groupAddress (v.at Ix.twinHbGroup) = true ∧ (s.takeImb 0 0).groupsFull (Fin.ofNat 4 (v.nat Ix.twinHbPair)) = false)) ∧ s.sys.straps.twinEn = true) ∧
    (∃ (s : State) (c : Cmd) (v : Cfg), s.asks 0 0 c 0x80 0 twinTable (s.takeImb 0 0).latestTwin v ∧ s.may 0 .twin = true ∧ c.obj = 0 ∧
      groupAddress (v.at Ix.twinUnitMac) = false ∧ (v.at Ix.twinHbGroup = 0 ∨ (groupAddress (v.at Ix.twinHbGroup) = true ∧ (s.takeImb 0 0).groupsFull (Fin.ofNat 4 (v.nat Ix.twinHbPair)) = false)) ∧ s.sys.straps.twinEn = false) ∧
    (∃ (s : State) (v : Cfg), s.twin.role = .active ∧ Ix.twinUnitId < v.length ∧ Ix.twinMode < v.length) ∧
    (∃ (s : State) (c : Cmd) (slot : Fin 256) (i : Fin 16), s.sends 0 0 c 0x81 2 3 ∧ s.may 0 .twin = true ∧ (s.takeImb 0 0).freeSlot 0 = some slot ∧
      c.word 0 = i.val ∧ 60 ≤ c.word 1 ∧ c.word 1 ≤ 86400 ∧ s.twin.role = .standby ∧ s.wv.slots[i].cfg.flag Ix.slotEnable = true ∧
      timeKind s.wv.slots[i].kind = true ∧ s.bothQualified i = true ∧ s.twin.linkUp = true ∧ s.twin.calibrating = none) ∧
    (∃ (s : State) (c : Cmd) (slot : Fin 256) (i : Fin 16), s.sends 0 0 c 0x81 2 3 ∧ s.may 0 .twin = true ∧ (s.takeImb 0 0).freeSlot 0 = some slot ∧
      c.word 0 = i.val ∧ 60 ≤ c.word 1 ∧ c.word 1 ≤ 86400 ∧ s.twin.role ≠ .standby) ∧
    (∃ (s : State) (c : Cmd) (slot : Fin 256), s.sends 0 0 c 0x82 0 1 ∧ s.may 0 .twin = true ∧ (s.takeImb 0 0).freeSlot 0 = some slot ∧
      s.twin.role = .active ∧ s.peerEligible = true ∧ s.twin.handover = none) ∧
    (∃ (s : State) (c : Cmd) (slot : Fin 256), s.sends 0 0 c 0x82 0 1 ∧ s.may 0 .twin = true ∧ (s.takeImb 0 0).freeSlot 0 = some slot ∧ s.twin.role ≠ .active) ∧
    (∃ (s : State) (c : Cmd), s.sends 0 0 c 0x83 0 0 ∧ s.may 0 .twin = true ∧ s.twin.role = .quarantined ∧ s.twin.compat = false ∧ s.synced = true) ∧
    (∃ (s : State) (c : Cmd), s.sends 0 0 c 0x83 0 0 ∧ s.may 0 .twin = true ∧ s.twin.role ≠ .quarantined) ∧
    (∃ (s : State) (c : Cmd), s.sends 0 0 c 0x84 2 0 ∧ c.word 1 ≤ 1 ∧ s.twin.witness = some 0 ∧ s.queryOpen (c.word 0) = true) ∧
    (∃ (s : State) (c : Cmd), s.sends 0 0 c 0x84 2 0 ∧ c.word 1 ≤ 1 ∧ s.twin.witness = some 0 ∧ s.queryOpen (c.word 0) = false) ∧
    (∃ (s : State) (c : Cmd), s.sends 0 0 c 0x84 2 0 ∧ c.word 1 ≤ 1 ∧ s.twin.witness ≠ some 0) := by
  unfold State.sends State.asks
  exact ⟨⟨sent 0x80 [0, 1, 0, 1] (unitIn .standby), cmdOf 0x80 [0, 1, 0, 1], want 0x80 [0, 1, 0, 1] twinTable up.twin.cfg, by decide +kernel⟩,
    ⟨sent 0x80 [0, 1, 0, 1] up, cmdOf 0x80 [0, 1, 0, 1], want 0x80 [0, 1, 0, 1] twinTable up.twin.cfg, by decide +kernel⟩,
    ⟨unitIn .active, up.twin.cfg, by decide +kernel⟩,
    ⟨sent 0x81 [2, 60] calUnit, cmdOf 0x81 [2, 60], 0, 2, by decide +kernel⟩, ⟨sent 0x81 [2, 86400] up, cmdOf 0x81 [2, 86400], 0, 2, by decide +kernel⟩,
    ⟨{ sent 0x82 [] (unitIn .active) with twin.peer := { role := 3, flags := 4, valid := true } }, cmdOf 0x82 [], 0, by decide +kernel⟩,
    ⟨sent 0x82 [] up, cmdOf 0x82 [], 0, by decide +kernel⟩,
    ⟨{ sent 0x83 [] (unitIn .quarantined) with twin.bulkDone := true, wv.selected := some 15, loop.phase := .track }, cmdOf 0x83 [], by decide +kernel⟩,
    ⟨sent 0x83 [] up, cmdOf 0x83 [], by decide +kernel⟩,
    ⟨{ sent 0x84 [7, 1] (unitIn .active) with twin.vote := some (7, 5), twin.cfg := up.twin.cfg.set Ix.twinWitness 0 }, cmdOf 0x84 [7, 1], by decide +kernel⟩,
    ⟨{ sent 0x84 [7, 1] (unitIn .active) with twin.cfg := up.twin.cfg.set Ix.twinWitness 0 }, cmdOf 0x84 [7, 1], by decide +kernel⟩,
    ⟨sent 0x84 [7, 1] up, cmdOf 0x84 [7, 1], by decide +kernel⟩⟩

theorem witness_GridAndConverterCommandsTakeEffect :
    (∃ (s : State) (c : Cmd) (f : Fin 6), s.sends 0 0 c 0x91 5 0 ∧ s.may 0 .grid = true ∧ c.word 0 = f.val ∧ c.wide 1 < 2 ^ 48 ∧ (c.wide 1 : Int) * secFrac ≤ s.now) ∧
    (∃ (s : State) (c : Cmd) (f : Fin 6), s.sends 0 0 c 0x91 5 0 ∧ s.may 0 .grid = true ∧ c.word 0 = f.val ∧ c.wide 1 < 2 ^ 48 ∧ s.now < (c.wide 1 : Int) * secFrac) ∧
    (∃ (s : State) (c : Cmd) (slot : Fin 256) (l : List (Fin 8)) (r : Nat), s.sends 0 0 c 0x93 3 0 ∧ s.may 0 .converter = true ∧ (s.takeImb 0 0).freeSlot 0 = some slot ∧
      l = portsOf (bitsOf (c.word 0) 7 0) ∧ (∀ n ∈ l, s.cps[n].cfg.flag Ix.cpEnable = true) ∧ s.startReason l (c.wide 1) = some r) ∧
    (∃ (s : State) (c : Cmd) (slot : Fin 256) (l : List (Fin 8)), s.sends 0 0 c 0x93 3 0 ∧ s.may 0 .converter = true ∧ (s.takeImb 0 0).freeSlot 0 = some slot ∧
      l = portsOf (bitsOf (c.word 0) 7 0) ∧ (∀ n ∈ l, s.cps[n].cfg.flag Ix.cpEnable = true) ∧ s.startReason l (c.wide 1) = none ∧ l ≠ []) ∧
    (∃ (s : State) (c : Cmd) (slot : Fin 256), s.sends 0 0 c 0x94 1 0 ∧ s.may 0 .converter = true ∧ (s.takeImb 0 0).freeSlot 0 = some slot) ∧
    (∃ (s : State) (c : Cmd) (p : Fin 8), s.cmdAt 0 0 = some c ∧ c.op = 0x95 ∧ c.len = 4 ∧ c.fits 1 = true ∧ c.word 0 = p.val ∧ c.word 1 ≤ 65535 ∧
      regionFits (c.word 3) (c.word 2 * rxBlockBytes s.cps[p].cfg) = true ∧
      (c.word 1 + 65536 - s.cps[p].rxRd.toNat) % 65536 + c.word 2 ≤ heldBlocks s.cps[p].rxWr s.cps[p].rxRd) ∧
    (∃ (s : State) (c : Cmd) (p : Fin 8), s.cmdAt 0 0 = some c ∧ c.op = 0x95 ∧ c.len = 4 ∧ c.fits 1 = true ∧ c.word 0 = p.val ∧ c.word 1 ≤ 65535 ∧
      regionFits (c.word 3) (c.word 2 * rxBlockBytes s.cps[p].cfg) = true ∧
      heldBlocks s.cps[p].rxWr s.cps[p].rxRd < (c.word 1 + 65536 - s.cps[p].rxRd.toNat) % 65536 + c.word 2) ∧
    (∃ (s : State) (c : Cmd) (p : Fin 8), s.cmdAt 0 0 = some c ∧ c.op = 0x96 ∧ c.len = 3 ∧ c.fits 1 = true ∧ s.may 0 .converter = true ∧ c.word 0 = p.val ∧
      regionFits (c.word 2) (c.word 1 * txBlockBytes s.cps[p].cfg) = true ∧ heldBlocks s.cps[p].txWr s.cps[p].txRd + c.word 1 ≤ s.cps[p].cfg.nat Ix.cpTxBlocks) ∧
    (∃ (s : State) (c : Cmd) (p : Fin 8), s.cmdAt 0 0 = some c ∧ c.op = 0x96 ∧ c.len = 3 ∧ c.fits 1 = true ∧ s.may 0 .converter = true ∧ c.word 0 = p.val ∧
      regionFits (c.word 2) (c.word 1 * txBlockBytes s.cps[p].cfg) = true ∧ s.cps[p].cfg.nat Ix.cpTxBlocks < heldBlocks s.cps[p].txWr s.cps[p].txRd + c.word 1) := by
  unfold State.sends
  exact ⟨⟨sent 0x91 [5, 1600000, 0, 7, 0] up, cmdOf 0x91 [5, 1600000, 0, 7, 0], 5, by decide +kernel⟩,
    ⟨sent 0x91 [5, 1600001, 0, 7, 0] up, cmdOf 0x91 [5, 1600001, 0, 7, 0], 5, by decide +kernel⟩,
    ⟨sent 0x93 [0x80, 1600002, 0] (cpAt fun x => { x with cfg := x.cfg.set Ix.cpEnable 1 }), cmdOf 0x93 [0x80, 1600002, 0], 0, [7], 2, by decide +kernel⟩,
    ⟨sent 0x93 [0x80, 1600002, 0] ((cpAt fun x => { x with cfg := x.cfg.set Ix.cpEnable 1 }).mapOs 2 fun x => { x with lock := .locked, cfg := x.cfg.set Ix.synthConvDiv 1875 }),
      cmdOf 0x93 [0x80, 1600002, 0], 0, [7], by decide +kernel⟩,
    ⟨sent 0x94 [0x80] up, cmdOf 0x94 [0x80], 0, by decide +kernel⟩,
    ⟨sent 0x95 [7, 0xFFFF, 2, 100] (cpAt fun x => { x with rxRd := 0xFFFF, rxWr := 1 }), cmdOf 0x95 [7, 0xFFFF, 2, 100], 7, by decide +kernel⟩,
    ⟨sent 0x95 [7, 0xFFFF, 3, 100] (cpAt fun x => { x with rxRd := 0xFFFF, rxWr := 1 }), cmdOf 0x95 [7, 0xFFFF, 3, 100], 7, by decide +kernel⟩,
    ⟨sent 0x96 [7, 2, 100] (cpAt fun x => { x with cfg := x.cfg.set Ix.cpTxBlocks 2 }), cmdOf 0x96 [7, 2, 100], 7, by decide +kernel⟩,
    ⟨sent 0x96 [7, 3, 100] (cpAt fun x => { x with cfg := x.cfg.set Ix.cpTxBlocks 2 }), cmdOf 0x96 [7, 3, 100], 7, by decide +kernel⟩⟩

theorem witness_FaultLogAndFirmwareCommandsTakeEffect :
    (∃ (s : State) (c : Cmd), s.sends 0 0 c 0xA0 0 1 ∧ s.may 0 .log = true) ∧
    (∃ (s : State) (c : Cmd) (k : FaultKind), s.sends 0 0 c 0xA1 2 0 ∧ s.may 0 .log = true ∧ findKind (bitsOf (c.word 0) 7 0) (bitsOf (c.word 0) 13 8) = some k ∧
      c.word 1 ≤ 31 ∧ fixedReaction k = true) ∧
    (∃ (s : State) (c : Cmd) (k : FaultKind), s.sends 0 0 c 0xA1 2 0 ∧ s.may 0 .log = true ∧ findKind (bitsOf (c.word 0) 7 0) (bitsOf (c.word 0) 13 8) = some k ∧
      c.word 1 ≤ 31 ∧ fixedReaction k = false ∧ k ≠ Flt.boundHigh ∧ k ≠ Flt.boundUnknown) ∧
    (∃ (s : State) (c : Cmd), s.cmdAt 0 0 = some c ∧ c.op = 0xA2 ∧ c.len = 3 ∧ c.fits 2 = true ∧ regionFits (c.word 2) (32 * min (c.word 1) 1920) = true) ∧
    (∃ (s : State) (c : Cmd), s.sends 0 0 c 0xA3 1 0 ∧ s.may 0 .log = true ∧ c.word 0 ≤ 15) ∧
    (∃ (s : State) (c : Cmd), s.sends 0 0 c 0xA4 1 0 ∧ s.may 0 .log = true ∧ 1 ≤ c.word 0 ∧ c.word 0 ≤ 10000) ∧
    (∃ (s : State) (c : Cmd), s.sends 0 0 c 0xA5 4 0 ∧ c.word 0 ≤ 3600 ∧ c.wide 1 % 4096 = 0 ∧ 2 ≤ c.word 3 ∧ c.word 3 ≤ 4096) ∧
    (∃ (s : State) (c : Cmd), s.cmdAt 0 0 = some c ∧ c.op = 0xB0 ∧ c.len = 3 ∧ c.fits 1 = true ∧ regionFits (c.word 2) (c.word 1) = true ∧
      s.may 0 .firmware = true ∧ c.word 0 + c.word 1 ≤ 8388608 ∧ c.word 1 % 4 = 0 ∧ s.writtenTo (c.word 0) ≤ c.word 0 ∧ (∀ h ∈ s.handled, h.op ≠ 0xB1) ∧ c.word 0 ≠ 0) ∧
    (∃ (s : State) (c : Cmd), s.cmdAt 0 0 = some c ∧ c.op = 0xB0 ∧ c.len = 3 ∧ c.fits 1 = true ∧ regionFits (c.word 2) (c.word 1) = true ∧
      s.may 0 .firmware = true ∧ c.word 0 + c.word 1 ≤ 8388608 ∧ c.word 1 % 4 = 0 ∧ s.writtenTo (c.word 0) ≤ c.word 0 ∧ (∀ h ∈ s.handled, h.op ≠ 0xB1) ∧ c.word 0 = 0) ∧
    (∃ (s : State) (c : Cmd) (slot : Fin 256), s.sends 0 0 c 0xB1 1 1 ∧ s.may 0 .firmware = true ∧ (s.takeImb 0 0).freeSlot 0 = some slot) := by
  unfold State.sends
  exact ⟨⟨sent 0xA0 [] up, cmdOf 0xA0 [], by decide +kernel⟩,
    ⟨sent 0xA1 [BitVec.ofNat 32 (Flt.lockstep.source + 256 * Flt.lockstep.kind), 31] up,
      cmdOf 0xA1 [BitVec.ofNat 32 (Flt.lockstep.source + 256 * Flt.lockstep.kind), 31], Flt.lockstep, by decide +kernel⟩,
    ⟨sent 0xA1 [BitVec.ofNat 32 (Flt.tdcCalFail.source + 256 * Flt.tdcCalFail.kind), 31] up,
      cmdOf 0xA1 [BitVec.ofNat 32 (Flt.tdcCalFail.source + 256 * Flt.tdcCalFail.kind), 31], Flt.tdcCalFail, by decide +kernel⟩,
    ⟨sent 0xA2 [0, 1920, 0] up, cmdOf 0xA2 [0, 1920, 0], by decide +kernel⟩, ⟨sent 0xA3 [15] up, cmdOf 0xA3 [15], by decide +kernel⟩,
    ⟨sent 0xA4 [10000] up, cmdOf 0xA4 [10000], by decide +kernel⟩, ⟨sent 0xA5 [3600, 4096, 0, 4096] up, cmdOf 0xA5 [3600, 4096, 0, 4096], by decide +kernel⟩,
    ⟨sent 0xB0 [8388604, 4, 9] { up with flash.started := true }, cmdOf 0xB0 [8388604, 4, 9], by decide +kernel⟩,
    ⟨sent 0xB0 [0, 4, 9] up, cmdOf 0xB0 [0, 4, 9], by decide +kernel⟩, ⟨sent 0xB1 [1] up, cmdOf 0xB1 [1], 0, by decide +kernel⟩⟩

/-! ### Witnesses: the monitor -/

/-- An image header with this PASS_HASH. -/
def hdrOf (hash : List Byte) : ImageHdr := ⟨0x51494D47, 1, 0, 0, 2, false, false, 4096, 7, 3, [1], hash, 0⟩

/-- An engine with its monitor, in a state, at a level. -/
def monIn (e : EngineState) (maintain : Bool) : State :=
  { upIn e with sys.straps := ⟨0, 0, true, false⟩, mon.maintain := maintain, mon.line := [0x48], sys.hdr := some (hdrOf [1]) }

theorem witness_MonitorLevelFollowsThePasscode :
    (∃ s : State, s.sys.straps.monEn = true ∧ s.sys.engine ≠ .reset ∧ s.sys.engine ≠ .boot ∧ s.sys.hdr = none) ∧
    (∃ (s : State) (h : ImageHdr), s.sys.straps.monEn = true ∧ s.sys.engine ≠ .reset ∧ s.sys.engine ≠ .boot ∧ s.sys.hdr = some h ∧ h.passHash.all (· == 0) = true) ∧
    (∃ (s : State) (h : ImageHdr), s.sys.straps.monEn = true ∧ s.sys.engine ≠ .reset ∧ s.sys.engine ≠ .boot ∧ s.sys.hdr = some h ∧
      h.passHash.all (· == 0) = false ∧ s.mon.waitFrom.isSome = true) ∧
    (∃ (s : State) (h : ImageHdr) (p : List Byte), s.sys.straps.monEn = true ∧ s.sys.engine ≠ .reset ∧ s.sys.engine ≠ .boot ∧ s.sys.hdr = some h ∧
      h.passHash.all (· == 0) = false ∧ s.mon.waitFrom = none ∧ (imagePasses h p = true ∨ s.mon.maintain = false)) ∧
    (∃ (s : State) (c : Nat), s.mon.waitFrom = some c) :=
  ⟨⟨{ monIn .locked false with sys.hdr := none }, by decide⟩,
   ⟨{ monIn .locked false with sys.hdr := some (hdrOf [0]) }, hdrOf [0], by decide⟩,
   ⟨{ monIn .locked false with mon.waitFrom := some 5 }, hdrOf [1], by decide⟩,
   ⟨monIn .locked false, hdrOf [1], [0x41], rfl, by decide, by decide, rfl, by decide, rfl, .inr rfl⟩, ⟨{ up with mon.waitFrom := some 5 }, 5, by decide⟩⟩

theorem witness_MonitorLinesOfViewPrintTheirState :
    (∃ s : State, s.sys.straps.monEn = false) ∧ (∃ s : State, s.sys.straps.monEn = true ∧ s.sys.engine = .boot) ∧
    (∃ (s : State) (o : Nat) (v : Word), s.sys.straps.monEn = true ∧ s.sys.engine ≠ .reset ∧ s.sys.engine ≠ .boot ∧ s.peekable o = true ∧
      s.regWord s.sys.owner (o % 65536) = some v) ∧
    (∃ (s : State) (o : Nat), s.sys.straps.monEn = true ∧ s.sys.engine ≠ .reset ∧ s.sys.engine ≠ .boot ∧ s.peekable o = false) :=
  ⟨⟨up, by decide⟩, ⟨monIn .boot false, by decide⟩, ⟨monIn .safe false, 0x200C, 1, by decide +kernel⟩, ⟨monIn .init false, 0x2001, by decide +kernel⟩⟩

theorem witness_MonitorTypingAndMaintainLines :
    (∃ s : State, s.sys.straps.monEn = true ∧ s.sys.engine ≠ .reset ∧ s.mon.line.length < 80) ∧
    (∃ s : State, s.sys.straps.monEn = true ∧ s.sys.engine ≠ .reset ∧ 80 ≤ s.mon.line.length) ∧
    (∃ s : State, s.sys.straps.monEn = true ∧ s.sys.engine ≠ .reset ∧ s.mon.tooLong = true) ∧
    (∃ s : State, s.sys.straps.monEn = true ∧ s.sys.engine ≠ .reset ∧ s.mon.tooLong = false ∧ (splitWords [] s.mon.line).isEmpty = false ∧ parseLine s.mon.line = none) ∧
    (∃ s : State, s.sys.straps.monEn = true ∧ s.sys.engine ≠ .reset ∧ s.sys.engine ≠ .boot ∧ s.mon.maintain = false) ∧
    (∃ (s : State) (o : Nat), s.sys.straps.monEn = true ∧ s.sys.engine ≠ .reset ∧ s.sys.engine ≠ .boot ∧ s.mon.maintain = true ∧ s.pokeable o = false) ∧
    (∃ (s : State) (o : Nat), s.sys.straps.monEn = true ∧ s.sys.engine ≠ .reset ∧ s.sys.engine ≠ .boot ∧ s.mon.maintain = true ∧ s.pokeable o = true ∧
      sharedWritable (o % 65536) = false) ∧
    (∃ (s : State) (o : Nat), s.sys.straps.monEn = true ∧ s.sys.engine ≠ .reset ∧ s.sys.engine ≠ .boot ∧ s.mon.maintain = true ∧ s.pokeable o = true ∧
      sharedWritable (o % 65536) = true ∧ s.follower = false ∧ s.direct.lockdown = false) ∧
    (∃ s : State, s.sys.straps.monEn = true ∧ s.sys.engine ≠ .reset ∧ s.sys.engine ≠ .boot ∧ s.mon.maintain = true ∧ s.direct.lockdown = true ∧
      s.sys.resetN = true ∧ s.sys.por = false) :=
  ⟨⟨monIn .safe true, by decide⟩, ⟨{ monIn .safe true with mon.line := List.replicate 80 0x41 }, by decide⟩,
   ⟨{ monIn .safe true with mon.tooLong := true }, by decide⟩, ⟨monIn .safe true, by decide +kernel⟩, ⟨monIn .safe false, by decide⟩,
   ⟨monIn .safe true, 0x2001, by decide +kernel⟩, ⟨monIn .safe true, 0x200C, by decide +kernel⟩, ⟨monIn .safe true, 0x2044, by decide +kernel⟩,
   ⟨{ monIn .safe true with direct.lockdown := true }, by decide⟩⟩

/-! ### Single steps, with the results that the spec works out -/

/-- The state that a command answers. -/
def after (i : Instr) (s : State) : State :=
  match exec i s with
  | .next t => t
  | _ => s

/-- The stamp of the worked example of section 2 (converting a stamp across a step). -/
def stampState : State :=
  { up with sys.cyc := 1500000100000, ts.sets := [{ offset := (1893456000 * 10 ^ 9 + 999800000) * 2 ^ 48, rate := 2 ^ 33 }] }

theorem test_stamp_converts : stampState.convert ⟨1500000000000, 320⟩ = (1893458401 * 10 ^ 9 + 86102) * 65536 + 52096 := by decide +kernel

/-- The same after its step of -250 ns, which takes effect 2,500 cycles later: the stamp keeps the set of its own cycle. -/
theorem test_stamp_keeps_its_set :
    let t := { stampState with
      sys.cyc := 1500000102500, ts.committed := some ⟨1500000102500, some ⟨-250 * 65536, .host 7⟩, none⟩ }
    (after .conversionSetEffect t).convert ⟨1500000000000, 320⟩ = (1893458401 * 10 ^ 9 + 86102) * 65536 + 52096 ∧
    (after .conversionSetEffect t).convert ⟨1500000200000, 0⟩ = stampState.convert ⟨1500000200000, 0⟩ - 250 * 65536 ∧
    (after .conversionSetEffect t).ts.stepCount = 1 := by decide +kernel

/-- Section 13's worked example: HP0 takes LOCK3, HP2 reads its holder. -/
theorem test_lock_is_taken_once :
    (after (.lockRead 2 3) (after (.lockRead 0 3) up)).emits = [.read 2 1, .read 0 0] := by decide +kernel

/-- Section 14's worked example: OUT1 as a PPS output, its parcel at word 0x0200 and its command word in IMB2. -/
def ppsWords (widthLo : Word) : List Word := [1, 0x195, 0, 2, 0x3B9ACA00, 0, widthLo, 0, 0x320, 0x40]
/-- HP0 has written them. -/
def ppsSent (widthLo : Word) : State := ((up.parcelWrite 0 0x200 (ppsWords widthLo)).writeImb 0 2 0x410A0200).mapGroup 1 fun x => { x with applied := 0xF }

theorem test_pps_is_accepted :
    (after (.outputConfig 0 2) (ppsSent 0x05F5E100)).hosts[(0 : Fin 4)].slotBusy.isEmpty = true ∧
    (after (.outputConfig 0 2) (ppsSent 0x05F5E100)).hosts[(0 : Fin 4)].omb[(2 : Fin 8)] = 0x10000001 ∧
    (after (.outputConfig 0 2) (ppsSent 0x05F5E100)).outs.pins[(1 : Fin 80)].cfg.at Ix.outComp = 800 ∧
    (after (.outputConfig 0 2) (ppsSent 0x05F5E100)).parcelWord 0 0x200 = 2 := by decide +kernel

theorem test_pps_with_a_wide_width_is_rejected :
    (after (.outputConfig 0 2) (ppsSent 0x59682F00)).hosts[(0 : Fin 4)].omb[(2 : Fin 8)] = 0x20060000 ∧
    (after (.outputConfig 0 2) (ppsSent 0x59682F00)).parcelWord 0 0x200 = 1 ∧
    (after (.outputConfig 0 2) (ppsSent 0x59682F00)).parcelWord 0 0x201 = 4 := by decide +kernel

/-- Section 15's worked example: the clear alias of HW_MASK, and a second strobe while COVERAGE waits. -/
theorem test_alias_clears_one_mask_bit :
    (after (.aliasClearWrite 2 ⟨0x102C, 32⟩ 0x2000) up).hosts[(2 : Fin 4)].hwMask = 0xFFFFDFFF := by decide +kernel

theorem test_coverage_waits_for_its_boundary :
    let s := up.mapGroup 0 fun x => { x with epoch := 0x12, applied := 1 }
    let t := after (.updateGroupStrobe 0 1) (after (.coverageWrite 0 6) s)
    t.bound.k = 5 ∧ t.groups[(0 : Fin 8)].epoch = 0x13 ∧ t.groups[(0 : Fin 8)].applied = 0 ∧
    (after (.updateGroupStrobe 0 1) t).groups[(0 : Fin 8)].epoch = 0x13 ∧
    (after .boundRecompute t).bound.k = 6 ∧ (after .boundRecompute t).groups[(0 : Fin 8)].applied = 1 := by decide +kernel

/-- Section 3's rule of calibration: a bin of 9 steps is refused (R104). -/
theorem test_bad_table_is_refused : (after (.tdcCalComplete 7 false ⟨9, 2, 5⟩) up).tdc[(7 : Fin 88)].sigmaA = none := by decide +kernel

/-- The table's numbering: the command word of row 0 of spec/opcode_table.json that carries no bits is none. -/
theorem test_no_bits_no_command : decodeTableWord 0 0 = none := by decide

end Sys2Proof.Machine
end

/-! PROOFS of family 13 (host ports and mailboxes): O40, PEER_RING and the doorbell of its target; O48, handle slots and their sequence numbers. -/

namespace Sys2Proof.Machine

/-! ### Doorbells -/

/-- Updates of one element agree when their functions agree on the element's old value. -/
theorem upd_congr {α : Type} {n : Nat} (v : Vector α n) (i : Fin n) {f g : α → α} (h : f v[i] = g v[i]) : upd v i f = upd v i g := by
  rw [upd, upd, h]

/-- A state within reach of host operations is the old one with its own host ports and outputs. -/
theorem TouchesHosts.eq_of_hosts {s t : State} (h : TouchesHosts s t) : t = { s with hosts := t.hosts, emits := t.emits } := by
  obtain ⟨_, _, rfl⟩ := h
  rfl

/-- Host operations leave the commands in hand alone. -/
theorem TouchesHosts.handled {s t : State} (h : TouchesHosts s t) : t.handled = s.handled := by
  rw [h.eq_of_hosts]

@[simp] theorem State.msix_hosts (s : State) (p : Fin 4) (v : Nat) : (s.msix p v).hosts = s.hosts := by
  obtain ⟨_, he⟩ := s.msix_only p v
  rw [he]

/-- Whether a doorbell's interrupt leaves or not, the host ports change by its DB_STATUS bit alone (R431). -/
theorem State.ring_hosts (s : State) (p : Fin 4) (b : Nat) :
    (s.ring p b).hosts = upd s.hosts p fun h => { h with db := h.db ||| BitVec.ofNat 32 (2 ^ b) } := by
  rw [State.ring]
  split
  · exact State.msix_hosts _ p 0
  · rfl

/-- A rung doorbell bit reads 1. -/
theorem getLsbD_or_two_pow (v : Word) {b : Nat} (hb : b < 32) : (v ||| BitVec.ofNat 32 (2 ^ b)).getLsbD b = true := by
  rw [BitVec.getLsbD_or, BitVec.getLsbD_ofNat]
  simp [hb, Nat.testBit_two_pow_self]

/-- A write of PEER_RING from INIT on rings bit 24 + the writer on the port that TARGET names (R448, R473). -/
theorem exec_peerRingWrite (s : State) (hp p : Fin 4) (v : Word) (hb : s.afterBoot = true) (hv : v.toNat % 4 = p.val) :
    exec (.peerRingWrite hp v) s = .next (s.ring p (24 + hp.val)) := by
  have target : Fin.ofNat 4 (v.toNat % 4) = p := Fin.ext (by simp [hv])
  calc exec (.peerRingWrite hp v) s = s.opened fun t => t.writePeerRing hp v := rfl
    _ = .next (s.writePeerRing hp v) := by rw [State.opened, if_pos hb]
    _ = .next (s.ring p (24 + hp.val)) := by rw [State.writePeerRing, target]

/-- Settles O40: the write rings one doorbell bit, whose effect on the host ports is one update of the target's DB_STATUS. -/
theorem peerRingSetsTheDoorbellBit : Obligations.PeerRingSetsTheDoorbellBit := by
  intro s hp p v hb hv
  have hhosts := s.ring_hosts p (24 + hp.val)
  have hdb : (s.ring p (24 + hp.val)).hosts[p].db = s.hosts[p].db ||| BitVec.ofNat 32 (2 ^ (24 + hp.val)) := by
    rw [hhosts, upd_same]
  refine ⟨s.ring p (24 + hp.val), exec_peerRingWrite s hp p v hb hv, hdb, ?_, fun q hq => ?_, ?_⟩
  · rw [hdb]
    exact getLsbD_or_two_pow _ (by omega)
  · rw [hhosts, upd_other _ _ _ _ hq.symm]
  · have same : (s.ring p (24 + hp.val)).hosts = upd s.hosts p fun h => { h with db := (s.ring p (24 + hp.val)).hosts[p].db } :=
      hhosts.trans (upd_congr _ _ (by rw [hdb]))
    rw [← same]
    exact (s.ring_only p (24 + hp.val)).eq_of_hosts

/-! ### Operations that leave the handle slots alone -/

/-- Every host port has the same busy handle slots and the same sequence numbers in both states. -/
def SameSlots (s t : State) : Prop := ∀ p : Fin 4, t.hosts[p].slotBusy = s.hosts[p].slotBusy ∧ t.hosts[p].slotSeq = s.hosts[p].slotSeq

theorem SameSlots.trans {s t u : State} (a : SameSlots s t) (b : SameSlots t u) : SameSlots s u := fun p =>
  ⟨(b p).1.trans (a p).1, (b p).2.trans (a p).2⟩

theorem SameSlots.of_hosts {s t : State} (h : t.hosts = s.hosts) : SameSlots s t := fun p => by rw [h]; exact ⟨rfl, rfl⟩

/-- The changed host port. -/
theorem State.mapHost_same (s : State) (p : Fin 4) (f : HostPort → HostPort) : (s.mapHost p f).hosts[p] = f s.hosts[p] :=
  upd_same s.hosts p f

/-- A change of a host port that keeps its own slots keeps every port's. -/
theorem State.mapHost_sameSlots (s : State) (p : Fin 4) (f : HostPort → HostPort)
    (hbusy : (f s.hosts[p]).slotBusy = s.hosts[p].slotBusy) (hseq : (f s.hosts[p]).slotSeq = s.hosts[p].slotSeq) :
    SameSlots s (s.mapHost p f) := fun q => by
  by_cases hq : p = q
  · subst hq
    rw [State.mapHost_same]
    exact ⟨hbusy, hseq⟩
  · rw [State.mapHost_hosts, upd_other _ _ _ _ hq]
    exact ⟨rfl, rfl⟩

theorem State.ring_sameSlots (s : State) (p : Fin 4) (b : Nat) : SameSlots s (s.ring p b) := by
  have h := s.mapHost_sameSlots p (fun h => { h with db := h.db ||| BitVec.ofNat 32 (2 ^ b) }) rfl rfl
  exact h.trans (SameSlots.of_hosts (s.ring_hosts p b))

theorem State.drainOmb_sameSlots (s : State) (p : Fin 4) (m : Fin 8) : SameSlots s (s.drainOmb p m) := by
  rw [State.drainOmb]
  dsimp only
  split
  · exact s.mapHost_sameSlots p _ rfl rfl
  · split
    · exact s.mapHost_sameSlots p _ rfl rfl
    · exact (s.mapHost_sameSlots p _ rfl rfl).trans (State.ring_sameSlots _ p m.val)

theorem State.reply_sameSlots (s : State) (p : Fin 4) (m : Fin 8) (w : Word) : SameSlots s (s.reply p m w) :=
  (s.mapHost_sameSlots p _ rfl rfl).trans (State.drainOmb_sameSlots _ p m)

theorem State.writeResult_sameSlots (s : State) (p : Fin 4) (ofs : Nat) (ws : List Word) : SameSlots s (s.writeResult p ofs ws) :=
  s.mapHost_sameSlots p _ rfl rfl

/-! ### Taking a handle slot (R443) -/

/-- A port without a free slot is one whose slots are all busy. -/
theorem State.freeSlot_eq_none (s : State) (hp : Fin 4) : s.freeSlot hp = none ↔ ∀ i : Fin 256, i.val ∈ s.hosts[hp].slotBusy := by
  simp [State.freeSlot, List.find?_eq_none]

/-- The slot that is found free is not busy. -/
theorem State.freeSlot_not_busy {s : State} {hp : Fin 4} {slot : Fin 256} (h : s.freeSlot hp = some slot) :
    slot.val ∉ s.hosts[hp].slotBusy := by
  simpa using List.find?_some h

/-- A handle is the slot above its sequence number. -/
theorem State.handleOf_slot (s : State) (p : Fin 4) (slot : Fin 256) : s.handleOf p slot.val = slot.val * 256 + s.hosts[p].slotSeq[slot] := by
  simp [State.handleOf]

/-- A sequence number lies in 1 to 255. -/
theorem nextSeq_range (n : Nat) : 1 ≤ nextSeq n ∧ nextSeq n ≤ 255 := by
  unfold nextSeq
  omega

/-- Below 255 a sequence number advances by 1. -/
theorem nextSeq_of_lt {n : Nat} (h : n < 255) : nextSeq n = n + 1 := by
  unfold nextSeq
  omega

/-- An acceptance makes its slot busy and advances that slot's sequence number; the reply leaves both alone. -/
theorem State.acceptCmd_slots (s : State) (c : Cmd) (slot : Fin 256) (g : Option (Fin 8)) (k : Nat) (d : List Int) (o : Nat) (v : Cfg) :
    (s.acceptCmd c slot g k d o v).hosts[c.hp].slotBusy = slot.val :: s.hosts[c.hp].slotBusy ∧
    (s.acceptCmd c slot g k d o v).hosts[c.hp].slotSeq = s.hosts[c.hp].slotSeq.set slot (nextSeq s.hosts[c.hp].slotSeq[slot]) := by
  obtain ⟨hbusy, hseq⟩ := State.reply_sameSlots _ c.hp c.mb _ c.hp
  have taken := s.mapHost_same c.hp fun h =>
    { h with slotBusy := slot.val :: h.slotBusy, slotSeq := h.slotSeq.set slot (nextSeq h.slotSeq[slot]) }
  exact ⟨hbusy.trans (congrArg HostPort.slotBusy taken), hseq.trans (congrArg HostPort.slotSeq taken)⟩

/-- The handle that an acceptance gives: its sequence number is the slot's next one, and the port's other slots keep theirs. -/
theorem State.acceptCmd_handle {s t : State} {c : Cmd} {slot : Fin 256} {g : Option (Fin 8)} {k : Nat} {d : List Int} {o : Nat} {v : Cfg}
    (ht : t = s.acceptCmd c slot g k d o v) :
    t.hosts[c.hp].slotSeq[slot] = nextSeq s.hosts[c.hp].slotSeq[slot] ∧
    ∀ j : Fin 256, j ≠ slot → t.hosts[c.hp].slotSeq[j] = s.hosts[c.hp].slotSeq[j] := by
  obtain ⟨-, hseq⟩ := s.acceptCmd_slots c slot g k d o v
  rw [ht, hseq]
  refine ⟨by simp, fun j hj => ?_⟩
  have : slot.val ≠ j.val := fun e => hj (Fin.ext e.symm)
  simp [this]

/-! ### Without a free slot -/

/-- No handled command of R464 zeroes its parcel. -/
theorem wipe_of_handled {f : CmdForm} (hf : f ∈ commandForms) (hh : f.handled = true) : f.wipe = none := by
  have all : (commandForms.all fun f => !f.handled || f.wipe.isNone) = true := by decide
  simpa [hh] using List.all_eq_true.mp all f hf

/-- A handled command that passes every check of R457 before its handle is rejected with 0x004 when no slot is free. -/
theorem State.runCmd_noHandle (s : State) (f : CmdForm) {c : Cmd} (hw : f.wipe = none) (hh : f.handled = true)
    (hs : (c.fits f.results && f.shape s c) = true) (hr : f.rights s c = true) (hf : (f.follower && s.follower) = false)
    (hslot : s.freeSlot c.hp = none) : s.runCmd c f = s.rejectCmd c 4 none := by
  simp [State.runCmd, hw, hs, hr, hf, hslot, hh]

/-! ### Completion frees the slot -/

/-- A completion takes the command out of those in hand and its slot out of the busy ones, orphan or not (R443, R449). -/
theorem State.complete_frees (s : State) (h : Handled) (st : Nat) (ws : List Word) (hf : s.handled.find? (fun x => x.id == h.id) = some h) :
    (s.complete h.id st ws).hosts[h.hp].slotBusy = s.hosts[h.hp].slotBusy.erase h.slot ∧
    (s.complete h.id st ws).handled = s.handled.filter (·.id != h.id) := by
  have freed := s.mapHost_same h.hp fun x => { x with slotBusy := x.slotBusy.erase h.slot }
  rw [State.complete, hf]
  dsimp only
  split
  · exact ⟨congrArg HostPort.slotBusy freed, rfl⟩
  · exact ⟨((State.writeResult_sameSlots _ h.hp h.ofs ws).trans (State.reply_sameSlots _ h.hp h.mb _) h.hp).1.trans (congrArg HostPort.slotBusy freed),
      ((State.writeResult_only _ h.hp h.ofs ws).trans (State.reply_only _ h.hp h.mb _)).handled⟩

/-- Settles O48: the free slot is the first one not busy, an acceptance advances its sequence number alone, the fifth check of R457 rejects without one, and a completion takes the slot out of the busy ones. -/
theorem handlesNameSlotAndSequence : Obligations.HandlesNameSlotAndSequence := by
  refine ⟨State.freeSlot_eq_none, fun s hp slot => State.freeSlot_not_busy, ?_, ?_, ?_⟩
  · intro s t c slot g k d o v ht
    obtain ⟨hseq, hothers⟩ := State.acceptCmd_handle ht
    obtain ⟨hlow, hhigh⟩ := nextSeq_range s.hosts[c.hp].slotSeq[slot]
    refine ⟨ht ▸ (s.acceptCmd_slots c slot g k d o v).1, hseq ▸ hlow, hseq ▸ hhigh, fun hlt => ?_, fun htop => ?_, hothers, t.handleOf_slot c.hp slot⟩
    · rw [hseq, nextSeq_of_lt hlt]
    · rw [hseq, htop]
      rfl
  · intro s c f hf hh hs hr hfollow hslot
    have passes : (f.follower && s.follower) = false := by
      cases hfo : f.follower
      · rfl
      · exact hfollow hfo
    exact s.runCmd_noHandle f (wipe_of_handled hf hh) hh hs hr passes hslot
  · intro s h st ws hf
    obtain ⟨hbusy, hhandled⟩ := s.complete_frees h st ws hf
    refine ⟨hbusy, fun x hx => ?_⟩
    rw [hhandled] at hx
    simpa using (List.mem_filter.mp hx).2

end Sys2Proof.Machine

/-! PROOFS of family 14 (the command set of Omend): O47, command words wait for the end of INIT and keep their order. -/

namespace Sys2Proof.Machine

/-! ### The queue of command words (R429) -/

/-- The order of the queue is lexicographic: CCLK cycle, then port, then mailbox. -/
theorem cmdBefore_iff (a b : Nat × Fin 4 × Fin 8) :
    cmdBefore a b = true ↔ a.1 < b.1 ∨ (a.1 = b.1 ∧ (a.2.1 < b.2.1 ∨ (a.2.1 = b.2.1 ∧ a.2.2 < b.2.2))) := by
  simp [cmdBefore]

/-- A word before another is not behind what the other is not behind. -/
theorem not_cmdBefore_of_cmdBefore {a b c : Nat × Fin 4 × Fin 8} (hab : cmdBefore a b = true) (hcb : cmdBefore c b = false) :
    cmdBefore c a = false := by
  rw [← Bool.not_eq_true, cmdBefore_iff] at hcb ⊢
  rw [cmdBefore_iff] at hab
  omega

/-- A word that is before another is not behind it. -/
theorem cmdBefore_asymm {a b : Nat × Fin 4 × Fin 8} (hab : cmdBefore a b = true) : cmdBefore b a = false := by
  rw [← Bool.not_eq_true, cmdBefore_iff]
  rw [cmdBefore_iff] at hab
  omega

/-- A word joins the queue in front of the first word that it is before. -/
theorem insertCmd_eq_orderedInsert (c : Nat × Fin 4 × Fin 8) (l : List (Nat × Fin 4 × Fin 8)) :
    insertCmd c l = l.orderedInsert (fun a b => cmdBefore a b) c := by
  induction l with
  | nil => rfl
  | cons d l ih => rw [insertCmd, List.orderedInsert_cons, ih]

theorem mem_insertCmd {c d : Nat × Fin 4 × Fin 8} {l : List (Nat × Fin 4 × Fin 8)} : d ∈ insertCmd c l ↔ d = c ∨ d ∈ l := by
  rw [insertCmd_eq_orderedInsert, List.mem_orderedInsert]

theorem mem_dropCmd {d : Nat × Fin 4 × Fin 8} {l : List (Nat × Fin 4 × Fin 8)} {hp : Fin 4} {m : Fin 8} :
    d ∈ dropCmd l hp m ↔ d ∈ l ∧ ¬ (d.2.1 = hp ∧ d.2.2 = m) := by
  simp [dropCmd, imp_iff_not_or]

/-- No word of the queue stands behind one that it is before. -/
def InOrder (l : List (Nat × Fin 4 × Fin 8)) : Prop := l.Pairwise fun a b => cmdBefore b a = false

/-- A word that joins the queue keeps its order. -/
theorem InOrder.insertCmd {l : List (Nat × Fin 4 × Fin 8)} (h : InOrder l) (c : Nat × Fin 4 × Fin 8) : InOrder (insertCmd c l) := by
  induction l with
  | nil => exact List.pairwise_singleton _ c
  | cons d l ih =>
    obtain ⟨hd, hl⟩ := List.pairwise_cons.mp h
    rw [Machine.insertCmd]
    split
    case isTrue hcd =>
      refine List.pairwise_cons.mpr ⟨fun e he => ?_, h⟩
      rcases List.mem_cons.mp he with rfl | he
      · exact cmdBefore_asymm hcd
      · exact not_cmdBefore_of_cmdBefore hcd (hd e he)
    case isFalse hcd =>
      refine List.pairwise_cons.mpr ⟨fun e he => ?_, ih hl⟩
      rcases mem_insertCmd.mp he with rfl | he
      · exact Bool.not_eq_true _ ▸ hcd
      · exact hd e he

/-- Words that leave the queue keep its order. -/
theorem InOrder.dropCmd {l : List (Nat × Fin 4 × Fin 8)} (h : InOrder l) (hp : Fin 4) (m : Fin 8) : InOrder (dropCmd l hp m) :=
  h.filter _

/-! ### Which word is next (R455) -/

/-- INIT has completed in the states from WARMUP on (R29). -/
theorem State.afterInit_iff (s : State) : s.afterInit = true ↔ s.sys.engine ∈ [.warmup, .acquire, .locked, .holdover, .safe] := by
  rw [State.afterInit]
  cases s.sys.engine <;> decide

/-- Before the end of INIT no mailbox is next. -/
theorem State.cmdAt_beforeInit {s : State} (h : s.afterInit = false) (hp : Fin 4) (mb : Fin 8) : s.cmdAt hp mb = none := by
  rw [State.cmdAt]
  split
  · rfl
  · simp [h]

/-- From the end of INIT on, with no FW_WRITE to complete, the first word of the queue is next, and it alone. -/
theorem State.cmdAt_first {s : State} {n : Nat} {hp : Fin 4} {mb : Fin 8} {l : List (Nat × Fin 4 × Fin 8)} (hq : s.cmds = (n, hp, mb) :: l)
    (hi : s.afterInit = true) (hw : s.flash.writing = none) (p : Fin 4) (m : Fin 8) :
    s.cmdAt p m = if (hp, mb) = (p, m) then some (s.cmdIn p m) else none := by
  simp [State.cmdAt, hq, hi, hw]

/-- The rows of Omend and the forms of R464 stand in the same order, and each row's command runs its form. -/
theorem commandRows_run_commandForms (hp : Fin 4) (mb : Fin 8) :
    List.Forall₂ (fun (x : Nat × Instr) (f : CmdForm) => x.1 = f.op ∧ ∀ s, exec x.2 s = s.omend hp mb f) (commandRows hp mb) commandForms := by
  unfold commandRows commandForms
  simp only [List.cons_append, List.nil_append]
  repeat refine .cons ⟨rfl, fun _ => rfl⟩ ?_
  exact .nil

/-- Every row of Omend runs a form of R464, that of its own opcode. -/
theorem exec_commandRow {hp : Fin 4} {mb : Fin 8} {x : Nat × Instr} (hx : x ∈ commandRows hp mb) :
    ∃ f ∈ commandForms, x.1 = f.op ∧ ∀ s, exec x.2 s = s.omend hp mb f := by
  obtain ⟨i, hi, rfl⟩ := List.mem_iff_getElem.mp hx
  obtain ⟨hlen, hrun⟩ := List.forall₂_iff_get.mp (commandRows_run_commandForms hp mb)
  exact ⟨_, List.getElem_mem (hlen ▸ hi), hrun i hi (hlen ▸ hi)⟩

/-! ### What waits for the end of INIT -/

/-- The command words that wait, in the queue and in their mailboxes, and what decides how the end of INIT goes on: a safe state that is due, and the twin's role. -/
structure Waiting where
  cmds : List (Nat × Fin 4 × Fin 8)
  boxes : Vector (Vector Word 8 × Vector Bool 8) 4
  safePending : Bool
  role : Role

/-- What waits in a state. -/
def State.waiting (s : State) : Waiting := ⟨s.cmds, s.hosts.map fun h => (h.imb, h.imbFull), s.sys.safePending, s.twin.role⟩

/-- Where the same waits, the same words stand in the same mailboxes, with the same FULL. -/
theorem State.inbox_of_waiting {s t : State} (h : t.waiting = s.waiting) (p : Fin 4) :
    t.hosts[p].imb = s.hosts[p].imb ∧ t.hosts[p].imbFull = s.hosts[p].imbFull := by
  have box : (t.hosts[p].imb, t.hosts[p].imbFull) = (s.hosts[p].imb, s.hosts[p].imbFull) := by
    simpa [State.waiting] using congrArg (fun w : Waiting => w.boxes[p]) h
  exact Prod.mk.inj box

theorem State.cmds_of_waiting {s t : State} (h : t.waiting = s.waiting) : t.cmds = s.cmds := congrArg Waiting.cmds h

theorem State.safePending_of_waiting {s t : State} (h : t.waiting = s.waiting) : t.sys.safePending = s.sys.safePending :=
  congrArg Waiting.safePending h

theorem State.role_of_waiting {s t : State} (h : t.waiting = s.waiting) : t.twin.role = s.twin.role := congrArg Waiting.role h

theorem Speaks.waiting {s t : State} (h : Speaks s t) : t.waiting = s.waiting := by
  obtain ⟨_, rfl⟩ := h
  rfl

theorem TouchesFaults.waiting {s t : State} (h : TouchesFaults s t) : t.waiting = s.waiting := by
  obtain ⟨_, rfl⟩ := h
  rfl

/-- A change of a host port that keeps its inbound mailboxes keeps what waits. -/
theorem State.mapHost_waiting (s : State) (p : Fin 4) (f : HostPort → HostPort)
    (hf : (f s.hosts[p]).imb = s.hosts[p].imb ∧ (f s.hosts[p]).imbFull = s.hosts[p].imbFull) : (s.mapHost p f).waiting = s.waiting := by
  obtain ⟨hword, hfull⟩ := hf
  have boxes : ((upd s.hosts p f).map fun h => (h.imb, h.imbFull)) = s.hosts.map fun h => (h.imb, h.imbFull) := by
    ext1 i hi
    by_cases hip : p = ⟨i, hi⟩
    · subst hip
      simpa [upd] using ⟨hword, hfull⟩
    · have : p.val ≠ i := fun e => hip (Fin.ext e)
      simp [upd, this]
  rw [State.waiting, State.mapHost_hosts, boxes]
  rfl

/-- A walk each of whose steps keeps what waits keeps it. -/
theorem State.each_waiting {α : Type} (s : State) (l : List α) (f : State → α → State) (hf : ∀ t x, (f t x).waiting = t.waiting) :
    (s.each l f).waiting = s.waiting :=
  s.each_keeps (P := fun t => t.waiting = s.waiting) l f rfl fun t x ht => (hf t x).trans ht

theorem State.raise_waiting (s : State) (k : FaultKind) (d : Nat) : (s.raise k d).waiting = s.waiting := (s.raise_only k d).waiting

theorem State.condition_waiting (s : State) (k : FaultKind) (d : Nat) : (s.condition k d).waiting = s.waiting := (s.condition_only k d).waiting

theorem State.ring_waiting (s : State) (p : Fin 4) (b : Nat) : (s.ring p b).waiting = s.waiting := by
  have rung : (s.mapHost p fun h => { h with db := h.db ||| BitVec.ofNat 32 (2 ^ b) }).waiting = s.waiting := s.mapHost_waiting p _ ⟨rfl, rfl⟩
  rw [State.ring]
  split
  · exact (State.msix_only _ p 0).waiting.trans rung
  · exact rung

/-! ### A host's write of a mailbox (R438) -/

/-- The word joins the queue and fills its mailbox; a collision changes nothing else that waits. -/
theorem State.writeImb_waiting (s : State) (hp : Fin 4) (m : Fin 8) (v : Word) :
    (s.writeImb hp m v).waiting = (({ s with cmds := insertCmd (s.sys.cyc * 4 / 25, hp, m) (dropCmd s.cmds hp m) } : State).mapHost hp
      fun h => { h with imb := h.imb.set m v, imbFull := h.imbFull.set m true }).waiting := by
  rw [State.writeImb]
  dsimp only
  split
  · rw [State.raise_waiting]
    split
    · rw [(State.hwLevelRise_only _ hp 15).waiting, State.mapHost_waiting _ hp _ ⟨rfl, rfl⟩]
    · rw [State.mapHost_waiting _ hp _ ⟨rfl, rfl⟩]
  · rfl

/-- After a host's write the mailbox holds the word with FULL set. -/
theorem State.writeImb_holds (s : State) (hp : Fin 4) (m : Fin 8) (v : Word) :
    (s.writeImb hp m v).hosts[hp].imb[m] = v ∧ (s.writeImb hp m v).hosts[hp].imbFull[m] = true := by
  obtain ⟨hword, hfull⟩ := State.inbox_of_waiting (s.writeImb_waiting hp m v) hp
  rw [hword, hfull, State.mapHost_same]
  simp

/-- A host's write takes the mailbox's former word out of the queue and puts the new one in. -/
theorem State.writeImb_cmds (s : State) (hp : Fin 4) (m : Fin 8) (v : Word) :
    (s.writeImb hp m v).cmds = insertCmd (s.sys.cyc * 4 / 25, hp, m) (dropCmd s.cmds hp m) :=
  State.cmds_of_waiting (s.writeImb_waiting hp m v)

/-! ### The end of INIT keeps what waits (R29) -/

theorem State.drainOmb_waiting (s : State) (p : Fin 4) (m : Fin 8) : (s.drainOmb p m).waiting = s.waiting := by
  rw [State.drainOmb]
  dsimp only
  split
  · exact s.mapHost_waiting p _ ⟨rfl, rfl⟩
  · split
    · exact s.mapHost_waiting p _ ⟨rfl, rfl⟩
    · rw [State.ring_waiting, State.mapHost_waiting _ p _ ⟨rfl, rfl⟩]

theorem State.reply_waiting (s : State) (p : Fin 4) (m : Fin 8) (w : Word) : (s.reply p m w).waiting = s.waiting := by
  rw [State.reply, State.drainOmb_waiting, State.mapHost_waiting _ p _ ⟨rfl, rfl⟩]

theorem State.parcelWrite_waiting (s : State) (p : Fin 4) (i : Nat) (ws : List Word) : (s.parcelWrite p i ws).waiting = s.waiting :=
  s.mapHost_waiting p _ ⟨rfl, rfl⟩

/-- The completion of a handled command sends a reply and frees a slot, and takes no word. -/
theorem State.complete_waiting (s : State) (id status : Nat) (ws : List Word) : (s.complete id status ws).waiting = s.waiting := by
  rw [State.complete]
  split
  case h_1 => rfl
  case h_2 h _ =>
    have freed : (({ s with handled := s.handled.filter (·.id != id) } : State).mapHost h.hp fun x =>
        { x with slotBusy := x.slotBusy.erase h.slot }).waiting = s.waiting := State.mapHost_waiting _ h.hp _ ⟨rfl, rfl⟩
    dsimp only
    split
    · exact freed
    · rw [State.reply_waiting, State.writeResult, State.parcelWrite_waiting, freed]

theorem State.completeOpt_waiting (s : State) (id : Option Nat) (status : Nat) (ws : List Word) :
    (s.completeOpt id status ws).waiting = s.waiting := by
  cases id with
  | none => rfl
  | some i => exact s.complete_waiting i status ws

theorem State.refuseStep_waiting (s : State) (r : StepReq) : (s.refuseStep r).waiting = s.waiting := by
  rw [State.refuseStep]
  split
  · rw [State.complete_waiting, State.raise_waiting]
  · exact s.raise_waiting Flt.stepRefused 1

theorem State.pickStep_waiting (l : List StepReq) (s : State) (cyc : Nat) : (State.pickStep l s cyc).2.2.waiting = s.waiting := by
  induction l generalizing s with
  | nil => rfl
  | cons r l ih =>
    rw [State.pickStep]
    split
    · rfl
    · rw [ih, State.refuseStep_waiting]

theorem State.tryCommit_waiting (s : State) : s.tryCommit.waiting = s.waiting := by
  have picked := State.pickStep_waiting s.ts.waitSteps s (s.sys.cyc + leadCyc)
  rw [State.tryCommit]
  split
  · rfl
  · dsimp only
    split <;> exact picked

theorem State.requestRate_waiting (s : State) (r : Int) (host : Option Nat) : (s.requestRate r host).waiting = s.waiting := by
  rw [State.requestRate, State.tryCommit_waiting]
  cases s.ts.waitRate with
  | none => rfl
  | some w => exact s.completeOpt_waiting w.host 0x00A []

theorem State.noticePort_waiting (s : State) (p : Fin 4) (code : Nat) (a0 a1 : Word) (t : Int) (cyc : Nat) :
    (s.noticePort p code a0 a1 t cyc).waiting = s.waiting := by
  rw [State.noticePort]
  dsimp only
  split
  · rfl
  · split
    · rw [State.raise_waiting, State.ring_waiting, State.mapHost_waiting _ p _ ⟨rfl, rfl⟩]
    · rw [State.ring_waiting, State.mapHost_waiting _ p _ ⟨rfl, rfl⟩, State.parcelWrite_waiting]

theorem State.notice_waiting (s : State) (code : Nat) (a0 a1 : Word) : (s.notice code a0 a1).waiting = s.waiting :=
  s.each_waiting _ _ fun t p => t.noticePort_waiting p code a0 a1 _ _

/-- A state change of R29 logs, notifies, checkpoints and prints, and takes no word. -/
theorem State.setEngine_waiting (s : State) (e : EngineState) : (s.setEngine e).waiting = s.waiting := by
  rw [State.setEngine]
  split
  · rfl
  · dsimp only
    refine (State.promptAgain_only _).waiting.trans ((State.print_only _ _).waiting.trans ?_)
    split
    · exact State.notice_waiting _ _ _ _
    · exact Eq.trans rfl (State.notice_waiting _ _ _ _)

theorem State.moveEngine_waiting (s : State) (e : EngineState) : (s.moveEngine e).waiting = s.waiting := by
  rw [State.moveEngine]
  split
  · rfl
  · exact s.setEngine_waiting e

theorem State.moveEngine_engine (s : State) (e : EngineState) : (s.moveEngine e).sys.engine = e := by
  rw [State.moveEngine]
  split
  · assumption
  · exact s.setEngine_engine e

/-- The calibration of a channel changes the channel and raises faults. -/
theorem State.initChannel_waiting (s : State) (cal : CalResult) (failed : List (Fin 88)) (ch : Fin 88) :
    (s.initChannel cal failed ch).waiting = s.waiting := by
  have followed : ∀ t : State, (t.followCal ch).waiting = t.waiting := fun t => by
    rw [State.followCal]
    split
    · exact State.condition_waiting _ _ _
    · rfl
  rw [State.initChannel, followed]
  split
  · rfl
  · rw [State.raise_waiting, State.raise_waiting]
    rfl

theorem State.restoreRate_waiting (s : State) : s.restoreRate.waiting = s.waiting := by
  have noted : (if s.fc.restoreNone then s.raise Flt.modelRestoreFail 0 else s).waiting = s.waiting := by
    split
    · exact s.raise_waiting _ _
    · rfl
  have asked : ∀ t : State, (if t.fc.fw[0].model.isSome then t.requestRate (looseRound (t.rateOf 0 * 2 ^ 56)) none else t).waiting = t.waiting := by
    intro t
    split
    · exact t.requestRate_waiting _ _
    · rfl
  exact (asked _).trans noted

theorem State.restoreRest_waiting (s : State) : s.restoreRest.waiting = s.waiting := by
  rw [State.restoreRest]
  cases s.mram.position <;> dsimp only <;> split <;> rfl

theorem State.useFlywheel_waiting (s : State) (u : Nat) : (s.useFlywheel u).waiting = s.waiting := by
  rw [State.useFlywheel]
  split <;> rfl

theorem State.initGenerator_waiting (s : State) : s.initGenerator.waiting = s.waiting := rfl

theorem State.startIntervals_waiting (s : State) : s.startIntervals.waiting = s.waiting := rfl

theorem State.retuneAll_waiting (s : State) : s.retuneAll.waiting = s.waiting := s.each_waiting _ _ fun _ _ => rfl

/-- The first part of the boot record: an enrolled customer key (R524). -/
def State.enrollKey (s : State) : State :=
  match s.sys.hdr with
  | some h => if h.enroll && h.customerSigned && s.mram.custKey.isNone then { s with mram.custKey := some h.custKeyHash } else s
  | none => s

/-- The second part: a trial area that has started becomes the active one (R526). -/
def State.adoptTrial (s : State) : State :=
  match s.sys.running with
  | some ar => if s.mram.trialArea = some ar then { s with mram.activeArea := some ar, mram.trialArea := none } else s
  | none => s

/-- The third part: the golden image is a fallback (R526). -/
def State.markFallback (s : State) : State :=
  if s.sys.running = some .golden then ({ s with sys.fallback := true } : State).condition Flt.fwFallback 0 else s

theorem State.bootRecord_eq (s : State) : s.bootRecord = s.enrollKey.adoptTrial.markFallback := rfl

theorem State.enrollKey_only (s : State) : ∃ m, s.enrollKey = { s with mram := m } := by
  rw [State.enrollKey]
  split
  · split <;> exact ⟨_, rfl⟩
  · exact ⟨_, rfl⟩

theorem State.adoptTrial_only (s : State) : ∃ m, s.adoptTrial = { s with mram := m } := by
  rw [State.adoptTrial]
  split
  · split <;> exact ⟨_, rfl⟩
  · exact ⟨_, rfl⟩

theorem State.markFallback_only (s : State) : ∃ b c, s.markFallback = { s with sys.fallback := b, flt := c } := by
  rw [State.markFallback]
  split
  · obtain ⟨c, hc⟩ := State.condition_only { s with sys.fallback := true } Flt.fwFallback 0
    exact ⟨true, c, hc⟩
  · exact ⟨_, _, rfl⟩

/-- The boot record is in the MRAM, in the mark of a fallback and in its fault. -/
theorem State.bootRecord_only (s : State) : ∃ m b c, s.bootRecord = { s with sys.fallback := b, mram := m, flt := c } := by
  obtain ⟨_, hkey⟩ := s.enrollKey_only
  obtain ⟨m, harea⟩ := s.enrollKey.adoptTrial_only
  obtain ⟨b, c, hmark⟩ := s.enrollKey.adoptTrial.markFallback_only
  exact ⟨m, b, c, by rw [State.bootRecord_eq, hmark, harea, hkey]⟩

theorem State.bootRecord_waiting (s : State) : s.bootRecord.waiting = s.waiting := by
  obtain ⟨m, b, c, h⟩ := s.bootRecord_only
  rw [h]
  rfl

theorem State.bootRecord_engine (s : State) : s.bootRecord.sys.engine = s.sys.engine := by
  obtain ⟨m, b, c, h⟩ := s.bootRecord_only
  rw [h]

/-- INIT's work before the change of state: time, settings, generator, flywheel, intervals and ratios. -/
def State.initWork (s : State) (cal : CalResult) (failed : List (Fin 88)) : State :=
  let s1 := (s.each (List.finRange 88) fun t ch => t.initChannel cal failed ch).restoreRate.restoreRest.initGenerator
  (s1.useFlywheel s1.chooseFlywheel).startIntervals.retuneAll

theorem exec_initComplete (s : State) (cal : CalResult) (failed : List (Fin 88)) (h : s.sys.engine = .init) :
    exec (.initComplete cal failed) s = .next ((s.initWork cal failed).moveEngine .warmup).bootRecord.startTogether.safeNow := by
  change execInitComplete cal failed s = _
  rw [execInitComplete, if_neg (not_not.mpr h)]
  rfl

theorem State.initWork_waiting (s : State) (cal : CalResult) (failed : List (Fin 88)) : (s.initWork cal failed).waiting = s.waiting := by
  rw [State.initWork, State.retuneAll_waiting, State.startIntervals_waiting, State.useFlywheel_waiting, State.initGenerator_waiting,
    State.restoreRest_waiting, State.restoreRate_waiting]
  exact s.each_waiting _ _ fun t ch => t.initChannel_waiting cal failed ch

theorem State.startTogether_solo {s : State} (h : s.twin.role = .solo) : s.startTogether = s := by
  simp [State.startTogether, h]

theorem State.safeNow_none {s : State} (h : s.sys.safePending = false) : s.safeNow = s := by
  simp [State.safeNow, h]

/-- INIT_COMPLETE of a unit without a twin and with no safe state due: the engine is in WARMUP, and what waits still waits. -/
theorem exec_initComplete_keepsWaiting (s : State) (cal : CalResult) (failed : List (Fin 88)) (he : s.sys.engine = .init)
    (hs : s.sys.safePending = false) (hr : s.twin.role = .solo) :
    ∃ t, exec (.initComplete cal failed) s = .next t ∧ t.sys.engine = .warmup ∧ t.waiting = s.waiting := by
  have engine : ((s.initWork cal failed).moveEngine .warmup).bootRecord.sys.engine = .warmup := by
    rw [State.bootRecord_engine, State.moveEngine_engine]
  have waits : ((s.initWork cal failed).moveEngine .warmup).bootRecord.waiting = s.waiting := by
    rw [State.bootRecord_waiting, State.moveEngine_waiting, State.initWork_waiting]
  have role := (State.role_of_waiting waits).trans hr
  have pending := (State.safePending_of_waiting waits).trans hs
  refine ⟨_, ?_, engine, waits⟩
  rw [exec_initComplete s cal failed he, State.startTogether_solo role, State.safeNow_none pending]

/-- Settles O47: before the end of INIT no mailbox is next, INIT_COMPLETE keeps the queue and the mailboxes, a write inserts its word in the lexicographic order, and from then on the queue's first word is next. -/
theorem commandsWaitForInitAndKeepTheirOrder : Obligations.CommandsWaitForInitAndKeepTheirOrder := by
  refine ⟨State.afterInit_iff, fun s hp mb x hx hi => ?_, ?_, cmdBefore_iff, fun s cal failed he hs hr => ?_, ?_⟩
  · obtain ⟨f, -, -, hrun⟩ := exec_commandRow hx
    rw [hrun, s.omend_waits hp mb f (State.cmdAt_beforeInit hi hp mb)]
  · rintro s t hp m v rfl
    obtain ⟨hword, hfull⟩ := s.writeImb_holds hp m v
    rw [s.writeImb_cmds hp m v]
    exact ⟨hword, hfull, fun hq => InOrder.insertCmd (InOrder.dropCmd hq hp m) _, fun c => by rw [mem_insertCmd, mem_dropCmd]⟩
  · obtain ⟨t, ht, hengine, hwaits⟩ := exec_initComplete_keepsWaiting s cal failed he hs hr
    refine ⟨t, ht, hengine, State.cmds_of_waiting hwaits, fun hp m => ?_⟩
    obtain ⟨hword, hfull⟩ := State.inbox_of_waiting hwaits hp
    rw [hword, hfull]
    exact ⟨rfl, rfl⟩
  · intro s n hp mb l hq hi hw
    refine ⟨?_, fun p m hne => ?_⟩
    · rw [State.cmdAt_first hq hi hw, if_pos rfl]
    · rw [State.cmdAt_first hq hi hw, if_neg hne.symm]

end Sys2Proof.Machine

/-! PROOFS of family 17 (startup and monitor): O58, the monitor's level. -/

namespace Sys2Proof.Machine

/-! ### The monitor's level (R533) -/

/-- A reset gives the monitor its values of power-on. -/
@[simp] theorem State.enterReset_mon (s : State) (cause port : Nat) : (s.enterReset cause port).mon = State.reset.mon := rfl

/-- A passcode matches exactly when its length, its characters and its salted hash all fit. -/
theorem imagePasses_iff (h : ImageHdr) (p : List Byte) :
    imagePasses h p = true ↔ 8 ≤ p.length ∧ p.length ≤ 32 ∧ (∀ b ∈ p, 0x20 ≤ b.toNat ∧ b.toNat < 0x7F) ∧
      Config.sha256 (h.passSalt ++ p) = h.passHash := by
  simp only [imagePasses, Bool.and_eq_true, decide_eq_true_eq, List.all_eq_true, beq_iff_eq, and_assoc]

/-- The state in which the monitor has noted the cycle of an input (R533). -/
def State.heard (s : State) : State := { s with mon.lastInput := s.sys.cyc }

/-- Input to a monitor that runs acts on the state that holds its time (R520). -/
theorem State.monitored_runs {s : State} (hm : s.sys.straps.monEn = true) (hr : s.sys.engine ≠ .reset) (f : State → State) :
    s.monitored f = .next (f s.heard) := by
  simp [State.monitored, State.heard, hm, hr]

/-- A line of VIEW runs at either level once BOOT is over (R532, R534). -/
theorem State.enterLine_view {s : State} {c : MonLine} (hb : s.sys.engine ≠ .boot) (hc : c.maintain = false) :
    s.enterLine c = s.runLine c := by
  simp [State.enterLine, hb, hc]

/-- LOCK ends MAINTAIN. -/
theorem exec_monLock {s : State} (hm : s.sys.straps.monEn = true) (hr : s.sys.engine ≠ .reset) (hb : s.sys.engine ≠ .boot) :
    exec .monLock s = .next ((State.print { s.heard with mon.maintain := false } "VIEW").promptAgain) := by
  change s.monitored (fun t => t.enterLine .lock) = _
  rw [State.monitored_runs hm hr, State.enterLine_view (s := s.heard) hb rfl]
  rfl

/-- UNLOCK is tried at either level, and the prompt follows its answer. -/
theorem exec_monUnlock {s : State} (hm : s.sys.straps.monEn = true) (hr : s.sys.engine ≠ .reset) (hb : s.sys.engine ≠ .boot)
    (p : List Byte) :
    exec (.monUnlock p) s = .next ((s.heard.unlock p).promptAgain) := by
  change s.monitored (fun t => t.enterLine (.unlock p)) = _
  rw [State.monitored_runs hm hr, State.enterLine_view (s := s.heard) hb rfl]
  rfl

/-! UNLOCK's answers, in the order in which they are tested (log entry 23). -/

/-- Without a running image there is no passcode. -/
theorem State.unlock_noImage {s : State} (hh : s.sys.hdr = none) (p : List Byte) : s.unlock p = s.print "ERR NOPASS" := by
  rw [State.unlock, hh]

/-- A PASS_HASH of zero is no passcode. -/
theorem State.unlock_zeroHash {s : State} {h : ImageHdr} (hh : s.sys.hdr = some h) (hz : h.passHash.all (· == 0) = true) (p : List Byte) :
    s.unlock p = s.print "ERR NOPASS" := by
  simp only [State.unlock, hh, hz, if_true]

/-- While the wait after three failures runs, no passcode is tested. -/
theorem State.unlock_waits {s : State} {h : ImageHdr} (hh : s.sys.hdr = some h) (hz : h.passHash.all (· == 0) = false)
    (hw : s.mon.waitFrom.isSome = true) (p : List Byte) : s.unlock p = s.print "ERR WAIT" := by
  simp only [State.unlock, hh, hz, hw, Bool.false_eq_true, if_false, if_true]

/-- Otherwise the passcode decides: a match raises the level, and a failure is counted and leaves the level as it is. -/
theorem State.unlock_tested {s : State} {h : ImageHdr} (hh : s.sys.hdr = some h) (hz : h.passHash.all (· == 0) = false)
    (hw : s.mon.waitFrom = none) (p : List Byte) :
    s.unlock p = if imagePasses h p = true then State.print { s with mon.maintain := true, mon.fails := 0 } "MAINTAIN"
      else s.unlockFails.print (if s.mon.maintain = true then "MAINTAIN" else "VIEW") := by
  simp only [State.unlock, hh, hz, hw, Option.isSome_none, Bool.false_eq_true, if_false]

/-! The level's clocks. -/

/-- A deadline has lapsed once CYC is beyond it. -/
theorem State.lapsed_iff (s : State) (deadline : Nat) : s.lapsed deadline = true ↔ deadline < s.sys.cyc := by
  rw [State.lapsed, decide_eq_true_eq]

/-- MAINTAIN ends once 600 s of SCLK have passed since the last input. -/
theorem exec_monMaintainTimeout (s : State) :
    exec .monMaintainTimeout s = .next (if s.mon.maintain = true ∧ s.mon.lastInput + 375000000000 < s.sys.cyc
      then { s with mon.maintain := false } else s) := by
  have due : (s.mon.maintain && s.lapsed (s.mon.lastInput + 600 * secCyc)) = true ↔
      s.mon.maintain = true ∧ s.mon.lastInput + 375000000000 < s.sys.cyc := by
    rw [Bool.and_eq_true, State.lapsed_iff, secCyc]
  change execMonMaintainTimeout s = _
  rw [execMonMaintainTimeout, apply_ite Host.Outcome.next]
  exact if_congr due rfl rfl

/-- The wait ends once 60 s of SCLK have passed since it began, and failures count anew (log entry 23). -/
theorem exec_monUnlockWaitExpiry {s : State} {c : Nat} (hw : s.mon.waitFrom = some c) :
    exec .monUnlockWaitExpiry s = .next (if c + 37500000000 < s.sys.cyc then { s with mon.waitFrom := none, mon.fails := 0 } else s) := by
  have due : s.lapsed (c + 60 * secCyc) = true ↔ c + 37500000000 < s.sys.cyc := by
    rw [State.lapsed_iff, secCyc]
  change execMonUnlockWaitExpiry s = _
  rw [execMonUnlockWaitExpiry, hw, apply_ite Host.Outcome.next]
  exact if_congr due rfl rfl

/-- Settles O58: each clause is the rule of its command, and UNLOCK's answer is that of the first of its tests that fits. -/
theorem monitorLevelFollowsThePasscode : Obligations.MonitorLevelFollowsThePasscode := by
  refine ⟨rfl, fun s cause port => ?_, imagePasses_iff, ?_, fun _ => rfl, exec_monMaintainTimeout, fun _ _ => exec_monUnlockWaitExpiry⟩
  · rw [State.enterReset_mon]
    exact ⟨rfl, rfl⟩
  · intro s u hu hm hr hb
    obtain rfl : u = s.heard := hu
    refine ⟨exec_monLock hm hr hb, fun p hh => ?_, fun p h hh hz => ?_, fun p h hh hz => ⟨fun hw => ?_, fun hw hp => ?_⟩⟩
    · rw [exec_monUnlock hm hr hb, State.unlock_noImage (s := s.heard) hh]
    · rw [exec_monUnlock hm hr hb, State.unlock_zeroHash (s := s.heard) hh hz]
    · rw [exec_monUnlock hm hr hb, State.unlock_waits (s := s.heard) hh hz hw]
    · rw [exec_monUnlock hm hr hb, State.unlock_tested (s := s.heard) hh hz hw]
      by_cases hpass : imagePasses h p = true
      · rw [if_pos hpass, if_pos hpass]
      · have hview : ¬ s.heard.mon.maintain = true := Bool.eq_false_iff.mp (hp.resolve_left hpass)
        rw [if_neg hpass, if_neg hpass, if_neg hview]

end Sys2Proof.Machine

/-! PROOFS of family 'other', the block as a machine: every command answers a next state, CYC is written by nothing, and the byte memories stay canonical. -/

namespace Sys2Proof.Machine

/-! ### What every operation keeps

One predicate carries the three statements: a state has the CYC, the lock and, where that is asked, the canonical memories of `Vital`. Each operation of the model has one lemma that says it keeps them, put together from those of the operations that it uses. The lemmas are many and short, so they are elaborated one after another. -/

section

set_option Elab.async false

/-- What no command writes: the count of CYC, the lock of the RPLL, and, where `canonical` holds, the canonical form of the byte memories. -/
structure Vital where
  cyc : Nat
  locked : Bool
  canonical : Prop

/-- The values of an engine that has just been reset (R16 to R18). -/
def Vital.fresh (V : Vital) : Vital := ⟨0, false, V.canonical⟩

/-- A state with these values of what no command writes. -/
structure Keeps (V : Vital) (s : State) : Prop where
  cyc : s.sys.cyc = V.cyc
  locked : s.sys.rpllLocked = V.locked
  memories : V.canonical → s.memoriesWf = true

/-- An outcome that is a next state with these values. -/
def Answers (V : Vital) (o : Out) : Prop := ∃ t, o = .next t ∧ Keeps V t

/-- The same of a command's verdict, and of the work of one that it accepts. -/
def Verdict.keeps (V : Vital) : Verdict → Prop
  | .reject t _ _ => Keeps V t
  | .done t _ => Keeps V t
  | .later t => Keeps V t
  | .accept t _ _ _ _ _ go => Keeps V t ∧ ∀ id u, Keeps V u → Keeps V (go id u)

/-- A state with these values, or one after a reset. -/
def Restarts (V : Vital) (s : State) : Prop := Keeps V s ∨ Keeps V.fresh s

variable {V : Vital} {s t : State}

/-- Every byte memory of a state is canonical when each of them is. -/
theorem State.memoriesWf_iff (s : State) : s.memoriesWf = true ↔
    memWf s.cpBuf = true ∧ memWf s.flash.areaA = true ∧ memWf s.flash.areaB = true ∧ ∀ p : Fin 4, memWf s.hosts[p].parcel = true := by
  simp only [State.memoriesWf, Bool.and_eq_true, List.all_eq_true, Vector.mem_toList_iff, and_assoc]
  refine and_congr_right fun _ => and_congr_right fun _ => and_congr_right fun _ => ⟨fun h p => h _ (by simp), fun h x hx => ?_⟩
  obtain ⟨i, hi, rfl⟩ := Vector.getElem_of_mem hx
  exact h ⟨i, hi⟩

/-- A change beside all that leaves the values. -/
theorem Keeps.beside (h : Keeps V s) (hc : t.sys.cyc = s.sys.cyc := by dsimp only <;> rfl)
    (hl : t.sys.rpllLocked = s.sys.rpllLocked := by dsimp only <;> rfl)
    (hb : t.cpBuf = s.cpBuf := by dsimp only <;> rfl) (ha : t.flash.areaA = s.flash.areaA := by dsimp only <;> rfl)
    (hf : t.flash.areaB = s.flash.areaB := by dsimp only <;> rfl) (hh : t.hosts = s.hosts := by dsimp only <;> rfl) : Keeps V t := by
  refine ⟨hc.trans h.cyc, hl.trans h.locked, fun c => ?_⟩
  rw [State.memoriesWf, hb, ha, hf, hh]
  exact h.memories c

/-- A converter buffer that stays canonical. -/
theorem Keeps.buffer {m : List Host.Cell} (h : Keeps V s) (hm : memWf s.cpBuf = true → memWf m = true) : Keeps V { s with cpBuf := m } := by
  refine ⟨h.cyc, h.locked, fun c => ?_⟩
  obtain ⟨hb, hr⟩ := (State.memoriesWf_iff s).mp (h.memories c)
  exact (State.memoriesWf_iff _).mpr ⟨hm hb, hr⟩

/-- The values after either branch. -/
theorem Keeps.ite {p : Prop} [Decidable p] (ht : Keeps V s) (he : Keeps V t) : Keeps V (if p then s else t) := by
  split
  exacts [ht, he]

/-- The values of the first component after either branch. -/
theorem Keeps.iteFst {α : Type} {p : Prop} [Decidable p] {x y : State × α} (hx : Keeps V x.1) (hy : Keeps V y.1) :
    Keeps V (if p then x else y).1 := by
  split
  exacts [hx, hy]

/-- A walk keeps the values that each of its steps keeps. -/
theorem Keeps.each {α : Type} {l : List α} {f : State → α → State} (h : Keeps V s) (hf : ∀ t x, Keeps V t → Keeps V (f t x)) :
    Keeps V (s.each l f) := State.each_keeps s l f h hf

/-- The same of a fold. -/
theorem Keeps.foldl {α : Type} {l : List α} {f : State → α → State} (h : Keeps V s) (hf : ∀ t x, Keeps V t → Keeps V (f t x)) :
    Keeps V (l.foldl f s) := h.each hf

/-- An outcome with a next state. -/
theorem Keeps.next (h : Keeps V s) : Answers V (.next s) := ⟨s, rfl, h⟩

/-- The outcome after either branch. -/
theorem Answers.ite {p : Prop} [Decidable p] {o o' : Out} (ht : Answers V o) (he : Answers V o') : Answers V (if p then o else o') := by
  split
  exacts [ht, he]

/-- A host's write. -/
theorem Keeps.opened {f : State → State} (h : Keeps V s) (hf : Keeps V (f s)) : Answers V (s.opened f) := (Keeps.ite hf h).next

/-- An output. -/
theorem Keeps.emit {e : Emit} (h : Keeps V s) : Keeps V (s.emit e) := ⟨h.cyc, h.locked, h.memories⟩

/-- A host's read. -/
theorem Keeps.openRead {hp : Fin 4} {f : State → State × Word} (h : Keeps V s) (hf : Keeps V (f s).1) : Answers V (s.openRead hp f) := by
  unfold State.openRead
  split
  · exact hf.emit.next
  · exact Answers.ite h.emit.next h.next

/-- The body of a command's form keeps the values. -/
def CmdForm.calm (f : CmdForm) : Prop := ∀ (V : Vital) (s : State) (c : Cmd), Keeps V s → (f.body s c).keeps V

/-- A verdict of either branch. -/
theorem Verdict.keeps_ite {p : Prop} [Decidable p] {x y : Verdict} (hx : x.keeps V) (hy : y.keeps V) : (if p then x else y).keeps V := by
  split
  exacts [hx, hy]

/-- A rejection. -/
theorem Keeps.rejected {n : Nat} {r : Option Nat} (h : Keeps V s) : (Verdict.reject s n r).keeps V := h
/-- A completion. -/
theorem Keeps.finished {l : List Word} (h : Keeps V s) : (Verdict.done s l).keeps V := h
/-- A refusal. -/
theorem Keeps.refused {n : Nat} (h : Keeps V s) : (refuse s n).keeps V := h
/-- An acceptance. -/
theorem Keeps.accepted {g : Option (Fin 8)} {n o : Nat} {d : List Int} {c : Cfg} {go : Nat → State → State} (h : Keeps V s)
    (hg : ∀ id u, Keeps V u → Keeps V (go id u)) : (Verdict.accept s g n d o c go).keeps V := ⟨h, hg⟩

/-- A change of a host port that leaves its parcel memory canonical. -/
theorem Keeps.mapHostWf {p : Fin 4} {f : HostPort → HostPort} (h : Keeps V s)
    (hf : ∀ x, memWf x.parcel = true → memWf (f x).parcel = true) : Keeps V (s.mapHost p f) := by
  refine ⟨h.cyc, h.locked, fun c => ?_⟩
  obtain ⟨hb, ha, hb', hp⟩ := (State.memoriesWf_iff s).mp (h.memories c)
  refine (State.memoriesWf_iff _).mpr ⟨hb, ha, hb', fun q => ?_⟩
  rw [State.mapHost_hosts]
  by_cases hq : p = q
  · rw [← hq, upd_same]; exact hf _ (hp p)
  · rw [upd_other _ _ _ _ hq]; exact hp q

/-- A change of a host port beside its parcel memory. -/
theorem Keeps.mapHost {p : Fin 4} {f : HostPort → HostPort} (h : Keeps V s) (hf : ∀ x, (f x).parcel = x.parcel := by intro; rfl) :
    Keeps V (s.mapHost p f) := h.mapHostWf fun x hx => by rw [hf]; exact hx

/-- Words written into parcel memory. -/
theorem Keeps.parcelWrite {p : Fin 4} {i : Nat} {ws : List Word} (h : Keeps V s) : Keeps V (s.parcelWrite p i ws) :=
  h.mapHostWf fun _ hx => memWf_memWriteWords hx _ _

/-! ### One lemma per operation, in the order of the model's files

The search for a launch is a walk of fixed length, which the kernel would run where a function that ends in its result is unfolded on arguments; such a function is unfolded as a function (`delta`), and the operation that searches is then any function that keeps the values. -/

theorem Flash.program_keeps_canonical {f : Flash} {ar : Area} {w : FlashWrite} (ha : memWf f.areaA = true) (hb : memWf f.areaB = true) :
    memWf (f.program ar w).areaA = true ∧ memWf (f.program ar w).areaB = true := by
  have put {m : List Host.Cell} (hm : memWf m = true) (l : List Nat) : memWf (programBytes (l.foldl eraseSector m) w.offset w.data) =
      true :=
    memWf_programBytes (List.foldlRecOn (motive := (memWf · = true)) _ _ hm fun _ k _ _ => memWf_eraseSector k _) _ _
  cases ar
  exacts [⟨ha, hb⟩, ⟨put ha _, hb⟩, ⟨ha, put hb _⟩]

/-! #### Ops.lean -/

theorem Keeps.mapTdc {c : Fin 88} {f : TdcChan → TdcChan} (h : Keeps V s) : Keeps V (s.mapTdc c f) := by
  unfold State.mapTdc
  exact h.beside

theorem Keeps.mapSlot {i : Fin 16} {f : Slot → Slot} (h : Keeps V s) : Keeps V (s.mapSlot i f) := by
  unfold State.mapSlot
  exact h.beside

theorem Keeps.mapFw {i : Fin 3} {f : Flywheel → Flywheel} (h : Keeps V s) : Keeps V (s.mapFw i f) := by
  unfold State.mapFw
  exact h.beside

theorem Keeps.mapOs {i : Fin 4} {f : Synth → Synth} (h : Keeps V s) : Keeps V (s.mapOs i f) := by
  unfold State.mapOs
  exact h.beside

theorem Keeps.mapPin {i : Fin 80} {f : OutPin → OutPin} (h : Keeps V s) : Keeps V (s.mapPin i f) := by
  unfold State.mapPin
  exact h.beside

theorem Keeps.mapPort {p : Fin 8} {f : Port → Port} (h : Keeps V s) : Keeps V (s.mapPort p f) := by
  unfold State.mapPort
  exact h.beside

theorem Keeps.mapPair {p : Fin 4} {f : Pair → Pair} (h : Keeps V s) : Keeps V (s.mapPair p f) := by
  unfold State.mapPair
  exact h.beside

theorem Keeps.mapInst {i : Fin 16} {f : Inst → Inst} (h : Keeps V s) : Keeps V (s.mapInst i f) := by
  unfold State.mapInst
  exact h.beside

theorem Keeps.mapLane {i : Fin 2} {f : Lane → Lane} (h : Keeps V s) : Keeps V (s.mapLane i f) := by
  unfold State.mapLane
  exact h.beside

theorem Keeps.mapFeed {i : Fin 6} {f : Feed → Feed} (h : Keeps V s) : Keeps V (s.mapFeed i f) := by
  unfold State.mapFeed
  exact h.beside

theorem Keeps.mapCp {i : Fin 8} {f : ConvPort → ConvPort} (h : Keeps V s) : Keeps V (s.mapCp i f) := by
  unfold State.mapCp
  exact h.beside

theorem Keeps.mapStream {i : Fin 4} {f : Stream → Stream} (h : Keeps V s) : Keeps V (s.mapStream i f) := by
  unfold State.mapStream
  exact h.beside

theorem Keeps.mapGroup {g : Fin 8} {f : UpdateGroup → UpdateGroup} (h : Keeps V s) : Keeps V (s.mapGroup g f) := by
  unfold State.mapGroup
  exact h.beside

theorem Keeps.repl {item : ReplItem} (h : Keeps V s) : Keeps V (s.repl item) := by
  unfold State.repl
  exact Keeps.ite h.emit h

theorem Keeps.drawn (h : Keeps V s) : Keeps V s.drawn := by
  unfold State.drawn
  exact h.beside

theorem Keeps.msix {p : Fin 4} {v : Nat} (h : Keeps V s) : Keeps V (s.msix p v) := by
  unfold State.msix
  exact Keeps.ite h.emit h

theorem Keeps.ring {p : Fin 4} {b : Nat} (h : Keeps V s) : Keeps V (s.ring p b) := by
  unfold State.ring
  exact Keeps.ite h.mapHost.msix h.mapHost

theorem Keeps.hwEvent {p : Fin 4} {b : Nat} (h : Keeps V s) : Keeps V (s.hwEvent p b) := by
  unfold State.hwEvent
  exact Keeps.ite h.mapHost.msix h.mapHost

theorem Keeps.hwLevelRise {p : Fin 4} {b : Nat} (h : Keeps V s) : Keeps V (s.hwLevelRise p b) := by
  unfold State.hwLevelRise
  exact Keeps.ite h h.msix

theorem Keeps.hwEventAll {b : Nat} (h : Keeps V s) : Keeps V (s.hwEventAll b) := by
  unfold State.hwEventAll
  exact h.each (fun _ _ k => k.hwEvent)

theorem Keeps.hwLevelAll {b : Nat} (h : Keeps V s) : Keeps V (s.hwLevelAll b) := by
  unfold State.hwLevelAll
  exact h.each (fun _ _ k => k.hwLevelRise)

theorem Keeps.pushMsg {m : FaultMsg} (h : Keeps V s) : Keeps V (s.pushMsg m) := by
  unfold State.pushMsg
  exact Keeps.ite h.beside h.beside

theorem Keeps.raiseDropped {i : Fin 16} (h : Keeps V s) : Keeps V (s.raiseDropped i) := by
  unfold State.raiseDropped
  exact Keeps.ite h.beside.pushMsg h

theorem Keeps.raise {k : FaultKind} {d : Nat} (h : Keeps V s) : Keeps V (s.raise k d) := by
  unfold State.raise
  exact Keeps.ite ((Keeps.ite h.pushMsg.raiseDropped h.pushMsg).beside) (Keeps.ite h.pushMsg.raiseDropped h.pushMsg)

theorem Keeps.causeGone {k : FaultKind} {p : Nat → Bool} (h : Keeps V s) : Keeps V (s.causeGone k p) := by
  unfold State.causeGone
  exact h.beside

theorem Keeps.causeEnds {k : FaultKind} {d : Nat} (h : Keeps V s) : Keeps V (s.causeEnds k d) := by
  unfold State.causeEnds
  exact h.causeGone

theorem Keeps.condition {k : FaultKind} {d : Nat} (h : Keeps V s) : Keeps V (s.condition k d) := by
  unfold State.condition
  exact Keeps.ite h h.raise

theorem Keeps.noteLate {t : Stamp} {who : Nat} (h : Keeps V s) : Keeps V (s.noteLate t who) := by
  unfold State.noteLate
  exact Keeps.ite h.raise h

theorem Keeps.noteLateBlock {t : Stamp} (h : Keeps V s) : Keeps V (s.noteLateBlock t) := by
  unfold State.noteLateBlock
  exact Keeps.ite h.raise.drawn h

theorem Keeps.noticePort {p : Fin 4} {code : Nat} {a0 a1 : Word} {t : Int} {cyc : Nat} (h : Keeps V s) : Keeps V (s.noticePort p code
    a0 a1 t cyc) := by
  unfold State.noticePort
  exact Keeps.ite h (Keeps.ite h.mapHost.ring.raise h.parcelWrite.mapHost.ring)

theorem Keeps.notice {code : Nat} {a0 a1 : Word} (h : Keeps V s) : Keeps V (s.notice code a0 a1) := by
  unfold State.notice
  exact h.each (fun _ _ k => k.noticePort)

theorem Keeps.logAt {type flags : Nat} {a0 a1 : Word} {cyc : Nat} (h : Keeps V s) : Keeps V (s.logAt type flags a0 a1 cyc) := by
  unfold State.logAt
  exact h.beside

theorem Keeps.checkpointAt {fails : Option Nat} (h : Keeps V s) : Keeps V (s.checkpointAt fails) := by
  unfold State.checkpointAt
  exact h.beside

theorem Keeps.checkpoint (h : Keeps V s) : Keeps V s.checkpoint := by
  unfold State.checkpoint
  exact Keeps.beside (s := s.checkpointAt (Config.mramFails s.freeCtr)) h.checkpointAt

theorem Keeps.monOut {text : String} (h : Keeps V s) : Keeps V (s.monOut text) := by
  unfold State.monOut
  exact Keeps.ite h.emit h

theorem Keeps.print {line : String} (h : Keeps V s) : Keeps V (s.print line) := by
  unfold State.print
  exact h.monOut

theorem Keeps.promptAgain (h : Keeps V s) : Keeps V s.promptAgain := by
  unfold State.promptAgain
  exact h.monOut

theorem Keeps.bootPrint {line : String} (h : Keeps V s) : Keeps V (s.bootPrint line) := by
  unfold State.bootPrint
  exact h.beside.print

theorem Keeps.setEngine {e : EngineState} (h : Keeps V s) : Keeps V (s.setEngine e) := by
  unfold State.setEngine
  exact Keeps.ite h (((Keeps.ite h.beside.logAt.notice h.beside.logAt.notice.checkpoint).print).promptAgain)

theorem Keeps.drainOmb {p : Fin 4} {m : Fin 8} (h : Keeps V s) : Keeps V (s.drainOmb p m) := by
  unfold State.drainOmb
  dsimp only
  split
  exacts [h.mapHost, Keeps.ite h.mapHost h.mapHost.ring]

theorem Keeps.reply {p : Fin 4} {m : Fin 8} {w : Word} (h : Keeps V s) : Keeps V (s.reply p m w) := by
  unfold State.reply
  exact h.mapHost.drainOmb

theorem Keeps.writeResult {p : Fin 4} {ofs : Nat} {ws : List Word} (h : Keeps V s) : Keeps V (s.writeResult p ofs ws) := by
  unfold State.writeResult
  exact h.parcelWrite

theorem Keeps.complete {id status : Nat} {ws : List Word} (h : Keeps V s) : Keeps V (s.complete id status ws) := by
  unfold State.complete
  split
  exacts [h, Keeps.ite h.beside.mapHost h.beside.mapHost.writeResult.reply]

theorem Keeps.completeOpt {id : Option Nat} {status : Nat} {ws : List Word} (h : Keeps V s) : Keeps V (s.completeOpt id status ws) := by
  unfold State.completeOpt
  split
  exacts [h, h.complete]

/-! #### TimeOps.lean -/

theorem Keeps.refuseStep {r : StepReq} (h : Keeps V s) : Keeps V (s.refuseStep r) := by
  unfold State.refuseStep
  split
  exacts [h.raise.complete, h.raise.beside]

theorem Keeps.pickStep {l : List StepReq} {cyc : Nat} (h : Keeps V s) : Keeps V (State.pickStep l s cyc).2.2 := by
  induction l generalizing s with
  | nil => exact h
  | cons r l ih =>
    unfold State.pickStep
    split
    exacts [h, ih h.refuseStep]

theorem Keeps.tryCommit (h : Keeps V s) : Keeps V s.tryCommit := by
  unfold State.tryCommit
  exact Keeps.ite h (Keeps.ite h.pickStep.beside h.pickStep.beside)

theorem Keeps.requestStep {r : StepReq} (h : Keeps V s) : Keeps V (s.requestStep r) := by
  unfold State.requestStep
  exact h.beside.tryCommit

theorem Keeps.requestRate {r : Int} {host : Option Nat} (h : Keeps V s) : Keeps V (s.requestRate r host) := by
  unfold State.requestRate
  exact (Keeps.beside (s := match s.ts.waitRate with
| some w => s.completeOpt w.host 10 []
| none => s) (by split; exacts [h.completeOpt, h])).tryCommit

theorem Keeps.followRateLimit (h : Keeps V s) : Keeps V s.followRateLimit := by
  unfold State.followRateLimit
  dsimp only
  split
  exacts [h.beside.causeGone.condition, h.beside.causeGone]

theorem Keeps.applyLeap (h : Keeps V s) : Keeps V s.applyLeap := by
  unfold State.applyLeap
  exact Keeps.ite h h.beside

/-! #### Tdc.lean -/

theorem Keeps.followCal {ch : Fin 88} (h : Keeps V s) : Keeps V (s.followCal ch) := by
  unfold State.followCal
  exact Keeps.ite h.mapTdc.condition h.mapTdc.causeEnds

theorem Keeps.counterChanged {ch : Fin 88} {i : Fin 4} (h : Keeps V s) : Keeps V (s.counterChanged ch i) := by
  unfold State.counterChanged
  exact Keeps.ite h h.mapTdc.raise

theorem Keeps.reject {ch : Fin 88} {n : Nat} (h : Keeps V s) : Keeps V (s.reject ch n) := by
  unfold State.reject
  exact h.mapTdc.counterChanged

theorem Keeps.glitched {ch : Fin 88} (h : Keeps V s) : Keeps V (s.glitched ch) := by
  unfold State.glitched
  exact h.mapTdc.counterChanged

theorem Keeps.toFifo {ch : Fin 88} {f : FifoStamp} (h : Keeps V s) : Keeps V (s.toFifo ch f) := by
  unfold State.toFifo
  exact Keeps.ite h.mapTdc h.mapTdc.counterChanged

theorem Keeps.renewWidth {ch : Fin 88} (h : Keeps V s) : Keeps V (s.renewWidth ch) := by
  unfold State.renewWidth
  exact h.mapTdc

theorem Keeps.renewWidths (h : Keeps V s) : Keeps V s.renewWidths := by
  unfold State.renewWidths
  exact h.each (fun _ _ k => k.renewWidth)

theorem Keeps.referenceEdge {ch : Fin 88} {t : Stamp} (h : Keeps V s) : Keeps V (s.referenceEdge ch t) := by
  unfold State.referenceEdge
  split
  exacts [h.mapTdc, h.reject]

theorem Keeps.gateStamp {ch : Fin 88} {k t : Int} {stale : Bool} (h : Keeps V s) : Keeps V (s.gateStamp ch k t stale) := by
  unfold State.gateStamp
  exact h.mapTdc

theorem Keeps.endGate {ch : Fin 88} {r : List Result} {next : Gate} {from_ : Int} (h : Keeps V s) : Keeps V (s.endGate ch r next
    from_) := by
  unfold State.endGate
  exact h.mapTdc

theorem Keeps.restartChannel {ch : Fin 88} (h : Keeps V s) : Keeps V (s.restartChannel ch) := by
  unfold State.restartChannel
  exact h.mapTdc

theorem Keeps.intervalStop {ch : Fin 88} {start stop : Stamp} {partner : Fin 88} (h : Keeps V s) : Keeps V (s.intervalStop ch start
    stop partner) := by
  unfold State.intervalStop
  exact h.mapTdc

theorem Keeps.intervalAbort {ch : Fin 88} {coarse : Nat} {overflow : Bool} (h : Keeps V s) : Keeps V (s.intervalAbort ch coarse
    overflow) := by
  unfold State.intervalAbort
  split
  exacts [h, h.mapTdc]

theorem Keeps.stopEdge {c partner : Fin 88} {t : Stamp} {own : Bool} (h : Keeps V s) : Keeps V (s.stopEdge c partner t own) := by
  unfold State.stopEdge
  split
  exacts [Keeps.ite h.intervalStop h, Keeps.ite h h.reject]

theorem Keeps.startEdge {ch : Fin 88} {t : Stamp} (h : Keeps V s) : Keeps V (s.startEdge ch t) := by
  unfold State.startEdge
  exact Keeps.ite h.reject h.mapTdc

theorem Keeps.classStamp {ch : Fin 88} {t : Stamp} {falling wasStop : Bool} {k : Nat} (h : Keeps V s) : Keeps V (s.classStamp ch t
    falling wasStop k) := by
  unfold State.classStamp
  dsimp only
  split
  exacts [h.referenceEdge, h.toFifo, h.gateStamp, Keeps.ite h h.startEdge, h]

theorem Keeps.stamped {ch : Fin 88} {t : Stamp} {falling offered : Bool} {k : Nat} (h : Keeps V s) : Keeps V (s.stamped ch t falling
    offered k) := by
  unfold State.stamped
  exact Keeps.ite ((h.each (fun _ _ k => k.stopEdge)).classStamp) (h.each (fun _ _ k => k.stopEdge))

theorem Keeps.evqLostFault {p : Fin 4} (h : Keeps V s) : Keeps V (s.evqLostFault p) := by
  unfold State.evqLostFault
  exact Keeps.ite h h.mapHost.raise

theorem Keeps.pushEvq {p : Fin 4} {ch : Fin 88} {w : List Word} (h : Keeps V s) : Keeps V (s.pushEvq p ch w) := by
  unfold State.pushEvq
  exact Keeps.ite h.mapHost.mapTdc.hwEvent.evqLostFault (Keeps.ite h.mapHost.mapTdc.hwLevelRise h.mapHost.mapTdc)

theorem Keeps.deliver {ch : Fin 88} {f : Bool → List Word} (h : Keeps V s) : Keeps V (s.deliver ch f) := by
  unfold State.deliver
  exact Keeps.ite ((h.each (fun _ _ k => k.pushEvq)).mapTdc) (h.each (fun _ _ k => k.pushEvq))

theorem Keeps.edgeRecord {ch : Fin 88} {f : FifoStamp} (h : Keeps V s) : Keeps V (s.edgeRecord ch f) := by
  unfold State.edgeRecord
  exact h.noteLate.deliver.mapTdc

theorem Keeps.resultRecord {ch : Fin 88} {r : Result} (h : Keeps V s) : Keeps V (s.resultRecord ch r) := by
  unfold State.resultRecord
  exact Keeps.mapTdc
      (by
        split
        exacts [(Keeps.ite h.raise h).deliver, ((Keeps.ite ((Keeps.ite h.beside h).raise) (Keeps.ite h.beside h)).deliver).deliver])

theorem Keeps.applyTdc {ch : Fin 88} {cfg : Cfg} (h : Keeps V s) : Keeps V (s.applyTdc ch cfg) := by
  unfold State.applyTdc
  exact Keeps.ite h.mapTdc (((Keeps.ite h.intervalAbort.mapTdc h.intervalAbort).mapTdc).restartChannel)

theorem Keeps.execIntervalTimeout {ch : Fin 88} (h : Keeps V s) : Answers V (execIntervalTimeout ch s) := by
  unfold Machine.execIntervalTimeout
  split
  exacts [h.next, Answers.ite h.next h.intervalAbort.raise.next]

theorem Keeps.execTdcCalComplete {ch : Fin 88} {lineB : Bool} {cal : CalResult} (h : Keeps V s) : Answers V (execTdcCalComplete ch
    lineB cal s) := by
  unfold Machine.execTdcCalComplete
  exact Answers.ite h.mapTdc.next h.raise.next

theorem Keeps.execDelayLineSwap {ch : Fin 88} (h : Keeps V s) : Answers V (execDelayLineSwap ch s) := by
  unfold Machine.execDelayLineSwap
  exact Answers.ite h.next h.mapTdc.followCal.next

theorem Keeps.execTdcTableStale {ch : Fin 88} (h : Keeps V s) : Answers V (execTdcTableStale ch s) := by
  unfold Machine.execTdcTableStale
  exact h.followCal.next

theorem Keeps.execTempSlewCheck (h : Keeps V s) : Answers V (execTempSlewCheck s) := by
  unfold Machine.execTempSlewCheck
  exact Answers.ite h.next h.beside.next

theorem Keeps.execRecordBuild (h : Keeps V s) : Answers V (execRecordBuild s) := by
  unfold Machine.execRecordBuild
  split
  exacts [h.next, (by split; exacts [h.mapTdc.edgeRecord.next, h.mapTdc.resultRecord.next, h.next])]

theorem Keeps.writeEvqRd {hp : Fin 4} {v : Word} (h : Keeps V s) : Keeps V (s.writeEvqRd hp v) := by
  unfold State.writeEvqRd
  exact Keeps.ite h.mapHost h.raise

theorem Keeps.execEvqRdWrite {hp : Fin 4} {v : Word} (h : Keeps V s) : Answers V (execEvqRdWrite hp v s) := by
  unfold Machine.execEvqRdWrite
  exact h.opened h.writeEvqRd

/-! #### Forecast.lean -/

theorem Keeps.drawnN {n : Nat} (h : Keeps V s) : Keeps V (s.drawnN n) := by
  unfold State.drawnN
  exact h.beside

theorem Keeps.followExtrapolation {f : Fin 3} (h : Keeps V s) : Keeps V (s.followExtrapolation f) := by
  unfold State.followExtrapolation
  exact Keeps.ite h.mapFw.raise h.mapFw

theorem Keeps.feedTemp {f : Fin 3} {t : Rat} (h : Keeps V s) : Keeps V (s.feedTemp f t) := by
  unfold State.feedTemp
  exact Keeps.ite h.mapFw.followExtrapolation h

theorem Keeps.renewWeights (h : Keeps V s) : Keeps V s.renewWeights := by
  unfold State.renewWeights
  exact h.beside

theorem Keeps.useFlywheel {u : Nat} (h : Keeps V s) : Keeps V (s.useFlywheel u) := by
  unfold State.useFlywheel
  exact Keeps.ite h.beside.renewWeights h.beside

theorem Keeps.anchorTo {y var : Rat} {f : Fin 3} (h : Keeps V s) : Keeps V (s.anchorTo y var f) := by
  unfold State.anchorTo
  exact h.mapFw

theorem Keeps.anchorOne {loss : Nat} {measured : Bool} {f : Fin 3} (h : Keeps V s) : Keeps V (s.anchorOne loss measured f) := by
  unfold State.anchorOne
  dsimp only
  split <;> exact h.anchorTo

theorem Keeps.startHolding {loss : Nat} {measured : Bool} (h : Keeps V s) : Keeps V (s.startHolding loss measured) := by
  unfold State.startHolding
  exact Keeps.ite h (((h.useFlywheel.each (fun _ _ k => k.anchorOne)).beside).each (fun _ _ k => k.raise))

theorem Keeps.endHolding (h : Keeps V s) : Keeps V s.endHolding := by
  unfold State.endHolding
  exact h.beside

theorem Keeps.rebase {sig : Rat} (h : Keeps V s) : Keeps V (s.rebase sig) := by
  unfold State.rebase
  exact h.beside

theorem Keeps.reanchor {rate var : Rat} (h : Keeps V s) : Keeps V (s.reanchor rate var) := by
  unfold State.reanchor
  exact h.each (fun _ _ k => k.anchorTo)

theorem Keeps.changeFlywheel {lost : Fin 3} (h : Keeps V s) : Keeps V (s.changeFlywheel lost) := by
  unfold State.changeFlywheel
  exact Keeps.ite ((Keeps.ite h.useFlywheel.reanchor h.useFlywheel.reanchor.rebase).raise) h

theorem Keeps.loseFlywheel {f : Fin 3} (h : Keeps V s) : Keeps V (s.loseFlywheel f) := by
  unfold State.loseFlywheel
  exact h.mapFw.changeFlywheel

theorem Keeps.compareAtoms (h : Keeps V s) : Keeps V s.compareAtoms := by
  unfold State.compareAtoms
  exact Keeps.ite h (Keeps.ite h.beside (Keeps.ite h.mapFw.changeFlywheel.raise (Keeps.ite h h.beside.raise)))

theorem Keeps.flywheelGate {f : Fin 3} {y : Option Int} (h : Keeps V s) : Keeps V (s.flywheelGate f y) := by
  unfold State.flywheelGate
  split
  exacts [h.loseFlywheel, h.mapFw.compareAtoms]

theorem Keeps.configChannel {ch : Fin 88} {cfg : Cfg} (h : Keeps V s) : Keeps V (s.configChannel ch cfg) := by
  unfold State.configChannel
  split
  exacts [Keeps.ite h.applyTdc.flywheelGate h.applyTdc, h.applyTdc]

theorem Keeps.noteStale {f : Fin 3} (h : Keeps V s) : Keeps V (s.noteStale f) := by
  unfold State.noteStale
  exact Keeps.ite h.causeGone (Keeps.ite h h.raise)

theorem Keeps.refitTemp {f : Fin 3} (h : Keeps V s) : Keeps V (s.refitTemp f) := by
  unfold State.refitTemp
  split
  exacts [h, h.drawnN.mapFw]

theorem Keeps.firstFit {f : Fin 3} (h : Keeps V s) : Keeps V (s.firstFit f) := by
  unfold State.firstFit
  exact h.drawnN.mapFw

theorem Keeps.refitAge {f : Fin 3} (h : Keeps V s) : Keeps V (s.refitAge f) := by
  unfold State.refitAge
  dsimp only
  split
  exacts [h, Keeps.ite h h.drawnN.mapFw]

theorem Keeps.acceptObservation {f : Fin 3} {y : Rat} (h : Keeps V s) : Keeps V (s.acceptObservation f y) := by
  unfold State.acceptObservation
  exact Keeps.ite h.mapFw.noteStale.firstFit h.mapFw.noteStale

theorem Keeps.rejectObservation {f : Fin 3} {y : Rat} (h : Keeps V s) : Keeps V (s.rejectObservation f y) := by
  unfold State.rejectObservation
  exact Keeps.ite h.mapFw h.mapFw.mapFw.raise

theorem Keeps.takeObservation {f : Fin 3} {y : Rat} (h : Keeps V s) : Keeps V (s.takeObservation f y) := by
  unfold State.takeObservation
  dsimp only
  split
  exacts [h.acceptObservation, Keeps.ite h.rejectObservation h.acceptObservation]

theorem Keeps.execForecastObservation (h : Keeps V s) : Answers V (execForecastObservation s) := by
  unfold Machine.execForecastObservation
  exact Answers.ite h.next ((h.beside.each (fun _ _ k => (by split; exacts [k.takeObservation, k.mapFw]))).next)

theorem Keeps.endHour {f : Fin 3} (h : Keeps V s) : Keeps V (s.endHour f) := by
  unfold State.endHour
  extract_lets _ t
  have k : Keeps V t := by
    dsimp only [t]
    split
    exacts [h, h.beside.mapFw]
  exact Keeps.ite k k.refitTemp

theorem Keeps.execHourlyRefit (h : Keeps V s) : Answers V (execHourlyRefit s) := by
  unfold Machine.execHourlyRefit
  exact Answers.ite h.next ((h.beside.each (fun _ _ k => k.endHour)).next)

theorem Keeps.endDay {f : Fin 3} (h : Keeps V s) : Keeps V (s.endDay f) := by
  unfold State.endDay
  exact Keeps.ite (Keeps.ite h h.beside.mapFw) ((Keeps.ite h h.beside.mapFw).refitAge)

theorem Keeps.execDailyRefit (h : Keeps V s) : Answers V (execDailyRefit s) := by
  unfold Machine.execDailyRefit
  exact Answers.ite h.next ((h.beside.each (fun _ _ k => k.endDay)).next)

theorem Keeps.execModelAgeExpiry {f : Fin 3} (h : Keeps V s) : Answers V (execModelAgeExpiry f s) := by
  unfold Machine.execModelAgeExpiry
  exact Answers.ite h.mapFw.noteStale.next h.next

theorem Keeps.execTempGapExpiry {f : Fin 3} (h : Keeps V s) : Answers V (execTempGapExpiry f s) := by
  unfold Machine.execTempGapExpiry
  exact Answers.ite h.mapFw.noteStale.next h.next

theorem Keeps.followOvertemp (h : Keeps V s) : Keeps V s.followOvertemp := by
  unfold State.followOvertemp
  split
  exacts [Keeps.ite h h.beside.raise, Keeps.ite h.beside.causeGone h]

theorem Keeps.feedIdle {f : Fin 3} (h : Keeps V s) : Keeps V (s.feedIdle f) := by
  unfold State.feedIdle
  exact Keeps.ite h.feedTemp.mapFw (by split; exacts [Keeps.ite h.feedTemp h, h])

theorem Keeps.startSense {i : Fin 4} (h : Keeps V s) : Keeps V (s.startSense i) := by
  unfold State.startSense
  exact h.beside.emit

theorem Keeps.execSenseReadCycle {onDie : List Int} (h : Keeps V s) : Answers V (execSenseReadCycle onDie s) := by
  unfold Machine.execSenseReadCycle
  exact ((h.beside.followOvertemp.each (fun _ _ k => k.feedIdle)).each (fun _ _ k => k.startSense)).next

theorem Keeps.execSenseRetry {i : Fin 4} (h : Keeps V s) : Answers V (execSenseRetry i s) := by
  unfold Machine.execSenseRetry
  exact Answers.ite h.startSense.next h.next

theorem Keeps.senseGood {i : Fin 4} {v : Rat} (h : Keeps V s) : Keeps V (s.senseGood i v) := by
  unfold State.senseGood
  exact Keeps.ite (Keeps.ite ((((h.each (fun _ _ k => k.mapFw)).beside).causeEnds).each (fun _ _ k => k.feedTemp)) ((h.each (fun _ _
      k => k.mapFw)).beside)) (((h.each (fun _ _ k => k.mapFw)).beside).each (fun _ _ k => k.feedTemp))

theorem Keeps.senseBad {i : Fin 4} (h : Keeps V s) : Keeps V (s.senseBad i) := by
  unfold State.senseBad
  refine Keeps.ite h.beside ?_
  refine Keeps.ite ?_ (h.beside.raise.each (fun _ _ k => k.feedTemp))
  split
  exacts [h.beside.each (fun _ _ k => k.feedTemp), h.beside]

theorem Keeps.execSenseReadResult {i : Fin 4} {r : SenseRead} (h : Keeps V s) : Answers V (execSenseReadResult i r s) := by
  unfold Machine.execSenseReadResult
  exact Answers.ite h.next (by split; exacts [h.senseGood.next, h.senseBad.next])

/-! #### Bound.lean -/

theorem Keeps.followComponents (h : Keeps V s) : Keeps V s.followComponents := by
  unfold State.followComponents
  split
  exacts [h, h.beside]

theorem Keeps.checkThreshold {i : Fin 26} (h : Keeps V s) : Keeps V (s.checkThreshold i) := by
  unfold State.checkThreshold
  exact Keeps.ite (Keeps.ite h.beside h.beside.raise) h.beside.causeEnds

theorem Keeps.followUnknown {old : Word} (h : Keeps V s) : Keeps V (s.followUnknown old) := by
  unfold State.followUnknown
  exact Keeps.ite (Keeps.ite h h.raise) h.causeGone

theorem Keeps.stepClass {i : Fin 16} (h : Keeps V s) : Keeps V (s.stepClass i) := by
  unfold State.stepClass
  exact Keeps.ite h.mapInst (Keeps.ite (Keeps.ite h.mapInst h.mapInst) h.mapInst)

theorem Keeps.classesNow (h : Keeps V s) : Keeps V s.classesNow := by
  unfold State.classesNow
  exact h.beside

theorem Keeps.computeBounds (h : Keeps V s) : Keeps V s.computeBounds := by
  unfold State.computeBounds
  exact h.beside.beside

theorem Keeps.unblock (h : Keeps V s) : Keeps V s.unblock := by
  unfold State.unblock
  exact Keeps.ite h.beside h

theorem Keeps.renewBounds (h : Keeps V s) : Keeps V s.renewBounds := by
  unfold State.renewBounds
  extract_lets _ s1 _ s2 s3 s4 s5
  have k1 : Keeps V s1 := h.renewWeights.followComponents.computeBounds
  have k2 : Keeps V s2 := k1.beside
  have k3 : Keeps V s3 := k2.hwEventAll.followUnknown
  have k4 : Keeps V s4 := k3.each (fun _ _ k => k.checkThreshold)
  have k5 : Keeps V s5 := ((k4.each (fun _ _ k => k.stepClass)).renewWidths).unblock
  exact k5.beside

theorem Keeps.pinUnknown {n : Fin 80} (h : Keeps V s) : Keeps V (s.pinUnknown n) := by
  unfold State.pinUnknown
  split
  exacts [h.mapPin.beside.hwEventAll.checkThreshold, h.mapPin.beside]

theorem Keeps.applied {g : Fin 8} {m : Nat} (h : Keeps V s) : Keeps V (s.applied g m) := by
  unfold State.applied
  exact Keeps.beside (s := s.mapGroup g fun x =>
  { epoch := x.epoch, applied := x.applied ||| BitVec.ofNat 16 (2 ^ m) &&& groupMembers[g], immediate := x.immediate }) h.mapGroup

/-! #### Outputs.lean -/

theorem Keeps.retune {o : Fin 4} (h : Keeps V s) : Keeps V (s.retune o) := by
  unfold State.retune
  exact h.mapOs

theorem Keeps.retuneAll (h : Keeps V s) : Keeps V s.retuneAll := by
  unfold State.retuneAll
  exact h.each (fun _ _ k => k.retune)

theorem Keeps.followMute {o : Fin 4} (h : Keeps V s) : Keeps V (s.followMute o) := by
  unfold State.followMute
  exact h.each (fun _ _ k => k.mapPin)

theorem Keeps.passPin {n : Fin 80} (h : Keeps V s) : Keeps V (s.passPin n) := by
  unfold State.passPin
  exact h.mapPin

theorem Keeps.changeUtc {change : State → State} (h : Keeps V s) (hchange : ∀ x0, Keeps V x0 → Keeps V (change x0)) : Keeps V
    (s.changeUtc change) := by
  unfold State.changeUtc
  exact (hchange _ h).each (fun _ _ k => k.passPin)

theorem Keeps.applyPin {n : Fin 80} (h : Keeps V s) : Keeps V (s.applyPin n) := by
  unfold State.applyPin
  split
  exacts [h, Keeps.ite h.mapPin h.mapPin.passPin.configChannel]

theorem Keeps.startSearch {o : Fin 4} (h : Keeps V s) : Keeps V (s.startSearch o) := by
  unfold State.startSearch
  exact h.mapOs.followMute

theorem Keeps.endLockFaults {o : Fin 4} (h : Keeps V s) : Keeps V (s.endLockFaults o) := by
  unfold State.endLockFaults
  exact h.causeEnds.causeEnds.causeEnds

theorem Keeps.applySynth {o : Fin 4} (h : Keeps V s) : Keeps V (s.applySynth o) := by
  unfold State.applySynth
  split
  · exact h
  · extract_lets _ _ s0 _ _ _ _ s2 s3 _
    have k0 : Keeps V s0 := Keeps.ite h h.drawn
    have k2 : Keeps V s2 := Keeps.ite k0.mapOs.mapOs.endLockFaults.followMute (Keeps.ite k0.mapOs.mapOs.startSearch.raise (Keeps.ite
        k0.mapOs (Keeps.ite k0.mapOs.mapOs.endLockFaults.startSearch k0.mapOs)))
    have k3 : Keeps V s3 := k2.each (fun _ _ k => k.applyPin)
    exact (k3.each (fun _ _ k => k.configChannel)).retune

theorem Keeps.alignRecord {o : Fin 4} {walk : Bool} {removed : Rat} (h : Keeps V s) : Keeps V (s.alignRecord o walk removed) := by
  unfold State.alignRecord
  exact h.logAt.notice

theorem Keeps.alignDone {id : Nat} (h : Keeps V s) : Keeps V (s.alignDone id) := by
  unfold State.alignDone
  split
  exacts [h, Keeps.ite h.complete h]

theorem Keeps.stopAlign {o : Fin 4} (h : Keeps V s) : Keeps V (s.stopAlign o) := by
  unfold State.stopAlign
  split
  exacts [h, h.mapOs.retune.complete]

theorem Keeps.closeAlign {o : Fin 4} {walk : Bool} {cmd : Nat} {removed : Rat} {renew : State → State} (h : Keeps V s) (hrenew : ∀
    x0, Keeps V x0 → Keeps V (renew x0)) : Keeps V (s.closeAlign o walk cmd removed renew) := by
  unfold State.closeAlign
  exact ((hrenew _ h.mapOs.retune.alignRecord).beside).alignDone

theorem Keeps.startWalk {o : Fin 4} (h : Keeps V s) : Keeps V (s.startWalk o) := by
  unfold State.startWalk
  split
  exacts [Keeps.ite (h.closeAlign fun _ k => k) h.mapOs.retune, h]

theorem Keeps.recompute (h : Keeps V s) : Keeps V s.recompute := by
  unfold State.recompute
  exact h.renewBounds.each (fun _ _ k => k.startWalk)

theorem Keeps.finishAlign {o : Fin 4} {walk : Bool} {cmd : Nat} {removed : Rat} (h : Keeps V s) : Keeps V (s.finishAlign o walk cmd
    removed) := by
  unfold State.finishAlign
  exact h.closeAlign (fun _ k => k.recompute)

theorem Keeps.writeCoverage {v : Nat} (h : Keeps V s) : Keeps V (s.writeCoverage v) := by
  unfold State.writeCoverage
  exact Keeps.ite (Keeps.ite h.beside.recompute.repl h.beside) h.raise

theorem Keeps.stepMis {d : Int} (h : Keeps V s) : Keeps V (s.stepMis d) := by
  unfold State.stepMis
  exact h.each (fun _ _ k => k.mapOs.retune)

theorem Keeps.pinAtStep {m : Rat} {n : Fin 80} (h : Keeps V s) : Keeps V (s.pinAtStep m n) := by
  unfold State.pinAtStep
  exact Keeps.ite h.mapPin (Keeps.ite h.mapPin.mapPin.raise h.mapPin)

theorem Keeps.execAlignStepExecute {os : Fin 4} (h : Keeps V s) : Answers V (execAlignStepExecute os s) := by
  unfold Machine.execAlignStepExecute
  split
  exacts [Answers.ite h.next (((h.each (fun _ _ k => k.pinAtStep)).finishAlign).next), h.next]

theorem Keeps.execWalkComplete {os : Fin 4} (h : Keeps V s) : Answers V (execWalkComplete os s) := by
  unfold Machine.execWalkComplete
  split
  exacts [Answers.ite h.next h.finishAlign.next, h.next]

theorem Keeps.execPulseEdge {pin : Fin 80} (h : Keeps V s) : Answers V (execPulseEdge pin s) := by
  unfold Machine.execPulseEdge
  refine Answers.ite h.next ?_
  split
  · exact h.next
  · refine Answers.ite h.mapPin.next ?_
    refine Answers.ite ((Keeps.ite h.mapPin.raise h.mapPin).next) ?_
    exact Answers.ite h.mapPin.raise.next h.mapPin.mapPin.emit.next

theorem Keeps.execIrigbOutputFrame {pin : Fin 80} (h : Keeps V s) : Answers V (execIrigbOutputFrame pin s) := by
  unfold Machine.execIrigbOutputFrame
  exact Answers.ite h.next (by split; exacts [h.next, Answers.ite h.mapPin.next h.mapPin.mapPin.emit.next])

theorem Keeps.execTodFrameSend {tio : Fin 64} (h : Keeps V s) : Answers V (execTodFrameSend tio s) := by
  unfold Machine.execTodFrameSend
  dsimp only
  split
  · exact h.next
  · refine Answers.ite h.next ?_
    refine Answers.ite h.mapPin.next ?_
    exact Answers.ite ((Keeps.ite h.mapPin.raise h.mapPin).next) h.mapPin.mapPin.emit.next

theorem Keeps.reportLost {o : Fin 4} (h : Keeps V s) : Keeps V (s.reportLost o) := by
  unfold State.reportLost
  exact h.each (fun _ _ k => k.raise)

theorem Keeps.verifyFail {n : Fin 80} (h : Keeps V s) : Keeps V (s.verifyFail n) := by
  unfold State.verifyFail
  exact Keeps.ite h.mapPin.pinUnknown.condition h.mapPin

theorem Keeps.verifyGood {n : Fin 80} (h : Keeps V s) : Keeps V (s.verifyGood n) := by
  unfold State.verifyGood
  exact Keeps.ite h.mapPin.mapPin.causeEnds h.mapPin

theorem Keeps.verifyEdge {n : Fin 80} {r : Rat} (h : Keeps V s) : Keeps V (s.verifyEdge n r) := by
  unfold State.verifyEdge
  exact Keeps.ite h.mapPin.verifyFail h.mapPin.verifyGood

theorem Keeps.verifyGate {n : Fin 80} {y : Option Int} (h : Keeps V s) : Keeps V (s.verifyGate n y) := by
  unfold State.verifyGate
  split
  exacts [h.verifyFail, Keeps.ite h.verifyFail h.verifyGood]

theorem Keeps.safeOutputs {on : Bool} (h : Keeps V s) : Keeps V (s.safeOutputs on) := by
  unfold State.safeOutputs
  exact h.beside

/-! #### Steering.lean -/

theorem Keeps.moveEngine {e : EngineState} (h : Keeps V s) : Keeps V (s.moveEngine e) := by
  unfold State.moveEngine
  exact Keeps.ite h h.setEngine.classesNow

theorem Keeps.followPhase (h : Keeps V s) : Keeps V s.followPhase := by
  unfold State.followPhase
  split
  exacts [h.moveEngine, h.moveEngine, h.moveEngine, h.moveEngine, h]

theorem Keeps.loopRequest {r : Rat} (h : Keeps V s) : Keeps V (s.loopRequest r) := by
  unfold State.loopRequest
  exact Keeps.requestRate (by split; exacts [h.beside.causeGone.condition, h.beside.causeGone])

theorem Keeps.enterPhase {p : LoopPhase} (h : Keeps V s) : Keeps V (s.enterPhase p) := by
  unfold State.enterPhase
  exact h.beside

theorem Keeps.slewFlag {b : Bool} (h : Keeps V s) : Keeps V (s.slewFlag b) := by
  unfold State.slewFlag
  exact Keeps.ite h.beside h.beside.causeGone

theorem Keeps.fallPhase {p : LoopPhase} (h : Keeps V s) : Keeps V (s.fallPhase p) := by
  unfold State.fallPhase
  exact h.enterPhase.raise

theorem Keeps.evalPhase (h : Keeps V s) : Keeps V s.evalPhase := by
  unfold State.evalPhase
  split
  · exact h
  · exact Keeps.ite h.enterPhase h.beside
  · exact Keeps.ite h.fallPhase (Keeps.ite h.enterPhase h.beside)
  · exact Keeps.ite h.fallPhase h

theorem Keeps.loopOffset {phi : Int} {at_ : Nat} {dt : Rat} (h : Keeps V s) : Keeps V (s.loopOffset phi at_ dt) := by
  unfold State.loopOffset
  exact h.beside.slewFlag.loopRequest.evalPhase.followPhase

theorem Keeps.enterHoldover {measured : Bool} (h : Keeps V s) : Keeps V (s.enterHoldover measured) := by
  unfold State.enterHoldover
  exact h.beside.slewFlag.startHolding.recompute.followPhase

theorem Keeps.takeAid {a : Rat} (h : Keeps V s) : Keeps V (s.takeAid a) := by
  unfold State.takeAid
  exact Keeps.beside (s := s.rebase s.sigmaHNow) h.rebase

theorem Keeps.dropAid (h : Keeps V s) : Keeps V s.dropAid := by
  unfold State.dropAid
  exact Keeps.ite (Keeps.beside (s := (s.reanchor s.loop.aidRate (s.loop.aidDecl * s.loop.aidDecl)).rebase s.sigmaHNow) h.reanchor.rebase) h

theorem Keeps.aidMeasurement {y : Int} {dt : Rat} (h : Keeps V s) : Keeps V (s.aidMeasurement y dt) := by
  unfold State.aidMeasurement
  exact Keeps.ite h.beside h

theorem Keeps.followAid (h : Keeps V s) : Keeps V s.followAid := by
  unfold State.followAid
  refine Keeps.ite h ?_
  split
  · exact h.dropAid
  · extract_lets s1
    have k1 : Keeps V s1 := Keeps.ite h h.dropAid
    exact Keeps.ite (Keeps.ite k1 k1.takeAid) k1.dropAid

theorem Keeps.execFeedforwardUpdate (h : Keeps V s) : Answers V (execFeedforwardUpdate s) := by
  unfold Machine.execFeedforwardUpdate
  refine Answers.ite h.next ?_
  extract_lets _ s0 s1 s1' _ s2
  have k0 : Keeps V s0 := Keeps.retuneAll (Keeps.applied h.beside)
  have k1 : Keeps V s1 := k0.followAid
  have k1' : Keeps V s1' := k0.useFlywheel
  have k2 : Keeps V s2 := k1'.beside
  exact Answers.ite k0.next (Answers.ite k1.loopRequest.next (Answers.ite k1'.next k2.loopRequest.next))

theorem Keeps.execLoopSlewPersist (h : Keeps V s) : Answers V (execLoopSlewPersist s) := by
  unfold Machine.execLoopSlewPersist
  exact Answers.ite h.condition.next h.next

theorem Keeps.execWarmupTimeExpiry (h : Keeps V s) : Answers V (execWarmupTimeExpiry s) := by
  unfold Machine.execWarmupTimeExpiry
  exact Answers.ite (Answers.ite h.beside.raise.enterHoldover.next h.beside.next) h.next

/-! #### Weathervane.lean -/

theorem Keeps.replSlot {i : Fin 16} (h : Keeps V s) : Keeps V (s.replSlot i) := by
  unfold State.replSlot
  exact h.repl

theorem Keeps.setSlot {i : Fin 16} {new : SlotState} {cause : Nat} (h : Keeps V s) : Keeps V (s.setSlot i new cause) := by
  unfold State.setSlot
  exact Keeps.ite h.mapSlot h.mapSlot.logAt.notice.replSlot

theorem Keeps.dropSlot {i : Fin 16} (h : Keeps V s) : Keeps V (s.dropSlot i) := by
  unfold State.dropSlot
  extract_lets s1
  have k1 : Keeps V s1 := h.mapSlot
  split
  exacts [Keeps.ite k1.beside k1, k1]

theorem Keeps.lockOut {i : Fin 16} {cause : Nat} (h : Keeps V s) : Keeps V (s.lockOut i cause) := by
  unfold State.lockOut
  exact h.dropSlot.setSlot.condition

theorem Keeps.alarm {i : Fin 16} {cause : Nat} (h : Keeps V s) : Keeps V (s.alarm i cause) := by
  unfold State.alarm
  dsimp only
  split
  exacts [Keeps.ite h.dropSlot.setSlot.mapSlot.raise.lockOut h.dropSlot.setSlot.mapSlot.raise, Keeps.ite
      h.dropSlot.setSlot.mapSlot.raise.lockOut h.dropSlot.setSlot.mapSlot.raise, Keeps.ite h.dropSlot.setSlot.mapSlot.raise.lockOut
      h.dropSlot.setSlot.mapSlot.raise, h]

theorem Keeps.startQualifying {i : Fin 16} (h : Keeps V s) : Keeps V (s.startQualifying i) := by
  unfold State.startQualifying
  exact h.mapSlot.setSlot

theorem Keeps.tryQualify {i : Fin 16} (h : Keeps V s) : Keeps V (s.tryQualify i) := by
  unfold State.tryQualify
  exact Keeps.ite h (Keeps.ite h.mapSlot.setSlot (Keeps.ite h (Keeps.ite h.mapSlot.setSlot h.mapSlot.setSlot.raise)))

theorem Keeps.nameAid (h : Keeps V s) : Keeps V s.nameAid := by
  unfold State.nameAid
  exact Keeps.ite h h.dropAid.beside

theorem Keeps.letGo (h : Keeps V s) : Keeps V s.letGo := by
  unfold State.letGo
  split
  exacts [h, Keeps.ite h (Keeps.ite h.beside.startHolding h.beside)]

theorem Keeps.startSwitch {i : Fin 16} (h : Keeps V s) : Keeps V (s.startSwitch i) := by
  unfold State.startSwitch
  exact Keeps.ite h.beside.startHolding h.beside

theorem Keeps.evaluate (h : Keeps V s) : Keeps V s.evaluate := by
  unfold State.evaluate
  dsimp only
  exact Keeps.ite h (Keeps.ite h.nameAid.letGo
      (by
        split
        exacts [Keeps.ite h.nameAid.letGo.beside h.nameAid.letGo.beside.startSwitch, Keeps.ite
            h.nameAid.letGo.beside.condition.enterHoldover h.nameAid.letGo.beside]))

theorem Keeps.completeSwitch {i : Fin 16} {phi : Int} (h : Keeps V s) : Keeps V (s.completeSwitch i phi) := by
  unfold State.completeSwitch
  extract_lets _ _ _ _ s1 _ _ _ _ _ s2 _ _ _ _ s3 s4 s5 s6
  have k1 : Keeps V s1 := h.endHolding
  have k2 : Keeps V s2 := k1.beside
  have k3 : Keeps V s3 := Keeps.ite k2 k2.beside
  have k4 : Keeps V s4 := k3.enterPhase
  have k5 : Keeps V s5 := Keeps.ite k4.raise k4
  have k6 : Keeps V s6 := k5.causeGone.logAt.notice
  exact k6.recompute.followPhase.evaluate

theorem Keeps.phiArrives {i : Fin 16} {phi : Int} (h : Keeps V s) : Keeps V (s.phiArrives i phi) := by
  unfold State.phiArrives
  exact Keeps.ite h.beside.mapSlot.raise.evaluate h.beside.requestStep

theorem Keeps.takeFrequency {i : Fin 16} {y : Int} {at_ : Nat} (h : Keeps V s) : Keeps V (s.takeFrequency i y at_) := by
  unfold State.takeFrequency
  exact h.mapSlot

theorem Keeps.takeFreq {i : Fin 16} {y : Int} {at_ : Nat} (h : Keeps V s) : Keeps V (s.takeFreq i y at_) := by
  unfold State.takeFreq
  refine Keeps.ite h ?_
  extract_lets s1 _ s2
  have k1 : Keeps V s1 := Keeps.ite h.startQualifying h
  have k2 : Keeps V s2 := Keeps.ite k1.aidMeasurement k1
  exact k2.takeFrequency.tryQualify.evaluate

theorem Keeps.storeOffset {i : Fin 16} {phi : Int} {at_ : Nat} {extra : Rat} (h : Keeps V s) : Keeps V (s.storeOffset i phi at_ extra) := by
  unfold State.storeOffset
  dsimp only
  split
  exacts [Keeps.ite h.mapSlot.replSlot.takeFrequency h.mapSlot.replSlot, h.mapSlot.replSlot]

theorem Keeps.steerWith {i : Fin 16} {phi : Int} {at_ : Nat} (h : Keeps V s) : Keeps V (s.steerWith i phi at_) := by
  unfold State.steerWith
  exact h.beside.applied.loopOffset

theorem Keeps.takeOffset {i : Fin 16} {phi : Int} {at_ : Nat} {extra : Rat} (h : Keeps V s) : Keeps V (s.takeOffset i phi at_ extra) := by
  unfold State.takeOffset
  extract_lets x s0 s1 s2
  have k0 : Keeps V s0 := h.mapSlot
  have k1 : Keeps V s1 := Keeps.ite k0.startQualifying k0
  have k2 : Keeps V s2 := k1.storeOffset.tryQualify
  refine Keeps.ite h (Keeps.ite k0 (Keeps.ite k0.alarm.evaluate ?_))
  split
  exacts [Keeps.ite k2.phiArrives k2.evaluate, Keeps.ite k2.steerWith.evaluate k2.evaluate]

theorem Keeps.takeMeas {i : Fin 16} {a : Meas} (h : Keeps V s) : Keeps V (s.takeMeas i a) := by
  unfold State.takeMeas
  split
  exacts [h.takeOffset, h.takeFreq, h.alarm.evaluate]

theorem Keeps.deliverMeas {i : Fin 16} {m : Meas} (h : Keeps V s) : Keeps V (s.deliverMeas i m) := by
  unfold State.deliverMeas
  exact h.mapSlot

theorem Keeps.execWtrExpiry {slot : Fin 16} (h : Keeps V s) : Answers V (execWtrExpiry slot s) := by
  unfold Machine.execWtrExpiry
  dsimp only
  split
  exacts [Answers.ite h.next h.mapSlot.tryQualify.evaluate.next, h.next]

theorem Keeps.execConfirmExpiry {slot : Fin 16} (h : Keeps V s) : Answers V (execConfirmExpiry slot s) := by
  unfold Machine.execConfirmExpiry
  dsimp only
  split
  exacts [Answers.ite h.next h.mapSlot.setSlot.evaluate.next, h.next]

theorem Keeps.execWvEvaluate (h : Keeps V s) : Answers V (execWvEvaluate s) := by
  unfold Machine.execWvEvaluate
  exact h.applied.evaluate.next

theorem Keeps.dispute {i : Fin 16} (h : Keeps V s) : Keeps V (s.dispute i) := by
  unfold State.dispute
  exact h.mapSlot.setSlot.beside.raise

theorem Keeps.disputeRank {r : Nat} (h : Keeps V s) : Keeps V (s.disputeRank r) := by
  unfold State.disputeRank
  dsimp only
  refine Keeps.ite h ?_
  split
  · exact (h.each (fun _ _ k => k.dispute)).raise
  · split
    · exact h
    · exact Keeps.ite (h.each (fun _ _ k => k.dispute)) ((h.each (fun _ _ k => k.dispute)).raise)

theorem Keeps.disputeReturn {i : Fin 16} (h : Keeps V s) : Keeps V (s.disputeReturn i) := by
  unfold State.disputeReturn
  exact Keeps.ite h (by split; exacts [h, Keeps.ite h.setSlot h])

theorem Keeps.execDisputeEvaluate (h : Keeps V s) : Answers V (execDisputeEvaluate s) := by
  unfold Machine.execDisputeEvaluate
  exact Answers.ite h.next ((((h.beside.each (fun _ _ k => k.disputeRank)).each (fun _ _ k => k.disputeReturn)).evaluate).next)

theorem Keeps.signalLost {l : List (Fin 16)} (h : Keeps V s) : Keeps V (s.signalLost l) := by
  unfold State.signalLost
  exact (h.each (fun _ _ k => k.alarm)).evaluate

theorem Keeps.clockGone {l : List (Fin 16)} (h : Keeps V s) : Keeps V (s.clockGone l) := by
  unfold State.clockGone
  exact (h.each (fun _ _ k => k.mapSlot)).signalLost

theorem Keeps.execClockSignalLoss {c : ClockInput} (h : Keeps V s) : Answers V (execClockSignalLoss c s) := by
  unfold Machine.execClockSignalLoss
  split
  · exact Answers.ite h.next (((Keeps.mapTdc (by split; exacts [h.loseFlywheel, h])).clockGone).next)
  · exact h.clockGone.next

theorem Keeps.esmcPdu {port : Fin 8} {ssm : Fin 16} (h : Keeps V s) : Keeps V (s.esmcPdu port ssm) := by
  unfold State.esmcPdu
  exact (h.beside.each (fun _ _ k => Keeps.ite k.mapSlot.alarm k.mapSlot)).evaluate

theorem Keeps.execEsmcPduReceive {port : Fin 8} {ssm : Fin 16} (h : Keeps V s) : Answers V (execEsmcPduReceive port ssm s) := by
  unfold Machine.execEsmcPduReceive
  exact h.esmcPdu.next

theorem Keeps.execEsmcTimeout {port : Fin 8} (h : Keeps V s) : Answers V (execEsmcTimeout port s) := by
  unfold Machine.execEsmcTimeout
  exact Answers.ite h.next (((h.each (fun _ _ k => k.mapSlot)).signalLost).next)

theorem Keeps.monitorSlot {i : Fin 16} {spacing : Rat} {l : List (Nat × Nat)} {at_ : Nat} (h : Keeps V s) : Keeps V (s.monitorSlot i
    spacing l at_) := by
  unfold State.monitorSlot
  dsimp only
  split
  exacts [Keeps.ite h.mapSlot.alarm.evaluate h.mapSlot, h]

theorem Keeps.recoveredEdge {i : Fin 16} {g : Gate} {t : Nat} (h : Keeps V s) : Keeps V (s.recoveredEdge i g t).1 := by
  unfold State.recoveredEdge
  dsimp only
  split
  exacts [h.mapSlot, h.mapSlot.monitorSlot]

theorem Keeps.recoveredGate {i : Fin 16} {stamps : List Nat} (h : Keeps V s) : Keeps V (s.recoveredGate i stamps) := by
  have walk : Keeps V (stamps.foldl (fun (a : State × Gate) t => a.1.recoveredEdge i a.2 t) (s, s.openGate (stamps.headD 0 : Nat))).1 :=
    List.foldlRecOn (motive := fun a : State × Gate => Keeps V a.1) stamps _ h fun _ k _ _ => k.recoveredEdge
  unfold State.recoveredGate
  dsimp only
  split
  exacts [walk, walk.takeFreq]

theorem Keeps.badFrame {i : Fin 16} (h : Keeps V s) : Keeps V (s.badFrame i) := by
  unfold State.badFrame
  exact Keeps.ite (((Keeps.ite h.mapSlot.mapSlot.raise h.mapSlot).alarm).evaluate) (Keeps.ite h.mapSlot.mapSlot.raise h.mapSlot)

theorem Keeps.checkLeapBits {i : Fin 16} {t : IrigTime} (h : Keeps V s) : Keeps V (s.checkLeapBits i t) := by
  unfold State.checkLeapBits
  exact Keeps.ite h.beside.raise h

theorem Keeps.goodIrig {i : Fin 16} {pr : Stamp} {t : IrigTime} (h : Keeps V s) : Keeps V (s.goodIrig i pr t) := by
  unfold State.goodIrig
  refine Keeps.ite h.badFrame.mapSlot ?_
  extract_lets s1
  have k1 : Keeps V s1 := h.mapSlot.checkLeapBits
  exact Keeps.ite k1.alarm.evaluate (Keeps.ite k1 k1.noteLate.deliverMeas)

theorem Keeps.execIrigbFrameDecode {slot : Fin 16} {f : IrigPulses} (h : Keeps V s) : Answers V (execIrigbFrameDecode slot f s) := by
  unfold Machine.execIrigbFrameDecode
  exact Answers.ite h.next (by split; exacts [h.goodIrig.next, h.badFrame.next])

theorem Keeps.execTodFrameDecode {slot : Fin 16} {bytes : List Byte} {framingOk : Bool} {ended : Stamp} (h : Keeps V s) : Answers V
    (execTodFrameDecode slot bytes framingOk ended s) := by
  unfold Machine.execTodFrameDecode
  refine Answers.ite h.next ?_
  refine Answers.ite h.mapSlot.badFrame.next ?_
  extract_lets _ _ s1
  have k1 : Keeps V s1 := h.mapSlot.mapSlot
  exact (Keeps.ite k1.alarm.evaluate k1).next

/-! #### TimeEvents.lean -/

theorem Keeps.markGate {cyc : Nat} {ch : Fin 88} (h : Keeps V s) : Keeps V (s.markGate cyc ch) := by
  unfold State.markGate
  exact Keeps.ite h.mapTdc h

theorem Keeps.doStep {d : Int} {cyc : Nat} {before : Int} (h : Keeps V s) : Keeps V (s.doStep d cyc before) := by
  unfold State.doStep
  exact (((((Keeps.ite (h.changeUtc (fun _ k => k.applyLeap)) h).beside).stepMis).each (fun _ _ k => k.markGate)).logAt).each (fun _
      _ k => k.noticePort)

theorem Keeps.setEffect {k : Committed} (h : Keeps V s) : Keeps V (s.setEffect k) := by
  unfold State.setEffect
  extract_lets c before _ s1 s2 s3 s4 s5
  have k2 : Keeps V s2 := (show Keeps V s1 from h.beside).followRateLimit.retuneAll
  have k3 : Keeps V s3 := by
    dsimp only [s3]
    split
    exacts [k2.doStep, k2]
  have k4 : Keeps V s4 := by
    dsimp only [s4]
    split
    exacts [k3.completeOpt, k3]
  have k5 : Keeps V s5 := by
    dsimp only [s5]
    split
    · split
      exacts [k4.recompute.complete, k4.completeSwitch]
    · exact k4
  exact k5.tryCommit

theorem Keeps.execConversionSetEffect (h : Keeps V s) : Answers V (execConversionSetEffect s) := by
  unfold Machine.execConversionSetEffect
  split
  exacts [h.next, Answers.ite h.next h.setEffect.next]

theorem Keeps.execLeapAtReached (h : Keeps V s) : Answers V (execLeapAtReached s) := by
  unfold Machine.execLeapAtReached
  exact Answers.ite ((h.changeUtc (fun _ k => k.applyLeap)).next) h.next

theorem Keeps.mapSmear {p : Fin 4} {f : Smear → Smear} (h : Keeps V s) : Keeps V (s.mapSmear p f) := by
  unfold State.mapSmear
  exact h.beside

theorem Keeps.execSmearRampStart {p : Fin 4} (h : Keeps V s) : Answers V (execSmearRampStart p s) := by
  unfold Machine.execSmearRampStart
  split
  exacts [h.next, Answers.ite h.mapSmear.next h.next]

theorem Keeps.execSmearRampEnd {p : Fin 4} (h : Keeps V s) : Answers V (execSmearRampEnd p s) := by
  unfold Machine.execSmearRampEnd
  split
  exacts [h.next, Answers.ite h.mapSmear.next h.next]

theorem Keeps.replModel {f : Fin 3} (h : Keeps V s) : Keeps V (s.replModel f) := by
  unfold State.replModel
  split
  exacts [h.repl, h]

theorem Keeps.execCheckpointWrite {ok : Bool} {word : Nat} (h : Keeps V s) : Answers V (execCheckpointWrite ok word s) := by
  unfold Machine.execCheckpointWrite
  exact Answers.ite h.next (Answers.ite ((h.beside.checkpointAt.each (fun _ _ k => k.replModel)).next) h.beside.checkpointAt.next)

theorem Keeps.applyK (h : Keeps V s) : Keeps V s.applyK := by
  unfold State.applyK
  split
  exacts [h.beside.applied.repl, h.applied]

theorem Keeps.execBoundRecompute (h : Keeps V s) : Answers V (execBoundRecompute s) := by
  unfold Machine.execBoundRecompute
  exact Answers.ite h.next ((Keeps.ite h.applyK.recompute.evaluate h.applyK.recompute).next)

theorem Keeps.requestCapture {hp : Fin 4} {v : Word} (h : Keeps V s) : Keeps V (s.requestCapture hp v) := by
  unfold State.requestCapture
  exact Keeps.ite h.mapHost h

theorem Keeps.execCaptureRequest {hp : Fin 4} {v : Word} (h : Keeps V s) : Answers V (execCaptureRequest hp v s) := by
  unfold Machine.execCaptureRequest
  exact h.opened h.requestCapture

theorem Keeps.execCaptureComplete {hp : Fin 4} (h : Keeps V s) : Answers V (execCaptureComplete hp s) := by
  unfold Machine.execCaptureComplete
  exact Answers.ite h.next h.mapHost.hwEvent.next

theorem Keeps.execPtmRequest {hp : Fin 4} (h : Keeps V s) : Answers V (execPtmRequest hp s) := by
  unfold Machine.execPtmRequest
  exact Answers.ite h.mapHost.emit.next h.next

/-! #### HostPorts.lean -/

theorem Keeps.denied {addr : Nat} (h : Keeps V s) : Keeps V (s.denied addr) := by
  unfold State.denied
  exact h.raise

theorem Keeps.busError {hp : Fin 4} {addr cause : Nat} {write : Bool} {region : Nat} (h : Keeps V s) : Keeps V (s.busError hp addr
    cause write region) := by
  unfold State.busError
  exact h.mapHost.raise

theorem Keeps.hostCoverage {hp : Fin 4} {v : Nat} (h : Keeps V s) : Keeps V (s.hostCoverage hp v) := by
  unfold State.hostCoverage
  exact Keeps.ite h.denied (Keeps.ite h.raise h.writeCoverage)

theorem Keeps.execCoverageWrite {hp : Fin 4} {v : Word} (h : Keeps V s) : Answers V (execCoverageWrite hp v s) := by
  unfold Machine.execCoverageWrite
  exact h.opened h.hostCoverage

theorem Keeps.writeImb {hp : Fin 4} {m : Fin 8} {v : Word} (h : Keeps V s) : Keeps V (s.writeImb hp m v) := by
  unfold State.writeImb
  exact Keeps.ite ((Keeps.ite h.beside.mapHost.mapHost.hwLevelRise h.beside.mapHost.mapHost).raise) h.beside.mapHost

theorem Keeps.takeImb {hp : Fin 4} {m : Fin 8} (h : Keeps V s) : Keeps V (s.takeImb hp m) := by
  unfold State.takeImb
  exact h.beside.mapHost.ring

theorem Keeps.readOmb {hp : Fin 4} {m : Fin 8} (h : Keeps V s) : Keeps V (s.readOmb hp m).1 := by
  unfold State.readOmb
  exact Keeps.iteFst h.mapHost.drainOmb h

theorem Keeps.execOmbRead {hp : Fin 4} {mb : Fin 8} (h : Keeps V s) : Answers V (execOmbRead hp mb s) := by
  unfold Machine.execOmbRead
  exact h.openRead h.readOmb

theorem Keeps.execMbStallTimeout {hp : Fin 4} {mb : Fin 8} (h : Keeps V s) : Answers V (execMbStallTimeout hp mb s) := by
  unfold Machine.execMbStallTimeout
  dsimp only
  split
  exacts [Answers.ite h.next h.mapHost.raise.next, h.next]

theorem Keeps.writeNqRd {hp : Fin 4} {v : Word} (h : Keeps V s) : Keeps V (s.writeNqRd hp v) := by
  unfold State.writeNqRd
  exact Keeps.ite h.mapHost h.raise

theorem Keeps.execNqRdWrite {hp : Fin 4} {v : Word} (h : Keeps V s) : Answers V (execNqRdWrite hp v s) := by
  unfold Machine.execNqRdWrite
  exact h.opened h.writeNqRd

theorem Keeps.writePeerRing {hp : Fin 4} {v : Word} (h : Keeps V s) : Keeps V (s.writePeerRing hp v) := by
  unfold State.writePeerRing
  exact h.ring

theorem Keeps.execPeerRingWrite {hp : Fin 4} {v : Word} (h : Keeps V s) : Answers V (execPeerRingWrite hp v s) := by
  unfold Machine.execPeerRingWrite
  exact h.opened h.writePeerRing

theorem Keeps.writeMask {hp : Fin 4} {reg : MaskReg} {v : Word} (h : Keeps V s) : Keeps V (s.writeMask hp reg v) := by
  unfold State.writeMask
  split <;> exact Keeps.ite h.mapHost h.mapHost.msix

theorem Keeps.execMaskWrite {hp : Fin 4} {reg : MaskReg} {v : Word} (h : Keeps V s) : Answers V (execMaskWrite hp reg v s) := by
  unfold Machine.execMaskWrite
  exact h.opened h.writeMask

theorem Keeps.portReset {hp : Fin 4} (h : Keeps V s) : Keeps V (s.portReset hp) := by
  unfold State.portReset
  extract_lets s1 _ s2
  have k1 : Keeps V s1 := h.mapHost
  have k2 : Keeps V s2 := k1.beside
  split
  exacts [k2.mapLane, k2]

theorem Keeps.writeHpReset {hp : Fin 4} {v : Word} (h : Keeps V s) : Keeps V (s.writeHpReset hp v) := by
  unfold State.writeHpReset
  exact Keeps.ite h.portReset h

theorem Keeps.execHpResetWrite {hp : Fin 4} {v : Word} (h : Keeps V s) : Answers V (execHpResetWrite hp v s) := by
  unfold Machine.execHpResetWrite
  exact h.opened h.writeHpReset

theorem Keeps.execPcieFlr {hp : Fin 4} (h : Keeps V s) : Answers V (execPcieFlr hp s) := by
  unfold Machine.execPcieFlr
  exact Answers.ite h.portReset.next h.next

theorem Keeps.execPcieLinkLoss {hp : Fin 4} (h : Keeps V s) : Answers V (execPcieLinkLoss hp s) := by
  unfold Machine.execPcieLinkLoss
  exact Answers.ite h.mapHost.portReset.condition.next h.next

theorem Keeps.execHpPerst {hp : Fin 4} (h : Keeps V s) : Answers V (execHpPerst hp s) := by
  unfold Machine.execHpPerst
  exact Answers.ite h.mapHost.portReset.next h.next

theorem Keeps.execHpPerstRelease {hp : Fin 4} (h : Keeps V s) : Answers V (execHpPerstRelease hp s) := by
  unfold Machine.execHpPerstRelease
  exact h.mapHost.next

theorem Keeps.execPcieLinkUp {hp : Fin 4} (h : Keeps V s) : Answers V (execPcieLinkUp hp s) := by
  unfold Machine.execPcieLinkUp
  exact Answers.ite h.mapHost.causeEnds.next h.next

theorem Keeps.readLock {hp : Fin 4} {n : Fin 16} (h : Keeps V s) : Keeps V (s.readLock hp n).1 := by
  unfold State.readLock
  split
  exacts [h.beside, h]

theorem Keeps.execLockRead {hp : Fin 4} {lock : Fin 16} (h : Keeps V s) : Answers V (execLockRead hp lock s) := by
  unfold Machine.execLockRead
  exact h.openRead h.readLock

theorem Keeps.writeLock {hp : Fin 4} {n : Fin 16} {v : Word} (h : Keeps V s) : Keeps V (s.writeLock hp n v) := by
  unfold State.writeLock
  split
  exacts [Keeps.ite h.beside (Keeps.ite h.beside.raise h.denied), Keeps.ite h h.denied, h.denied]

theorem Keeps.execLockWrite {hp : Fin 4} {lock : Fin 16} {v : Word} (h : Keeps V s) : Answers V (execLockWrite hp lock v s) := by
  unfold Machine.execLockWrite
  exact h.opened h.writeLock

/-! #### Grid.lean -/

theorem Keeps.pushGq {p : Fin 4} {f : Fin 6} {w : List Word} (h : Keeps V s) : Keeps V (s.pushGq p f w) := by
  unfold State.pushGq
  exact Keeps.ite h.mapHost.mapFeed.hwEvent.raise (Keeps.ite h.mapHost.mapFeed.hwLevelRise h.mapHost.mapFeed)

theorem Keeps.gridRecord {f : Fin 6} {kind : Nat} {set : Bool} {t : Stamp} {value : Word} (h : Keeps V s) : Keeps V (s.gridRecord f
    kind set t value) := by
  unfold State.gridRecord
  exact ((Keeps.ite h.noteLateBlock h.noteLate).each (fun _ _ k => k.pushGq)).mapFeed

theorem Keeps.restartFeed {f : Fin 6} (h : Keeps V s) : Keeps V (s.restartFeed f) := by
  unfold State.restartFeed
  exact h.mapFeed

theorem Keeps.dataLost {f : Fin 6} (h : Keeps V s) : Keeps V (s.dataLost f) := by
  unfold State.dataLost
  exact Keeps.ite h h.restartFeed.mapFeed.raise

theorem Keeps.feedReturns {f : Fin 6} {t now : Int × Stamp} (h : Keeps V s) : Keeps V (s.feedReturns f t now) := by
  unfold State.feedReturns
  exact Keeps.ite (((((Keeps.ite h.gridRecord h).mapFeed).notice).causeEnds).raise) ((Keeps.ite h.gridRecord h).mapFeed)

theorem Keeps.rejectCrossing {f : Fin 6} (h : Keeps V s) : Keeps V (s.rejectCrossing f) := by
  unfold State.rejectCrossing
  exact h.mapFeed

theorem Keeps.lostCrossing {f : Fin 6} {t : Int × Stamp} (h : Keeps V s) : Keeps V (s.lostCrossing f t) := by
  unfold State.lostCrossing
  exact Keeps.ite h.rejectCrossing (Keeps.ite h.mapFeed h.feedReturns)

theorem Keeps.condRecord {f : Fin 6} {kind : Nat} {set : Bool} {due : Option Stamp} {v : Word} (h : Keeps V s) : Keeps V
    (s.condRecord f kind set due v) := by
  unfold State.condRecord
  split
  exacts [h, Keeps.ite h.gridRecord.raise h.gridRecord]

theorem Keeps.gridThresholds {f : Fin 6} {t : Stamp} (h : Keeps V s) : Keeps V (s.gridThresholds f t) := by
  unfold State.gridThresholds
  dsimp only
  split
  exacts [h, h.mapFeed.condRecord.condRecord.condRecord]

theorem Keeps.gridLatch {f : Fin 6} {t counted : Int} (h : Keeps V s) : Keeps V (s.gridLatch f t counted) := by
  unfold State.gridLatch
  exact Keeps.ite h h.mapFeed

theorem Keeps.gridFit {f : Fin 6} {k : Nat} {t : Int} {st : Stamp} (h : Keeps V s) : Keeps V (s.gridFit f k t st) := by
  unfold State.gridFit
  extract_lets +onlyGivenNames x g
  clear_value g
  extract_lets s1 s2 s3
  have k1 : Keeps V s1 := by
    dsimp only [s1]
    split
    exacts [h, h.mapFeed]
  have k2 : Keeps V s2 := k1.mapFeed
  have k3 : Keeps V s3 := Keeps.ite k2.gridThresholds k2
  exact k3.gridLatch

theorem Keeps.acceptCrossing {f : Fin 6} {k : Nat} {t : Int} {st : Stamp} (h : Keeps V s) : Keeps V (s.acceptCrossing f k t st) := by
  unfold State.acceptCrossing
  exact Keeps.ite h.mapFeed.gridRecord.raise.gridLatch.restartFeed.mapFeed h.mapFeed.mapFeed.gridFit

theorem Keeps.crossing {f : Fin 6} {t : Int} {st : Stamp} (h : Keeps V s) : Keeps V (s.crossing f t st) := by
  unfold State.crossing
  refine Keeps.ite h.lostCrossing ?_
  split
  · exact h.acceptCrossing
  · exact Keeps.ite h.rejectCrossing (Keeps.ite h.acceptCrossing h.rejectCrossing)

theorem Keeps.holdFeedChannel {f : Fin 6} (h : Keeps V s) : Keeps V (s.holdFeedChannel f) := by
  unfold State.holdFeedChannel
  exact Keeps.ite h.configChannel h

theorem Keeps.applyFeed {f : Fin 6} (h : Keeps V s) : Keeps V (s.applyFeed f) := by
  unfold State.applyFeed
  split
  · exact h
  · extract_lets _ s1 s2 s3
    have k1 : Keeps V s1 := Keeps.ite h.restartFeed h
    have k2 : Keeps V s2 := k1.mapFeed
    have k3 : Keeps V s3 := Keeps.ite k2 k2.causeEnds
    exact k3.holdFeedChannel

theorem Keeps.mainsTimeout {feed : Fin 6} (h : Keeps V s) : Keeps V (s.mainsTimeout feed) := by
  unfold State.mainsTimeout
  exact Keeps.ite h (Keeps.ite h.gridRecord.restartFeed.mapFeed.notice.condition h.gridRecord.restartFeed.mapFeed)

theorem Keeps.execGteGapExpiry {feed : Fin 6} (h : Keeps V s) : Answers V (execGteGapExpiry feed s) := by
  unfold Machine.execGteGapExpiry
  exact Answers.ite h.mapFeed.raise.next h.next

theorem Keeps.writeGqRd {hp : Fin 4} {v : Word} (h : Keeps V s) : Keeps V (s.writeGqRd hp v) := by
  unfold State.writeGqRd
  exact Keeps.ite h.mapHost h.raise

theorem Keeps.execGqRdWrite {hp : Fin 4} {v : Word} (h : Keeps V s) : Answers V (execGqRdWrite hp v s) := by
  unfold Machine.execGqRdWrite
  exact h.opened h.writeGqRd

/-! #### Converter.lean -/

theorem Keeps.stopsDone {id : Nat} (h : Keeps V s) : Keeps V (s.stopsDone id) := by
  unfold State.stopsDone
  exact Keeps.ite h h.complete

theorem Keeps.stopPort {n : Fin 8} (h : Keeps V s) : Keeps V (s.stopPort n) := by
  unfold State.stopPort
  exact (h.mapCp.each (fun _ _ k => k.dataLost)).each (fun _ _ k => k.stopsDone)

theorem Keeps.stopConverters (h : Keeps V s) : Keeps V s.stopConverters := by
  unfold State.stopConverters
  exact (h.each (fun _ _ k => k.stopPort)).each (fun _ _ k => (by split; exacts [k.mapCp.complete, k]))

theorem Keeps.applyCp {n : Fin 8} (h : Keeps V s) : Keeps V (s.applyCp n) := by
  unfold State.applyCp
  split
  exacts [h, (((Keeps.ite h.stopPort h).mapCp).causeEnds).causeEnds]

theorem Keeps.underrun {n : Fin 8} (h : Keeps V s) : Keeps V (s.underrun n) := by
  unfold State.underrun
  exact Keeps.ite h.mapCp.mapCp.raise h.mapCp

theorem Keeps.pickTx {k : Nat} {n : Fin 8} (h : Keeps V s) : Keeps V (State.pickTx k s n) := by
  induction k generalizing s with
  | zero => exact h.underrun
  | succ k ih =>
    unfold State.pickTx
    exact Keeps.ite h.mapCp.underrun (Keeps.ite h.mapCp (Keeps.ite h.mapCp.underrun (ih h.mapCp.underrun)))

theorem Keeps.sendBits {n : Fin 8} (h : Keeps V s) : Keeps V (s.sendBits n) := by
  unfold State.sendBits
  exact Keeps.ite h.emit h

theorem Keeps.loseBlock {n : Fin 8} (h : Keeps V s) : Keeps V (s.loseBlock n) := by
  unfold State.loseBlock
  exact Keeps.ite h.mapCp.mapCp.raise h.mapCp

theorem Keeps.blockStart {n : Fin 8} {st : Stamp} {smp : BitVec 16} (h : Keeps V s) : Keeps V (s.blockStart n st smp) := by
  unfold State.blockStart
  extract_lets _ s1 _
  have k1 : Keeps V s1 := Keeps.ite h.pickTx h
  exact Keeps.ite (Keeps.ite (k1.mapCp.buffer (memWf_memWriteWords · _ _)) k1.loseBlock) k1.mapCp

theorem Keeps.feedSample {f : Fin 6} {x : Int} {t : Rat} (h : Keeps V s) : Keeps V (s.feedSample f x t) := by
  unfold State.feedSample
  dsimp only
  split
  exacts [Keeps.ite h.mapFeed.mapFeed.crossing h.mapFeed, h.mapFeed]

theorem Keeps.feedLostSample {f : Fin 6} {fs : Rat} (h : Keeps V s) : Keeps V (s.feedLostSample f fs) := by
  unfold State.feedLostSample
  exact Keeps.ite h.mapFeed.dataLost h.mapFeed

theorem Keeps.feedFrame {n : Fin 8} {samples : List Word} {lost : Bool} {t : Rat} (h : Keeps V s) : Keeps V (s.feedFrame n samples
    lost t) := by
  unfold State.feedFrame
  exact h.each (fun _ _ k => Keeps.ite k.feedLostSample k.feedSample)

theorem Keeps.frameBody {n : Fin 8} {st : Stamp} {samples : List Word} (h : Keeps V s) : Keeps V (s.frameBody n st samples) := by
  unfold State.frameBody
  extract_lets _ _ _ s1 s2 _ _ _ s3 s4 s5
  have k1 : Keeps V s1 := Keeps.ite h.blockStart h
  have k2 : Keeps V s2 := k1.mapCp
  have k3 : Keeps V s3 := Keeps.ite (k2.buffer (memWf_memWriteWords · _ _)) k2
  have k4 : Keeps V s4 := k3.sendBits
  have k5 : Keeps V s5 := Keeps.ite k4.feedFrame k4
  exact Keeps.ite k5.mapCp k5.mapCp

theorem Keeps.frameSync {n : Fin 8} {samples : List Word} (h : Keeps V s) : Keeps V (s.frameSync n samples) := by
  unfold State.frameSync
  exact Keeps.ite h.applyCp (Keeps.ite h.applyCp.stopPort h.applyCp.frameBody)

theorem Keeps.takeRate {n : Fin 8} {dev : Rat} (h : Keeps V s) : Keeps V (s.takeRate n dev) := by
  unfold State.takeRate
  exact Keeps.ite h.stopPort.mapCp.condition (Keeps.ite h.mapCp.mapCp.hwEventAll h.mapCp)

theorem Keeps.rateMeasured {cp : Fin 8} (h : Keeps V s) : Keeps V (s.rateMeasured cp) := by
  unfold State.rateMeasured
  exact Keeps.ite h (by split; exacts [h.mapCp.takeRate, h.mapCp])

theorem Keeps.startPort {n : Fin 8} (h : Keeps V s) : Keeps V (s.startPort n) := by
  unfold State.startPort
  exact h.mapCp.causeEnds

theorem Keeps.execCpStartExecute (h : Keeps V s) : Answers V (execCpStartExecute s) := by
  unfold Machine.execCpStartExecute
  exact ((h.each (fun _ _ k => k.startPort)).each (fun _ _ k => k.complete)).next

theorem Keeps.writeCpRxRd {hp : Fin 4} {n : Fin 8} {v : Word} (h : Keeps V s) : Keeps V (s.writeCpRxRd hp n v) := by
  unfold State.writeCpRxRd
  exact Keeps.ite h.denied (Keeps.ite h.mapCp h.raise)

theorem Keeps.execCpRxRdWrite {hp : Fin 4} {cp : Fin 8} {v : Word} (h : Keeps V s) : Answers V (execCpRxRdWrite hp cp v s) := by
  unfold Machine.execCpRxRdWrite
  exact h.opened h.writeCpRxRd

theorem Keeps.writeCpTxWr {hp : Fin 4} {n : Fin 8} {v : Word} (h : Keeps V s) : Keeps V (s.writeCpTxWr hp n v) := by
  unfold State.writeCpTxWr
  exact Keeps.ite h.denied (Keeps.ite h.mapCp h.raise)

theorem Keeps.execCpTxWrWrite {hp : Fin 4} {cp : Fin 8} {v : Word} (h : Keeps V s) : Answers V (execCpTxWrWrite hp cp v s) := by
  unfold Machine.execCpTxWrWrite
  exact h.opened h.writeCpTxWr

/-! #### Ports.lean -/

theorem Keeps.portCount {p : Fin 8} {i : Fin 45} {n : Nat} (h : Keeps V s) : Keeps V (s.portCount p i n) := by
  unfold State.portCount
  exact Keeps.ite h.mapPort (h.mapPort.each (fun _ _ k => Keeps.ite k.mapHost k.mapHost.hwLevelRise))

theorem Keeps.portFault {p : Fin 8} {last : Option Nat} {k : FaultKind} {keep : Port → Option Nat → Port} (h : Keeps V s) : Keeps V
    (s.portFault p last k keep) := by
  unfold State.portFault
  exact Keeps.ite h.mapPort.raise h

theorem Keeps.prpDiscard {p : Fin 8} {f : RxFrame} {r : Rct} (h : Keeps V s) : Keeps V (s.prpDiscard p f r).1 := by
  unfold State.prpDiscard
  dsimp only
  split
  exacts [Keeps.iteFst (Keeps.ite ((((Keeps.ite h.portCount.portFault h).portCount).mapPair).raise) ((Keeps.ite h.portCount.portFault
      h).portCount)) ((Keeps.ite h.portCount.portFault h).mapPair),
      (by
        split
        exacts [((Keeps.ite h.portCount.portFault h).mapPair).portCount, (Keeps.ite h.portCount.portFault h).mapPair])]

theorem Keeps.lineCounts {p : Fin 8} {f : RxFrame} (h : Keeps V s) : Keeps V (s.lineCounts p f) := by
  unfold State.lineCounts
  extract_lets s1 s2
  have k1 : Keeps V s1 := Keeps.ite h h.portCount
  have k2 : Keeps V s2 := Keeps.ite k1 k1.portCount.portFault
  exact Keeps.ite k2 k2.portCount

theorem Keeps.countRx {p : Fin 8} {f : RxFrame} (h : Keeps V s) : Keeps V (s.countRx p f) := by
  unfold State.countRx
  exact ((Keeps.ite h.portCount.portCount.portCount.portCount h.portCount.portCount.portCount).portCount).beside

theorem Keeps.execFrameReceive {port : Fin 8} {f : RxFrame} (h : Keeps V s) : Answers V (execFrameReceive port f s) := by
  unfold Machine.execFrameReceive
  refine Answers.ite h.next ?_
  extract_lets s1 s2 put
  have k1 : Keeps V s1 := h.lineCounts
  have k2 : Keeps V s2 := k1.countRx
  split
  · exact (Keeps.ite k1.portCount.portFault k1.portCount).next
  · split
    · exact k2.mapPort.next
    · exact Answers.ite k2.mapPort.next (Keeps.ite k2.prpDiscard.mapPort k2.prpDiscard).next

theorem Keeps.execPrpEntryForget {pair : Fin 4} {source : Nat} (h : Keeps V s) : Answers V (execPrpEntryForget pair source s) := by
  unfold Machine.execPrpEntryForget
  exact h.mapPair.next

theorem Keeps.queueFrame {p : Fin 8} {f : TxFrame} (h : Keeps V s) : Keeps V (s.queueFrame p f) := by
  unfold State.queueFrame
  exact Keeps.ite h.mapPort h

theorem Keeps.sendFrame {p : Fin 8} {f : TxFrame} (h : Keeps V s) : Keeps V (s.sendFrame p f) := by
  unfold State.sendFrame
  exact Keeps.ite h.queueFrame h.queueFrame.queueFrame.mapPair

theorem Keeps.stampEntry {p : Fin 8} {f : TxFrame} {id hp : Nat} {t : Stamp} (h : Keeps V s) : Keeps V (s.stampEntry p f id hp t) := by
  unfold State.stampEntry
  extract_lets s0 _
  have k0 : Keeps V s0 := h.portCount.noteLateBlock
  exact Keeps.ite (Keeps.ite k0.mapPort k0.mapPort.raise) (Keeps.ite k0.mapPort.hwLevelAll k0.mapPort)

theorem Keeps.countTx {p : Fin 8} {f : TxFrame} (h : Keeps V s) : Keeps V (s.countTx p f) := by
  unfold State.countTx
  extract_lets s1 s2 s3 s4 s5
  have k1 : Keeps V s1 := h.portCount.portCount
  have k2 : Keeps V s2 := k1.portCount
  have k3 : Keeps V s3 := k2.portCount
  have k4 : Keeps V s4 := Keeps.ite k3.portCount k3
  have k5 : Keeps V s5 := Keeps.ite k4.portCount k4
  exact k5.beside

theorem Keeps.execFrameLaunch {port : Fin 8} (h : Keeps V s) : Answers V (execFrameLaunch port s) := by
  unfold Machine.execFrameLaunch
  refine Answers.ite h.next ?_
  split
  · exact h.next
  · extract_lets _ s0 s1 _ _
    have k0 : Keeps V s0 := Keeps.ite h.drawn h
    have k1 : Keeps V s1 := k0.mapPort.countTx
    exact Keeps.next (by split; exacts [k1.emit.stampEntry, k1.emit])

theorem Keeps.followPair {q : Fin 4} (h : Keeps V s) : Keeps V (s.followPair q) := by
  unfold State.followPair
  exact Keeps.ite h.mapPair.causeGone.condition h.mapPair.causeGone

theorem Keeps.linkDown {p : Fin 8} {planned : Bool} (h : Keeps V s) : Keeps V (s.linkDown p planned) := by
  unfold State.linkDown
  exact (Keeps.ite h.mapPort.condition h.mapPort).followPair

theorem Keeps.linkIsUp {p : Fin 8} (h : Keeps V s) : Keeps V (s.linkIsUp p) := by
  unfold State.linkIsUp
  exact h.mapPort.causeEnds.causeEnds.followPair

theorem Keeps.os3Lost (h : Keeps V s) : Keeps V s.os3Lost := by
  unfold State.os3Lost
  exact h.each (fun _ _ k => k.linkDown.mapPort)

theorem Keeps.os3Back (h : Keeps V s) : Keeps V s.os3Back := by
  unfold State.os3Back
  exact Keeps.ite (h.each (fun _ _ k => k.linkDown.mapPort)) h

theorem Keeps.applyPair {q : Fin 4} (h : Keeps V s) : Keeps V (s.applyPair q) := by
  unfold State.applyPair
  split
  exacts [h, h.mapPair.followPair]

theorem Keeps.applyPort {p : Fin 8} (h : Keeps V s) : Keeps V (s.applyPort p) := by
  unfold State.applyPort
  extract_lets _ _ _ _ s1 s2 s3
  have k1 : Keeps V s1 := h.mapPort
  have k2 : Keeps V s2 := Keeps.ite k1.linkDown k1
  have k3 : Keeps V s3 := Keeps.ite k2 k2.causeEnds
  exact Keeps.ite k3.applyPair k3

theorem Keeps.writeTsqRd {hp : Fin 4} {p : Fin 8} {v : Word} (h : Keeps V s) : Keeps V (s.writeTsqRd hp p v) := by
  unfold State.writeTsqRd
  exact Keeps.ite h.denied (Keeps.ite h.mapPort h.raise)

theorem Keeps.execTsqRdWrite {hp : Fin 4} {port : Fin 8} {v : Word} (h : Keeps V s) : Answers V (execTsqRdWrite hp port v s) := by
  unfold Machine.execTsqRdWrite
  exact h.opened h.writeTsqRd

/-! #### Auth.lean -/

theorem Keeps.mapKey {sa : Bool} {n : Fin 64} {f : KeySlot → KeySlot} (h : Keeps V s) : Keeps V (s.mapKey sa n f) := by
  unfold State.mapKey
  exact Keeps.ite h.beside h.beside

theorem Keeps.followInstAuth {i : Fin 16} (h : Keeps V s) : Keeps V (s.followInstAuth i) := by
  unfold State.followInstAuth
  exact Keeps.ite (Keeps.ite h.mapInst h.mapInst.raise) h.mapInst.causeGone

theorem Keeps.followAuth (h : Keeps V s) : Keeps V s.followAuth := by
  unfold State.followAuth
  exact (Keeps.ite h.beside.causeGone h.beside).each (fun _ _ k => k.followInstAuth)

theorem Keeps.drainKey {sa : Bool} {n : Fin 64} (h : Keeps V s) : Keeps V (s.drainKey sa n) := by
  unfold State.drainKey
  exact h.mapKey.followAuth

theorem Keeps.replState {sa : Bool} {slot : Fin 64} (h : Keeps V s) : Keeps V (s.replState sa slot) := by
  unfold State.replState
  exact Keeps.ite h.repl h

theorem Keeps.execKeyExpiry {sa : Bool} {slot : Fin 64} (h : Keeps V s) : Answers V (execKeyExpiry sa slot s) := by
  unfold Machine.execKeyExpiry
  exact Answers.ite h.raise.drainKey.replState.next h.next

theorem Keeps.execKeyDrainComplete {sa : Bool} {slot : Fin 64} (h : Keeps V s) : Answers V (execKeyDrainComplete sa slot s) := by
  unfold Machine.execKeyDrainComplete
  exact Answers.ite h.mapKey.replState.next h.next

theorem Keeps.storeKey {sa : Bool} {slot : Fin 64} {form : Nat} {r : KeyRecord} (h : Keeps V s) : Keeps V (s.storeKey sa slot form r) := by
  unfold State.storeKey
  exact h.mapKey.drawn.followAuth

theorem Keeps.keyRefused {sa : Bool} {slot : Fin 64} {reason : Nat} (h : Keeps V s) : Keeps V (s.keyRefused sa slot reason) := by
  unfold State.keyRefused
  exact h.raise

theorem Keeps.makeCurrent {sa : Bool} {slot : Fin 64} (h : Keeps V s) : Keeps V (s.makeCurrent sa slot) := by
  unfold State.makeCurrent
  exact (Keeps.mapKey (by split; exacts [h.mapKey, h])).followAuth

theorem Keeps.changeKey {sa : Bool} {slot : Fin 64} {current : Bool} (h : Keeps V s) (ht : s.changeKey sa slot current = .ok t) :
    Keeps V t := by
  unfold State.changeKey at ht
  dsimp only at ht
  split at ht
  · split at ht
    · simp at ht
    · obtain rfl := Except.ok.inj ht
      exact h.makeCurrent
  · split at ht
    · obtain rfl := Except.ok.inj ht
      exact h.drainKey
    · simp at ht
    · simp at ht

theorem Keeps.zeroiseKeys {why : Nat} (h : Keeps V s) : Keeps V (s.zeroiseKeys why) := by
  unfold State.zeroiseKeys
  exact h.beside.drawn.drawn.raise.followAuth

theorem Keeps.execDebugUnlock (h : Keeps V s) : Answers V (execDebugUnlock s) := by
  unfold Machine.execDebugUnlock
  exact Keeps.next (Keeps.beside (s := (s.zeroiseKeys 1).repl .zeroise) h.zeroiseKeys.repl)

theorem Keeps.reseed (h : Keeps V s) : Keeps V s.reseed := by
  unfold State.reseed
  exact h.beside.drawn

theorem Keeps.execDrbgReseed (h : Keeps V s) : Answers V (execDrbgReseed s) := by
  unfold Machine.execDrbgReseed
  exact Answers.ite h.next h.reseed.next

theorem Keeps.execEntropyTestFail {adaptive : Bool} (h : Keeps V s) : Answers V (execEntropyTestFail adaptive s) := by
  unfold Machine.execEntropyTestFail
  exact h.beside.raise.next

theorem Keeps.execDrbgResume (h : Keeps V s) : Answers V (execDrbgResume s) := by
  unfold Machine.execDrbgResume
  split
  exacts [Answers.ite h.next h.reseed.beside.causeGone.next, h.next]

theorem Keeps.sketch {i : Fin 16} {src : Nat} (h : Keeps V s) : Keeps V (s.sketch i src).1 := by
  unfold State.sketch
  exact h.beside

theorem Keeps.execSketchRollover (h : Keeps V s) : Answers V (execSketchRollover s) := by
  unfold Machine.execSketchRollover
  exact Answers.ite h.next h.beside.next

theorem Keeps.authFailed {verdict who : Nat} (h : Keeps V s) : Keeps V (s.authFailed verdict who) := by
  unfold State.authFailed
  extract_lets _ s1
  have k1 : Keeps V s1 := Keeps.ite h.beside h.beside
  exact Keeps.ite (Keeps.ite k1.beside.raise k1) (Keeps.ite k1.mapInst.raise k1)

theorem Keeps.signed {k : Fin 64} (h : Keeps V s) : Keeps V (s.signed k) := by
  unfold State.signed
  exact Keeps.ite h.mapKey h

/-! #### PtpSlot.lean -/

theorem Keeps.ptpAnnounce {i : Fin 16} {m : PtpMaster} (h : Keeps V s) : Keeps V (s.ptpAnnounce i m) := by
  unfold State.ptpAnnounce
  dsimp only
  split
  exacts [h, Keeps.ite h.beside.mapSlot.alarm.evaluate h.beside.mapSlot]

theorem Keeps.ptpOffset {i : Fin 16} {at_ : Nat} (h : Keeps V s) : Keeps V (s.ptpOffset i at_) := by
  unfold State.ptpOffset
  dsimp only
  split
  exacts [h.beside.mapSlot.deliverMeas, h]

theorem Keeps.ptpMessage {i : Fin 16} {m : PtpMsg} {arrival : Stamp} (h : Keeps V s) : Keeps V (s.ptpMessage i m arrival) := by
  unfold State.ptpMessage
  dsimp only
  split
  · exact h.ptpAnnounce
  · exact Keeps.ite h (Keeps.ite h.noteLateBlock.beside h.noteLateBlock.beside)
  · split
    exacts [Keeps.ite h.beside h, h]
  · exact Keeps.ite h.beside.ptpOffset h
  · exact h

theorem Keeps.ptpSlotMsg {m : PtpMsg} {arrival : Stamp} (h : Keeps V s) : Keeps V (s.ptpSlotMsg m arrival) := by
  unfold State.ptpSlotMsg
  split
  exacts [h, Keeps.ite h (Keeps.ite h.ptpMessage h.authFailed)]

theorem Keeps.execPtpSlotMessage {octets : List Byte} {arrival : Stamp} (h : Keeps V s) : Answers V (execPtpSlotMessage octets
    arrival s) := by
  unfold Machine.execPtpSlotMessage
  exact Keeps.next (by split; exacts [h.ptpSlotMsg, h])

theorem Keeps.execPtpSlotTimeout (h : Keeps V s) : Answers V (execPtpSlotTimeout s) := by
  unfold Machine.execPtpSlotTimeout
  split
  exacts [h.next, Answers.ite h.beside.signalLost.next h.next]

theorem Keeps.execDelayReqSend {departure : Stamp} (h : Keeps V s) : Answers V (execDelayReqSend departure s) := by
  unfold Machine.execDelayReqSend
  split
  · refine Answers.ite h.next ?_
    extract_lets _ _ s1
    have k1 : Keeps V s1 := h.drawn.drawn.countTx.emit
    exact k1.beside.next
  · exact h.next

/-! #### HostLanes.lean -/

theorem Keeps.laneDrop {l : Fin 2} (h : Keeps V s) : Keeps V (s.laneDrop l) := by
  unfold State.laneDrop
  exact Keeps.ite h.mapLane.mapLane.raise h.mapLane

theorem Keeps.toLane {l : Fin 2} {p : Fin 8} {rule : Nat} {f : RxFrame} (h : Keeps V s) : Keeps V (s.toLane l p rule f) := by
  unfold State.toLane
  exact Keeps.ite h.laneDrop h.mapLane

theorem Keeps.laneOrUnmatched {l : Fin 2} {p : Fin 8} {rule : Nat} {f : RxFrame} (h : Keeps V s) : Keeps V (s.laneOrUnmatched l p
    rule f) := by
  unfold State.laneOrUnmatched
  exact Keeps.ite h.toLane h.beside

theorem Keeps.hostRules {p : Fin 8} {f : RxFrame} (h : Keeps V s) : Keeps V (s.hostRules p f) := by
  unfold State.hostRules
  split
  · exact h.beside
  · split
    exacts [h, h.laneOrUnmatched, h.laneOrUnmatched, h.laneOrUnmatched.laneOrUnmatched]

theorem Keeps.writeProd {l : Fin 2} {tx : Bool} {v : Word} (h : Keeps V s) : Keeps V (s.writeProd l tx v) := by
  unfold State.writeProd
  exact Keeps.ite h.mapLane h.raise

theorem Keeps.laneError {l : Fin 2} {f : Lane → Lane} (h : Keeps V s) : Keeps V (s.laneError l f) := by
  unfold State.laneError
  exact Keeps.ite h.mapLane h.mapLane.hwLevelRise

theorem Keeps.writeHlCtrl {l : Fin 2} {v : Word} (h : Keeps V s) : Keeps V (s.writeHlCtrl l v) := by
  unfold State.writeHlCtrl
  exact Keeps.ite (Keeps.ite h.mapLane h.mapLane.raise) (Keeps.ite h.mapLane (Keeps.ite h.mapLane.mapLane h.mapLane.laneError))

theorem Keeps.hostRxProd {hp : Fin 4} {v : Word} (h : Keeps V s) : Keeps V (s.hostRxProd hp v) := by
  unfold State.hostRxProd
  split
  exacts [h.writeProd, h.busError]

theorem Keeps.execHlRxProdWrite {hp : Fin 4} {v : Word} (h : Keeps V s) : Answers V (execHlRxProdWrite hp v s) := by
  unfold Machine.execHlRxProdWrite
  exact h.opened h.hostRxProd

theorem Keeps.hostTxProd {hp : Fin 4} {v : Word} (h : Keeps V s) : Keeps V (s.hostTxProd hp v) := by
  unfold State.hostTxProd
  split
  exacts [h.writeProd, h.busError]

theorem Keeps.execHlTxProdWrite {hp : Fin 4} {v : Word} (h : Keeps V s) : Answers V (execHlTxProdWrite hp v s) := by
  unfold Machine.execHlTxProdWrite
  exact h.opened h.hostTxProd

theorem Keeps.hostHlCtrl {hp : Fin 4} {v : Word} (h : Keeps V s) : Keeps V (s.hostHlCtrl hp v) := by
  unfold State.hostHlCtrl
  split
  exacts [h.writeHlCtrl, h.busError]

theorem Keeps.execHlCtrlWrite {hp : Fin 4} {v : Word} (h : Keeps V s) : Answers V (execHlCtrlWrite hp v s) := by
  unfold Machine.execHlCtrlWrite
  exact h.opened h.hostHlCtrl

theorem Keeps.execHlDmaComplete {lane : Fin 2} {ok : Bool} {bufferAddr bufferLen : Nat} (h : Keeps V s) : Answers V
    (execHlDmaComplete lane ok bufferAddr bufferLen s) := by
  unfold Machine.execHlDmaComplete
  exact Answers.ite h.next (Answers.ite h.laneError.condition.next (by split; exacts [h.next, h.mapLane.emit.emit.next]))

theorem Keeps.takeId {p : Fin 8} (h : Keeps V s) : Keeps V (s.takeId p) := by
  unfold State.takeId
  exact h.each (fun _ _ k => k.mapPort)

theorem Keeps.execHlTxFetch {lane : Fin 2} {d : SendDesc} (h : Keeps V s) : Answers V (execHlTxFetch lane d s) := by
  unfold Machine.execHlTxFetch
  exact Answers.ite h.next ((((Keeps.ite ((Keeps.ite h.takeId h).portCount) (Keeps.ite (((Keeps.ite h.takeId h).each (fun _ _ k =>
      k.sendFrame)).portCount) ((Keeps.ite h.takeId h).sendFrame))).mapLane).emit).next)

/-! #### Service.lean -/

theorem Keeps.mapSquall {e : Fin 16} {f : Squall → Squall} (h : Keeps V s) : Keeps V (s.mapSquall e f) := by
  unfold State.mapSquall
  exact h.beside

theorem Keeps.removeEngine {e : Fin 16} {parity : Bool} (h : Keeps V s) : Keeps V (s.removeEngine e parity) := by
  unfold State.removeEngine
  exact h.mapSquall.condition

theorem Keeps.execSquallHoldTimeout {engine : Fin 16} (h : Keeps V s) : Answers V (execSquallHoldTimeout engine s) := by
  unfold Machine.execSquallHoldTimeout
  exact Answers.ite h.removeEngine.next h.next

theorem Keeps.execSquallParityError {engine : Fin 16} (h : Keeps V s) : Answers V (execSquallParityError engine s) := by
  unfold Machine.execSquallParityError
  exact h.removeEngine.next

theorem Keeps.launchDropped {p : Fin 8} (h : Keeps V s) : Keeps V (s.launchDropped p) := by
  unfold State.launchDropped
  exact Keeps.ite h.beside.beside.raise h.beside

theorem Keeps.reserveAt {ps : List (Fin 8)} {p : Fin 8} {target work len : Nat} (h : Keeps V s) : Keeps V (s.reserveAt ps p target
    work len).1 := by
  unfold State.reserveAt
  exact Keeps.iteFst h.drawn.launchDropped (Keeps.iteFst h.drawn.beside h.drawn)

theorem Keeps.respond {e : Fin 16} {p : Fin 8} {inst : Option (Fin 16)} {target work : Nat} {keys : List (Bool × Fin 64)} {mk : Nat →
    TxFrame}
    (h : Keeps V s) : Keeps V (s.respond e p inst target work keys mk).1 := by
  obtain ⟨F, hF⟩ : ∃ F, F = State.respond := ⟨_, rfl⟩
  rw [← hF]
  delta State.respond at hF
  have kR := @Keeps.reserveAt V
  generalize State.reserveAt = R at hF kR
  revert R
  refine id fun R hF kR => ?_
  subst hF
  beta_reduce
  extract_lets l0 r
  have k : Keeps V r.1 := kR h
  split
  · exact k
  · dsimp only
    exact k.mapSquall

theorem Keeps.respondGeneral {e : Fin 16} {p : Fin 8} {inst : Option (Fin 16)} {keys : List (Bool × Fin 64)} {mk : Nat → TxFrame} (h
    : Keeps V s) : Keeps V (s.respondGeneral e p inst keys mk).1 := by
  unfold State.respondGeneral
  exact h.respond

theorem Keeps.execSquallWorkComplete {engine : Fin 16} (h : Keeps V s) : Answers V (execSquallWorkComplete engine s) := by
  unfold Machine.execSquallWorkComplete
  split
  exacts [h.next, Answers.ite h.mapSquall.beside.next (Keeps.next
      (by
        split
        exacts [(h.mapSquall.each (fun _ _ k => k.sendFrame)).mapInst, h.mapSquall.each (fun _ _ k => k.sendFrame)]))]

theorem Keeps.noteSrcLimit {i : Fin 16} (h : Keeps V s) : Keeps V (s.noteSrcLimit i) := by
  unfold State.noteSrcLimit
  exact Keeps.ite h.beside.mapInst.raise h.beside

theorem Keeps.fillTokens {i : Fin 16} (h : Keeps V s) : Keeps V (s.fillTokens i) := by
  unfold State.fillTokens
  exact h.mapInst

theorem Keeps.rateCheck {i : Fin 16} {f : RxFrame} (h : Keeps V s) : Keeps V (s.rateCheck i f).1 := by
  unfold State.rateCheck
  refine Keeps.iteFst (Keeps.noteSrcLimit (by split; exacts [h, h, h.sketch])) ?_
  refine Keeps.iteFst (by split; exacts [h, h, h.sketch]) ?_
  extract_lets s2
  have k2 : Keeps V s2 := Keeps.fillTokens (by split; exacts [h, h, h.sketch])
  exact Keeps.iteFst k2.mapInst k2.beside

theorem Keeps.ntpAnswer {e i : Fin 16} {p : Fin 8} {f : RxFrame} {q : NtpReq} {form : NtpForm} {keys : List (Bool × Fin 64)} (h :
    Keeps V s) :
    Keeps V (s.ntpAnswer e i p f q form keys) := by
  obtain ⟨F, hF⟩ : ∃ F, F = State.ntpAnswer := ⟨_, rfl⟩
  rw [← hF]
  delta State.ntpAnswer at hF
  have kR := @Keeps.respond V
  generalize State.respond = R at hF kR
  revert R
  refine id fun R hF kR => ?_
  subst hF
  beta_reduce
  extract_lets env extra t w r _ s1
  have k1 : Keeps V s1 := Keeps.noteLateBlock (Keeps.beside (s := r.1) (kR h))
  exact Keeps.ite k1.beside k1

theorem Keeps.ntsFault {i : Fin 16} {last : Option Nat} {k : FaultKind} {keep : State → State} (h : Keeps V s) (hkeep : ∀ x0, Keeps V
    x0 → Keeps V (keep x0)) : Keeps V (s.ntsFault i last k keep) := by
  unfold State.ntsFault
  exact Keeps.ite ((hkeep _ h).raise) h

theorem Keeps.cookieBad {i : Fin 16} (h : Keeps V s) : Keeps V (s.cookieBad i) := by
  unfold State.cookieBad
  exact h.beside.ntsFault (fun _ k => k.beside)

theorem Keeps.ntsAuthBad {i : Fin 16} (h : Keeps V s) : Keeps V (s.ntsAuthBad i) := by
  unfold State.ntsAuthBad
  exact h.beside.ntsFault (fun _ k => k.beside)

theorem Keeps.noCurrentNts (h : Keeps V s) : Keeps V s.noCurrentNts := by
  unfold State.noCurrentNts
  exact Keeps.ite h.beside.beside.raise h.beside

theorem Keeps.ntsRequest {e i : Fin 16} {p : Fin 8} {f : RxFrame} {q : NtpReq} {limited : Bool} (h : Keeps V s) :
    Keeps V (s.ntsRequest e i p f q limited) := by
  obtain ⟨F, hF⟩ : ∃ F, F = State.ntsRequest := ⟨_, rfl⟩
  rw [← hF]
  delta State.ntsRequest at hF
  have kR := @Keeps.ntpAnswer V
  generalize State.ntpAnswer = R at hF kR
  revert R
  refine id fun R hF kR => ?_
  subst hF
  beta_reduce
  extract_lets uid c nak
  have nak_keeps {t : State} (k : Keeps V t) : Keeps V (nak t) := Keeps.ite k (kR k)
  split
  · exact nak_keeps h.cookieBad
  · refine Keeps.ite (nak_keeps h.ntsAuthBad) (Keeps.ite (kR h) ?_)
    split
    exacts [nak_keeps h.noCurrentNts, (kR h).beside]

theorem Keeps.ntpRequest {e i : Fin 16} {p : Fin 8} {f : RxFrame} {q : NtpReq} (h : Keeps V s) : Keeps V (s.ntpRequest e i p f q) := by
  unfold State.ntpRequest
  refine Keeps.ite h.hostRules ?_
  refine Keeps.ite h ?_
  refine Keeps.ite h.beside ?_
  refine Keeps.ite h ?_
  refine Keeps.ite h.beside ?_
  exact Keeps.ite h.beside (Keeps.ite h.rateCheck (Keeps.ite h.rateCheck.ntsRequest h.rateCheck.ntpAnswer))

theorem Keeps.ptpSign {i : Fin 16} (h : Keeps V s) : Keeps V (s.ptpSign i).1 := by
  unfold State.ptpSign
  split
  exacts [h, (by split; exacts [h.signed, h.beside])]

theorem Keeps.ptpGeneral {e i : Fin 16} {p : Fin 8} {kind : Nat} {dest : PtpDest} {late : Bool} {msg : PtpHead × List Byte} (h :
    Keeps V s) :
    Keeps V (s.ptpGeneral e i p kind dest late msg).1 := by
  obtain ⟨F, hF⟩ : ∃ F, F = State.ptpGeneral := ⟨_, rfl⟩
  have kR := @Keeps.respondGeneral V
  rw [← hF]
  delta State.ptpGeneral at hF
  generalize State.respondGeneral = R at hF kR
  revert R
  refine id fun R hF kR => ?_
  subst hF
  beta_reduce
  have k : Keeps V (s.ptpSign i).1 := h.ptpSign
  extract_lets +onlyGivenNames r
  change Keeps V r.1 at k
  clear_value r
  split
  · exact k
  · exact Keeps.beside (kR k)

theorem Keeps.pdelay {e i : Fin 16} {p : Fin 8} {f : RxFrame} {m : PtpMsg} (h : Keeps V s) : Keeps V (s.pdelay e i p f m) := by
  obtain ⟨F, hF⟩ : ∃ F, F = State.pdelay := ⟨_, rfl⟩
  have kR := @Keeps.respond V
  have kG := @Keeps.ptpGeneral V
  rw [← hF]
  delta State.pdelay at hF
  generalize State.respond = R at hF kR
  generalize State.ptpGeneral = G at hF kG
  revert R G
  refine id fun R kR G hF kG => ?_
  subst hF
  beta_reduce
  have k : Keeps V (s.ptpSign i).1 := h.ptpSign
  extract_lets +onlyGivenNames r
  change Keeps V r.1 at k
  clear_value r
  split
  · exact k
  · extract_lets +onlyGivenNames x one a dest late t w env q _ s1
    have k1 : Keeps V s1 := Keeps.noteLateBlock (Keeps.beside (s := q.1) (kR k))
    split
    exacts [kG k1, k1]

theorem Keeps.grantDenied {i : Fin 16} {reason : Nat} (h : Keeps V s) : Keeps V (s.grantDenied i reason) := by
  unfold State.grantDenied
  exact Keeps.ite h.beside.mapInst.raise h.beside

theorem Keeps.replGrant {g : Grant} (h : Keeps V s) : Keeps V (s.replGrant g) := by
  unfold State.replGrant
  exact h.repl

theorem Keeps.replDrop {g : Grant} (h : Keeps V s) : Keeps V (s.replDrop g) := by
  unfold State.replDrop
  exact h.repl

theorem Keeps.uniTlv {base : Grant} {t : UniTlv} (h : Keeps V s) : Keeps V (s.uniTlv base t).1 := by
  unfold State.uniTlv
  exact Keeps.iteFst h.beside.replDrop (by split; exacts [h.grantDenied, h.beside])

theorem Keeps.signaling {e i : Fin 16} {p : Fin 8} {f : RxFrame} {m : PtpMsg} {tlvs : List UniTlv} (h : Keeps V s) :
    Keeps V (s.signaling e i p f m tlvs) := by
  obtain ⟨F, hF⟩ : ∃ F, F = State.signaling := ⟨_, rfl⟩
  rw [← hF]
  delta State.signaling at hF
  have kR := @Keeps.ptpGeneral V
  generalize State.ptpGeneral = R at hF kR
  revert R
  refine id fun R hF kR => ?_
  subst hF
  beta_reduce
  extract_lets +onlyGivenNames addr base r
  have kr : Keeps V r.1 :=
    List.foldlRecOn (motive := fun a : State × List Byte => Keeps V a.1) tlvs _ h fun _ k _ _ => k.uniTlv
  refine Keeps.ite h ?_
  extract_lets +onlyGivenNames x key q made start _ _ t u
  have ku : Keeps V u := Keeps.each (Keeps.beside (s := q.1) (kR kr)) fun _ _ k => k.replGrant
  exact Keeps.ite ku.mapInst ku

theorem Keeps.execGrantExpiry {index : Nat} (h : Keeps V s) : Answers V (execGrantExpiry index s) := by
  unfold Machine.execGrantExpiry
  split
  exacts [Answers.ite h.next h.beside.replDrop.next, h.next]

theorem Keeps.delayGrant {i : Fin 16} {p : Fin 8} {m : PtpMsg} (h : Keeps V s) : Keeps V (s.delayGrant i p m).1 := by
  unfold State.delayGrant
  split
  exacts [h, Keeps.iteFst h.beside h]

theorem Keeps.delayReq {e i : Fin 16} {p : Fin 8} {f : RxFrame} {m : PtpMsg} (h : Keeps V s) : Keeps V (s.delayReq e i p f m) := by
  unfold State.delayReq
  extract_lets +onlyGivenNames r
  have k : Keeps V r.1 := Keeps.iteFst h.delayGrant h
  exact Keeps.ite k k.ptpGeneral.noteLateBlock

theorem Keeps.foreignAnnounce {i : Fin 16} {p : Fin 8} {m : PtpMaster} (h : Keeps V s) : Keeps V (s.foreignAnnounce i p m) := by
  unfold State.foreignAnnounce
  exact Keeps.ite h (Keeps.ite (Keeps.ite h.mapInst.raise h) h.mapInst)

theorem Keeps.ptpMsgIn {e i : Fin 16} {p : Fin 8} {f : RxFrame} {m : PtpMsg} (h : Keeps V s) : Keeps V (s.ptpMsgIn e i p f m) := by
  unfold State.ptpMsgIn
  refine Keeps.ite h.authFailed ?_
  refine Keeps.ite (Keeps.iteFst h.rateCheck h) ?_
  split
  · exact Keeps.ite ((Keeps.iteFst h.rateCheck h).pdelay) (Keeps.iteFst h.rateCheck h)
  · exact (Keeps.iteFst h.rateCheck h).delayReq
  · exact Keeps.ite ((Keeps.iteFst h.rateCheck h).signaling) (Keeps.iteFst h.rateCheck h)
  · exact (Keeps.iteFst h.rateCheck h).foreignAnnounce
  · exact Keeps.iteFst h.rateCheck h

theorem Keeps.answerArp {e i : Fin 16} {p : Fin 8} {f : RxFrame} {sender ip a : Nat} (h : Keeps V s) : Keeps V (s.answerArp e i p f
    sender ip a) := by
  obtain ⟨F, hF⟩ : ∃ F, F = State.answerArp := ⟨_, rfl⟩
  rw [← hF]
  delta State.answerArp at hF
  subst hF
  exact h.respondGeneral

theorem Keeps.answerNeighbor {e i : Fin 16} {p : Fin 8} {f : RxFrame} {a : Nat} (h : Keeps V s) : Keeps V (s.answerNeighbor e i p f a) := by
  obtain ⟨F, hF⟩ : ∃ F, F = State.answerNeighbor := ⟨_, rfl⟩
  rw [← hF]
  delta State.answerNeighbor at hF
  subst hF
  exact h.respondGeneral

theorem Keeps.standbyDropped (h : Keeps V s) : Keeps V s.standbyDropped := by
  unfold State.standbyDropped
  exact h.beside

theorem Keeps.dispatch {p : Fin 8} (h : Keeps V s) : Keeps V (s.dispatch p) := by
  unfold State.dispatch
  split
  · exact h
  · extract_lets s1 served rest
    have k1 : Keeps V s1 := h.mapPort
    have served_keeps {k : State → Fin 16 → State} (hk : ∀ e, Keeps V (k s1 e)) : Keeps V (served k) := by
      refine Keeps.ite k1.standbyDropped ?_
      split
      exacts [h, hk _]
    clear_value served
    have rest_keeps : Keeps V rest := by
      dsimp only [rest]
      split
      · refine served_keeps fun _ => ?_
        exact k1.ntpRequest
      · refine served_keeps fun _ => ?_
        exact k1.ptpMsgIn
      · exact k1.hostRules
    split
    · exact Keeps.ite rest_keeps (Keeps.ite k1.esmcPdu k1)
    · split
      exacts [Keeps.ite k1.ptpSlotMsg rest_keeps, rest_keeps]
    · split
      · refine served_keeps fun _ => ?_
        exact k1.answerArp
      · exact rest_keeps
    · split
      · refine served_keeps fun _ => ?_
        exact k1.answerNeighbor
      · exact rest_keeps
    · exact rest_keeps

theorem Keeps.announceAddresses {i : Fin 16} {p : Fin 8} (h : Keeps V s) : Keeps V (s.announceAddresses i p) := by
  unfold State.announceAddresses
  exact Keeps.ite h (h.each (fun _ _ k => k.sendFrame))

theorem Keeps.applyInst {i : Fin 16} (h : Keeps V s) : Keeps V (s.applyInst i) := by
  unfold State.applyInst
  split
  · exact h
  · extract_lets _ _ _ s1 _ s2 s3
    have k1 : Keeps V s1 := h.mapInst
    have k2 : Keeps V s2 := Keeps.ite k1.beside k1
    have k3 : Keeps V s3 := k2.followInstAuth
    exact Keeps.ite (k3.each (fun _ _ k => k.announceAddresses)) k3

theorem Keeps.applyInstances (h : Keeps V s) : Keeps V s.applyInstances := by
  unfold State.applyInstances
  exact h.each (fun _ _ k => k.applyInst)

theorem Keeps.execGarpRepeat (h : Keeps V s) : Answers V (execGarpRepeat s) := by
  unfold Machine.execGarpRepeat
  split
  · refine Answers.ite h.next ?_
    exact (h.beside.each (fun _ _ k => k.each (fun _ _ k1 => k1.announceAddresses))).next
  · exact h.next

theorem Keeps.setNominal {src : Nat} {t : Int} (h : Keeps V s) : Keeps V (s.setNominal src t) := by
  unfold State.setNominal
  exact h.beside

theorem Keeps.periodicPtp {e : Fin 16} {src : Nat} {i : Fin 16} {p : Fin 8} {sync : Bool} {key : Nat} {dest : PtpDest} {t : Int} (h :
    Keeps V s) :
    Keeps V (s.periodicPtp e src i p sync key dest t) := by
  obtain ⟨F, hF⟩ : ∃ F, F = State.periodicPtp := ⟨_, rfl⟩
  have kR := @Keeps.respond V
  have kG := @Keeps.ptpGeneral V
  rw [← hF]
  delta State.periodicPtp at hF
  generalize State.respond = R at hF kR
  generalize State.ptpGeneral = G at hF kG
  revert R G
  refine id fun R kR G hF kG => ?_
  subst hF
  beta_reduce
  have k : Keeps V ((s.setNominal src t).ptpSign i).1 := h.setNominal.ptpSign
  extract_lets +onlyGivenNames r
  change Keeps V r.1 at k
  clear_value r
  split
  · exact k
  · extract_lets +onlyGivenNames x n q _ s1
    have k1 : Keeps V s1 := Keeps.beside (s := q.1) (kR k)
    split
    · exact k1
    · exact Keeps.ite (kG k1.mapInst) k1.mapInst

theorem Keeps.periodicPlain {src : Nat} {per : Int} {p : Fin 8} {kind : Nat} {octets : List Byte} (h : Keeps V s) :
    Keeps V (s.periodicPlain src per p kind octets).1 := by
  obtain ⟨F, hF⟩ : ∃ F, F = State.periodicPlain := ⟨_, rfl⟩
  rw [← hF]
  delta State.periodicPlain at hF
  have kR := @Keeps.respond V
  generalize State.respond = R at hF kR
  revert R
  refine id fun R hF kR => ?_
  subst hF
  beta_reduce
  extract_lets
  refine Keeps.iteFst h ?_
  split
  exacts [h, kR h.setNominal]

theorem Keeps.periodicMulticast {src : Nat} {i : Fin 16} {p : Fin 8} {sync : Bool} (h : Keeps V s) : Keeps V (s.periodicMulticast src
    i p sync) := by
  unfold State.periodicMulticast
  exact Keeps.ite h (by split; exacts [h.periodicPtp, h])

theorem Keeps.periodicGrant {src : Nat} {g : Grant} (h : Keeps V s) : Keeps V (s.periodicGrant src g) := by
  unfold State.periodicGrant
  exact Keeps.ite h (by split; exacts [h.periodicPtp, h])

theorem Keeps.execPeriodicMessage {source : Nat} (h : Keeps V s) : Answers V (execPeriodicMessage source s) := by
  unfold Machine.execPeriodicMessage
  refine Answers.ite h.next ?_
  refine Answers.ite h.periodicMulticast.next ?_
  refine Answers.ite ?_ ?_
  · exact Answers.ite ((Keeps.ite h.periodicPlain.beside h.periodicPlain).next) h.next
  · refine Answers.ite ?_ (by split; exacts [h.periodicGrant.next, h.next])
    exact Answers.ite ((Keeps.ite h.periodicPlain.mapPair h.periodicPlain).next) h.next

theorem Keeps.execEsmcEventPdu {port : Fin 8} (h : Keeps V s) : Answers V (execEsmcEventPdu port s) := by
  unfold Machine.execEsmcEventPdu
  exact Answers.ite h.next h.beside.sendFrame.next

/-! #### Gnss.lean -/

theorem Keeps.startDwell (h : Keeps V s) : Keeps V s.startDwell := by
  unfold State.startDwell
  dsimp only
  exact Keeps.ite h (by split; exacts [h.beside, (by split; exacts [h, h.beside])])

theorem Keeps.noteDetection {x : Search} (h : Keeps V s) : Keeps V (s.noteDetection x) := by
  unfold State.noteDetection
  exact Keeps.ite h h.beside

theorem Keeps.execAcqDwellComplete {noise : Nat} {powers : List (Nat × Nat)} (h : Keeps V s) : Answers V (execAcqDwellComplete noise
    powers s) := by
  unfold Machine.execAcqDwellComplete
  split
  exacts [Answers.ite h.next (((h.beside.each (fun _ _ k => k.noteDetection)).startDwell).next), h.next]

theorem Keeps.mapChan {c : Fin 128} {f : GnssChan → GnssChan} (h : Keeps V s) : Keeps V (s.mapChan c f) := by
  unfold State.mapChan
  exact h.beside

theorem Keeps.dropChans {p : GnssChan → Bool} (h : Keeps V s) : Keeps V (s.dropChans p) := by
  unfold State.dropChans
  exact h.beside

theorem Keeps.assignChan {v : Search} (h : Keeps V s) : Keeps V (s.assignChan v) := by
  unfold State.assignChan
  exact Keeps.ite h (by split; exacts [h.mapChan, h])

theorem Keeps.execAcqVerifyComplete {noise : Nat} {powers : List Nat} (h : Keeps V s) : Answers V (execAcqVerifyComplete noise powers
    s) := by
  unfold Machine.execAcqVerifyComplete
  split
  exacts [Answers.ite h.next (((Keeps.ite (h.beside.each (fun _ _ k => k.assignChan)) h.beside).startDwell).next), h.next]

theorem Keeps.execTrackChannelLost {chan : Fin 128} (h : Keeps V s) : Answers V (execTrackChannelLost chan s) := by
  unfold Machine.execTrackChannelLost
  exact Answers.ite (((Keeps.beside (s := s.mapChan chan fun x =>
  { sat := x.sat, signal := x.signal, antB := x.antB, state := ChanState.lost, cn0 := x.cn0, elevation := x.elevation,
    azimuth := x.azimuth, pseudorange := x.pseudorange, phase := x.phase, doppler := x.doppler }) h.mapChan).startDwell).next) h.next

theorem Keeps.latch {m : ChanMeas} (h : Keeps V s) : Keeps V (s.latch m) := by
  unfold State.latch
  dsimp only
  split
  exacts [h, Keeps.ite h (Keeps.ite h.mapChan h.mapChan.mapStream)]

theorem Keeps.leaveMode {new : Nat} (h : Keeps V s) : Keeps V (s.leaveMode new) := by
  unfold State.leaveMode
  extract_lets u1 _ u3 s1 _ _ s2
  have k3 : Keeps V u3 := (show Keeps V u1 from h.dropChans).beside
  have k1 : Keeps V s1 := k3.completeOpt
  have k2 : Keeps V s2 := Keeps.ite h (by split; exacts [k1.beside, k1.beside, k3])
  exact Keeps.ite k2.beside.causeEnds.signalLost k2

theorem Keeps.applyReceiver {c : Cfg} (h : Keeps V s) : Keeps V (s.applyReceiver c) := by
  unfold State.applyReceiver
  extract_lets _ _ s1 _ s2 _ s3 _ s4
  have k1 : Keeps V s1 := Keeps.ite h h.leaveMode
  have k2 : Keeps V s2 := k1.beside
  have k3 : Keeps V s3 := Keeps.ite k2.beside k2
  have k4 : Keeps V s4 := Keeps.ite k3.beside k3
  exact k4.dropChans

theorem Keeps.followRefresh (h : Keeps V s) : Keeps V s.followRefresh := by
  unfold State.followRefresh
  exact h.beside

theorem Keeps.followSurvey (h : Keeps V s) : Keeps V s.followSurvey := by
  unfold State.followSurvey
  exact Keeps.ite h.beside (Keeps.ite h h.beside)

theorem Keeps.releaseLow (h : Keeps V s) : Keeps V s.releaseLow := by
  unfold State.releaseLow
  exact h.dropChans

theorem Keeps.execGnssEpoch {meas : List ChanMeas} {eph alm view : List (Sat × Int)} (h : Keeps V s) :
    Answers V (execGnssEpoch meas eph alm view s) := by
  unfold Machine.execGnssEpoch
  refine Answers.ite h.next ?_
  extract_lets _ _ s1 s2 s3 s4 _
  have k2 : Keeps V s2 := by
    dsimp only [s2]
    split
    exacts [Keeps.applyReceiver h.beside, h.beside]
  have k3 : Keeps V s3 := k2.applied
  have k4 : Keeps V s4 := (k3.each fun _ _ k => k.latch).releaseLow
  exact Answers.ite k3.next (Keeps.beside k4).followSurvey.followRefresh.startDwell.next

theorem Keeps.execEphRefreshLimit (h : Keeps V s) : Answers V (execEphRefreshLimit s) := by
  unfold Machine.execEphRefreshLimit
  exact Answers.ite h.next ((Keeps.ite h.beside.raise h.beside).next)

theorem Keeps.execStreamHealthCheck {stream : Fin 4} {runs : List (Nat × Int × Int)} (h : Keeps V s) :
    Answers V (execStreamHealthCheck stream runs s) := by
  unfold Machine.execStreamHealthCheck
  refine Answers.ite h.next ?_
  extract_lets +onlyGivenNames cause
  clear_value cause
  extract_lets s1 s2 known since s4
  have k1 : Keeps V s1 := h.mapStream
  split
  · extract_lets s3 silent
    have k2 : Keeps V s2 := k1.mapStream.dropChans
    have k3 : Keeps V s3 := Keeps.ite k2 k2.raise
    exact (Keeps.ite k3.signalLost k3).next
  · exact Answers.ite k1.mapStream.mapStream.causeGone.next k1.mapStream.next

theorem Keeps.setNotch {stream j : Fin 4} {bin : Option Int} (h : Keeps V s) : Keeps V (s.setNotch stream j bin) := by
  unfold State.setNotch
  exact h.mapStream.raise

theorem Keeps.placeNotch {stream : Fin 4} {top all : List Int} {b : Int} (h : Keeps V s) : Keeps V (s.placeNotch stream top all b) := by
  unfold State.placeNotch
  exact Keeps.ite h (by split; exacts [h.setNotch, (by split; exacts [h.setNotch.setNotch, h])])

theorem Keeps.execNotchSpectrum {stream : Fin 4} {binsDb : List Int} (h : Keeps V s) : Answers V (execNotchSpectrum stream binsDb s) := by
  unfold Machine.execNotchSpectrum
  refine Answers.ite h.next ?_
  extract_lets _ s1 _ _
  have k1 : Keeps V s1 := h.each (fun _ _ k => (by split; exacts [k, Keeps.ite k.setNotch k.mapStream]))
  exact (k1.each (fun _ _ k => k.placeNotch)).next

theorem Keeps.notePower {i : Fin 4} {power : Nat} (h : Keeps V s) : Keeps V (s.notePower i power) := by
  unfold State.notePower
  exact h.mapStream

theorem Keeps.execJnReport {stream : Fin 4} {power : Nat} (h : Keeps V s) : Answers V (execJnReport stream power s) := by
  unfold Machine.execJnReport
  exact Answers.ite h.next (Answers.ite ((Keeps.ite ((h.notePower.mapStream.beside.condition.each (fun _ _ k => k.alarm)).evaluate)
      h.notePower.mapStream.beside.condition).next) h.notePower.mapStream.beside.causeEnds.next)

theorem Keeps.followSpoof {i : Fin 3} {flags : Bool} (h : Keeps V s) : Keeps V (s.followSpoof i flags) := by
  unfold State.followSpoof
  exact Keeps.ite (Keeps.ite h.beside h.beside.beside.raise) (Keeps.ite (Keeps.ite h.beside.beside.causeEnds h.beside) h)

theorem Keeps.spoofChecks {nav : NavData} (h : Keeps V s) : Keeps V (s.spoofChecks nav).1 := by
  unfold State.spoofChecks
  exact h.beside.followSpoof.followSpoof.followSpoof

theorem Keeps.noteExcluded {l : List Sat} (h : Keeps V s) : Keeps V (s.noteExcluded l) := by
  unfold State.noteExcluded
  exact (h.each (fun _ _ k => k.raise)).beside

theorem Keeps.execExclusionExpiry {sat : Sat} (h : Keeps V s) : Answers V (execExclusionExpiry sat s) := by
  unfold Machine.execExclusionExpiry
  exact h.beside.next

theorem Keeps.noteLeap {nav : NavData} (h : Keeps V s) : Keeps V (s.noteLeap nav) := by
  have k : Keeps V ({ s with gnss.leapNow := nav.leapNow, gnss.leapNext := nav.leapNext, gnss.leapAnnounced := nav.leapDay.isSome } :
      State) := h.beside
  unfold State.noteLeap
  extract_lets _ s1 _ s2
  have k2 : Keeps V s2 := Keeps.ite (Keeps.raise k.beside) k
  split
  exacts [k2, Keeps.ite (Keeps.raise k2.beside) k2]

theorem Keeps.keepFrequency {phi : Int} {at_ : Nat} (h : Keeps V s) : Keeps V (s.keepFrequency phi at_) := by
  unfold State.keepFrequency
  split
  exacts [h, Keeps.ite h h.beside]

theorem Keeps.deliverGnss {phi : Int} {at_ : Nat} {hard : Rat} (h : Keeps V s) : Keeps V (s.deliverGnss phi at_ hard) := by
  unfold State.deliverGnss
  exact h.keepFrequency.each (fun _ _ k => k.mapSlot.deliverMeas)

theorem Keeps.noteSurvey {r : Solved} (h : Keeps V s) : Keeps V (s.noteSurvey r) := by
  unfold State.noteSurvey
  exact h.beside.beside

theorem Keeps.settleSolution {r : Solved} {nav : NavData} {survey : Bool} {at_ : Nat} (h : Keeps V s) :
    Keeps V (s.settleSolution r nav survey at_) := by
  unfold State.settleSolution
  extract_lets spoofed sol hard used ok wasOk shown _ s1 s2 s3 s4
  have k2 : Keeps V s2 := (show Keeps V s1 from h.beside).noteExcluded
  have k3 : Keeps V s3 := Keeps.ite k2.condition k2.causeGone
  have k4 : Keeps V s4 := Keeps.ite k3.causeEnds (Keeps.ite k3.condition k3)
  exact Keeps.ite (Keeps.ite k4.noteSurvey k4).deliverGnss (Keeps.ite (k4.each fun _ _ k => k.alarm).evaluate k4.signalLost)

theorem Keeps.execGnssSolutionComplete {nav : NavData} (h : Keeps V s) : Answers V (execGnssSolutionComplete nav s) := by
  unfold Machine.execGnssSolutionComplete
  split
  exacts [h.next, h.beside.spoofChecks.settleSolution.noteLeap.next]

theorem Keeps.execGnssStartTimeout (h : Keeps V s) : Answers V (execGnssStartTimeout s) := by
  unfold Machine.execGnssStartTimeout
  exact Answers.ite h.next h.condition.next

theorem Keeps.acceptSurvey (h : Keeps V s) : Keeps V s.acceptSurvey := by
  unfold State.acceptSurvey
  exact h.beside.raise

theorem Keeps.execSurveyTimeEnd (h : Keeps V s) : Answers V (execSurveyTimeEnd s) := by
  unfold Machine.execSurveyTimeEnd
  split
  · exact h.next
  · refine Answers.ite h.next ?_
    exact Answers.ite h.acceptSurvey.next (Answers.ite h.beside.raise.next h.beside.next)

theorem Keeps.execSnapshotModeCapture {obs : List CodeObs} {nav : NavData} (h : Keeps V s) : Answers V (execSnapshotModeCapture obs
    nav s) := by
  unfold Machine.execSnapshotModeCapture
  exact Answers.ite h.next (Answers.ite h.beside.next h.beside.settleSolution.noteLeap.next)

theorem Keeps.execSnapshotCaptureStart (h : Keeps V s) : Answers V (execSnapshotCaptureStart s) := by
  unfold Machine.execSnapshotCaptureStart
  exact Answers.ite h.next h.beside.next

theorem Keeps.execSnapshotCaptureComplete {before samples : List (List (Int × Int))} (h : Keeps V s) : Answers V
    (execSnapshotCaptureComplete before samples s) := by
  unfold Machine.execSnapshotCaptureComplete
  exact Answers.ite h.next h.beside.completeOpt.next

theorem Keeps.execSnapshotProcessComplete {obs : List CodeObs} {nav : NavData} (h : Keeps V s) : Answers V
    (execSnapshotProcessComplete obs nav s) := by
  unfold Machine.execSnapshotProcessComplete
  exact Answers.ite h.next h.beside.completeOpt.next

/-! #### Shared.lean -/

theorem Keeps.scheduleLeap {pending : Fin 3} {at_ : Nat} (h : Keeps V s) : Keeps V (s.scheduleLeap pending at_) := by
  unfold State.scheduleLeap
  exact h.beside.each (fun _ _ k => Keeps.ite k.mapSmear.raise k)

theorem Keeps.cancelLeap (h : Keeps V s) : Keeps V s.cancelLeap := by
  unfold State.cancelLeap
  exact h.beside

theorem Keeps.replaceCoverage {k : Nat} (h : Keeps V s) : Keeps V (s.replaceCoverage k) := by
  unfold State.replaceCoverage
  exact Keeps.ite h h.beside.recompute

theorem Keeps.mirrorKey {sa : Bool} {slot : Fin 64} {state : Fin 4} (h : Keeps V s) : Keeps V (s.mirrorKey sa slot state) := by
  unfold State.mirrorKey
  exact Keeps.ite h (by split; exacts [h.mapKey.followAuth, h.mapKey.followAuth, Keeps.ite h h.makeCurrent, h.drainKey])

/-! #### Twin.lean -/

theorem Keeps.endVote (h : Keeps V s) : Keeps V s.endVote := by
  unfold State.endVote
  exact h.beside

theorem Keeps.stopService (h : Keeps V s) : Keeps V s.stopService := by
  unfold State.stopService
  exact h.beside

theorem Keeps.startBulk (h : Keeps V s) : Keeps V s.startBulk := by
  unfold State.startBulk
  exact Keeps.ite h.beside.emit h.beside

theorem Keeps.dropCalibration (h : Keeps V s) : Keeps V s.dropCalibration := by
  unfold State.dropCalibration
  split
  exacts [h, h.beside.raise.complete]

theorem Keeps.setTwinSlot {on : Bool} (h : Keeps V s) : Keeps V (s.setTwinSlot on) := by
  unfold State.setTwinSlot
  exact h.mapSlot

theorem Keeps.setRole {r : Role} (h : Keeps V s) : Keeps V (s.setRole r) := by
  have placed : Keeps V ({ s with twin.role := r, twin.roleSince := s.sys.cyc } : State) := h.beside
  unfold State.setRole
  extract_lets _ s0 s1 _ s2
  have k2 : Keeps V s2 := by
    unfold s2; split; exacts [Keeps.ite placed.setTwinSlot placed.setTwinSlot.beside, placed.setTwinSlot]
  exact Keeps.ite h (Keeps.ite k2 k2.dropCalibration)

theorem Keeps.becomeFollower {r : Role} (h : Keeps V s) : Keeps V (s.becomeFollower r) := by
  unfold State.becomeFollower
  exact h.completeOpt.beside.endVote.setRole.stopService.startBulk

theorem Keeps.takeSequences {exactly : Bool} (h : Keeps V s) : Keeps V (s.takeSequences exactly) := by
  unfold State.takeSequences
  exact h.each (fun _ _ k => k.mapInst)

theorem Keeps.takeToken {why : Nat} (h : Keeps V s) : Keeps V (s.takeToken why) := by
  unfold State.takeToken
  extract_lets _ s1 s2 s3 s4 s5 _ s6
  have k1 : Keeps V s1 := h.beside.endVote
  have k2 : Keeps V s2 := k1.mapSlot.setRole.signalLost
  have k3 : Keeps V s3 := k2.each (fun _ _ k => (by split; exacts [k.mapPair, k]))
  have k4 : Keeps V s4 := k3.takeSequences
  have k5 : Keeps V s5 := k4.each (fun _ _ k => k.each (fun _ _ k1 => k1.announceAddresses))
  have k6 : Keeps V s6 := k5.beside
  exact k6.raise.notice

theorem Keeps.followTwin (h : Keeps V s) : Keeps V s.followTwin := by
  unfold State.followTwin
  exact Keeps.ite ((((Keeps.ite h.setRole h).mapSlot).setSlot).evaluate) (Keeps.ite h.setRole h)

theorem Keeps.sendHb {path : Fin 2} {handover : Bool} (h : Keeps V s) : Keeps V (s.sendHb path handover) := by
  have counted (t : State) (k : Keeps V t) : Keeps V { t with twin.txSeq := t.twin.txSeq.set path (t.twin.txSeq[path] + 1) } := k.beside
  unfold State.sendHb
  exact Keeps.ite (Keeps.ite (counted _ h.emit) h) (Keeps.ite (counted _ h.sendFrame) h)

theorem Keeps.sendHbs {handover : Bool} (h : Keeps V s) : Keeps V (s.sendHbs handover) := by
  unfold State.sendHbs
  exact ((Keeps.ite h.emit h).sendHb).sendHb

theorem Keeps.releaseToken (h : Keeps V s) : Keeps V s.releaseToken := by
  unfold State.releaseToken
  exact Keeps.ite h.beside.sendHbs.becomeFollower h

theorem Keeps.execHeartbeatSend (h : Keeps V s) : Answers V (execHeartbeatSend s) := by
  unfold Machine.execHeartbeatSend
  refine Answers.ite h.next ?_
  extract_lets _ s1 s2
  have k1 : Keeps V s1 := h.beside
  have k2 : Keeps V s2 := k1.sendHbs
  split
  · exact Answers.ite (Keeps.setRole (Keeps.beside (s := s2) k2)).stopService.startBulk.next k1.sendHbs.followTwin.next
  · exact k1.sendHbs.followTwin.next

theorem Keeps.followPaths (h : Keeps V s) : Keeps V s.followPaths := by
  unfold State.followPaths
  exact Keeps.ite h.causeGone h.causeGone.condition

theorem Keeps.followNoKey (h : Keeps V s) : Keeps V s.followNoKey := by
  unfold State.followNoKey
  exact Keeps.ite ((Keeps.ite h.condition h.causeEnds).condition) ((Keeps.ite h.condition h.causeEnds).causeEnds)

theorem Keeps.startTogether (h : Keeps V s) : Keeps V s.startTogether := by
  unfold State.startTogether
  exact Keeps.ite h.takeToken h

theorem Keeps.roleHeartbeat {h : Heartbeat} (hs : Keeps V s) : Keeps V (s.roleHeartbeat h) := by
  unfold State.roleHeartbeat
  split
  · refine Keeps.ite hs.becomeFollower ?_
    exact Keeps.ite (Keeps.ite hs.becomeFollower hs.beside.startTogether) hs.startTogether
  · exact Keeps.ite (Keeps.ite hs.raise hs.raise.becomeFollower) hs
  · exact Keeps.ite hs.takeToken (Keeps.ite hs.takeToken hs)
  · exact hs

theorem Keeps.validHeartbeat {path : Fin 2} {h : Heartbeat} (hs : Keeps V s) : Keeps V (s.validHeartbeat path h) := by
  unfold State.validHeartbeat
  extract_lets _ _ s1 _ s2 s3 _ s4 _ s5
  have k1 : Keeps V s1 := hs.beside
  have k2 : Keeps V s2 := Keeps.ite k1.beside k1
  have k3 : Keeps V s3 := k2.causeGone.followPaths.followNoKey.endVote
  have k4 : Keeps V s4 := Keeps.ite k3.beside k3
  have k5 : Keeps V s5 := by
    unfold s5; split; exacts [Keeps.ite (Keeps.complete k4.beside) k4, k4]
  exact k5.roleHeartbeat

theorem Keeps.execHeartbeatReceive {net : Bool} {h : Heartbeat} (hs : Keeps V s) : Answers V (execHeartbeatReceive net h s) := by
  unfold Machine.execHeartbeatReceive
  refine Answers.ite hs.next ?_
  refine Answers.ite hs.beside.next ?_
  dsimp only
  split
  · exact Answers.ite hs.next hs.beside.causeGone.condition.next
  · exact Answers.ite hs.validHeartbeat.next hs.beside.next

theorem Keeps.bothSilent {due : Nat} (h : Keeps V s) : Keeps V (s.bothSilent due) := by
  unfold State.bothSilent
  split
  exacts [Keeps.ite h.takeToken h, Keeps.ite h.beside.noticePort h]

theorem Keeps.execPathSilence {net : Bool} (h : Keeps V s) : Answers V (execPathSilence net s) := by
  unfold Machine.execPathSilence
  dsimp only
  split
  exacts [h.next, Answers.ite h.next ((Keeps.ite h.beside.followPaths.bothSilent h.beside.followPaths).next)]

theorem Keeps.loseVote (h : Keeps V s) : Keeps V s.loseVote := by
  unfold State.loseVote
  exact h.becomeFollower

theorem Keeps.execWitnessWaitExpiry (h : Keeps V s) : Answers V (execWitnessWaitExpiry s) := by
  unfold Machine.execWitnessWaitExpiry
  split
  exacts [h.next, Answers.ite h.next ((Keeps.ite h.endVote.raise.loseVote h.endVote.raise).next)]

theorem Keeps.execWitnessTokenTake (h : Keeps V s) : Answers V (execWitnessTokenTake s) := by
  unfold Machine.execWitnessTokenTake
  split
  exacts [Answers.ite h.next (Answers.ite h.endVote.next h.takeToken.next), h.next]

theorem Keeps.witnessAnswer {granted : Bool} (h : Keeps V s) : Keeps V (s.witnessAnswer granted) := by
  unfold State.witnessAnswer
  exact Keeps.ite (Keeps.ite h.endVote h.endVote.loseVote) (Keeps.ite h.beside h.endVote)

theorem Keeps.execDiscoverTimeExpiry (h : Keeps V s) : Answers V (execDiscoverTimeExpiry s) := by
  unfold Machine.execDiscoverTimeExpiry
  exact Answers.ite h.next h.takeToken.next

theorem Keeps.execBalandouLinkUp (h : Keeps V s) : Answers V (execBalandouLinkUp s) := by
  unfold Machine.execBalandouLinkUp
  exact Answers.ite h.next ((Keeps.ite h.beside.causeEnds.startBulk h.beside.causeEnds).next)

theorem Keeps.execBalandouLinkLoss (h : Keeps V s) : Answers V (execBalandouLinkLoss s) := by
  unfold Machine.execBalandouLinkLoss
  exact Answers.ite h.next ((Keeps.ite h.beside.condition.dropCalibration.applied.signalLost
      h.beside.condition.dropCalibration.applied).next)

theorem Keeps.exchangeFailed (h : Keeps V s) : Keeps V s.exchangeFailed := by
  unfold State.exchangeFailed
  exact Keeps.ite h.beside.signalLost h.beside

theorem Keeps.execTtFrameSend {fine : Fin 1024} (h : Keeps V s) : Answers V (execTtFrameSend fine s) := by
  unfold Machine.execTtFrameSend
  refine Answers.ite h.next ?_
  extract_lets t1 t2 t3 s1
  have k : Keeps V t2 := h.exchangeFailed
  have k1 : Keeps V s1 := Keeps.ite h k.beside
  exact (Keeps.applied (Keeps.emit k1.beside)).next

theorem Keeps.execTtFrameReceive {f : TtFrame} (h : Keeps V s) : Answers V (execTtFrameReceive f s) := by
  unfold Machine.execTtFrameReceive
  refine Answers.ite h.next ?_
  refine Answers.ite h.beside.next ?_
  extract_lets s0 _ _ _ s1
  have k0 : Keeps V s0 := h.noteLateBlock
  have k1 : Keeps V s1 := k0.beside
  split
  exacts [k1.beside.next, k1.exchangeFailed.next]

theorem Keeps.calSample {twice : Rat} (h : Keeps V s) : Keeps V (s.calSample twice) := by
  unfold State.calSample
  split
  exacts [h, (by split; exacts [Keeps.ite h.beside h, h])]

theorem Keeps.execTwinOffsetDeliver (h : Keeps V s) : Answers V (execTwinOffsetDeliver s) := by
  unfold Machine.execTwinOffsetDeliver
  exact Answers.ite h.next (Answers.ite h.beside.next (Answers.ite h.beside.beside.calSample.deliverMeas.next h.beside.beside.next))

theorem Keeps.followCalibration (h : Keeps V s) : Keeps V s.followCalibration := by
  unfold State.followCalibration
  split
  exacts [Keeps.ite h h.dropCalibration, h]

theorem Keeps.execRefMeasurement {slot : Fin 16} {stamps : List Nat} (h : Keeps V s) : Answers V (execRefMeasurement slot stamps s) := by
  unfold Machine.execRefMeasurement
  split
  exacts [h.mapSlot.takeMeas.followTwin.followCalibration.next, Answers.ite h.recoveredGate.next h.next]

theorem Keeps.execTwinCalibrateComplete (h : Keeps V s) : Answers V (execTwinCalibrateComplete s) := by
  unfold Machine.execTwinCalibrateComplete
  split
  exacts [h.next, Answers.ite h.next (Answers.ite h.dropCalibration.next h.beside.emit.complete.next)]

theorem Keeps.replPort {p : Fin 8} {l : List (Nat × Int)} (h : Keeps V s) : Keeps V (s.replPort p l) := by
  unfold State.replPort
  exact Keeps.ite h.mapPort h.mapPort.applyPort

theorem Keeps.applyRepl {a : ReplItem} (h : Keeps V s) : Keeps V (s.applyRepl a) := by
  unfold State.applyRepl
  dsimp only
  split
  exacts [h.beside, h.changeUtc (fun _ k => k.beside), Keeps.ite h.cancelLeap h.scheduleLeap, h.mapSmear, h.replaceCoverage,
      h.beside, h.replPort, Keeps.ite h.mapPair h.mapPair.applyPair, h.mapInst.applyInst, h.beside,
      (by
        split
        exacts [h.beside.storeKey, h.beside]), h.mirrorKey, h.zeroiseKeys.beside, h.beside, h.beside, Keeps.ite h h.mapFw,
            h.beside.followCalibration, h, h]

theorem Keeps.execReplReceive {item : ReplItem} (h : Keeps V s) : Answers V (execReplReceive item s) := by
  unfold Machine.execReplReceive
  refine Answers.ite h.next ?_
  split
  · exact h.beside.next
  · exact Answers.ite h.beside.next h.next
  · exact Answers.ite h.applyRepl.followTwin.next h.next

theorem Keeps.execBulkTransferComplete {items : List ReplItem} {activeKeys : Bool} (h : Keeps V s) : Answers V
    (execBulkTransferComplete items activeKeys s) := by
  unfold Machine.execBulkTransferComplete
  exact Answers.ite h.next ((((h.each (fun _ _ k => k.applyRepl)).beside).followTwin).next)

theorem Keeps.execBulkTransferTimeout (h : Keeps V s) : Answers V (execBulkTransferTimeout s) := by
  unfold Machine.execBulkTransferTimeout
  split
  exacts [h.next, Answers.ite h.next h.raise.startBulk.next]

/-! #### Groups.lean -/

theorem Keeps.copyStaged {g : Fin 8} (h : Keeps V s) : Keeps V (s.copyStaged g) := by
  unfold State.copyStaged
  split
  exacts [h.beside, h.beside, h.beside, h.beside, h.beside, h]

theorem Keeps.applySynthNow {o : Fin 4} (h : Keeps V s) : Keeps V (s.applySynthNow o) := by
  unfold State.applySynthNow
  extract_lets _ s1 s2 _
  have k1 : Keeps V s1 := h.applySynth
  have k2 : Keeps V s2 := Keeps.ite (k1.each (fun _ _ k => k.pinUnknown)) k1
  exact Keeps.ite k2.os3Lost (Keeps.ite k2.stopConverters k2)

theorem Keeps.setFlag {g : Fin 8} {m : Nat} {f : Handled → Int} (h : Keeps V s) : Keeps V (s.setFlag g m f) := by
  unfold State.setFlag
  exact h.beside

theorem Keeps.applyMember {g : Fin 8} {m : Nat} (h : Keeps V s) : Keeps V (s.applyMember g m) := by
  unfold State.applyMember
  exact Keeps.applied
      (by
        split
        exacts [Keeps.ite h.applyK h.applyK.recompute, h.applySynthNow.setFlag, h.applyPort.setFlag, h.applyInstances.setFlag,
            Keeps.ite h.applyFeed h.applyCp.setFlag, h])

theorem Keeps.strobe {g : Fin 8} {hp : Nat} (h : Keeps V s) : Keeps V (s.strobe g hp) := by
  unfold State.strobe
  exact Keeps.ite (h.mapGroup.beside.copyStaged.each (fun _ _ k => Keeps.ite k.applyMember k)) h.raise

theorem Keeps.noteWhole {g : Fin 8} (h : Keeps V s) : Keeps V (s.noteWhole g) := by
  unfold State.noteWhole
  exact Keeps.ite h.beside h

theorem Keeps.completeStaged {g : Fin 8} (h : Keeps V s) : Keeps V (s.completeStaged g) := by
  unfold State.completeStaged
  exact h.each (fun _ _ k => Keeps.ite k.complete k.complete)

theorem Keeps.stageCmd {h : Handled} (hs : Keeps V s) : Keeps V (s.stageCmd h) := by
  unfold State.stageCmd
  split
  exacts [hs.mapOs, hs.mapPin, hs.mapPort.repl, hs.mapPair.repl, hs.mapInst.repl, hs.mapFeed, hs.mapCp, hs]

theorem Keeps.issueNext {g : Fin 8} (h : Keeps V s) : Keeps V (s.issueNext g) := by
  unfold State.issueNext
  split
  exacts [h, Keeps.ite h.beside.stageCmd.strobe h]

theorem Keeps.settleOnce {g : Fin 8} (h : Keeps V s) : Keeps V (s.settleOnce g) := by
  unfold State.settleOnce
  exact (((h.each (fun _ _ k => Keeps.ite k.applyMember k)).noteWhole).completeStaged).issueNext

theorem Keeps.settleN {n : Nat} {g : Fin 8} (h : Keeps V s) : Keeps V (State.settleN n s g) := by
  induction n generalizing s with
  | zero => exact h.settleOnce
  | succ n ih => exact ih h.settleOnce

theorem Keeps.settle {g : Fin 8} (h : Keeps V s) : Keeps V (s.settle g) := by
  unfold State.settle
  exact Keeps.ite h.settleN.settleN.settleN h.settleN

theorem Keeps.boundary {g : Fin 8} {m : Nat} (h : Keeps V s) : Keeps V (s.boundary g m) := by
  unfold State.boundary
  exact Keeps.ite h h.applyMember.settle

theorem Keeps.writeStrobe {hp : Fin 4} {v : Word} (h : Keeps V s) : Keeps V (s.writeStrobe hp v) := by
  unfold State.writeStrobe
  exact Keeps.ite (h.each (fun _ _ k => k.strobe.settle)) ((h.each (fun _ _ k => k.strobe.settle)).denied)

theorem Keeps.execUpdateGroupStrobe {hp : Fin 4} {v : Word} (h : Keeps V s) : Answers V (execUpdateGroupStrobe hp v s) := by
  unfold Machine.execUpdateGroupStrobe
  exact h.opened h.writeStrobe

theorem Keeps.writeGroupCtrl {hp : Fin 4} {g : Fin 8} {v : Word} (h : Keeps V s) : Keeps V (s.writeGroupCtrl hp g v) := by
  unfold State.writeGroupCtrl
  exact Keeps.ite h.denied ((h.mapGroup.each (fun _ _ k => Keeps.ite k.raise k.raise.applyMember)).settle)

theorem Keeps.execImmediateWrite {hp : Fin 4} {group : Fin 8} {v : Word} (h : Keeps V s) : Answers V (execImmediateWrite hp group v s) := by
  unfold Machine.execImmediateWrite
  exact h.opened h.writeGroupCtrl

/-! #### GroupEvents.lean -/

theorem Keeps.execSynthApplyMarker {os : Fin 4} (h : Keeps V s) : Answers V (execSynthApplyMarker os s) := by
  unfold Machine.execSynthApplyMarker
  exact Answers.ite h.next h.boundary.next

theorem Keeps.synthLocked {o : Fin 4} {band : Fin 64} (h : Keeps V s) : Keeps V (s.synthLocked o band) := by
  unfold State.synthLocked
  exact Keeps.ite h.mapOs.endLockFaults.retune.followMute.os3Back h.mapOs.endLockFaults.retune.followMute

theorem Keeps.execSynthLockDone {os : Fin 4} {band : Option (Fin 64)} (h : Keeps V s) : Answers V (execSynthLockDone os band s) := by
  unfold Machine.execSynthLockDone
  refine Answers.ite h.next ?_
  split
  · exact h.reportLost.synthLocked.settle.next
  · extract_lets s1 s2 s3
    have k1 : Keeps V s1 := h.reportLost.mapOs.condition
    have k2 : Keeps V s2 := k1.beside
    have k3 : Keeps V s3 := Keeps.ite k2.stopConverters.settle k2
    exact k3.settle.next

theorem Keeps.execSynthLossOfLock {os : Fin 4} (h : Keeps V s) : Answers V (execSynthLossOfLock os s) := by
  unfold Machine.execSynthLossOfLock
  refine Answers.ite h.next ?_
  extract_lets s1 s2 s3
  have k1 : Keeps V s1 := h.mapOs.followMute
  have k2 : Keeps V s2 := (k1.each (fun _ _ k => k.pinUnknown)).condition
  have k3 : Keeps V s3 := Keeps.ite k2.os3Lost.settle (Keeps.ite k2.stopConverters.settle k2)
  exact k3.settle.next

theorem Keeps.execSynthRelockAttempt {os : Fin 4} {band : Option (Fin 64)} (h : Keeps V s) : Answers V (execSynthRelockAttempt os
    band s) := by
  unfold Machine.execSynthRelockAttempt
  refine Answers.ite h.next ?_
  split
  · exact h.mapOs.synthLocked.settle.next
  · extract_lets s1
    have k1 : Keeps V s1 := h.mapOs.condition
    exact (Keeps.ite k1.condition k1).next

theorem Keeps.execLinkUp {port : Fin 8} (h : Keeps V s) : Answers V (execLinkUp port s) := by
  unfold Machine.execLinkUp
  exact Answers.ite h.next ((h.linkIsUp.each (fun _ _ k => k.announceAddresses)).next)

theorem Keeps.execLinkLoss {port : Fin 8} {hiBer : Bool} {fault : Fin 3} (h : Keeps V s) : Answers V (execLinkLoss port hiBer fault s) := by
  unfold Machine.execLinkLoss
  refine Answers.ite h.next ?_
  extract_lets s1 s2 s3
  have k1 : Keeps V s1 := Keeps.ite h.linkDown h
  have k2 : Keeps V s2 := k1.mapPort
  have k3 : Keeps V s3 := Keeps.ite k2.condition k2.causeEnds
  exact k3.settle.next

theorem Keeps.execPortConfigApply {port : Fin 8} (h : Keeps V s) : Answers V (execPortConfigApply port s) := by
  unfold Machine.execPortConfigApply
  exact h.boundary.next

theorem Keeps.execRequestDispatch {port : Fin 8} (h : Keeps V s) : Answers V (execRequestDispatch port s) := by
  unfold Machine.execRequestDispatch
  exact h.boundary.dispatch.next

theorem Keeps.applyCrossed {before : Vector Feed 6} (h : Keeps V s) : Keeps V (s.applyCrossed before) := by
  unfold State.applyCrossed
  exact h.each (fun _ _ k => Keeps.ite k.boundary k)

theorem Keeps.execCpFrameSync {cp : Fin 8} {samples : List Word} (h : Keeps V s) : Answers V (execCpFrameSync cp samples s) := by
  unfold Machine.execCpFrameSync
  exact (((Keeps.ite h.frameSync h.frameSync.setFlag.applied).applyCrossed).settle).next

theorem Keeps.execCpRateMeasure {cp : Fin 8} (h : Keeps V s) : Answers V (execCpRateMeasure cp s) := by
  unfold Machine.execCpRateMeasure
  exact h.rateMeasured.settle.next

theorem Keeps.execMainsLossTimeout {feed : Fin 6} (h : Keeps V s) : Answers V (execMainsLossTimeout feed s) := by
  unfold Machine.execMainsLossTimeout
  exact h.mainsTimeout.settle.next

/-! #### TdcEvents.lean -/

theorem Keeps.tioOutputEdge {ch : Fin 88} {t : Stamp} (h : Keeps V s) : Keeps V (s.tioOutputEdge ch t) := by
  unfold State.tioOutputEdge
  split
  exacts [Keeps.ite h h.verifyEdge, h]

theorem Keeps.feedbackEdge {ch : Fin 88} {t : Stamp} (h : Keeps V s) : Keeps V (s.feedbackEdge ch t) := by
  unfold State.feedbackEdge
  exact Keeps.ite h.mapTdc h.reject

theorem Keeps.gateDelivered {ch : Fin 88} {r : Result} (h : Keeps V s) : Keeps V (s.gateDelivered ch r) := by
  unfold State.gateDelivered
  extract_lets +onlyGivenNames y
  clear_value y
  extract_lets s1 s2
  have k1 : Keeps V s1 := by
    dsimp only [s1]
    split
    exacts [h.each fun _ _ k => k.deliverMeas, h]
  have k2 : Keeps V s2 := by
    dsimp only [s2]
    split
    exacts [k1.flywheelGate, k1]
  exact Keeps.ite k2.verifyGate k2

theorem Keeps.limitGate {ch : Fin 88} {t : Int} (h : Keeps V s) : Keeps V (s.limitGate ch t) := by
  unfold State.limitGate
  exact Keeps.ite h h.endGate.gateDelivered.raise

theorem Keeps.clockEdge {ch : Fin 88} {t : Stamp} {falling : Bool} {edge : Nat} {slots : List (Fin 16)} (h : Keeps V s) : Keeps V
    (s.clockEdge ch t falling edge slots) := by
  unfold State.clockEdge
  dsimp only
  split
  exacts [(h.each (fun _ _ k => k.mapSlot)).stamped, h.stamped.mapTdc.limitGate.each (fun _ _ k => k.monitorSlot)]

theorem Keeps.feedEdges {ch : Fin 88} {t : Stamp} (h : Keeps V s) : Keeps V (s.feedEdges ch t) := by
  unfold State.feedEdges
  exact ((h.each (fun _ _ k => k.crossing)).applyCrossed).settle

theorem Keeps.routeStamp {ch : Fin 88} {t : Stamp} {falling offered : Bool} {k : Nat} (h : Keeps V s) : Keeps V (s.routeStamp ch t
    falling offered k) := by
  unfold State.routeStamp
  exact Keeps.ite h.stamped (Keeps.ite h.feedbackEdge (Keeps.ite h.clockEdge h.stamped.feedEdges.tioOutputEdge))

theorem Keeps.clockBack {ch : Fin 88} (h : Keeps V s) : Keeps V (s.clockBack ch) := by
  unfold State.clockBack
  exact h.each (fun _ _ k => k.mapSlot)

theorem Keeps.acceptEdge {ch : Fin 88} {t0 : Stamp} {falling : Bool} (h : Keeps V s) : Keeps V (s.acceptEdge ch t0 falling) := by
  unfold State.acceptEdge
  extract_lets _ _ _ _ _ _ s1
  have k1 : Keeps V s1 := Keeps.ite h.mapTdc.clockBack h.mapTdc
  refine Keeps.ite k1 ?_
  split
  exacts [Keeps.ite k1.mapTdc.counterChanged k1.mapTdc.routeStamp, k1.mapTdc.routeStamp]

theorem Keeps.acceptHeld {ch : Fin 88} (h : Keeps V s) : Keeps V (s.acceptHeld ch) := by
  unfold State.acceptHeld
  split
  exacts [Keeps.ite h.acceptEdge h, h]

theorem Keeps.execDeglitchAccept {ch : Fin 88} (h : Keeps V s) : Answers V (execDeglitchAccept ch s) := by
  unfold Machine.execDeglitchAccept
  exact h.acceptHeld.next

theorem Keeps.execTdcEdge {ch : Fin 88} {rising : Bool} {fine : Fin 1024} (h : Keeps V s) : Answers V (execTdcEdge ch rising fine s) := by
  unfold Machine.execTdcEdge
  refine Answers.ite h.next ?_
  extract_lets _ s1
  have k1 : Keeps V s1 := h.acceptHeld
  refine Answers.ite k1.acceptEdge.next ?_
  split
  exacts [(Keeps.ite k1.glitched k1).next, k1.mapTdc.next]

theorem Keeps.windowAccepted {ch : Fin 88} {k : Int} {t : Stamp} {stale : Bool} (h : Keeps V s) : Keeps V (s.windowAccepted ch k t
    stale) := by
  unfold State.windowAccepted
  exact h.toFifo.mapTdc.gateStamp.limitGate

theorem Keeps.windowEmpty {ch : Fin 88} {n : Nat} (h : Keeps V s) : Keeps V (s.windowEmpty ch n) := by
  unfold State.windowEmpty
  exact (Keeps.ite h h.reject).mapTdc

theorem Keeps.pulseOffset {ch : Fin 88} {k : Int} {t : Stamp} (h : Keeps V s) : Keeps V (s.pulseOffset ch k t) := by
  unfold State.pulseOffset
  dsimp only
  exact h.each (fun _ _ k => (by split; exacts [k.mapSlot.noteLate.deliverMeas, k.mapSlot.noteLate.deliverMeas, k.mapSlot]))

theorem Keeps.closeWindow {ch : Fin 88} {k close : Int} (h : Keeps V s) : Keeps V (s.closeWindow ch k close) := by
  unfold State.closeWindow
  dsimp only
  split
  exacts [h.mapTdc.windowAccepted.pulseOffset, Keeps.ite h.mapTdc.windowEmpty ((h.mapTdc.windowEmpty.each (fun _ _ k =>
      k.mapSlot)).signalLost)]

theorem Keeps.closeFeedback {ch : Fin 88} {at_ k close : Int} (h : Keeps V s) : Keeps V (s.closeFeedback ch at_ k close) := by
  unfold State.closeFeedback
  dsimp only
  split
  exacts [h.mapTdc.mapPin.windowAccepted.verifyEdge, Keeps.ite h.mapTdc.mapPin.windowEmpty h.mapTdc.mapPin.windowEmpty.verifyFail]

theorem Keeps.execWindowClose {ch : Fin 88} (h : Keeps V s) : Answers V (execWindowClose ch s) := by
  unfold Machine.execWindowClose
  refine Answers.ite h.next ?_
  refine Answers.ite (by split; exacts [h.closeFeedback.next, h.next]) ?_
  split
  exacts [h.closeWindow.next, h.next]

theorem Keeps.execGateEnd {ch : Fin 88} (h : Keeps V s) : Answers V (execGateEnd ch s) := by
  unfold Machine.execGateEnd
  exact Answers.ite h.next (Answers.ite h.endGate.next h.endGate.gateDelivered.next)

/-! #### Faults.lean -/

theorem Keeps.enterSafe (h : Keeps V s) : Keeps V s.enterSafe := by
  unfold State.enterSafe
  exact Keeps.ite h.beside (Keeps.ite h h.moveEngine.safeOutputs.hwLevelAll.releaseToken)

theorem Keeps.skipPulses {n : Fin 80} (h : Keeps V s) : Keeps V (s.skipPulses n) := by
  unfold State.skipPulses
  exact Keeps.ite h.passPin (by split; exacts [Keeps.ite h.mapPin h, h])

theorem Keeps.leaveSafe (h : Keeps V s) : Keeps V s.leaveSafe := by
  unfold State.leaveSafe
  exact Keeps.ite ((h.safeOutputs.each (fun _ _ k => k.skipPulses)).moveEngine) h

theorem Keeps.takeMsg {x : FaultMsg × Nat} (h : Keeps V s) : Keeps V (s.takeMsg x) := by
  unfold State.takeMsg
  exact h.beside

theorem Keeps.latchFault {m : FaultMsg} {cyc : Nat} (h : Keeps V s) : Keeps V (s.latchFault m cyc) := by
  unfold State.latchFault
  exact Keeps.ite h.beside h.beside.hwLevelAll

theorem Keeps.degrade {m : FaultMsg} (h : Keeps V s) : Keeps V (s.degrade m) := by
  unfold State.degrade
  exact Keeps.ite h.beside h.beside.recompute

theorem Keeps.safeReaction {m : FaultMsg} (h : Keeps V s) : Keeps V (s.safeReaction m) := by
  unfold State.safeReaction
  exact h.beside.enterSafe

theorem Keeps.react {m : FaultMsg} {cyc : Nat} (h : Keeps V s) : Keeps V (s.react m cyc) := by
  unfold State.react
  refine Keeps.ite h.beside ?_
  extract_lets i _ s1 s2 s3 s4 s5
  have k1 : Keeps V s1 := h.beside
  have k2 : Keeps V s2 := Keeps.ite k1.logAt k1
  have k3 : Keeps V s3 := Keeps.ite k2.latchFault k2
  have k4 : Keeps V s4 := Keeps.ite k3.degrade k3
  have k5 : Keeps V s5 := Keeps.ite k4.safeReaction k4
  exact Keeps.ite k5.releaseToken k5

theorem Keeps.execFaultProcess (h : Keeps V s) : Answers V (execFaultProcess s) := by
  unfold Machine.execFaultProcess
  split
  exacts [h.next, h.takeMsg.react.next]

theorem Keeps.relatch (h : Keeps V s) : Keeps V s.relatch := by
  unfold State.relatch
  dsimp only
  split
  exacts [h.beside, Keeps.ite ((Keeps.ite h.beside h.beside.hwLevelAll).logAt) (Keeps.ite h.beside h.beside.hwLevelAll)]

theorem Keeps.endDegrade (h : Keeps V s) : Keeps V s.endDegrade := by
  unfold State.endDegrade
  exact Keeps.ite h.beside.recompute h

theorem Keeps.endSafe (h : Keeps V s) : Keeps V s.endSafe := by
  unfold State.endSafe
  exact Keeps.ite h.beside.leaveSafe h

theorem Keeps.faultClear (h : Keeps V s) : Keeps V s.faultClear := by
  unfold State.faultClear
  exact h.relatch.endDegrade.endSafe

theorem Keeps.execPerfWindowEnd (h : Keeps V s) : Answers V (execPerfWindowEnd s) := by
  unfold Machine.execPerfWindowEnd
  exact Answers.ite h.next h.beside.next

theorem Keeps.execCounterDumpWrite {hp : Fin 4} {ok : Bool} (h : Keeps V s) : Answers V (execCounterDumpWrite hp ok s) := by
  unfold Machine.execCounterDumpWrite
  exact Answers.ite h.next (Answers.ite h.mapHost.emit.emit.emit.mapHost.next h.mapHost.mapHost.raise.next)

/-! #### System.lean -/

theorem Keeps.toReset {cause port : Nat} (h : Keeps V s) : Keeps V.fresh (s.toReset cause port) := by
  refine ⟨rfl, rfl, fun c => ?_⟩
  obtain ⟨-, ha, hb, -⟩ := (State.memoriesWf_iff s).mp (h.memories c)
  refine (State.memoriesWf_iff _).mpr ⟨rfl, ha, hb, fun p => ?_⟩
  simp [State.toReset, memWf]

theorem Keeps.enterReset {cause port : Nat} (h : Keeps V s) : Keeps V.fresh (s.enterReset cause port) := by
  unfold State.enterReset
  exact Keeps.toReset (Keeps.ite (Keeps.ite h h.beside.logAt).checkpoint (Keeps.ite h h.beside.logAt))

theorem Keeps.bootFail {code : Nat} (h : Keeps V s) : Keeps V (s.bootFail code) := by
  unfold State.bootFail
  exact h.beside.bootPrint

theorem Keeps.tryArea {ar : Area} (h : Keeps V s) : Keeps V (s.tryArea ar) := by
  unfold State.tryArea
  exact h.beside

theorem Keeps.tryActive (h : Keeps V s) : Keeps V s.tryActive := by
  unfold State.tryActive
  exact h.beside.tryArea

theorem Keeps.firstCandidate (h : Keeps V s) : Keeps V s.firstCandidate := by
  unfold State.firstCandidate
  split
  exacts [h.beside.tryArea, h.beside.tryActive, h.tryActive]

theorem Keeps.nextCandidate {ar : Area} (h : Keeps V s) : Keeps V (s.nextCandidate ar) := by
  unfold State.nextCandidate
  exact Keeps.ite h.tryActive (Keeps.ite h.bootFail h.tryArea)

theorem Keeps.release {straps : Straps} (h : Keeps V s) : Keeps V (s.release straps) := by
  unfold State.release
  split
  exacts [h.beside.logAt.print.setEngine.firstCandidate, h.beside.logAt.print.setEngine.tryArea,
      h.beside.logAt.print.setEngine.bootFail, h.beside.logAt.print.setEngine.bootFail]

theorem Keeps.tryRelease {straps : Straps} (h : Keeps V s) : Keeps V (s.tryRelease straps) := by
  unfold State.tryRelease
  exact Keeps.ite h.release h

theorem Keeps.innerReset {cause port : Nat} (h : Keeps V s) : Keeps V.fresh (s.innerReset cause port) := by
  unfold State.innerReset
  exact h.enterReset.tryRelease

theorem Keeps.execPowerOnDetect (h : Keeps V s) : Answers V.fresh (execPowerOnDetect s) := by
  unfold Machine.execPowerOnDetect
  exact Keeps.next (Keeps.beside (s := s.enterReset 0 0) h.enterReset)

theorem Keeps.execPowerOnDetectRelease {straps : Straps} (h : Keeps V s) : Answers V (execPowerOnDetectRelease straps s) := by
  unfold Machine.execPowerOnDetectRelease
  exact h.beside.tryRelease.next

theorem Keeps.execResetNLow {lowNs : Nat} (h : Keeps V s) : ∃ t, execResetNLow lowNs s = .next t ∧ Restarts V t := by
  unfold Machine.execResetNLow
  split
  · exact ⟨_, rfl, .inl h⟩
  · split
    exacts [⟨_, rfl, .inl h.beside⟩, ⟨_, rfl, .inr (Keeps.beside (s := s.enterReset 1 0) h.enterReset)⟩]

theorem Keeps.execResetNHigh {straps : Straps} (h : Keeps V s) : Answers V (execResetNHigh straps s) := by
  unfold Machine.execResetNHigh
  exact h.beside.tryRelease.next

theorem Keeps.execWatchdogExpiry (h : Keeps V s) : ∃ t, execWatchdogExpiry s = .next t ∧ Restarts V t := by
  unfold Machine.execWatchdogExpiry
  split
  exacts [⟨_, rfl, .inr h.innerReset⟩, ⟨_, rfl, .inl h⟩]

theorem Keeps.execWarmResetStart (h : Keeps V s) : ∃ t, execWarmResetStart s = .next t ∧ Restarts V t := by
  unfold Machine.execWarmResetStart
  split
  · split
    exacts [⟨_, rfl, .inl h⟩, ⟨_, rfl, .inr h.innerReset⟩]
  · exact ⟨_, rfl, .inl h⟩

theorem Keeps.execRpllLock {n : Nat} (h : Keeps V s) : ∃ t, execRpllLock n s = .next t ∧ (Keeps V t ∨ Keeps ⟨0, true, V.canonical⟩ t) := by
  unfold Machine.execRpllLock
  split
  exacts [⟨_, rfl, .inr ⟨rfl, rfl, h.memories⟩⟩, ⟨_, rfl, .inl h⟩]

theorem Keeps.execRpllLockTimeout (h : Keeps V s) : Answers V (execRpllLockTimeout s) := by
  unfold Machine.execRpllLockTimeout
  split
  exacts [h.bootFail.next, h.next]

theorem Keeps.imageRejected {ar : Area} {r : RejectReason} (h : Keeps V s) : Keeps V (s.rejected ar r) := h.bootPrint.nextCandidate

theorem Keeps.restoreModel {c : Checkpoint} {f : Fin 3} (h : Keeps V s) : Keeps V (s.restoreModel c f) := by
  unfold State.restoreModel
  split
  exacts [h.mapFw.mapFw.noteStale, h.mapFw]

theorem Keeps.startTime {t : Int} (h : Keeps V s) : Keeps V (s.startTime t) := by
  unfold State.startTime
  exact h.beside

theorem Keeps.restoreCheckpoint (h : Keeps V s) : Keeps V s.restoreCheckpoint := by
  unfold State.restoreCheckpoint
  split
  · exact Keeps.beside (s := s.startTime 0) h.startTime
  · extract_lets s1
    have k1 : Keeps V s1 := h.startTime.each (fun _ _ k => k.restoreModel)
    exact k1.beside

theorem Keeps.restoreRate (h : Keeps V s) : Keeps V s.restoreRate := by
  unfold State.restoreRate
  exact Keeps.ite ((Keeps.ite h.raise h).requestRate) (Keeps.ite h.raise h)

theorem Keeps.enterInit {ar : Area} {hdr : ImageHdr} (h : Keeps V s) : Keeps V (s.enterInit ar hdr) := by
  unfold State.enterInit
  extract_lets _ _ s1 s0 s2
  have k1 : Keeps V s1 := h.beside
  have k0 : Keeps V s0 := k1.bootPrint.restoreCheckpoint.setEngine
  have k2 : Keeps V s2 := k0.useFlywheel
  exact Keeps.ite (Keeps.followNoKey k2.beside) k2

theorem Keeps.readImage {ar : Area} {hdr : ImageHdr} {found : Option RejectReason} (h : Keeps V s) : Keeps V (s.readImage ar hdr
    found) := by
  unfold State.readImage
  extract_lets _ _ s1 s2
  have k1 : Keeps V s1 := h.beside
  have k2 : Keeps V s2 := Keeps.ite k1.bootPrint k1
  refine Keeps.ite k2.bootFail (Keeps.ite k2.bootFail ?_)
  split
  exacts [k2.imageRejected, k2.enterInit]

theorem Keeps.execBootImageReadDone {hdr : ImageHdr} {reject : Option RejectReason} (h : Keeps V s) : Answers V
    (execBootImageReadDone hdr reject s) := by
  unfold Machine.execBootImageReadDone
  extract_lets unread why
  split
  · exact Answers.ite h.imageRejected.next (Answers.ite h.bootFail.next h.next)
  · exact Answers.ite h.imageRejected.next h.readImage.next
  · exact h.next

theorem Keeps.restoreRest (h : Keeps V s) : Keeps V s.restoreRest := by
  unfold State.restoreRest
  extract_lets _ s1
  have k1 : Keeps V s1 := by
    unfold s1; split; exacts [h.beside, h]
  split
  exacts [k1.beside, k1]

theorem Keeps.initChannel {cal : CalResult} {failed : List (Fin 88)} {ch : Fin 88} (h : Keeps V s) : Keeps V (s.initChannel cal
    failed ch) := by
  unfold State.initChannel
  exact (Keeps.ite h.mapTdc.mapTdc h.mapTdc.raise.raise).followCal

theorem Keeps.bootRecord (h : Keeps V s) : Keeps V s.bootRecord := by
  unfold State.bootRecord
  extract_lets _ s1 _ s2
  have k1 : Keeps V s1 := by
    unfold s1; split; exacts [Keeps.ite h.beside h, h]
  have k2 : Keeps V s2 := by
    unfold s2; split; exacts [Keeps.ite k1.beside k1, k1]
  exact Keeps.ite k2.beside.condition k2

theorem Keeps.initGenerator (h : Keeps V s) : Keeps V s.initGenerator := by
  unfold State.initGenerator
  exact h.beside.drawn.drawn

theorem Keeps.safeNow (h : Keeps V s) : Keeps V s.safeNow := by
  unfold State.safeNow
  exact Keeps.ite h.beside.enterSafe h

theorem Keeps.startIntervals (h : Keeps V s) : Keeps V s.startIntervals := by
  unfold State.startIntervals
  exact h.beside

theorem Keeps.execInitComplete {cal : CalResult} {failed : List (Fin 88)} (h : Keeps V s) : Answers V (execInitComplete cal failed s) := by
  unfold Machine.execInitComplete
  refine Answers.ite h.next ?_
  extract_lets s1 s2
  have k1 : Keeps V s1 := (((h.each (fun _ _ k => k.initChannel)).restoreRate).restoreRest).initGenerator
  have k2 : Keeps V s2 := k1.useFlywheel.startIntervals.retuneAll
  exact k2.moveEngine.bootRecord.startTogether.safeNow.next

theorem Keeps.execRpllLossOfLock (h : Keeps V s) : Answers V (execRpllLossOfLock s) := by
  unfold Machine.execRpllLossOfLock
  exact Answers.ite h.condition.next h.next

theorem Keeps.execLockstepMismatch (h : Keeps V s) : Answers V (execLockstepMismatch s) := by
  unfold Machine.execLockstepMismatch
  exact Answers.ite h.next h.condition.next

theorem Keeps.execVddDroopDetect {det : Fin 16} {depthMv : Nat} (h : Keeps V s) : Answers V (execVddDroopDetect det depthMv s) := by
  unfold Machine.execVddDroopDetect
  exact Answers.ite h.next h.beside.raise.next

theorem Keeps.discardHeld {a : EccWord} (h : Keeps V s) : Keeps V (s.discardHeld a) := by
  unfold State.discardHeld
  split
  · exact h
  · split
    exacts [h, h.mapTdc.counterChanged]
  · exact Keeps.ite h h.mapHost.hwEvent.evqLostFault
  · exact h.mapHost.hwEvent
  · exact h.mapPair
  · exact h.beside
  · exact h.mapPort.portCount
  · exact h.beside

theorem Keeps.execSramEccError {memory : Nat} {uncorrectable : Bool} {held : EccWord} (h : Keeps V s) : Answers V (execSramEccError
    memory uncorrectable held s) := by
  unfold Machine.execSramEccError
  exact Answers.ite h.next (Answers.ite h.discardHeld.raise.next (Answers.ite h.beside.raise.next h.next))

theorem Keeps.execCollectorSelfFault {word : Nat} (h : Keeps V s) : Answers V (execCollectorSelfFault word s) := by
  unfold Machine.execCollectorSelfFault
  exact Answers.ite h.next h.beside.enterSafe.condition.next

/-! #### Omend.lean -/

theorem Keeps.rejectCmd {c : Cmd} {status : Nat} {at_ : Option Nat} (h : Keeps V s) : Keeps V (s.rejectCmd c status at_) := by
  unfold State.rejectCmd
  exact Keeps.reply (by split; exacts [h.writeResult, h])

theorem Keeps.finishCmd {c : Cmd} {ws : List Word} (h : Keeps V s) : Keeps V (s.finishCmd c ws) := by
  unfold State.finishCmd
  exact h.writeResult.reply

theorem Keeps.acceptCmd {c : Cmd} {slot : Fin 256} {group : Option (Fin 8)} {target : Nat} {data : List Int} {obj : Nat} {cfg : Cfg}
    (h : Keeps V s) : Keeps V (s.acceptCmd c slot group target data obj cfg) := by
  unfold State.acceptCmd
  extract_lets s1 s2
  have k1 : Keeps V s1 := h.mapHost
  have k2 : Keeps V s2 := k1.beside
  exact k2.reply

theorem Keeps.wipeParcel {c : Cmd} {i : Nat} (h : Keeps V s) : Keeps V (s.wipeParcel c i) := by
  unfold State.wipeParcel
  exact h.parcelWrite

theorem Verdict.keeps.conclude {x : Verdict} {c : Cmd} {slot : Fin 256} (h : x.keeps V) : Keeps V (x.conclude c slot) := by
  cases x with
  | reject => exact Keeps.rejectCmd h
  | done => exact Keeps.finishCmd h
  | later => exact h
  | accept => exact h.2 _ _ h.1.acceptCmd

theorem Keeps.runCmd {c : Cmd} {f : CmdForm} (h : Keeps V s) (hf : f.calm) : Keeps V (s.runCmd c f) := by
  have k : Keeps V (match f.wipe with | some i => s.wipeParcel c i | none => s) := by split; exacts [h.wipeParcel, h]
  unfold State.runCmd
  refine Keeps.ite k.rejectCmd (Keeps.ite k.rejectCmd (Keeps.ite k.rejectCmd ?_))
  split
  exacts [k.rejectCmd, (hf V _ c k).conclude]

theorem Keeps.omend {hp : Fin 4} {mb : Fin 8} {f : CmdForm} (h : Keeps V s) (hf : f.calm) : Answers V (s.omend hp mb f) := by
  unfold State.omend
  split
  exacts [h.next, Answers.ite (h.takeImb.runCmd hf).next (Answers.ite h.next h.takeImb.rejectCmd.next)]

theorem Keeps.configure {c : Cmd} {t : ParamTable} {cur : Cfg} {dyn : Cfg → List (Nat × Bool)} {joint : Cfg → List (Bool × List Nat)}
    {busy : Cfg → Bool} {go : Cfg → Verdict} (h : Keeps V s) (hg : ∀ x, (go x).keeps V) :
    (c.configure s t cur dyn joint busy go).keeps V := by
  unfold Cmd.configure
  dsimp only
  split
  · exact h.rejected
  · split
    exacts [h.rejected, Verdict.keeps_ite h.rejected (hg _)]

theorem Keeps.stageVerdict {g : Fin 8} {target obj : Nat} {cfg : Cfg} (h : Keeps V s) : (stageVerdict s g target obj cfg).keeps V := by
  unfold Machine.stageVerdict
  exact h.accepted (fun _ _ k => k.settle)

theorem Keeps.refuse {reason : Nat} (h : Keeps V s) : (refuse s reason).keeps V := by
  unfold Machine.refuse
  exact h.rejected

/-! #### CmdSystem.lean -/

theorem statusForm.calm : statusForm.calm := fun _ _ _ h => h.finished

theorem Keeps.execStatus {hp : Fin 4} {mb : Fin 8} (h : Keeps V s) : Answers V (execStatus hp mb s) := by
  unfold Machine.execStatus
  exact h.omend statusForm.calm

theorem resetForm.calm : resetForm.calm := fun _ _ _ h => h.beside.releaseToken.finished

theorem Keeps.execReset {hp : Fin 4} {mb : Fin 8} (h : Keeps V s) : Answers V (execReset hp mb s) := by
  unfold Machine.execReset
  exact h.omend resetForm.calm

theorem Keeps.setGrants {hp : Fin 4} {v : Nat} (h : Keeps V s) : Keeps V (s.setGrants hp v) := by
  unfold State.setGrants
  exact h.beside.notice

theorem grantForm.calm : grantForm.calm := fun _ _ _ h => Verdict.keeps_ite h.rejected (Verdict.keeps_ite h.rejected
    (Verdict.keeps_ite h.setGrants.finished (Verdict.keeps_ite h.rejected h.setGrants.finished)))

theorem Keeps.execGrant {hp : Fin 4} {mb : Fin 8} (h : Keeps V s) : Answers V (execGrant hp mb s) := by
  unfold Machine.execGrant
  exact h.omend grantForm.calm

theorem Keeps.newOwner {hp : Fin 4} (h : Keeps V s) : Keeps V (s.newOwner hp) := by
  unfold State.newOwner
  exact h.beside.notice

theorem ownerHandoverForm.calm : ownerHandoverForm.calm := fun _ _ _ h => Verdict.keeps_ite h.rejected (Verdict.keeps_ite h.rejected
    h.newOwner.finished)

theorem Keeps.execOwnerHandover {hp : Fin 4} {mb : Fin 8} (h : Keeps V s) : Answers V (execOwnerHandover hp mb s) := by
  unfold Machine.execOwnerHandover
  exact h.omend ownerHandoverForm.calm

theorem clockIdForm.calm : clockIdForm.calm := fun _ _ _ h => Verdict.keeps_ite h.rejected h.beside.repl.finished

theorem Keeps.execClockId {hp : Fin 4} {mb : Fin 8} (h : Keeps V s) : Answers V (execClockId hp mb s) := by
  unfold Machine.execClockId
  exact h.omend clockIdForm.calm

theorem warmupTimeForm.calm : warmupTimeForm.calm := fun _ s c h => by
  have k : Keeps _ { s with sys.warmupTime := c.word 0 } := h.beside
  obtain ⟨u, hu, k'⟩ := k.execWarmupTimeExpiry
  refine Verdict.keeps_ite h.rejected ?_
  dsimp only
  rw [hu]
  exact k'.finished

theorem Keeps.execWarmupTime {hp : Fin 4} {mb : Fin 8} (h : Keeps V s) : Answers V (execWarmupTime hp mb s) := by
  unfold Machine.execWarmupTime
  exact h.omend warmupTimeForm.calm

theorem stepForm.calm : stepForm.calm := fun _ _ _ h => Verdict.keeps_ite h.rejected (Verdict.keeps_ite (h.accepted (fun _ _ k =>
    k.requestStep)) h.raise.rejected)

theorem Keeps.execStep {hp : Fin 4} {mb : Fin 8} (h : Keeps V s) : Answers V (execStep hp mb s) := by
  unfold Machine.execStep
  exact h.omend stepForm.calm

theorem rateForm.calm : rateForm.calm := fun _ _ _ h => Verdict.keeps_ite h.rejected (Verdict.keeps_ite (h.accepted (fun _ _ k =>
    k.requestRate)) h.rejected)

theorem Keeps.execRate {hp : Fin 4} {mb : Fin 8} (h : Keeps V s) : Answers V (execRate hp mb s) := by
  unfold Machine.execRate
  exact h.omend rateForm.calm

theorem utcOffsetForm.calm : utcOffsetForm.calm := fun _ _ _ h => Verdict.keeps_ite h.rejected (Verdict.keeps_ite h.rejected
    (((h.changeUtc (fun _ k => k.beside)).repl).finished))

theorem Keeps.execUtcOffset {hp : Fin 4} {mb : Fin 8} (h : Keeps V s) : Answers V (execUtcOffset hp mb s) := by
  unfold Machine.execUtcOffset
  exact h.omend utcOffsetForm.calm

theorem Keeps.refuseLeap {reason : Nat} (h : Keeps V s) : (s.refuseLeap reason).keeps V := by
  unfold State.refuseLeap
  exact h.raise.refused

theorem Keeps.leapCancel (h : Keeps V s) : s.leapCancel.keeps V := by
  unfold State.leapCancel
  exact Verdict.keeps_ite h.finished (Verdict.keeps_ite h.refuseLeap h.cancelLeap.repl.finished)

theorem Keeps.leapSchedule {deletion : Bool} {mjd : Nat} (h : Keeps V s) : (s.leapSchedule deletion mjd).keeps V := by
  unfold State.leapSchedule
  exact Verdict.keeps_ite h.refuseLeap (Verdict.keeps_ite h.refuseLeap h.scheduleLeap.repl.finished)

theorem leapForm.calm : leapForm.calm := fun _ _ _ h => Verdict.keeps_ite h.rejected (Verdict.keeps_ite h.leapCancel h.leapSchedule)

theorem Keeps.execLeap {hp : Fin 4} {mb : Fin 8} (h : Keeps V s) : Answers V (execLeap hp mb s) := by
  unfold Machine.execLeap
  exact h.omend leapForm.calm

theorem smearForm.calm : smearForm.calm := fun _ _ _ h => Verdict.keeps_ite h.rejected (h.configure (fun _ => h.mapSmear.repl.finished))

theorem Keeps.execSmear {hp : Fin 4} {mb : Fin 8} (h : Keeps V s) : Answers V (execSmear hp mb s) := by
  unfold Machine.execSmear
  exact h.omend smearForm.calm

theorem boundThresholdForm.calm : boundThresholdForm.calm := fun V s c h => by
  unfold boundThresholdForm plainForm
  dsimp only
  split
  exacts [Keeps.finished h.beside, h.rejected]

theorem Keeps.execBoundThreshold {hp : Fin 4} {mb : Fin 8} (h : Keeps V s) : Answers V (execBoundThreshold hp mb s) := by
  unfold Machine.execBoundThreshold
  exact h.omend boundThresholdForm.calm

/-! #### CmdRefs.lean -/

theorem Keeps.holdChannel {ch : Nat} {d : Demand} (h : Keeps V s) : Keeps V (s.holdChannel ch d) := by
  unfold State.holdChannel
  exact Keeps.ite h h.configChannel

theorem tdcConfigForm.calm : tdcConfigForm.calm := fun _ _ _ h => Verdict.keeps_ite h.rejected (h.configure (fun _ =>
    h.configChannel.finished))

theorem Keeps.execTdcConfig {hp : Fin 4} {mb : Fin 8} (h : Keeps V s) : Answers V (execTdcConfig hp mb s) := by
  unfold Machine.execTdcConfig
  exact h.omend tdcConfigForm.calm

theorem Keeps.configSlot {i : Fin 16} {v : Cfg} (h : Keeps V s) : Keeps V (s.configSlot i v) := by
  unfold State.configSlot
  refine Keeps.ite h.mapSlot ?_
  extract_lets s1 s2 _ s3 _ s4 _ s5
  have k1 : Keeps V s1 := Keeps.ite h h.dropSlot.setSlot
  have k2 : Keeps V s2 := k1.mapSlot
  have k3 : Keeps V s3 := k2.each (fun _ _ k => k.holdChannel)
  have k4 : Keeps V s4 := Keeps.ite k3.beside k3
  have k5 : Keeps V s5 := Keeps.ite k4.beside k4
  exact k5.evaluate

theorem Keeps.alsoDo {f : State → Out} (hf : Answers V (f s)) : Keeps V (s.alsoDo f) := by
  obtain ⟨t, ht, k⟩ := hf
  unfold State.alsoDo
  rw [ht]
  exact k

theorem Keeps.refSlotVerdict {c : Cmd} (h : Keeps V s) : (refSlotVerdict s c).keeps V := by
  unfold Machine.refSlotVerdict
  exact h.configure fun _ => (Keeps.alsoDo
    (Keeps.alsoDo h.configSlot.execWtrExpiry).execConfirmExpiry).finished

theorem refConfigForm.calm : refConfigForm.calm := fun _ _ _ h => Verdict.keeps_ite h.rejected (Verdict.keeps_ite (h.configure (fun _
    => h.beside.finished)) h.refSlotVerdict)

theorem Keeps.execRefConfig {hp : Fin 4} {mb : Fin 8} (h : Keeps V s) : Answers V (execRefConfig hp mb s) := by
  unfold Machine.execRefConfig
  exact h.omend refConfigForm.calm

theorem Keeps.hostQualify {i : Fin 16} (h : Keeps V s) : Keeps V (s.hostQualify i) := by
  unfold State.hostQualify
  exact h.mapSlot.setSlot

theorem Keeps.forceSlot {i : Fin 16} (h : Keeps V s) : Keeps V (s.forceSlot i) := by
  unfold State.forceSlot
  exact h.hostQualify.beside.evaluate

theorem Keeps.slotVerdict {c : Cmd} {two : Bool} {go : Fin 16 → Verdict} (h : Keeps V s) (hg : ∀ x, (go x).keeps V) :
    (slotVerdict s c two go).keeps V := by
  unfold Machine.slotVerdict
  exact Verdict.keeps_ite h.rejected (Verdict.keeps_ite h.rejected (Verdict.keeps_ite h.rejected (hg _)))

theorem refForceForm.calm : refForceForm.calm := fun V s c h => by
  unfold refForceForm plainForm
  dsimp only
  refine h.slotVerdict fun i => Verdict.keeps_ite h.rejected (Verdict.keeps_ite (Verdict.keeps_ite h.rejected h.forceSlot.finished) ?_)
  exact Verdict.keeps_ite h.mapSlot.evaluate.finished h.rejected

theorem Keeps.execRefForce {hp : Fin 4} {mb : Fin 8} (h : Keeps V s) : Answers V (execRefForce hp mb s) := by
  unfold Machine.execRefForce
  exact h.omend refForceForm.calm

theorem refAdmitForm.calm : refAdmitForm.calm := fun V s c h => by
  unfold refAdmitForm plainForm
  dsimp only
  exact h.slotVerdict fun i => Verdict.keeps_ite h.hostQualify.evaluate.finished h.rejected

theorem Keeps.execRefAdmit {hp : Fin 4} {mb : Fin 8} (h : Keeps V s) : Answers V (execRefAdmit hp mb s) := by
  unfold Machine.execRefAdmit
  exact h.omend refAdmitForm.calm

theorem refLockoutForm.calm : refLockoutForm.calm := fun V s c h => by
  unfold refLockoutForm plainForm
  dsimp only
  exact h.slotVerdict fun i => Verdict.keeps_ite (Verdict.keeps_ite h.rejected h.lockOut.evaluate.finished) (Verdict.keeps_ite
      h.setSlot.causeGone.finished h.rejected)

theorem Keeps.execRefLockout {hp : Fin 4} {mb : Fin 8} (h : Keeps V s) : Answers V (execRefLockout hp mb s) := by
  unfold Machine.execRefLockout
  exact h.omend refLockoutForm.calm

theorem steerConfigForm.calm : steerConfigForm.calm := fun _ _ _ h => Verdict.keeps_ite h.rejected (h.configure (fun _ =>
    h.beside.finished))

theorem Keeps.execSteerConfig {hp : Fin 4} {mb : Fin 8} (h : Keeps V s) : Answers V (execSteerConfig hp mb s) := by
  unfold Machine.execSteerConfig
  exact h.omend steerConfigForm.calm

theorem Keeps.followTrackBw (h : Keeps V s) : Keeps V s.followTrackBw := by
  unfold State.followTrackBw
  exact Keeps.ite h h.beside

theorem Keeps.configFlywheel {f : Fin 3} {v : Cfg} (h : Keeps V s) : Keeps V (s.configFlywheel f v) := by
  unfold State.configFlywheel
  extract_lets _ _ s1 _ _ s3
  have k1 : Keeps V s1 := Keeps.ite h h.holdChannel
  have k3 : Keeps V s3 := k1.mapFw.followTrackBw
  exact Keeps.ite k3 (Keeps.ite (Keeps.ite k3 k3.changeFlywheel) k3.useFlywheel)

theorem flywheelConfigForm.calm : flywheelConfigForm.calm := fun _ _ _ h => Verdict.keeps_ite h.rejected (h.configure (fun _ =>
    h.configFlywheel.finished))

theorem Keeps.execFlywheelConfig {hp : Fin 4} {mb : Fin 8} (h : Keeps V s) : Answers V (execFlywheelConfig hp mb s) := by
  unfold Machine.execFlywheelConfig
  exact h.omend flywheelConfigForm.calm

theorem senseConfigForm.calm : senseConfigForm.calm := fun V s c h => by
  unfold senseConfigForm plainForm
  dsimp only
  split
  exacts [Verdict.keeps_ite h.rejected (Keeps.finished (Keeps.causeEnds h.beside)), h.rejected]

theorem Keeps.execSenseConfig {hp : Fin 4} {mb : Fin 8} (h : Keeps V s) : Answers V (execSenseConfig hp mb s) := by
  unfold Machine.execSenseConfig
  exact h.omend senseConfigForm.calm

theorem holdTargetForm.calm : holdTargetForm.calm := fun _ _ _ h => Verdict.keeps_ite h.rejected h.beside.finished

theorem Keeps.execHoldTarget {hp : Fin 4} {mb : Fin 8} (h : Keeps V s) : Answers V (execHoldTarget hp mb s) := by
  unfold Machine.execHoldTarget
  exact h.omend holdTargetForm.calm

/-! #### CmdOutputs.lean -/

theorem synthConfigForm.calm : synthConfigForm.calm := fun _ _ _ h => Verdict.keeps_ite h.rejected (h.configure (fun _ => h.stageVerdict))

theorem Keeps.execSynthConfig {hp : Fin 4} {mb : Fin 8} (h : Keeps V s) : Answers V (execSynthConfig hp mb s) := by
  unfold Machine.execSynthConfig
  exact h.omend synthConfigForm.calm

theorem outputConfigForm.calm : outputConfigForm.calm := fun _ _ _ h => Verdict.keeps_ite h.rejected (h.configure (fun _ =>
    h.mapPin.stageVerdict))

theorem Keeps.execOutputConfig {hp : Fin 4} {mb : Fin 8} (h : Keeps V s) : Answers V (execOutputConfig hp mb s) := by
  unfold Machine.execOutputConfig
  exact h.omend outputConfigForm.calm

theorem Keeps.startAlign {mode at_ rate id : Nat} {o : Fin 4} (h : Keeps V s) : Keeps V (s.startAlign mode at_ rate id o) := by
  unfold State.startAlign
  split
  exacts [h.stopAlign.mapOs, h.stopAlign.mapOs, h.stopAlign]

theorem alignPulsesForm.calm : alignPulsesForm.calm := fun _ _ _ h => Verdict.keeps_ite h.rejected (Verdict.keeps_ite h.rejected
    (by
      split
      exacts [h.raise.refused, h.accepted (fun _ _ k => Keeps.ite ((k.each (fun _ _ k1 => k1.startAlign)).complete) (k.each (fun _ _
          k1 => k1.startAlign)))]))

theorem Keeps.execAlignPulses {hp : Fin 4} {mb : Fin 8} (h : Keeps V s) : Answers V (execAlignPulses hp mb s) := by
  unfold Machine.execAlignPulses
  exact h.omend alignPulsesForm.calm

theorem Keeps.configStream {i : Fin 4} {v : Cfg} (h : Keeps V s) : Keeps V (s.configStream i v) := by
  unfold State.configStream
  refine Keeps.ite h.mapStream ?_
  extract_lets s0 _ s1 s2
  have k0 : Keeps V s0 := h.mapStream.dropChans
  have k1 : Keeps V s1 := k0.beside
  have k2 : Keeps V s2 := k1.causeGone.causeEnds
  exact Keeps.ite k2.signalLost k2

theorem gnssConfigForm.calm : gnssConfigForm.calm := fun _ _ _ h => Verdict.keeps_ite h.rejected (Verdict.keeps_ite (h.configure (fun
    _ => h.beside.finished)) (h.configure (fun _ => h.configStream.finished)))

theorem Keeps.execGnssConfig {hp : Fin 4} {mb : Fin 8} (h : Keeps V s) : Answers V (execGnssConfig hp mb s) := by
  unfold Machine.execGnssConfig
  exact h.omend gnssConfigForm.calm

theorem gnssAidForm.calm : gnssAidForm.calm := fun _ _ _ h => Verdict.keeps_ite h.rejected (Verdict.keeps_ite h.rejected
    (Verdict.keeps_ite h.rejected h.beside.finished))

theorem Keeps.execGnssAid {hp : Fin 4} {mb : Fin 8} (h : Keeps V s) : Answers V (execGnssAid hp mb s) := by
  unfold Machine.execGnssAid
  exact h.omend gnssAidForm.calm

theorem snapshotForm.calm : snapshotForm.calm := fun _ _ _ h => Verdict.keeps_ite h.rejected (Verdict.keeps_ite h.rejected
    (by
      split
      exacts [h.raise.refused, h.accepted (fun _ _ k => k.beside)]))

theorem Keeps.execSnapshot {hp : Fin 4} {mb : Fin 8} (h : Keeps V s) : Answers V (execSnapshot hp mb s) := by
  unfold Machine.execSnapshot
  exact h.omend snapshotForm.calm

theorem Keeps.copyOut {hp : Fin 4} {dst : Nat} {bytes : List Byte} (h : Keeps V s) : Keeps V (s.copyOut hp dst bytes) :=
  h.mapHostWf fun _ hx => memWf_memWriteBytes hx _ _

theorem snapshotReadForm.calm : snapshotReadForm.calm := fun _ _ _ h => Verdict.keeps_ite h.rejected (Verdict.keeps_ite h.rejected
    h.copyOut.finished)

theorem Keeps.execSnapshotRead {hp : Fin 4} {mb : Fin 8} (h : Keeps V s) : Answers V (execSnapshotRead hp mb s) := by
  unfold Machine.execSnapshotRead
  exact h.omend snapshotReadForm.calm

theorem snapshotReleaseForm.calm : snapshotReleaseForm.calm := fun _ _ _ h => Verdict.keeps_ite h.rejected h.completeOpt.beside.finished

theorem Keeps.execSnapshotRelease {hp : Fin 4} {mb : Fin 8} (h : Keeps V s) : Answers V (execSnapshotRelease hp mb s) := by
  unfold Machine.execSnapshotRelease
  exact h.omend snapshotReleaseForm.calm

theorem snapshotProcessForm.calm : snapshotProcessForm.calm := fun _ _ _ h => Verdict.keeps_ite (h.accepted (fun _ _ k => k.beside))
    h.rejected

theorem Keeps.execSnapshotProcess {hp : Fin 4} {mb : Fin 8} (h : Keeps V s) : Answers V (execSnapshotProcess hp mb s) := by
  unfold Machine.execSnapshotProcess
  exact h.omend snapshotProcessForm.calm

/-! #### CmdPorts.lean -/

theorem portConfigForm.calm : portConfigForm.calm := fun _ _ _ h => Verdict.keeps_ite h.rejected (h.configure (fun _ => h.stageVerdict))

theorem Keeps.execPortConfig {hp : Fin 4} {mb : Fin 8} (h : Keeps V s) : Answers V (execPortConfig hp mb s) := by
  unfold Machine.execPortConfig
  exact h.omend portConfigForm.calm

theorem prpConfigForm.calm : prpConfigForm.calm := fun _ _ _ h => Verdict.keeps_ite h.rejected (h.configure (fun _ => h.stageVerdict))

theorem Keeps.execPrpConfig {hp : Fin 4} {mb : Fin 8} (h : Keeps V s) : Answers V (execPrpConfig hp mb s) := by
  unfold Machine.execPrpConfig
  exact h.omend prpConfigForm.calm

theorem hlRuleForm.calm : hlRuleForm.calm := fun _ _ _ h => Verdict.keeps_ite h.rejected (h.configure (fun _ => h.beside.repl.finished))

theorem Keeps.execHlRule {hp : Fin 4} {mb : Fin 8} (h : Keeps V s) : Answers V (execHlRule hp mb s) := by
  unfold Machine.execHlRule
  exact h.omend hlRuleForm.calm

theorem esmcConfigForm.calm : esmcConfigForm.calm := fun _ _ _ h => Verdict.keeps_ite h.rejected (h.configure (fun _ =>
    h.beside.repl.finished))

theorem Keeps.execEsmcConfig {hp : Fin 4} {mb : Fin 8} (h : Keeps V s) : Answers V (execEsmcConfig hp mb s) := by
  unfold Machine.execEsmcConfig
  exact h.omend esmcConfigForm.calm

theorem instanceConfigForm.calm : instanceConfigForm.calm := fun _ _ _ h => Verdict.keeps_ite h.rejected (h.configure (fun _ =>
    h.stageVerdict))

theorem Keeps.execInstanceConfig {hp : Fin 4} {mb : Fin 8} (h : Keeps V s) : Answers V (execInstanceConfig hp mb s) := by
  unfold Machine.execInstanceConfig
  exact h.omend instanceConfigForm.calm

/-! #### CmdKeys.lean -/

theorem Keeps.replKey {sa : Bool} {slot : Fin 64} {r : KeyRecord} (h : Keeps V s) : Keeps V (s.replKey sa slot r) := by
  unfold State.replKey
  split
  exacts [h.repl, h]

theorem keyLoadForm.calm : keyLoadForm.calm := fun _ _ _ h => Verdict.keeps_ite h.rejected (Verdict.keeps_ite h.rejected
    (Verdict.keeps_ite h.rejected (Verdict.keeps_ite h.rejected
    (by
      split
      exacts [h.keyRefused.refused, h.storeKey.replKey.finished]))))

theorem Keeps.execKeyLoad {hp : Fin 4} {mb : Fin 8} (h : Keeps V s) : Answers V (execKeyLoad hp mb s) := by
  unfold Machine.execKeyLoad
  exact h.omend keyLoadForm.calm

theorem keyStateForm.calm : keyStateForm.calm := fun _ _ _ h => by
  refine Verdict.keeps_ite h.rejected (Verdict.keeps_ite h.rejected ?_)
  split
  · exact h.keyRefused.refused
  · exact Keeps.finished (h.changeKey ‹_›).replState

theorem Keeps.execKeyState {hp : Fin 4} {mb : Fin 8} (h : Keeps V s) : Answers V (execKeyState hp mb s) := by
  unfold Machine.execKeyState
  exact h.omend keyStateForm.calm

theorem keyWrapForm.calm : keyWrapForm.calm := fun _ _ _ h => Verdict.keeps_ite h.rejected (Verdict.keeps_ite h.rejected
    (Verdict.keeps_ite h.keyRefused.refused
    (by
      split
      exacts [h.keyRefused.refused, h.finished])))

theorem Keeps.execKeyWrap {hp : Fin 4} {mb : Fin 8} (h : Keeps V s) : Answers V (execKeyWrap hp mb s) := by
  unfold Machine.execKeyWrap
  exact h.omend keyWrapForm.calm

theorem zeroiseForm.calm : zeroiseForm.calm := fun _ _ _ h => h.zeroiseKeys.repl.finished

theorem Keeps.execZeroise {hp : Fin 4} {mb : Fin 8} (h : Keeps V s) : Answers V (execZeroise hp mb s) := by
  unfold Machine.execZeroise
  exact h.omend zeroiseForm.calm

theorem pairKeyForm.calm : pairKeyForm.calm := fun _ _ _ h => Verdict.keeps_ite h.rejected
    (by
      split
      exacts [h.beside.followNoKey.finished, h.refused])

theorem Keeps.execPairKey {hp : Fin 4} {mb : Fin 8} (h : Keeps V s) : Answers V (execPairKey hp mb s) := by
  unfold Machine.execPairKey
  exact h.omend pairKeyForm.calm

/-! #### CmdTwin.lean -/

theorem Keeps.configTwin {v : Cfg} (h : Keeps V s) : Keeps V (s.configTwin v) := by
  unfold State.configTwin
  exact Keeps.ite h.beside h.beside

theorem twinConfigForm.calm : twinConfigForm.calm := fun _ _ _ h => Verdict.keeps_ite h.rejected (h.configure (fun _ =>
    h.configTwin.followTwin.finished))

theorem Keeps.execTwinConfig {hp : Fin 4} {mb : Fin 8} (h : Keeps V s) : Answers V (execTwinConfig hp mb s) := by
  unfold Machine.execTwinConfig
  exact h.omend twinConfigForm.calm

theorem twinCalibrateForm.calm : twinCalibrateForm.calm := fun _ _ _ h => Verdict.keeps_ite h.rejected (Verdict.keeps_ite h.rejected
    (Verdict.keeps_ite (h.accepted (fun _ _ k => k.beside)) h.raise.rejected))

theorem Keeps.execTwinCalibrate {hp : Fin 4} {mb : Fin 8} (h : Keeps V s) : Answers V (execTwinCalibrate hp mb s) := by
  unfold Machine.execTwinCalibrate
  exact h.omend twinCalibrateForm.calm

theorem twinHandoverForm.calm : twinHandoverForm.calm := fun _ _ _ h => Verdict.keeps_ite (h.accepted (fun _ _ k => k.beside)) h.rejected

theorem Keeps.execTwinHandover {hp : Fin 4} {mb : Fin 8} (h : Keeps V s) : Answers V (execTwinHandover hp mb s) := by
  unfold Machine.execTwinHandover
  exact h.omend twinHandoverForm.calm

theorem twinAdmitForm.calm : twinAdmitForm.calm := fun _ _ _ h => Verdict.keeps_ite h.setRole.followTwin.finished h.rejected

theorem Keeps.execTwinAdmit {hp : Fin 4} {mb : Fin 8} (h : Keeps V s) : Answers V (execTwinAdmit hp mb s) := by
  unfold Machine.execTwinAdmit
  exact h.omend twinAdmitForm.calm

theorem twinWitnessForm.calm : twinWitnessForm.calm := fun _ _ _ h => Verdict.keeps_ite h.rejected (Verdict.keeps_ite
    h.witnessAnswer.finished h.rejected)

theorem Keeps.execTwinWitness {hp : Fin 4} {mb : Fin 8} (h : Keeps V s) : Answers V (execTwinWitness hp mb s) := by
  unfold Machine.execTwinWitness
  exact h.omend twinWitnessForm.calm

/-! #### CmdGrid.lean -/

theorem gridConfigForm.calm : gridConfigForm.calm := fun _ _ _ h => Verdict.keeps_ite h.rejected (h.configure (fun _ =>
    h.mapFeed.stageVerdict))

theorem Keeps.execGridConfig {hp : Fin 4} {mb : Fin 8} (h : Keeps V s) : Answers V (execGridConfig hp mb s) := by
  unfold Machine.execGridConfig
  exact h.omend gridConfigForm.calm

theorem gridTimeForm.calm : gridTimeForm.calm := fun _ _ _ h => Verdict.keeps_ite h.rejected (Verdict.keeps_ite h.rejected
    h.mapFeed.finished)

theorem Keeps.execGridTime {hp : Fin 4} {mb : Fin 8} (h : Keeps V s) : Answers V (execGridTime hp mb s) := by
  unfold Machine.execGridTime
  exact h.omend gridTimeForm.calm

theorem cpConfigForm.calm : cpConfigForm.calm := fun _ _ _ h => Verdict.keeps_ite h.rejected (h.configure (fun _ => h.stageVerdict))

theorem Keeps.execCpConfig {hp : Fin 4} {mb : Fin 8} (h : Keeps V s) : Answers V (execCpConfig hp mb s) := by
  unfold Machine.execCpConfig
  exact h.omend cpConfigForm.calm

theorem Keeps.cancelStarts {l : List (Fin 8)} (h : Keeps V s) : Keeps V (s.cancelStarts l) := by
  unfold State.cancelStarts
  exact h.beside.each (fun _ _ k => k.complete)

theorem cpStartForm.calm : cpStartForm.calm := fun _ _ _ h => Verdict.keeps_ite h.rejected
    (by
      split
      exacts [h.refused, h.accepted (fun _ _ k => Keeps.ite ((k.cancelStarts.each (fun _ _ k1 => k1.mapCp)).complete)
          (k.cancelStarts.each (fun _ _ k1 => k1.mapCp)))])

theorem Keeps.execCpStart {hp : Fin 4} {mb : Fin 8} (h : Keeps V s) : Answers V (execCpStart hp mb s) := by
  unfold Machine.execCpStart
  exact h.omend cpStartForm.calm

theorem cpStopForm.calm : cpStopForm.calm := fun _ _ _ h => h.accepted (fun _ _ k => (k.cancelStarts.each (fun _ _ k1 =>
    k1.mapCp)).stopsDone)

theorem Keeps.execCpStop {hp : Fin 4} {mb : Fin 8} (h : Keeps V s) : Answers V (execCpStop hp mb s) := by
  unfold Machine.execCpStop
  exact h.omend cpStopForm.calm

theorem cpReadForm.calm : cpReadForm.calm := fun _ _ _ h => Verdict.keeps_ite h.rejected (Verdict.keeps_ite h.rejected h.copyOut.finished)

theorem Keeps.execCpRead {hp : Fin 4} {mb : Fin 8} (h : Keeps V s) : Answers V (execCpRead hp mb s) := by
  unfold Machine.execCpRead
  exact h.omend cpReadForm.calm

theorem Keeps.writeTxBlocks {hp : Fin 4} {p : Fin 8} {n src : Nat} (h : Keeps V s) : Keeps V (s.writeTxBlocks hp p n src) :=
  h.buffer fun hb => List.foldlRecOn (motive := (memWf · = true)) _ _ hb fun _ k _ _ => memWf_memWriteBytes k _ _

theorem cpWriteForm.calm : cpWriteForm.calm := fun _ _ _ h => Verdict.keeps_ite h.rejected (Verdict.keeps_ite h.rejected
    h.writeTxBlocks.finished)

theorem Keeps.execCpWrite {hp : Fin 4} {mb : Fin 8} (h : Keeps V s) : Answers V (execCpWrite hp mb s) := by
  unfold Machine.execCpWrite
  exact h.omend cpWriteForm.calm

/-! #### CmdLog.lean -/

theorem faultClearForm.calm : faultClearForm.calm := fun _ _ _ h => h.faultClear.finished

theorem Keeps.execFaultClear {hp : Fin 4} {mb : Fin 8} (h : Keeps V s) : Answers V (execFaultClear hp mb s) := by
  unfold Machine.execFaultClear
  exact h.omend faultClearForm.calm

theorem Keeps.setReaction {k : FaultKind} {r : Nat} (h : Keeps V s) : Keeps V (s.setReaction k r) := by
  unfold State.setReaction
  exact h.beside

theorem faultReactionForm.calm : faultReactionForm.calm := fun V s c h => by
  unfold faultReactionForm plainForm
  dsimp only
  split
  exacts [h.rejected, Verdict.keeps_ite h.rejected (Verdict.keeps_ite h.rejected (Verdict.keeps_ite h.rejected h.setReaction.finished))]

theorem Keeps.execFaultReaction {hp : Fin 4} {mb : Fin 8} (h : Keeps V s) : Answers V (execFaultReaction hp mb s) := by
  unfold Machine.execFaultReaction
  exact h.omend faultReactionForm.calm

theorem logReadForm.calm : logReadForm.calm := fun _ _ _ h => h.copyOut.finished

theorem Keeps.execLogRead {hp : Fin 4} {mb : Fin 8} (h : Keeps V s) : Answers V (execLogRead hp mb s) := by
  unfold Machine.execLogRead
  exact h.omend logReadForm.calm

theorem counterPermitForm.calm : counterPermitForm.calm := fun _ _ _ h => Verdict.keeps_ite h.rejected h.beside.finished

theorem Keeps.execCounterPermit {hp : Fin 4} {mb : Fin 8} (h : Keeps V s) : Answers V (execCounterPermit hp mb s) := by
  unfold Machine.execCounterPermit
  exact h.omend counterPermitForm.calm

theorem counterWindowForm.calm : counterWindowForm.calm := fun _ _ _ h => Verdict.keeps_ite h.rejected h.beside.finished

theorem Keeps.execCounterWindow {hp : Fin 4} {mb : Fin 8} (h : Keeps V s) : Answers V (execCounterWindow hp mb s) := by
  unfold Machine.execCounterWindow
  exact h.omend counterWindowForm.calm

theorem counterDumpForm.calm : counterDumpForm.calm := fun _ _ _ h => Verdict.keeps_ite h.rejected (Verdict.keeps_ite h.rejected
    (Verdict.keeps_ite h.rejected (Verdict.keeps_ite h.rejected h.mapHost.finished)))

theorem Keeps.execCounterDump {hp : Fin 4} {mb : Fin 8} (h : Keeps V s) : Answers V (execCounterDump hp mb s) := by
  unfold Machine.execCounterDump
  exact h.omend counterDumpForm.calm

theorem Keeps.startImage (h : Keeps V s) : Keeps V s.startImage := by
  unfold State.startImage
  exact h.beside

theorem fwWriteForm.calm : fwWriteForm.calm := fun _ _ _ h => Verdict.keeps_ite h.rejected (Verdict.keeps_ite h.rejected
    (Verdict.keeps_ite h.rejected (Verdict.keeps_ite h.rejected ((Keeps.ite h.startImage h).beside))))

theorem Keeps.execFwWrite {hp : Fin 4} {mb : Fin 8} (h : Keeps V s) : Answers V (execFwWrite hp mb s) := by
  unfold Machine.execFwWrite
  exact h.omend fwWriteForm.calm

theorem Keeps.execFwWriteDone (h : Keeps V s) : Answers V (execFwWriteDone s) := by
  unfold Machine.execFwWriteDone
  split
  · exact h.next
  · next w _ =>
    have k : Keeps V { s with flash := s.flash.program s.mram.updateArea w } := by
      refine ⟨h.cyc, h.locked, fun c => ?_⟩
      obtain ⟨hc, ha, hb, hp⟩ := (State.memoriesWf_iff s).mp (h.memories c)
      obtain ⟨ha', hb'⟩ := Flash.program_keeps_canonical (ar := s.mram.updateArea) (w := w) ha hb
      exact (State.memoriesWf_iff _).mpr ⟨hc, ha', hb', hp⟩
    exact (Keeps.ite k k.writeResult.reply).next

theorem fwCommitForm.calm : fwCommitForm.calm := fun _ _ _ h => h.accepted (fun _ _ k => k)

theorem Keeps.execFwCommit {hp : Fin 4} {mb : Fin 8} (h : Keeps V s) : Answers V (execFwCommit hp mb s) := by
  unfold Machine.execFwCommit
  exact h.omend fwCommitForm.calm

theorem Keeps.execFwCommitDone {valid : Bool} {hdr : ImageHdr} (h : Keeps V s) : Answers V (execFwCommitDone valid hdr s) := by
  unfold Machine.execFwCommitDone
  split
  exacts [h.next, Answers.ite h.beside.complete.next h.complete.next]

/-! #### Operands.lean -/

theorem Keeps.directWord {group offset : Nat} (h : Keeps V s) : Keeps V (s.directWord group offset).1 := by
  unfold State.directWord
  split
  exacts [h, h.drawn]

theorem Keeps.directRead {group offset : Nat} (h : Keeps V s) : Keeps V (s.directRead group offset).1 := by
  unfold State.directRead
  split
  exacts [h, h, h.directWord]

theorem Keeps.directPut {group offset : Nat} {v : Word} (h : Keeps V s) : Keeps V (s.directPut group offset v) := by
  unfold State.directPut
  exact h.beside.raise

theorem Keeps.directWrite {group offset : Nat} {v : Word} (h : Keeps V s) : Keeps V (s.directWrite group offset v).1 := by
  unfold State.directWrite
  split
  exacts [h, h, Keeps.ite h.raise h.directPut, h.directPut, (h.raise : Keeps V (s.raise Flt.directWrite _))]

theorem Keeps.dwAdvance {hp : Fin 4} (h : Keeps V s) : Keeps V (s.dwAdvance hp) :=
  h.mapHost fun x => by split <;> rfl

theorem Keeps.dwError {hp : Fin 4} (h : Keeps V s) : Keeps V (s.dwError hp) := by
  unfold State.dwError
  exact h.mapHost

theorem Keeps.readDw {hp : Fin 4} (h : Keeps V s) : Keeps V (s.readDw hp).1 := by
  unfold State.readDw
  refine Keeps.iteFst (h.raise : Keeps V (s.raise Flt.directDenied _)) (Keeps.iteFst h ?_)
  have k := h.directRead (group := s.hosts[hp].dwGroup) (offset := s.hosts[hp].dwOffset)
  dsimp only
  split <;> rename_i hr <;> rw [hr] at k
  exacts [(k.dwAdvance : Keeps V (State.dwAdvance _ _)), (k.dwError.dwAdvance : Keeps V (State.dwAdvance _ _))]

theorem Keeps.dwGuard {hp : Fin 4} {addr : Nat} {f : State → State} (h : Keeps V s) (hf : ∀ x0, Keeps V x0 → Keeps V (f x0)) : Keeps
    V (s.dwGuard hp addr f) := by
  unfold State.dwGuard
  exact Keeps.ite h.denied (Keeps.ite h.raise (hf _ h))

theorem Keeps.writeDwCtrl {hp : Fin 4} {v : Word} (h : Keeps V s) : Keeps V (s.writeDwCtrl hp v) := by
  unfold State.writeDwCtrl
  refine h.dwGuard fun t k => ?_
  exact Keeps.ite (Keeps.beside (s := t.mapHost hp fun h => { h with dwAutoInc := v.getLsbD 0 }) k.mapHost) k.mapHost

theorem Keeps.writeDwAddr {hp : Fin 4} {v : Word} (h : Keeps V s) : Keeps V (s.writeDwAddr hp v) := by
  unfold State.writeDwAddr
  exact h.dwGuard (fun _ k => k.mapHost)

theorem Keeps.writeDw {hp : Fin 4} {v : Word} (h : Keeps V s) : Keeps V (s.writeDw hp v) := by
  unfold State.writeDw
  refine h.dwGuard fun t kt => ?_
  have k := kt.directWrite (group := t.hosts[hp].dwGroup) (offset := t.hosts[hp].dwOffset) (v := v)
  dsimp only
  split <;> rename_i hr <;> rw [hr] at k
  exacts [k.dwAdvance, k.dwError.dwAdvance]

theorem Keeps.readReg {hp : Fin 4} {a : Nat} (h : Keeps V s) : Keeps V (s.readReg hp a).1 := by
  unfold State.readReg
  exact Keeps.iteFst h.readDw (Keeps.iteFst h.readOmb (Keeps.iteFst h.readLock (Keeps.iteFst h.beside h)))

theorem Keeps.writeHlStatus {l : Fin 2} {v : Word} (h : Keeps V s) : Keeps V (s.writeHlStatus l v) := by
  unfold State.writeHlStatus
  exact Keeps.ite h.mapLane.causeEnds h.mapLane

theorem Keeps.writeHlBase {l : Fin 2} {addr : Nat} {f : Lane → Lane} (h : Keeps V s) : Keeps V (s.writeHlBase l addr f) := by
  unfold State.writeHlBase
  exact Keeps.ite h.raise h.mapLane

theorem Keeps.writeLaneReg {l : Fin 2} {a : Nat} {v : Word} (h : Keeps V s) : Keeps V (s.writeLaneReg l a v) := by
  unfold State.writeLaneReg
  split
  · exact h.writeHlCtrl
  · exact h.writeHlStatus
  · exact h.writeHlBase
  · exact h.writeHlBase
  · exact h.writeProd
  · exact h.writeHlBase
  · exact h.writeHlBase
  · exact h.writeProd
  · exact h

theorem Keeps.writePortReg {hp : Fin 4} {p : Fin 8} {b : Nat} {v : Word} (h : Keeps V s) : Keeps V (s.writePortReg hp p b v) := by
  unfold State.writePortReg
  split
  exacts [h.writeTsqRd, Keeps.ite h.denied h.mapPort, h.mapHost, h.mapHost, h]

theorem Keeps.writeGridReg {hp : Fin 4} {a : Nat} {v : Word} (h : Keeps V s) : Keeps V (s.writeGridReg hp a v) := by
  unfold State.writeGridReg
  exact Keeps.ite h.writeGqRd (Keeps.ite h.mapHost (Keeps.ite (by split; exacts [h.writeCpRxRd, h.writeCpTxWr, h]) h))

theorem Keeps.writeHostReg {hp : Fin 4} {a : Nat} {v : Word} (h : Keeps V s) : Keeps V (s.writeHostReg hp a v) := by
  unfold State.writeHostReg
  split
  · exact h.mapHost
  · exact h.writeMask
  · exact h.mapHost
  · exact h.writeMask
  · exact h.writePeerRing
  · exact h.writeHpReset
  · exact h.mapHost
  · exact h.writeNqRd
  · exact h.mapHost
  · exact Keeps.ite h.writeImb (Keeps.ite h.writeLock h)

theorem Keeps.writeSystemReg {hp : Fin 4} {a : Nat} {v : Word} (h : Keeps V s) : Keeps V (s.writeSystemReg hp a v) := by
  unfold State.writeSystemReg
  split
  · exact h.writeStrobe
  · exact h.writeDwCtrl
  · exact h.writeDwAddr
  · exact h.writeDw
  · exact Keeps.ite h.mapHost h
  · exact Keeps.ite h.writeGroupCtrl h

theorem Keeps.writeReg {hp : Fin 4} {a : Nat} {v : Word} (h : Keeps V s) : Keeps V (s.writeReg hp a v) := by
  unfold State.writeReg
  refine Keeps.ite h.writeSystemReg ?_
  refine Keeps.ite h.writeHostReg ?_
  refine Keeps.ite h.requestCapture ?_
  refine Keeps.ite h.hostCoverage ?_
  refine Keeps.ite h.writeEvqRd ?_
  refine Keeps.ite h.mapHost ?_
  refine Keeps.ite h.writeGridReg ?_
  refine Keeps.ite h.writePortReg ?_
  exact Keeps.ite (by split; exacts [h.writeLaneReg, h]) (Keeps.ite (Keeps.ite h.mapHost h) h)

theorem Keeps.writeAt {hp : Fin 4} {addr : Nat} {v : Word} (h : Keeps V s) : Keeps V (s.writeAt hp addr v) := by
  unfold State.writeAt
  exact Keeps.ite h.writeReg h.writeReg

theorem Keeps.readLegal {hp : Fin 4} {acc : Access} (h : Keeps V s) : Keeps V (s.readLegal hp acc).1 := by
  unfold State.readLegal
  exact Keeps.iteFst h.readReg.readReg (Keeps.iteFst h.readReg h.readReg)

theorem Keeps.writeLegal {hp : Fin 4} {acc : Access} {v : BitVec 64} (h : Keeps V s) : Keeps V (s.writeLegal hp acc v) := by
  unfold State.writeLegal
  exact Keeps.ite h.writeAt.writeAt h.writeAt

theorem Keeps.failRead {hp : Fin 4} (h : Keeps V s) : Keeps V (s.failRead hp) := by
  unfold State.failRead
  exact Keeps.ite h.emit h.emit

theorem Keeps.busRead {hp : Fin 4} {acc : Access} (h : Keeps V s) : Keeps V (s.busRead hp acc) := by
  unfold State.busRead
  split
  exacts [h.busError.failRead, Keeps.foldl h.readLegal (fun _ _ k => k.emit)]

theorem Keeps.busWrite {hp : Fin 4} {acc : Access} {v : BitVec 64} (h : Keeps V s) : Keeps V (s.busWrite hp acc v) := by
  unfold State.busWrite
  split
  exacts [h.busError, h.writeLegal]

theorem Keeps.writeParcel {hp : Fin 4} {offset : Nat} {data : List Byte} (h : Keeps V s) : Keeps V (s.writeParcel hp offset data) :=
  Keeps.ite h.drawn.busError (h.mapHostWf fun _ hx => memWf_memWriteBytes hx _ _)

theorem Keeps.spiPut {hp : Fin 4} {addr : Nat} {v : Word} (h : Keeps V s) : Keeps V (s.spiPut hp addr v) := by
  unfold State.spiPut
  split
  exacts [h.busWrite, h.writeParcel, h.busError]

theorem Keeps.spiGet {hp : Fin 4} {addr : Nat} (h : Keeps V s) : Keeps V (s.spiGet hp addr) := by
  unfold State.spiGet
  split
  exacts [h.busRead, h.emit, h.busError.emit]

theorem Keeps.spiBusError {hp : Fin 4} {addr cause : Nat} {write : Bool} (h : Keeps V s) : Keeps V (s.spiBusError hp addr cause write) := by
  unfold State.spiBusError
  exact h.busError

/-! #### Registers.lean -/

theorem Keeps.execSpiWrite {hp : Fin 4} {addr : Nat} {words : List Word} (h : Keeps V s) : Answers V (execSpiWrite hp addr words s) := by
  unfold Machine.execSpiWrite
  exact Answers.ite h.next (h.opened (Keeps.ite h.spiBusError (h.each (fun _ _ k => k.spiPut))))

theorem Keeps.execSpiRead {hp : Fin 4} {addr count : Nat} (h : Keeps V s) : Answers V (execSpiRead hp addr count s) := by
  unfold Machine.execSpiRead
  refine Answers.ite h.next ?_
  refine Answers.ite ((h.emit.each (fun _ _ k => k.emit)).next) ?_
  refine Answers.ite ((h.emit.spiBusError.each (fun _ _ k => k.emit)).next) ?_
  exact (h.emit.each (fun _ _ k => k.spiGet)).next

theorem Keeps.execSpiStatus {hp : Fin 4} (h : Keeps V s) : Answers V (execSpiStatus hp s) := by
  unfold Machine.execSpiStatus
  exact Answers.ite h.next h.emit.mapHost.next

theorem Keeps.execSpiBadOpcode {hp : Fin 4} (h : Keeps V s) : Answers V (execSpiBadOpcode hp s) := by
  unfold Machine.execSpiBadOpcode
  exact Answers.ite h.next h.mapHost.next

theorem Keeps.execSpiCsCut {hp : Fin 4} {addr : Nat} {write : Bool} (h : Keeps V s) : Answers V (execSpiCsCut hp addr write s) := by
  unfold Machine.execSpiCsCut
  exact Answers.ite h.next (h.opened h.mapHost.spiBusError)

theorem Keeps.execRegisterWrite {hp : Fin 4} {acc : Access} {v : BitVec 64} (h : Keeps V s) : Answers V (execRegisterWrite hp acc v s) := by
  unfold Machine.execRegisterWrite
  exact h.opened h.busWrite

theorem Keeps.execAliasSetWrite {hp : Fin 4} {acc : Access} {v : Word} (h : Keeps V s) : Answers V (execAliasSetWrite hp acc v s) := by
  unfold Machine.execAliasSetWrite
  exact h.opened h.busWrite

theorem Keeps.execAliasClearWrite {hp : Fin 4} {acc : Access} {v : Word} (h : Keeps V s) : Answers V (execAliasClearWrite hp acc v s) := by
  unfold Machine.execAliasClearWrite
  exact h.opened h.busWrite

theorem Keeps.execAliasToggleWrite {hp : Fin 4} {acc : Access} {v : Word} (h : Keeps V s) : Answers V (execAliasToggleWrite hp acc v
    s) := by
  unfold Machine.execAliasToggleWrite
  exact h.opened h.busWrite

theorem Keeps.execRegisterRead {hp : Fin 4} {acc : Access} (h : Keeps V s) : Answers V (execRegisterRead hp acc s) := by
  unfold Machine.execRegisterRead
  exact Answers.ite h.busRead.next (Answers.ite h.emit.next h.next)

theorem Keeps.execPerfRead {hp : Fin 4} {acc : Access} (h : Keeps V s) : Answers V (execPerfRead hp acc s) := by
  unfold Machine.execPerfRead
  exact Answers.ite h.busRead.next (Answers.ite h.emit.next h.next)

theorem Keeps.execParcelWrite {hp : Fin 4} {offset : Nat} {data : List Byte} (h : Keeps V s) : Answers V (execParcelWrite hp offset
    data s) := by
  unfold Machine.execParcelWrite
  exact h.opened (Keeps.ite h h.writeParcel)

theorem Keeps.execDwCtrlWrite {hp : Fin 4} {v : Word} (h : Keeps V s) : Answers V (execDwCtrlWrite hp v s) := by
  unfold Machine.execDwCtrlWrite
  exact h.opened h.writeDwCtrl

theorem Keeps.execDwDataRead {hp : Fin 4} (h : Keeps V s) : Answers V (execDwDataRead hp s) := by
  unfold Machine.execDwDataRead
  exact h.openRead h.readDw

theorem Keeps.execDwDataWrite {hp : Fin 4} {v : Word} (h : Keeps V s) : Answers V (execDwDataWrite hp v s) := by
  unfold Machine.execDwDataWrite
  exact h.opened h.writeDw

/-! #### Monitor.lean -/

theorem Keeps.pokeReg {o : Nat} {v : Word} (h : Keeps V s) : Keeps V (s.pokeReg o v) := by
  unfold State.pokeReg
  exact Keeps.ite h.print (Keeps.ite h.print h.writeAt.print)

theorem Keeps.dpeekFrom {group : Nat} {l : List Nat} (h : Keeps V s) : Keeps V (State.dpeekFrom group l s) := by
  induction l generalizing s with
  | nil => exact h
  | cons o l ih =>
    have k := h.directRead (group := group) (offset := o)
    unfold State.dpeekFrom
    refine Keeps.ite h.print ?_
    split <;> rename_i hr <;> rw [hr] at k
    exacts [ih k.print, k.print]

theorem Keeps.dpeek {group o n : Nat} (h : Keeps V s) : Keeps V (s.dpeek group o n) := by
  unfold State.dpeek
  exact Keeps.ite h.print h.dpeekFrom

theorem Keeps.dpoke {group o : Nat} {v : Word} (h : Keeps V s) : Keeps V (s.dpoke group o v) := by
  have k := h.directWrite (group := group) (offset := o) (v := v)
  unfold State.dpoke
  refine Keeps.ite h.raise.print (Keeps.ite h.print ?_)
  split <;> rename_i hr <;> rw [hr] at k
  exacts [k.print, k.print]

theorem Keeps.unlockFails (h : Keeps V s) : Keeps V s.unlockFails := by
  unfold State.unlockFails
  exact h.beside

theorem Keeps.unlock {p : List Byte} (h : Keeps V s) : Keeps V (s.unlock p) := by
  unfold State.unlock
  split
  exacts [h.print, Keeps.ite h.print (Keeps.ite h.print (Keeps.ite h.beside.print h.unlockFails.print))]

theorem Keeps.printAll {l : List String} (h : Keeps V s) : Keeps V (s.printAll l) := by
  unfold State.printAll
  exact h.each (fun _ _ k => k.print)

theorem Keeps.monOwner {n : Fin 4} (h : Keeps V s) : Keeps V (s.monOwner n) := by
  unfold State.monOwner
  exact (Keeps.ite h h.newOwner).print

theorem Keeps.runLine {c : MonLine} (h : Keeps V s) : Restarts V (s.runLine c) := by
  cases c with
  | help => exact .inl h.printAll.promptAgain
  | status => exact .inl h.print.promptAgain
  | time => exact .inl h.print.promptAgain
  | bound => exact .inl h.printAll.promptAgain
  | ref => exact .inl h.printAll.promptAgain
  | fault => exact .inl h.print.promptAgain
  | faultClear => exact .inl h.faultClear.print.promptAgain
  | log => exact .inl h.printAll.promptAgain
  | twin => exact .inl h.print.promptAgain
  | unlock => exact .inl h.unlock.promptAgain
  | lock => exact .inl (Keeps.print (s := { s with mon.maintain := false }) h.beside).promptAgain
  | peek => exact .inl h.printAll.promptAgain
  | poke => exact .inl h.pokeReg.promptAgain
  | dpeek => exact .inl h.dpeek.promptAgain
  | dpoke => exact .inl h.dpoke.promptAgain
  | owner => exact .inl h.monOwner.promptAgain
  | reset => exact .inr h.print.releaseToken.innerReset

theorem Keeps.enterLine {c : MonLine} (h : Keeps V s) : Restarts V (s.enterLine c) := by
  unfold State.enterLine
  split
  · exact .inl (Keeps.ite h.print.print h.print).promptAgain
  · split
    exacts [.inl h.print.promptAgain, h.runLine]

theorem Keeps.monitored {f : State → State} (h : Keeps V s) (hf : ∀ t, Keeps V t → Restarts V (f t)) :
    ∃ t, s.monitored f = .next t ∧ Restarts V t := by
  unfold State.monitored
  split
  exacts [⟨_, rfl, hf _ h.beside⟩, ⟨_, rfl, .inl h⟩]

theorem Keeps.endLine (h : Keeps V s) : Restarts V s.endLine := by
  have k : Keeps V (({ s with mon.line := [], mon.tooLong := false } : State).monOut "\r\n") := Keeps.monOut h.beside
  unfold State.endLine
  dsimp only
  split
  · exact .inl k.print.promptAgain
  · split
    · exact .inl k.promptAgain
    · split
      exacts [.inl k.print.promptAgain, k.enterLine]

theorem Keeps.typeChar {c : Byte} (h : Keeps V s) : Keeps V (s.typeChar c) := by
  unfold State.typeChar
  exact Keeps.ite h.monOut.beside h.monOut.beside

theorem Keeps.execMonCharacter {c : Byte} (h : Keeps V s) : ∃ t, execMonCharacter c s = .next t ∧ Restarts V t := by
  refine h.monitored fun t k => ?_
  split
  · exact k.endLine
  · exact .inl (Keeps.ite k (Keeps.ite (Keeps.monOut k.beside) k.typeChar))

theorem Keeps.execMonMaintainTimeout (h : Keeps V s) : Answers V (execMonMaintainTimeout s) := by
  unfold Machine.execMonMaintainTimeout
  exact Answers.ite h.beside.next h.next

theorem Keeps.execMonUnlockWaitExpiry (h : Keeps V s) : Answers V (execMonUnlockWaitExpiry s) := by
  unfold Machine.execMonUnlockWaitExpiry
  split
  exacts [Answers.ite h.beside.next h.next, h.next]

/-! #### Step.lean -/

theorem Keeps.withFetchWord {nbits w : Nat} (h : Keeps V s) : Keeps V (s.withFetchWord nbits w) := by
  unfold State.withFetchWord
  split
  exacts [h.beside, h]

/-! ### Every command -/

/-- What follows a command: the values as they were, those after a reset, or, after the lock of the RPLL, CYC at 0. -/
def Follows (V : Vital) (i : Instr) (o : Out) : Prop :=
  ∃ t, o = .next t ∧ (Keeps V t ∨ Keeps V.fresh t ∨ (∃ n, i = .rpllLock n) ∧ Keeps ⟨0, true, V.canonical⟩ t)

theorem Answers.follows {i : Instr} {o : Out} : Answers V o → Follows V i o
  | ⟨t, ht, k⟩ => ⟨t, ht, .inl k⟩

/-- The same after a command that may reset. -/
theorem Follows.ofRestarts {i : Instr} {o : Out} : (∃ t, o = .next t ∧ Restarts V t) → Follows V i o
  | ⟨t, ht, k⟩ => ⟨t, ht, k.imp_right .inl⟩

/-- The same of the lines of the monitor. -/
theorem Keeps.execLine {i : Instr} {c : MonLine} (h : Keeps V s) : Follows V i (s.monitored fun t => t.enterLine c) :=
  .ofRestarts (h.monitored fun _ k => k.enterLine)

/-- Every command answers a next state, and it keeps the values, or resets, or is the lock of the RPLL. -/
theorem Keeps.exec (h : Keeps V s) (i : Instr) : Follows V i (exec i s) := by
  cases i with
  | powerOnDetect => obtain ⟨t, ht, k⟩ := h.execPowerOnDetect; exact ⟨t, ht, .inr (.inl k)⟩
  | powerOnDetectRelease => exact h.execPowerOnDetectRelease.follows
  | resetNLow => exact .ofRestarts h.execResetNLow
  | resetNHigh => exact h.execResetNHigh.follows
  | rpllLock n => obtain ⟨t, ht, k⟩ := h.execRpllLock (n := n); exact ⟨t, ht, k.imp_right fun k => .inr ⟨⟨n, rfl⟩, k⟩⟩
  | rpllLockTimeout => exact h.execRpllLockTimeout.follows
  | bootImageReadDone => exact h.execBootImageReadDone.follows
  | initComplete => exact h.execInitComplete.follows
  | watchdogExpiry => exact .ofRestarts h.execWatchdogExpiry
  | warmupTimeExpiry => exact h.execWarmupTimeExpiry.follows
  | rpllLossOfLock => exact h.execRpllLossOfLock.follows
  | lockstepMismatch => exact h.execLockstepMismatch.follows
  | vddDroopDetect => exact h.execVddDroopDetect.follows
  | sramEccError => exact h.execSramEccError.follows
  | collectorSelfFault => exact h.execCollectorSelfFault.follows
  | debugUnlock => exact h.execDebugUnlock.follows
  | warmResetStart => exact .ofRestarts h.execWarmResetStart
  | conversionSetEffect => exact h.execConversionSetEffect.follows
  | leapAtReached => exact h.execLeapAtReached.follows
  | smearRampStart => exact h.execSmearRampStart.follows
  | smearRampEnd => exact h.execSmearRampEnd.follows
  | checkpointWrite => exact h.execCheckpointWrite.follows
  | boundRecompute => exact h.execBoundRecompute.follows
  | coverageWrite => exact h.execCoverageWrite.follows
  | captureRequest => exact h.execCaptureRequest.follows
  | captureComplete => exact h.execCaptureComplete.follows
  | ptmRequest => exact h.execPtmRequest.follows
  | tdcEdge => exact h.execTdcEdge.follows
  | deglitchAccept => exact h.execDeglitchAccept.follows
  | windowClose => exact h.execWindowClose.follows
  | intervalTimeout => exact h.execIntervalTimeout.follows
  | gateEnd => exact h.execGateEnd.follows
  | tdcCalComplete => exact h.execTdcCalComplete.follows
  | delayLineSwap => exact h.execDelayLineSwap.follows
  | tdcTableStale => exact h.execTdcTableStale.follows
  | tempSlewCheck => exact h.execTempSlewCheck.follows
  | recordBuild => exact h.execRecordBuild.follows
  | evqRdWrite => exact h.execEvqRdWrite.follows
  | refMeasurement => exact h.execRefMeasurement.follows
  | clockSignalLoss => exact h.execClockSignalLoss.follows
  | wtrExpiry => exact h.execWtrExpiry.follows
  | confirmExpiry => exact h.execConfirmExpiry.follows
  | wvEvaluate => exact h.execWvEvaluate.follows
  | disputeEvaluate => exact h.execDisputeEvaluate.follows
  | irigbFrameDecode => exact h.execIrigbFrameDecode.follows
  | todFrameDecode => exact h.execTodFrameDecode.follows
  | ptpSlotMessage => exact h.execPtpSlotMessage.follows
  | ptpSlotTimeout => exact h.execPtpSlotTimeout.follows
  | esmcPduReceive => exact h.execEsmcPduReceive.follows
  | esmcTimeout => exact h.execEsmcTimeout.follows
  | feedforwardUpdate => exact h.execFeedforwardUpdate.follows
  | loopSlewPersist => exact h.execLoopSlewPersist.follows
  | senseReadCycle => exact h.execSenseReadCycle.follows
  | senseReadResult => exact h.execSenseReadResult.follows
  | senseRetry => exact h.execSenseRetry.follows
  | forecastObservation => exact h.execForecastObservation.follows
  | hourlyRefit => exact h.execHourlyRefit.follows
  | dailyRefit => exact h.execDailyRefit.follows
  | modelAgeExpiry => exact h.execModelAgeExpiry.follows
  | tempGapExpiry => exact h.execTempGapExpiry.follows
  | synthApplyMarker => exact h.execSynthApplyMarker.follows
  | synthLockDone => exact h.execSynthLockDone.follows
  | synthLossOfLock => exact h.execSynthLossOfLock.follows
  | synthRelockAttempt => exact h.execSynthRelockAttempt.follows
  | pulseEdge => exact h.execPulseEdge.follows
  | irigbOutputFrame => exact h.execIrigbOutputFrame.follows
  | todFrameSend => exact h.execTodFrameSend.follows
  | alignStepExecute => exact h.execAlignStepExecute.follows
  | walkComplete => exact h.execWalkComplete.follows
  | streamHealthCheck => exact h.execStreamHealthCheck.follows
  | acqDwellComplete => exact h.execAcqDwellComplete.follows
  | acqVerifyComplete => exact h.execAcqVerifyComplete.follows
  | trackChannelLost => exact h.execTrackChannelLost.follows
  | gnssEpoch => exact h.execGnssEpoch.follows
  | gnssSolutionComplete => exact h.execGnssSolutionComplete.follows
  | gnssStartTimeout => exact h.execGnssStartTimeout.follows
  | exclusionExpiry => exact h.execExclusionExpiry.follows
  | surveyTimeEnd => exact h.execSurveyTimeEnd.follows
  | notchSpectrum => exact h.execNotchSpectrum.follows
  | jnReport => exact h.execJnReport.follows
  | ephRefreshLimit => exact h.execEphRefreshLimit.follows
  | snapshotModeCapture => exact h.execSnapshotModeCapture.follows
  | snapshotCaptureStart => exact h.execSnapshotCaptureStart.follows
  | snapshotCaptureComplete => exact h.execSnapshotCaptureComplete.follows
  | snapshotProcessComplete => exact h.execSnapshotProcessComplete.follows
  | frameReceive => exact h.execFrameReceive.follows
  | linkUp => exact h.execLinkUp.follows
  | linkLoss => exact h.execLinkLoss.follows
  | portConfigApply => exact h.execPortConfigApply.follows
  | frameLaunch => exact h.execFrameLaunch.follows
  | prpEntryForget => exact h.execPrpEntryForget.follows
  | tsqRdWrite => exact h.execTsqRdWrite.follows
  | requestDispatch => exact h.execRequestDispatch.follows
  | squallHoldTimeout => exact h.execSquallHoldTimeout.follows
  | squallParityError => exact h.execSquallParityError.follows
  | squallWorkComplete => exact h.execSquallWorkComplete.follows
  | periodicMessage => exact h.execPeriodicMessage.follows
  | esmcEventPdu => exact h.execEsmcEventPdu.follows
  | grantExpiry => exact h.execGrantExpiry.follows
  | garpRepeat => exact h.execGarpRepeat.follows
  | hlRxProdWrite => exact h.execHlRxProdWrite.follows
  | hlTxProdWrite => exact h.execHlTxProdWrite.follows
  | hlTxFetch => exact h.execHlTxFetch.follows
  | hlCtrlWrite => exact h.execHlCtrlWrite.follows
  | hlDmaComplete => exact h.execHlDmaComplete.follows
  | keyExpiry => exact h.execKeyExpiry.follows
  | keyDrainComplete => exact h.execKeyDrainComplete.follows
  | drbgReseed => exact h.execDrbgReseed.follows
  | entropyTestFail => exact h.execEntropyTestFail.follows
  | drbgResume => exact h.execDrbgResume.follows
  | sketchRollover => exact h.execSketchRollover.follows
  | mainsLossTimeout => exact h.execMainsLossTimeout.follows
  | gteGapExpiry => exact h.execGteGapExpiry.follows
  | gqRdWrite => exact h.execGqRdWrite.follows
  | cpFrameSync => exact h.execCpFrameSync.follows
  | cpRateMeasure => exact h.execCpRateMeasure.follows
  | cpStartExecute => exact h.execCpStartExecute.follows
  | cpRxRdWrite => exact h.execCpRxRdWrite.follows
  | cpTxWrWrite => exact h.execCpTxWrWrite.follows
  | ttFrameSend => exact h.execTtFrameSend.follows
  | ttFrameReceive => exact h.execTtFrameReceive.follows
  | twinOffsetDeliver => exact h.execTwinOffsetDeliver.follows
  | heartbeatSend => exact h.execHeartbeatSend.follows
  | heartbeatReceive => exact h.execHeartbeatReceive.follows
  | pathSilence => exact h.execPathSilence.follows
  | witnessWaitExpiry => exact h.execWitnessWaitExpiry.follows
  | discoverTimeExpiry => exact h.execDiscoverTimeExpiry.follows
  | bulkTransferComplete => exact h.execBulkTransferComplete.follows
  | bulkTransferTimeout => exact h.execBulkTransferTimeout.follows
  | replReceive => exact h.execReplReceive.follows
  | balandouLinkUp => exact h.execBalandouLinkUp.follows
  | balandouLinkLoss => exact h.execBalandouLinkLoss.follows
  | twinCalibrateComplete => exact h.execTwinCalibrateComplete.follows
  | ombRead => exact h.execOmbRead.follows
  | mbStallTimeout => exact h.execMbStallTimeout.follows
  | nqRdWrite => exact h.execNqRdWrite.follows
  | peerRingWrite => exact h.execPeerRingWrite.follows
  | hpResetWrite => exact h.execHpResetWrite.follows
  | lockRead => exact h.execLockRead.follows
  | lockWrite => exact h.execLockWrite.follows
  | maskWrite => exact h.execMaskWrite.follows
  | pcieFlr => exact h.execPcieFlr.follows
  | pcieLinkLoss => exact h.execPcieLinkLoss.follows
  | hpPerst => exact h.execHpPerst.follows
  | spiWrite => exact h.execSpiWrite.follows
  | spiRead => exact h.execSpiRead.follows
  | spiStatus => exact h.execSpiStatus.follows
  | spiBadOpcode => exact h.execSpiBadOpcode.follows
  | spiCsCut => exact h.execSpiCsCut.follows
  | registerWrite => exact h.execRegisterWrite.follows
  | aliasSetWrite => exact h.execAliasSetWrite.follows
  | aliasClearWrite => exact h.execAliasClearWrite.follows
  | aliasToggleWrite => exact h.execAliasToggleWrite.follows
  | updateGroupStrobe => exact h.execUpdateGroupStrobe.follows
  | immediateWrite => exact h.execImmediateWrite.follows
  | dwCtrlWrite => exact h.execDwCtrlWrite.follows
  | dwDataRead => exact h.execDwDataRead.follows
  | dwDataWrite => exact h.execDwDataWrite.follows
  | perfRead => exact h.execPerfRead.follows
  | faultProcess => exact h.execFaultProcess.follows
  | perfWindowEnd => exact h.execPerfWindowEnd.follows
  | counterDumpWrite => exact h.execCounterDumpWrite.follows
  | fwWriteDone => exact h.execFwWriteDone.follows
  | fwCommitDone => exact h.execFwCommitDone.follows
  | status => exact h.execStatus.follows
  | reset => exact h.execReset.follows
  | grant => exact h.execGrant.follows
  | ownerHandover => exact h.execOwnerHandover.follows
  | clockId => exact h.execClockId.follows
  | warmupTime => exact h.execWarmupTime.follows
  | step => exact h.execStep.follows
  | rate => exact h.execRate.follows
  | utcOffset => exact h.execUtcOffset.follows
  | leap => exact h.execLeap.follows
  | smear => exact h.execSmear.follows
  | boundThreshold => exact h.execBoundThreshold.follows
  | tdcConfig => exact h.execTdcConfig.follows
  | refConfig => exact h.execRefConfig.follows
  | refForce => exact h.execRefForce.follows
  | refAdmit => exact h.execRefAdmit.follows
  | refLockout => exact h.execRefLockout.follows
  | steerConfig => exact h.execSteerConfig.follows
  | flywheelConfig => exact h.execFlywheelConfig.follows
  | senseConfig => exact h.execSenseConfig.follows
  | holdTarget => exact h.execHoldTarget.follows
  | synthConfig => exact h.execSynthConfig.follows
  | outputConfig => exact h.execOutputConfig.follows
  | alignPulses => exact h.execAlignPulses.follows
  | gnssConfig => exact h.execGnssConfig.follows
  | gnssAid => exact h.execGnssAid.follows
  | snapshot => exact h.execSnapshot.follows
  | snapshotRead => exact h.execSnapshotRead.follows
  | snapshotRelease => exact h.execSnapshotRelease.follows
  | snapshotProcess => exact h.execSnapshotProcess.follows
  | portConfig => exact h.execPortConfig.follows
  | prpConfig => exact h.execPrpConfig.follows
  | hlRule => exact h.execHlRule.follows
  | instanceConfig => exact h.execInstanceConfig.follows
  | esmcConfig => exact h.execEsmcConfig.follows
  | keyLoad => exact h.execKeyLoad.follows
  | keyState => exact h.execKeyState.follows
  | keyWrap => exact h.execKeyWrap.follows
  | zeroise => exact h.execZeroise.follows
  | pairKey => exact h.execPairKey.follows
  | twinConfig => exact h.execTwinConfig.follows
  | twinCalibrate => exact h.execTwinCalibrate.follows
  | twinHandover => exact h.execTwinHandover.follows
  | twinAdmit => exact h.execTwinAdmit.follows
  | twinWitness => exact h.execTwinWitness.follows
  | gridConfig => exact h.execGridConfig.follows
  | gridTime => exact h.execGridTime.follows
  | cpConfig => exact h.execCpConfig.follows
  | cpStart => exact h.execCpStart.follows
  | cpStop => exact h.execCpStop.follows
  | cpRead => exact h.execCpRead.follows
  | cpWrite => exact h.execCpWrite.follows
  | faultClear => exact h.execFaultClear.follows
  | faultReaction => exact h.execFaultReaction.follows
  | logRead => exact h.execLogRead.follows
  | counterPermit => exact h.execCounterPermit.follows
  | counterWindow => exact h.execCounterWindow.follows
  | counterDump => exact h.execCounterDump.follows
  | fwWrite => exact h.execFwWrite.follows
  | fwCommit => exact h.execFwCommit.follows
  | monCharacter => exact .ofRestarts h.execMonCharacter
  | monLog => exact h.execLine
  | monUnlock => exact h.execLine
  | monLock => exact h.execLine
  | monPeek => exact h.execLine
  | monPoke => exact h.execLine
  | monDpeek => exact h.execLine
  | monDpoke => exact h.execLine
  | monOwner => exact h.execLine
  | monReset => exact h.execLine
  | monMaintainTimeout => exact h.execMonMaintainTimeout.follows
  | monUnlockWaitExpiry => exact h.execMonUnlockWaitExpiry.follows
  | pcieLinkUp => exact h.execPcieLinkUp.follows
  | hpPerstRelease => exact h.execHpPerstRelease.follows
  | witnessTokenTake => exact h.execWitnessTokenTake.follows
  | delayReqSend => exact h.execDelayReqSend.follows
  | registerRead => exact h.execRegisterRead.follows
  | parcelWrite => exact h.execParcelWrite.follows
  | monHelp => exact h.execLine
  | monStatus => exact h.execLine
  | monTime => exact h.execLine
  | monBound => exact h.execLine
  | monRef => exact h.execLine
  | monFault => exact h.execLine
  | monFaultClear => exact h.execLine
  | monTwin => exact h.execLine

/-- A cycle counts CYC alone. -/
theorem Keeps.tick (h : Keeps V s) : Keeps { V with cyc := s.tick.sys.cyc } s.tick := by
  refine ⟨rfl, ?_, fun c => ?_⟩
  · rw [← h.locked]; unfold State.tick; split <;> rfl
  · rw [← h.memories c]; unfold State.tick; split <;> rfl

/-- Settles O3: what follows a command is a next state. -/
theorem everyCommandAnswersANextState : Obligations.EveryCommandAnswersANextState := fun i s => by
  have h : Keeps ⟨s.sys.cyc, s.sys.rpllLocked, False⟩ s := ⟨rfl, rfl, False.elim⟩
  obtain ⟨t, ht, -⟩ := h.exec i
  exact ⟨t, ht⟩

/-- Settles O4: a command keeps the byte memories canonical whether it resets or not, and a cycle does not touch them. -/
theorem everyStepKeepsMemoriesCanonical : Obligations.EveryStepKeepsMemoriesCanonical := fun s t hs ht => by
  unfold step at ht
  split at ht
  · have h : Keeps ⟨s.sys.cyc, s.sys.rpllLocked, True⟩ s := ⟨rfl, rfl, fun _ => hs⟩
    cases ht
    exact h.tick.memories trivial
  · next c l hq =>
    have h : Keeps ⟨s.sys.cyc, s.sys.rpllLocked, True⟩ { s with pending := l } := ⟨rfl, rfl, fun _ => hs⟩
    obtain ⟨u, hu, k⟩ := h.exec c
    cases ht.symm.trans hu
    obtain k | k | ⟨-, k⟩ := k
    all_goals exact k.memories trivial

/-- Settles O5: what follows a command has CYC and the lock as they were, or as a reset or the lock of the RPLL leaves them. -/
theorem nothingWritesCyc : Obligations.NothingWritesCyc := fun i s t ht => by
  have h : Keeps ⟨s.sys.cyc, s.sys.rpllLocked, False⟩ s := ⟨rfl, rfl, False.elim⟩
  obtain ⟨u, hu, k⟩ := h.exec i
  cases ht.symm.trans hu
  exact k.imp (fun k => ⟨k.cyc, k.locked⟩) (.imp (fun k => ⟨k.cyc, k.locked⟩) fun ⟨hi, k⟩ => ⟨hi, k.cyc, k.locked⟩)

end

end Sys2Proof.Machine

namespace Sys2Proof.Machine

/-- Settles O1: the two sides are one call of `exec`. -/
theorem stepRunsTheFrontCommand : Obligations.StepRunsTheFrontCommand := fun _ _ _ => rfl

/-- Settles O2: the tick counts CYC when the lock holds. -/
theorem stepWithoutCommandIsOneCycle : Obligations.StepWithoutCommandIsOneCycle := fun s hq => by
  have hstep : step s = .next s.tick := by rw [step, hq]
  rw [hstep, State.tick]
  split <;> rfl

/-- Settles O6: every memory of the reset state is empty, and a register of it is computed on each port. -/
theorem resetStateReadsItsTables : Obligations.ResetStateReadsItsTables := by
  refine ⟨?_, rfl, rfl, rfl, rfl, ?_⟩
  · rw [State.memoriesWf_iff]
    exact ⟨rfl, rfl, rfl, fun p => by simp [State.reset, memWf]⟩
  · decide

end Sys2Proof.Machine

/-! PROOFS of family 'other', frames: which parts of the state an operation changes at most. -/

namespace Sys2Proof.Machine

/-- The parts of a state that a frame tells apart: its fields, with the four that many operations share cut further (the engine's state; the conversion sets, what waits for a commit, RATE_LIMITED; the slots; synthesizers and pins). -/
inductive Part where
  | pending | freeCtr | emits | engine | sys | mram | flash | sets | waits | limited | ts | bound | tdc | calTemp
  | slots | wv | loop | fc | os | pins | outs | gnss | ports | pairs | svc | auth | feeds | cps | cpBuf | twin | hosts
  | locks | cmds | handled | nextHandled | groups | direct | flt | log | perf | mon

/-- A set of parts, a bit for each. -/
def partsOf (l : List Part) : Nat := l.foldr (fun p m => 2 ^ p.ctorIdx ||| m) 0

/-- Whether a set holds a part. -/
def holds (m : Nat) (p : Part) : Bool := m.testBit p.ctorIdx

/-- The state that has these parts of `t` and every other of `s`. -/
def State.with (s : State) (m : Nat) (t : State) : State where
  pending := bif holds m .pending then t.pending else s.pending
  freeCtr := bif holds m .freeCtr then t.freeCtr else s.freeCtr
  emits := bif holds m .emits then t.emits else s.emits
  sys :=
    { engine := bif holds m .engine then t.sys.engine else s.sys.engine,
      resetN := bif holds m .sys then t.sys.resetN else s.sys.resetN,
      por := bif holds m .sys then t.sys.por else s.sys.por,
      resetCause := bif holds m .sys then t.sys.resetCause else s.sys.resetCause,
      resetPort := bif holds m .sys then t.sys.resetPort else s.sys.resetPort,
      straps := bif holds m .sys then t.sys.straps else s.sys.straps,
      rpllLocked := bif holds m .sys then t.sys.rpllLocked else s.sys.rpllLocked,
      cyc := bif holds m .sys then t.sys.cyc else s.sys.cyc,
      cclkBefore := bif holds m .sys then t.sys.cclkBefore else s.sys.cclkBefore,
      resetOnly := bif holds m .sys then t.sys.resetOnly else s.sys.resetOnly,
      fallback := bif holds m .sys then t.sys.fallback else s.sys.fallback,
      stage := bif holds m .sys then t.sys.stage else s.sys.stage,
      xinCode := bif holds m .sys then t.sys.xinCode else s.sys.xinCode,
      running := bif holds m .sys then t.sys.running else s.sys.running,
      trialRun := bif holds m .sys then t.sys.trialRun else s.sys.trialRun,
      hdr := bif holds m .sys then t.sys.hdr else s.sys.hdr,
      warmupTime := bif holds m .sys then t.sys.warmupTime else s.sys.warmupTime,
      warmupStart := bif holds m .engine then t.sys.warmupStart else s.sys.warmupStart,
      warmupOver := bif holds m .engine then t.sys.warmupOver else s.sys.warmupOver,
      selectedSinceInit := bif holds m .engine then t.sys.selectedSinceInit else s.sys.selectedSinceInit,
      safePending := bif holds m .sys then t.sys.safePending else s.sys.safePending,
      resetDue := bif holds m .sys then t.sys.resetDue else s.sys.resetDue,
      owner := bif holds m .sys then t.sys.owner else s.sys.owner,
      grants := bif holds m .sys then t.sys.grants else s.sys.grants,
      droopLast := bif holds m .sys then t.sys.droopLast else s.sys.droopLast,
      eccLast := bif holds m .sys then t.sys.eccLast else s.sys.eccLast,
      onDie := bif holds m .sys then t.sys.onDie else s.sys.onDie,
      onDieRead := bif holds m .sys then t.sys.onDieRead else s.sys.onDieRead,
      onDiePrev := bif holds m .sys then t.sys.onDiePrev else s.sys.onDiePrev,
      overTemp := bif holds m .sys then t.sys.overTemp else s.sys.overTemp,
      slewSec := bif holds m .sys then t.sys.slewSec else s.sys.slewSec }
  mram := bif holds m .mram then t.mram else s.mram
  flash := bif holds m .flash then t.flash else s.flash
  ts :=
    { sets := bif holds m .sets then t.ts.sets else s.ts.sets,
      committed := bif holds m .waits then t.ts.committed else s.ts.committed,
      waitSteps := bif holds m .waits then t.ts.waitSteps else s.ts.waitSteps,
      waitRate := bif holds m .waits then t.ts.waitRate else s.ts.waitRate,
      rateInt := bif holds m .ts then t.ts.rateInt else s.ts.rateInt,
      rateLog := bif holds m .ts then t.ts.rateLog else s.ts.rateLog,
      lastStepAt := bif holds m .ts then t.ts.lastStepAt else s.ts.lastStepAt,
      rateLimited := bif holds m .limited then t.ts.rateLimited else s.ts.rateLimited,
      stepCount := bif holds m .ts then t.ts.stepCount else s.ts.stepCount,
      utcOffset := bif holds m .ts then t.ts.utcOffset else s.ts.utcOffset,
      utcSet := bif holds m .ts then t.ts.utcSet else s.ts.utcSet,
      leapPending := bif holds m .ts then t.ts.leapPending else s.ts.leapPending,
      leapAt := bif holds m .ts then t.ts.leapAt else s.ts.leapAt,
      smear := bif holds m .ts then t.ts.smear else s.ts.smear,
      smearLeap := bif holds m .ts then t.ts.smearLeap else s.ts.smearLeap }
  bound := bif holds m .bound then t.bound else s.bound
  tdc := bif holds m .tdc then t.tdc else s.tdc
  calTemp := bif holds m .calTemp then t.calTemp else s.calTemp
  wv :=
    { cfg := bif holds m .wv then t.wv.cfg else s.wv.cfg,
      slots := bif holds m .slots then t.wv.slots else s.wv.slots,
      ptp := bif holds m .wv then t.wv.ptp else s.wv.ptp,
      selected := bif holds m .wv then t.wv.selected else s.wv.selected,
      lastSelected := bif holds m .wv then t.wv.lastSelected else s.wv.lastSelected,
      switch := bif holds m .wv then t.wv.switch else s.wv.switch,
      aid := bif holds m .wv then t.wv.aid else s.wv.aid,
      switchCount := bif holds m .wv then t.wv.switchCount else s.wv.switchCount,
      lastStep := bif holds m .wv then t.wv.lastStep else s.wv.lastStep,
      betterSince := bif holds m .wv then t.wv.betterSince else s.wv.betterSince,
      disputeDue := bif holds m .wv then t.wv.disputeDue else s.wv.disputeDue,
      leapWarned := bif holds m .wv then t.wv.leapWarned else s.wv.leapWarned,
      esmcLast := bif holds m .wv then t.wv.esmcLast else s.wv.esmcLast }
  loop := bif holds m .loop then t.loop else s.loop
  fc := bif holds m .fc then t.fc else s.fc
  outs :=
    { os := bif holds m .os then t.outs.os else s.outs.os,
      pins := bif holds m .pins then t.outs.pins else s.outs.pins,
      startupMute := bif holds m .outs then t.outs.startupMute else s.outs.startupMute,
      safe := bif holds m .outs then t.outs.safe else s.outs.safe,
      aligned := bif holds m .outs then t.outs.aligned else s.outs.aligned }
  gnss := bif holds m .gnss then t.gnss else s.gnss
  ports := bif holds m .ports then t.ports else s.ports
  pairs := bif holds m .pairs then t.pairs else s.pairs
  svc := bif holds m .svc then t.svc else s.svc
  auth := bif holds m .auth then t.auth else s.auth
  feeds := bif holds m .feeds then t.feeds else s.feeds
  cps := bif holds m .cps then t.cps else s.cps
  cpBuf := bif holds m .cpBuf then t.cpBuf else s.cpBuf
  twin := bif holds m .twin then t.twin else s.twin
  hosts := bif holds m .hosts then t.hosts else s.hosts
  locks := bif holds m .locks then t.locks else s.locks
  cmds := bif holds m .cmds then t.cmds else s.cmds
  handled := bif holds m .handled then t.handled else s.handled
  nextHandled := bif holds m .nextHandled then t.nextHandled else s.nextHandled
  groups := bif holds m .groups then t.groups else s.groups
  direct := bif holds m .direct then t.direct else s.direct
  flt := bif holds m .flt then t.flt else s.flt
  log := bif holds m .log then t.log else s.log
  perf := bif holds m .perf then t.perf else s.perf
  mon := bif holds m .mon then t.mon else s.mon

/-- Two states have the same part. -/
def Part.same (s t : State) : Part → Prop
  | .pending => t.pending = s.pending
  | .freeCtr => t.freeCtr = s.freeCtr
  | .emits => t.emits = s.emits
  | .engine => t.sys.engine = s.sys.engine ∧ t.sys.warmupStart = s.sys.warmupStart ∧ t.sys.warmupOver = s.sys.warmupOver ∧
      t.sys.selectedSinceInit = s.sys.selectedSinceInit
  | .sys => t.sys.resetN = s.sys.resetN ∧ t.sys.por = s.sys.por ∧ t.sys.resetCause = s.sys.resetCause ∧ t.sys.resetPort = s.sys.resetPort ∧
      t.sys.straps = s.sys.straps ∧ t.sys.rpllLocked = s.sys.rpllLocked ∧ t.sys.cyc = s.sys.cyc ∧ t.sys.cclkBefore = s.sys.cclkBefore ∧
      t.sys.resetOnly = s.sys.resetOnly ∧ t.sys.fallback = s.sys.fallback ∧ t.sys.stage = s.sys.stage ∧ t.sys.xinCode = s.sys.xinCode ∧
      t.sys.running = s.sys.running ∧ t.sys.trialRun = s.sys.trialRun ∧ t.sys.hdr = s.sys.hdr ∧ t.sys.warmupTime = s.sys.warmupTime ∧
      t.sys.safePending = s.sys.safePending ∧ t.sys.resetDue = s.sys.resetDue ∧ t.sys.owner = s.sys.owner ∧ t.sys.grants = s.sys.grants ∧
      t.sys.droopLast = s.sys.droopLast ∧ t.sys.eccLast = s.sys.eccLast ∧ t.sys.onDie = s.sys.onDie ∧ t.sys.onDieRead = s.sys.onDieRead ∧
      t.sys.onDiePrev = s.sys.onDiePrev ∧ t.sys.overTemp = s.sys.overTemp ∧ t.sys.slewSec = s.sys.slewSec
  | .mram => t.mram = s.mram
  | .flash => t.flash = s.flash
  | .sets => t.ts.sets = s.ts.sets
  | .waits => t.ts.committed = s.ts.committed ∧ t.ts.waitSteps = s.ts.waitSteps ∧ t.ts.waitRate = s.ts.waitRate
  | .limited => t.ts.rateLimited = s.ts.rateLimited
  | .ts => t.ts.rateInt = s.ts.rateInt ∧ t.ts.rateLog = s.ts.rateLog ∧ t.ts.lastStepAt = s.ts.lastStepAt ∧ t.ts.stepCount = s.ts.stepCount ∧
      t.ts.utcOffset = s.ts.utcOffset ∧ t.ts.utcSet = s.ts.utcSet ∧ t.ts.leapPending = s.ts.leapPending ∧ t.ts.leapAt = s.ts.leapAt ∧ t.ts.smear
      = s.ts.smear ∧ t.ts.smearLeap = s.ts.smearLeap
  | .bound => t.bound = s.bound
  | .tdc => t.tdc = s.tdc
  | .calTemp => t.calTemp = s.calTemp
  | .slots => t.wv.slots = s.wv.slots
  | .wv => t.wv.cfg = s.wv.cfg ∧ t.wv.ptp = s.wv.ptp ∧ t.wv.selected = s.wv.selected ∧ t.wv.lastSelected = s.wv.lastSelected ∧ t.wv.switch =
      s.wv.switch ∧ t.wv.aid = s.wv.aid ∧ t.wv.switchCount = s.wv.switchCount ∧ t.wv.lastStep = s.wv.lastStep ∧ t.wv.betterSince =
      s.wv.betterSince ∧ t.wv.disputeDue = s.wv.disputeDue ∧ t.wv.leapWarned = s.wv.leapWarned ∧ t.wv.esmcLast = s.wv.esmcLast
  | .loop => t.loop = s.loop
  | .fc => t.fc = s.fc
  | .os => t.outs.os = s.outs.os
  | .pins => t.outs.pins = s.outs.pins
  | .outs => t.outs.startupMute = s.outs.startupMute ∧ t.outs.safe = s.outs.safe ∧ t.outs.aligned = s.outs.aligned
  | .gnss => t.gnss = s.gnss
  | .ports => t.ports = s.ports
  | .pairs => t.pairs = s.pairs
  | .svc => t.svc = s.svc
  | .auth => t.auth = s.auth
  | .feeds => t.feeds = s.feeds
  | .cps => t.cps = s.cps
  | .cpBuf => t.cpBuf = s.cpBuf
  | .twin => t.twin = s.twin
  | .hosts => t.hosts = s.hosts
  | .locks => t.locks = s.locks
  | .cmds => t.cmds = s.cmds
  | .handled => t.handled = s.handled
  | .nextHandled => t.nextHandled = s.nextHandled
  | .groups => t.groups = s.groups
  | .direct => t.direct = s.direct
  | .flt => t.flt = s.flt
  | .log => t.log = s.log
  | .perf => t.perf = s.perf
  | .mon => t.mon = s.mon

/-- `t` differs from `s` in these parts at most. -/
def Within (m : Nat) (s t : State) : Prop := ∀ p : Part, holds m p = false → p.same s t

variable {m a b : Nat} {r s t u : State}

theorem Part.same_refl (p : Part) (s : State) : p.same s s := by cases p <;> simp [Part.same]

theorem Part.same_trans {p : Part} (h : p.same s t) (k : p.same t u) : p.same s u := by
  cases p <;> simp_all [Part.same]

theorem holds_or (a b : Nat) (p : Part) : holds (a ||| b) p = (holds a p || holds b p) := Nat.testBit_or _ _ _

/-- A state differs from itself in nothing. -/
theorem Within.start : Within 0 s s := fun p _ => p.same_refl s

/-- What two steps change is what either does. -/
theorem Within.trans (h : Within a s t) (k : Within b t u) : Within (a ||| b) s u := fun p hp => by
  rw [holds_or, Bool.or_eq_false_iff] at hp
  exact Part.same_trans (h p hp.1) (k p hp.2)

/-- A larger set of parts. -/
theorem Within.mono (h : Within a s t) (hm : a ||| b = b) : Within b s t := fun p hp => h p (by
  rw [← hm, holds_or, Bool.or_eq_false_iff] at hp
  exact hp.1)

/-- A frame read off an update. -/
theorem Within.of (h : t = s.with m t) : Within m s t := fun p hp => by
  rw [h]
  cases p <;> simp [Part.same, State.with, hp]

/-- A frame as an update. -/
theorem Within.eq (w : Within m s t) : t = s.with m t := by
  have pick {α : Type} {p : Part} {x y : α} (hp : holds m p = false → y = x) : y = bif holds m p then y else x := by
    cases hm : holds m p
    exacts [hp hm, rfl]
  exact (State.mk.injEq ..).mpr ⟨pick (w .pending),
    pick (w .freeCtr),
    pick (w .emits),
    (Sys.mk.injEq ..).mpr ⟨pick fun h => (w .engine h).1, pick fun h => (w .sys h).1, pick fun h => (w .sys h).2.1,
      pick fun h => (w .sys h).2.2.1, pick fun h => (w .sys h).2.2.2.1, pick fun h => (w .sys h).2.2.2.2.1,
      pick fun h => (w .sys h).2.2.2.2.2.1, pick fun h => (w .sys h).2.2.2.2.2.2.1, pick fun h => (w .sys h).2.2.2.2.2.2.2.1,
      pick fun h => (w .sys h).2.2.2.2.2.2.2.2.1, pick fun h => (w .sys h).2.2.2.2.2.2.2.2.2.1,
      pick fun h => (w .sys h).2.2.2.2.2.2.2.2.2.2.1, pick fun h => (w .sys h).2.2.2.2.2.2.2.2.2.2.2.1,
      pick fun h => (w .sys h).2.2.2.2.2.2.2.2.2.2.2.2.1, pick fun h => (w .sys h).2.2.2.2.2.2.2.2.2.2.2.2.2.1,
      pick fun h => (w .sys h).2.2.2.2.2.2.2.2.2.2.2.2.2.2.1, pick fun h => (w .sys h).2.2.2.2.2.2.2.2.2.2.2.2.2.2.2.1,
      pick fun h => (w .engine h).2.1, pick fun h => (w .engine h).2.2.1, pick fun h => (w .engine h).2.2.2,
      pick fun h => (w .sys h).2.2.2.2.2.2.2.2.2.2.2.2.2.2.2.2.1, pick fun h => (w .sys h).2.2.2.2.2.2.2.2.2.2.2.2.2.2.2.2.2.1,
      pick fun h => (w .sys h).2.2.2.2.2.2.2.2.2.2.2.2.2.2.2.2.2.2.1, pick fun h => (w .sys h).2.2.2.2.2.2.2.2.2.2.2.2.2.2.2.2.2.2.2.1,
      pick fun h => (w .sys h).2.2.2.2.2.2.2.2.2.2.2.2.2.2.2.2.2.2.2.2.1,
      pick fun h => (w .sys h).2.2.2.2.2.2.2.2.2.2.2.2.2.2.2.2.2.2.2.2.2.1,
      pick fun h => (w .sys h).2.2.2.2.2.2.2.2.2.2.2.2.2.2.2.2.2.2.2.2.2.2.1,
      pick fun h => (w .sys h).2.2.2.2.2.2.2.2.2.2.2.2.2.2.2.2.2.2.2.2.2.2.2.1,
      pick fun h => (w .sys h).2.2.2.2.2.2.2.2.2.2.2.2.2.2.2.2.2.2.2.2.2.2.2.2.1,
      pick fun h => (w .sys h).2.2.2.2.2.2.2.2.2.2.2.2.2.2.2.2.2.2.2.2.2.2.2.2.2.1,
      pick fun h => (w .sys h).2.2.2.2.2.2.2.2.2.2.2.2.2.2.2.2.2.2.2.2.2.2.2.2.2.2⟩,
    pick (w .mram),
    pick (w .flash),
    (TimeScale.mk.injEq ..).mpr ⟨pick (w .sets), pick fun h => (w .waits h).1, pick fun h => (w .waits h).2.1,
      pick fun h => (w .waits h).2.2, pick fun h => (w .ts h).1, pick fun h => (w .ts h).2.1, pick fun h => (w .ts h).2.2.1,
      pick (w .limited), pick fun h => (w .ts h).2.2.2.1, pick fun h => (w .ts h).2.2.2.2.1, pick fun h => (w .ts h).2.2.2.2.2.1,
      pick fun h => (w .ts h).2.2.2.2.2.2.1, pick fun h => (w .ts h).2.2.2.2.2.2.2.1, pick fun h => (w .ts h).2.2.2.2.2.2.2.2.1,
      pick fun h => (w .ts h).2.2.2.2.2.2.2.2.2⟩,
    pick (w .bound),
    pick (w .tdc),
    pick (w .calTemp),
    (Weathervane.mk.injEq ..).mpr ⟨pick fun h => (w .wv h).1, pick (w .slots), pick fun h => (w .wv h).2.1,
      pick fun h => (w .wv h).2.2.1, pick fun h => (w .wv h).2.2.2.1, pick fun h => (w .wv h).2.2.2.2.1,
      pick fun h => (w .wv h).2.2.2.2.2.1, pick fun h => (w .wv h).2.2.2.2.2.2.1, pick fun h => (w .wv h).2.2.2.2.2.2.2.1,
      pick fun h => (w .wv h).2.2.2.2.2.2.2.2.1, pick fun h => (w .wv h).2.2.2.2.2.2.2.2.2.1,
      pick fun h => (w .wv h).2.2.2.2.2.2.2.2.2.2.1, pick fun h => (w .wv h).2.2.2.2.2.2.2.2.2.2.2⟩,
    pick (w .loop),
    pick (w .fc),
    (Outputs.mk.injEq ..).mpr ⟨pick (w .os), pick (w .pins), pick fun h => (w .outs h).1, pick fun h => (w .outs h).2.1,
      pick fun h => (w .outs h).2.2⟩,
    pick (w .gnss),
    pick (w .ports),
    pick (w .pairs),
    pick (w .svc),
    pick (w .auth),
    pick (w .feeds),
    pick (w .cps),
    pick (w .cpBuf),
    pick (w .twin),
    pick (w .hosts),
    pick (w .locks),
    pick (w .cmds),
    pick (w .handled),
    pick (w .nextHandled),
    pick (w .groups),
    pick (w .direct),
    pick (w .flt),
    pick (w .log),
    pick (w .perf),
    pick (w .mon)⟩

/-- The system's state where neither of its parts changes. -/
theorem Within.sys_eq (w : Within m s t) (he : holds m .engine = false) (hs : holds m .sys = false) : t.sys = s.sys := by
  rw [w.eq, State.with, he, hs]
  rfl

/-- The time scale where none of its parts changes. -/
theorem Within.ts_eq (w : Within m s t) (h : (holds m .sets || holds m .waits || holds m .limited || holds m .ts) = false) : t.ts = s.ts := by
  obtain ⟨⟨⟨h1, h2⟩, h3⟩, h4⟩ : ((holds m .sets = false ∧ holds m .waits = false) ∧ holds m .limited = false) ∧ holds m .ts = false := by
    simpa [Bool.or_eq_false_iff] using h
  rw [w.eq, State.with, h1, h2, h3, h4]
  rfl

/-- Weathervane where neither of its parts changes. -/
theorem Within.wv_eq (w : Within m s t) (hs : holds m .slots = false) (hw : holds m .wv = false) : t.wv = s.wv := by
  rw [w.eq, State.with, hs, hw]
  rfl

/-- The outputs where none of their parts changes. -/
theorem Within.outs_eq (w : Within m s t) (ho : holds m .os = false) (hp : holds m .pins = false) (hr : holds m .outs = false) :
    t.outs = s.outs := by
  rw [w.eq, State.with, ho, hp, hr]
  rfl

/-- An update of the last state. -/
theorem Within.set (h : Within a r s) (b : Nat) (he : t = s.with b t := by rfl) : Within (a ||| b) r t := h.trans (.of he)

/-- Either branch. -/
theorem Within.ite {p : Prop} [Decidable p] (ht : Within a r s) (he : Within b r t) : Within (a ||| b) r (if p then s else t) := by
  split
  exacts [ht.mono (by rw [← Nat.or_assoc, Nat.or_self]), he.mono (by rw [Nat.or_comm a b, ← Nat.or_assoc, Nat.or_self])]

/-- The state that comes with either branch. -/
theorem Within.iteFst {α : Type} {p : Prop} [Decidable p] {x y : State × α} (hx : Within a r x.1) (hy : Within b r y.1) :
    Within (a ||| b) r (if p then x else y).1 := by
  rw [apply_ite Prod.fst]
  exact hx.ite hy

/-- A walk changes what its steps change. -/
theorem Within.each {α : Type} {l : List α} {f : State → α → State} (h : Within a r s) (hf : ∀ t x, Within b t (f t x)) :
    Within (a ||| b) r (s.each l f) := by
  refine State.each_keeps s l f (h.mono (by rw [← Nat.or_assoc, Nat.or_self])) fun t x k => ?_
  exact (k.trans (hf t x)).mono (by rw [Nat.or_assoc a b b, Nat.or_self, Nat.or_self])

/-- The same of a fold. -/
theorem Within.foldl {α : Type} {l : List α} {f : State → α → State} (h : Within a r s) (hf : ∀ t x, Within b t (f t x)) :
    Within (a ||| b) r (l.foldl f s) := h.each hf

/-- A frame with its parts named. -/
theorem Within.at (b : Nat) (h : Within b s t) : Within b s t := h
end Sys2Proof.Machine

/-! One frame per operation: what it adds to the parts that a walk has changed already. -/

namespace Sys2Proof.Machine
section
set_option Elab.async false
variable {mask : Nat} {s₀ s : State}

theorem Within.mapHost {p : Fin 4} {f : HostPort → HostPort} (h : Within mask s₀ s) : Within (mask ||| partsOf [.hosts]) s₀
    (s.mapHost p f) := by
  refine h.trans ?_
  unfold State.mapHost
  exact (Within.start.set (partsOf [.hosts])).mono (by decide)

theorem Within.mapTdc {c : Fin 88} {f : TdcChan → TdcChan} (h : Within mask s₀ s) : Within (mask ||| partsOf [.tdc]) s₀ (s.mapTdc c f) := by
  refine h.trans ?_
  unfold State.mapTdc
  exact (Within.start.set (partsOf [.tdc])).mono (by decide)

theorem Within.mapSlot {i : Fin 16} {f : Slot → Slot} (h : Within mask s₀ s) : Within (mask ||| partsOf [.slots]) s₀ (s.mapSlot i f) := by
  refine h.trans ?_
  unfold State.mapSlot
  exact (Within.start.set (partsOf [.slots])).mono (by decide)

theorem Within.mapFw {i : Fin 3} {f : Flywheel → Flywheel} (h : Within mask s₀ s) : Within (mask ||| partsOf [.fc]) s₀ (s.mapFw i f) := by
  refine h.trans ?_
  unfold State.mapFw
  exact (Within.start.set (partsOf [.fc])).mono (by decide)

theorem Within.mapOs {i : Fin 4} {f : Synth → Synth} (h : Within mask s₀ s) : Within (mask ||| partsOf [.os]) s₀ (s.mapOs i f) := by
  refine h.trans ?_
  unfold State.mapOs
  exact (Within.start.set (partsOf [.os])).mono (by decide)

theorem Within.mapPin {i : Fin 80} {f : OutPin → OutPin} (h : Within mask s₀ s) : Within (mask ||| partsOf [.pins]) s₀ (s.mapPin i f) := by
  refine h.trans ?_
  unfold State.mapPin
  exact (Within.start.set (partsOf [.pins])).mono (by decide)

theorem Within.mapPort {p : Fin 8} {f : Port → Port} (h : Within mask s₀ s) : Within (mask ||| partsOf [.ports]) s₀ (s.mapPort p f) := by
  refine h.trans ?_
  unfold State.mapPort
  exact (Within.start.set (partsOf [.ports])).mono (by decide)

theorem Within.mapPair {p : Fin 4} {f : Pair → Pair} (h : Within mask s₀ s) : Within (mask ||| partsOf [.pairs]) s₀ (s.mapPair p f) := by
  refine h.trans ?_
  unfold State.mapPair
  exact (Within.start.set (partsOf [.pairs])).mono (by decide)

theorem Within.mapInst {i : Fin 16} {f : Inst → Inst} (h : Within mask s₀ s) : Within (mask ||| partsOf [.svc]) s₀ (s.mapInst i f) := by
  refine h.trans ?_
  unfold State.mapInst
  exact (Within.start.set (partsOf [.svc])).mono (by decide)

theorem Within.mapLane {i : Fin 2} {f : Lane → Lane} (h : Within mask s₀ s) : Within (mask ||| partsOf [.svc]) s₀ (s.mapLane i f) := by
  refine h.trans ?_
  unfold State.mapLane
  exact (Within.start.set (partsOf [.svc])).mono (by decide)

theorem Within.mapFeed {i : Fin 6} {f : Feed → Feed} (h : Within mask s₀ s) : Within (mask ||| partsOf [.feeds]) s₀ (s.mapFeed i f) := by
  refine h.trans ?_
  unfold State.mapFeed
  exact (Within.start.set (partsOf [.feeds])).mono (by decide)

theorem Within.mapCp {i : Fin 8} {f : ConvPort → ConvPort} (h : Within mask s₀ s) : Within (mask ||| partsOf [.cps]) s₀ (s.mapCp i f) := by
  refine h.trans ?_
  unfold State.mapCp
  exact (Within.start.set (partsOf [.cps])).mono (by decide)

theorem Within.mapStream {i : Fin 4} {f : Stream → Stream} (h : Within mask s₀ s) : Within (mask ||| partsOf [.gnss]) s₀ (s.mapStream
    i f) := by
  refine h.trans ?_
  unfold State.mapStream
  exact (Within.start.set (partsOf [.gnss])).mono (by decide)

theorem Within.mapGroup {g : Fin 8} {f : UpdateGroup → UpdateGroup} (h : Within mask s₀ s) : Within (mask ||| partsOf [.groups]) s₀
    (s.mapGroup g f) := by
  refine h.trans ?_
  unfold State.mapGroup
  exact (Within.start.set (partsOf [.groups])).mono (by decide)

theorem Within.emit {e : Emit} (h : Within mask s₀ s) : Within (mask ||| partsOf [.emits]) s₀ (s.emit e) := by
  refine h.trans ?_
  unfold State.emit
  exact (Within.start.set (partsOf [.emits])).mono (by decide)

theorem Within.repl {item : ReplItem} (h : Within mask s₀ s) : Within (mask ||| partsOf [.emits]) s₀ (s.repl item) := by
  refine h.trans ?_
  unfold State.repl
  exact (Within.ite Within.start.emit Within.start).mono (by decide)

theorem Within.drawn (h : Within mask s₀ s) : Within (mask ||| partsOf [.freeCtr]) s₀ s.drawn := by
  refine h.trans ?_
  unfold State.drawn
  exact (Within.start.set (partsOf [.freeCtr])).mono (by decide)

theorem Within.msix {p : Fin 4} {v : Nat} (h : Within mask s₀ s) : Within (mask ||| partsOf [.emits]) s₀ (s.msix p v) := by
  refine h.trans ?_
  unfold State.msix
  exact (Within.ite Within.start.emit Within.start).mono (by decide)

theorem Within.ring {p : Fin 4} {b : Nat} (h : Within mask s₀ s) : Within (mask ||| partsOf [.emits, .hosts]) s₀ (s.ring p b) := by
  refine h.trans ?_
  unfold State.ring
  exact (Within.ite Within.start.mapHost.msix Within.start.mapHost).mono (by decide)

theorem Within.hwEvent {p : Fin 4} {b : Nat} (h : Within mask s₀ s) : Within (mask ||| partsOf [.emits, .hosts]) s₀ (s.hwEvent p b) := by
  refine h.trans ?_
  unfold State.hwEvent
  exact (Within.ite Within.start.mapHost.msix Within.start.mapHost).mono (by decide)

theorem Within.hwLevelRise {p : Fin 4} {b : Nat} (h : Within mask s₀ s) : Within (mask ||| partsOf [.emits]) s₀ (s.hwLevelRise p b) := by
  refine h.trans ?_
  unfold State.hwLevelRise
  exact (Within.ite Within.start Within.start.msix).mono (by decide)

theorem Within.hwEventAll {b : Nat} (h : Within mask s₀ s) : Within (mask ||| partsOf [.emits, .hosts]) s₀ (s.hwEventAll b) := by
  refine h.trans ?_
  unfold State.hwEventAll
  exact (Within.start.each (fun _ _ => Within.start.hwEvent)).mono (by decide)

theorem Within.hwLevelAll {b : Nat} (h : Within mask s₀ s) : Within (mask ||| partsOf [.emits]) s₀ (s.hwLevelAll b) := by
  refine h.trans ?_
  unfold State.hwLevelAll
  exact (Within.start.each (fun _ _ => Within.start.hwLevelRise)).mono (by decide)

theorem Within.pushMsg {m : FaultMsg} (h : Within mask s₀ s) : Within (mask ||| partsOf [.flt]) s₀ (s.pushMsg m) := by
  refine h.trans ?_
  unfold State.pushMsg
  exact (Within.ite (Within.start.set (partsOf [.flt])) (Within.start.set (partsOf [.flt]))).mono (by decide)

theorem Within.raiseDropped {i : Fin 16} (h : Within mask s₀ s) : Within (mask ||| partsOf [.flt]) s₀ (s.raiseDropped i) := by
  refine h.trans ?_
  unfold State.raiseDropped
  exact (Within.ite ((Within.start.set (partsOf [.flt])).pushMsg) Within.start).mono (by decide)

theorem Within.raise {k : FaultKind} {d : Nat} (h : Within mask s₀ s) : Within (mask ||| partsOf [.flt]) s₀ (s.raise k d) := by
  refine h.trans ?_
  unfold State.raise
  extract_lets _ _ s1 s2
  have k1 : Within (partsOf [.flt]) s s1 := Within.start.pushMsg.mono (by decide)
  have k2 : Within (partsOf [.flt]) s s2 := (Within.ite k1.raiseDropped k1).mono (by decide)
  exact (Within.ite (k2.set (partsOf [.flt])) k2).mono (by decide)

theorem Within.causeGone {k : FaultKind} {p : Nat → Bool} (h : Within mask s₀ s) : Within (mask ||| partsOf [.flt]) s₀ (s.causeGone k
    p) := by
  refine h.trans ?_
  unfold State.causeGone
  exact (Within.start.set (partsOf [.flt])).mono (by decide)

theorem Within.causeEnds {k : FaultKind} {d : Nat} (h : Within mask s₀ s) : Within (mask ||| partsOf [.flt]) s₀ (s.causeEnds k d) := by
  refine h.trans ?_
  unfold State.causeEnds
  exact Within.start.causeGone.mono (by decide)

theorem Within.condition {k : FaultKind} {d : Nat} (h : Within mask s₀ s) : Within (mask ||| partsOf [.flt]) s₀ (s.condition k d) := by
  refine h.trans ?_
  unfold State.condition
  exact (Within.ite Within.start Within.start.raise).mono (by decide)

theorem Within.parcelWrite {p : Fin 4} {i : Nat} {ws : List Word} (h : Within mask s₀ s) : Within (mask ||| partsOf [.hosts]) s₀
    (s.parcelWrite p i ws) := by
  refine h.trans ?_
  unfold State.parcelWrite
  exact Within.start.mapHost.mono (by decide)

theorem Within.noteLate {t : Stamp} {who : Nat} (h : Within mask s₀ s) : Within (mask ||| partsOf [.flt]) s₀ (s.noteLate t who) := by
  refine h.trans ?_
  unfold State.noteLate
  exact (Within.ite Within.start.raise Within.start).mono (by decide)

theorem Within.noteLateBlock {t : Stamp} (h : Within mask s₀ s) : Within (mask ||| partsOf [.freeCtr, .flt]) s₀ (s.noteLateBlock t) := by
  refine h.trans ?_
  unfold State.noteLateBlock
  exact (Within.ite Within.start.raise.drawn Within.start).mono (by decide)

theorem Within.noticePort {p : Fin 4} {code : Nat} {a0 a1 : Word} {t : Int} {cyc : Nat} (h : Within mask s₀ s) : Within (mask |||
    partsOf [.emits, .hosts, .flt]) s₀ (s.noticePort p code a0 a1 t cyc) := by
  refine h.trans ?_
  unfold State.noticePort
  dsimp only
  exact (Within.ite Within.start (Within.ite Within.start.mapHost.ring.raise Within.start.parcelWrite.mapHost.ring)).mono (by decide)

theorem Within.notice {code : Nat} {a0 a1 : Word} (h : Within mask s₀ s) : Within (mask ||| partsOf [.emits, .hosts, .flt]) s₀
    (s.notice code a0 a1) := by
  refine h.trans ?_
  unfold State.notice
  exact (Within.start.each (fun _ _ => Within.start.noticePort)).mono (by decide)

theorem Within.logAt {type flags : Nat} {a0 a1 : Word} {cyc : Nat} (h : Within mask s₀ s) : Within (mask ||| partsOf [.log]) s₀
    (s.logAt type flags a0 a1 cyc) := by
  refine h.trans ?_
  unfold State.logAt
  exact (Within.start.set (partsOf [.log])).mono (by decide)

theorem Within.checkpointAt {fails : Option Nat} (h : Within mask s₀ s) : Within (mask ||| partsOf [.mram, .flt]) s₀ (s.checkpointAt
    fails) := by
  refine h.trans ?_
  unfold State.checkpointAt
  exact (Within.start.set (partsOf [.mram, .flt])).mono (by decide)

theorem Within.checkpoint (h : Within mask s₀ s) : Within (mask ||| partsOf [.freeCtr, .mram, .flt]) s₀ s.checkpoint := by
  refine h.trans ?_
  unfold State.checkpoint
  exact (Within.start.checkpointAt.set (partsOf [.freeCtr])).mono (by decide)

theorem Within.monOut {text : String} (h : Within mask s₀ s) : Within (mask ||| partsOf [.emits]) s₀ (s.monOut text) := by
  refine h.trans ?_
  unfold State.monOut
  exact (Within.ite Within.start.emit Within.start).mono (by decide)

theorem Within.print {line : String} (h : Within mask s₀ s) : Within (mask ||| partsOf [.emits]) s₀ (s.print line) := by
  refine h.trans ?_
  unfold State.print
  exact Within.start.monOut.mono (by decide)

theorem Within.promptAgain (h : Within mask s₀ s) : Within (mask ||| partsOf [.emits]) s₀ s.promptAgain := by
  refine h.trans ?_
  unfold State.promptAgain
  exact Within.start.monOut.mono (by decide)

theorem Within.bootPrint {line : String} (h : Within mask s₀ s) : Within (mask ||| partsOf [.emits, .mon]) s₀ (s.bootPrint line) := by
  refine h.trans ?_
  unfold State.bootPrint
  exact ((Within.start.set (partsOf [.mon])).print).mono (by decide)

theorem Within.setEngine {e : EngineState} (h : Within mask s₀ s) : Within (mask ||| partsOf [.freeCtr, .emits, .engine, .mram, .fc,
    .hosts, .flt, .log]) s₀ (s.setEngine e) := by
  refine h.trans ?_
  unfold State.setEngine
  dsimp only
  exact (Within.ite Within.start (((Within.ite (((Within.start.set (partsOf [.engine, .fc])).logAt).notice) ((((Within.start.set
      (partsOf [.engine, .fc])).logAt).notice).checkpoint)).print).promptAgain)).mono (by decide)

theorem Within.drainOmb {p : Fin 4} {m : Fin 8} (h : Within mask s₀ s) : Within (mask ||| partsOf [.emits, .hosts]) s₀ (s.drainOmb p
    m) := by
  refine h.trans ?_
  unfold State.drainOmb
  dsimp only
  split
  exacts [Within.start.mapHost.mono (by decide), (Within.ite Within.start.mapHost Within.start.mapHost.ring).mono (by decide)]

theorem Within.reply {p : Fin 4} {m : Fin 8} {w : Word} (h : Within mask s₀ s) : Within (mask ||| partsOf [.emits, .hosts]) s₀
    (s.reply p m w) := by
  refine h.trans ?_
  unfold State.reply
  exact Within.start.mapHost.drainOmb.mono (by decide)

theorem Within.writeResult {p : Fin 4} {ofs : Nat} {ws : List Word} (h : Within mask s₀ s) : Within (mask ||| partsOf [.hosts]) s₀
    (s.writeResult p ofs ws) := by
  refine h.trans ?_
  unfold State.writeResult
  exact Within.start.parcelWrite.mono (by decide)

theorem Within.complete {id status : Nat} {ws : List Word} (h : Within mask s₀ s) : Within (mask ||| partsOf [.emits, .hosts,
    .handled]) s₀ (s.complete id status ws) := by
  refine h.trans ?_
  unfold State.complete
  dsimp only
  split
  exacts [Within.start.mono (by decide), (Within.ite ((Within.start.set (partsOf [.handled])).mapHost) ((((Within.start.set (partsOf
      [.handled])).mapHost).writeResult).reply)).mono (by decide)]

theorem Within.completeOpt {id : Option Nat} {status : Nat} {ws : List Word} (h : Within mask s₀ s) : Within (mask ||| partsOf
    [.emits, .hosts, .handled]) s₀ (s.completeOpt id status ws) := by
  refine h.trans ?_
  unfold State.completeOpt
  split
  exacts [Within.start.mono (by decide), Within.start.complete.mono (by decide)]

theorem Within.refuseStep {r : StepReq} (h : Within mask s₀ s) : Within (mask ||| partsOf [.emits, .wv, .hosts, .handled, .flt]) s₀
    (s.refuseStep r) := by
  refine h.trans ?_
  unfold State.refuseStep
  dsimp only
  split
  exacts [Within.start.raise.complete.mono (by decide), (Within.start.raise.set (partsOf [.wv])).mono (by decide)]

theorem Within.pickStep {l : List StepReq} {cyc : Nat} (h : Within mask s₀ s) :
    Within (mask ||| partsOf [.emits, .wv, .hosts, .handled, .flt]) s₀ (State.pickStep l s cyc).2.2 := by
  refine h.trans ?_
  clear h
  induction l generalizing s with
  | nil => exact Within.start.mono (by decide)
  | cons r l ih =>
    unfold State.pickStep
    split
    · exact Within.start.mono (by decide)
    · exact (Within.start.refuseStep.trans ih).mono (by decide)

---
theorem Within.tryCommit (h : Within mask s₀ s) : Within (mask ||| partsOf [.emits, .waits, .wv, .hosts, .handled, .flt]) s₀
    (s.tryCommit) := by
  refine h.trans ?_
  unfold State.tryCommit
  exact (Within.start.ite ((Within.start.pickStep.set (partsOf [.waits])).ite (Within.start.pickStep.set (partsOf [.waits])))).mono
      (by decide)

theorem Within.requestStep {r : StepReq} (h : Within mask s₀ s) : Within (mask ||| partsOf [.emits, .waits, .wv, .hosts, .handled,
    .flt]) s₀ (s.requestStep r) := by
  refine h.trans ?_
  unfold State.requestStep
  exact ((Within.start.set (partsOf [.waits])).tryCommit).mono (by decide)

theorem Within.requestRate {r : Int} {host : Option Nat} (h : Within mask s₀ s) : Within (mask ||| partsOf [.emits, .waits, .wv,
    .hosts, .handled, .flt]) s₀ (s.requestRate r host) := by
  refine h.trans ?_
  unfold State.requestRate
  exact ((Within.set (s := match s.ts.waitRate with
| some w => s.completeOpt w.host 10 []
| none => s) (Within.at (partsOf [.emits, .waits, .wv, .hosts, .handled, .flt])
    (by
      split
      exacts [Within.start.completeOpt.mono (by decide), Within.start.mono (by decide)])) (partsOf [.waits])).tryCommit).mono (by decide)

theorem Within.followRateLimit (h : Within mask s₀ s) : Within (mask ||| partsOf [.limited, .flt]) s₀ s.followRateLimit := by
  refine h.trans ?_
  unfold State.followRateLimit
  dsimp only
  split
  exacts [(((Within.start.set (partsOf [.limited])).causeGone).condition).mono (by decide), ((Within.start.set (partsOf
      [.limited])).causeGone).mono (by decide)]

theorem Within.applyLeap (h : Within mask s₀ s) : Within (mask ||| partsOf [.ts]) s₀ s.applyLeap := by
  refine h.trans ?_
  unfold State.applyLeap
  exact (Within.ite Within.start (Within.start.set (partsOf [.ts]))).mono (by decide)

theorem Within.followCal {ch : Fin 88} (h : Within mask s₀ s) : Within (mask ||| partsOf [.tdc, .flt]) s₀ (s.followCal ch) := by
  refine h.trans ?_
  unfold State.followCal
  exact (Within.ite Within.start.mapTdc.condition Within.start.mapTdc.causeEnds).mono (by decide)

theorem Within.renewWidth {ch : Fin 88} (h : Within mask s₀ s) : Within (mask ||| partsOf [.tdc]) s₀ (s.renewWidth ch) := by
  refine h.trans ?_
  unfold State.renewWidth
  exact Within.start.mapTdc.mono (by decide)

theorem Within.renewWidths (h : Within mask s₀ s) : Within (mask ||| partsOf [.tdc]) s₀ s.renewWidths := by
  refine h.trans ?_
  unfold State.renewWidths
  exact (Within.start.each (fun _ _ => Within.start.renewWidth)).mono (by decide)

theorem Within.restartChannel {ch : Fin 88} (h : Within mask s₀ s) : Within (mask ||| partsOf [.tdc]) s₀ (s.restartChannel ch) := by
  refine h.trans ?_
  unfold State.restartChannel
  exact Within.start.mapTdc.mono (by decide)

theorem Within.intervalAbort {ch : Fin 88} {coarse : Nat} {overflow : Bool} (h : Within mask s₀ s) : Within (mask ||| partsOf [.tdc])
    s₀ (s.intervalAbort ch coarse overflow) := by
  refine h.trans ?_
  unfold State.intervalAbort
  split
  exacts [Within.start.mono (by decide), Within.start.mapTdc.mono (by decide)]

theorem Within.applyTdc {ch : Fin 88} {cfg : Cfg} (h : Within mask s₀ s) : Within (mask ||| partsOf [.tdc]) s₀ (s.applyTdc ch cfg) := by
  refine h.trans ?_
  unfold State.applyTdc
  dsimp only
  exact (Within.ite Within.start.mapTdc (((Within.ite Within.start.intervalAbort.mapTdc
      Within.start.intervalAbort).mapTdc).restartChannel)).mono (by decide)

theorem Within.drawnN {n : Nat} (h : Within mask s₀ s) : Within (mask ||| partsOf [.freeCtr]) s₀ (s.drawnN n) := by
  refine h.trans ?_
  unfold State.drawnN
  exact (Within.start.set (partsOf [.freeCtr])).mono (by decide)

theorem Within.followExtrapolation {f : Fin 3} (h : Within mask s₀ s) : Within (mask ||| partsOf [.fc, .flt]) s₀
    (s.followExtrapolation f) := by
  refine h.trans ?_
  unfold State.followExtrapolation
  exact (Within.ite Within.start.mapFw.raise Within.start.mapFw).mono (by decide)

theorem Within.feedTemp {f : Fin 3} {t : Rat} (h : Within mask s₀ s) : Within (mask ||| partsOf [.fc, .flt]) s₀ (s.feedTemp f t) := by
  refine h.trans ?_
  unfold State.feedTemp
  exact (Within.ite Within.start.mapFw.followExtrapolation Within.start).mono (by decide)

theorem Within.renewWeights (h : Within mask s₀ s) : Within (mask ||| partsOf [.fc]) s₀ s.renewWeights := by
  refine h.trans ?_
  unfold State.renewWeights
  exact (Within.start.set (partsOf [.fc])).mono (by decide)

theorem Within.useFlywheel {u : Nat} (h : Within mask s₀ s) : Within (mask ||| partsOf [.fc]) s₀ (s.useFlywheel u) := by
  refine h.trans ?_
  unfold State.useFlywheel
  exact (Within.ite ((Within.start.set (partsOf [.fc])).renewWeights) (Within.start.set (partsOf [.fc]))).mono (by decide)

theorem Within.anchorTo {y var : Rat} {f : Fin 3} (h : Within mask s₀ s) : Within (mask ||| partsOf [.fc]) s₀ (s.anchorTo y var f) := by
  refine h.trans ?_
  unfold State.anchorTo
  exact Within.start.mapFw.mono (by decide)

theorem Within.anchorOne {loss : Nat} {measured : Bool} {f : Fin 3} (h : Within mask s₀ s) : Within (mask ||| partsOf [.fc]) s₀
    (s.anchorOne loss measured f) := by
  refine h.trans ?_
  unfold State.anchorOne
  dsimp only
  exact (Within.at (partsOf [.fc]) (by split <;> exact Within.start.anchorTo.mono (by decide))).mono (by decide)

theorem Within.startHolding {loss : Nat} {measured : Bool} (h : Within mask s₀ s) : Within (mask ||| partsOf [.fc, .flt]) s₀
    (s.startHolding loss measured) := by
  refine h.trans ?_
  unfold State.startHolding
  extract_lets s1 s2 _ s3
  have h2 : Within (partsOf [.fc]) s s2 := (Within.start.useFlywheel.each fun _ _ => Within.start.anchorOne).mono (by decide)
  clear_value s2
  have h3 : Within (partsOf [.fc]) s s3 := (h2.set (partsOf [.fc])).mono (by decide)
  exact (Within.start.ite (h3.each fun _ _ => Within.start.raise)).mono (by decide)

theorem Within.endHolding (h : Within mask s₀ s) : Within (mask ||| partsOf [.loop, .fc]) s₀ s.endHolding := by
  refine h.trans ?_
  unfold State.endHolding
  exact (Within.start.set (partsOf [.loop, .fc])).mono (by decide)

theorem Within.rebase {sig : Rat} (h : Within mask s₀ s) : Within (mask ||| partsOf [.fc]) s₀ (s.rebase sig) := by
  refine h.trans ?_
  unfold State.rebase
  exact (Within.start.set (partsOf [.fc])).mono (by decide)

theorem Within.reanchor {rate var : Rat} (h : Within mask s₀ s) : Within (mask ||| partsOf [.fc]) s₀ (s.reanchor rate var) := by
  refine h.trans ?_
  unfold State.reanchor
  exact (Within.start.each (fun _ _ => Within.start.anchorTo)).mono (by decide)

theorem Within.changeFlywheel {lost : Fin 3} (h : Within mask s₀ s) : Within (mask ||| partsOf [.fc, .flt]) s₀ (s.changeFlywheel lost) := by
  refine h.trans ?_
  unfold State.changeFlywheel
  dsimp only
  exact (Within.ite ((Within.ite Within.start.useFlywheel.reanchor Within.start.useFlywheel.reanchor.rebase).raise)
      Within.start).mono (by decide)

theorem Within.loseFlywheel {f : Fin 3} (h : Within mask s₀ s) : Within (mask ||| partsOf [.fc, .flt]) s₀ (s.loseFlywheel f) := by
  refine h.trans ?_
  unfold State.loseFlywheel
  exact Within.start.mapFw.changeFlywheel.mono (by decide)

theorem Within.compareAtoms (h : Within mask s₀ s) : Within (mask ||| partsOf [.fc, .flt]) s₀ s.compareAtoms := by
  refine h.trans ?_
  unfold State.compareAtoms
  dsimp only
  exact (Within.ite Within.start (Within.ite (Within.start.set (partsOf [.fc])) (Within.ite Within.start.mapFw.changeFlywheel.raise
      (Within.ite Within.start ((Within.start.set (partsOf [.fc])).raise))))).mono (by decide)

theorem Within.flywheelGate {f : Fin 3} {y : Option Int} (h : Within mask s₀ s) : Within (mask ||| partsOf [.fc, .flt]) s₀
    (s.flywheelGate f y) := by
  refine h.trans ?_
  unfold State.flywheelGate
  dsimp only
  split
  exacts [Within.start.loseFlywheel.mono (by decide), Within.start.mapFw.compareAtoms.mono (by decide)]

theorem Within.configChannel {ch : Fin 88} {cfg : Cfg} (h : Within mask s₀ s) : Within (mask ||| partsOf [.tdc, .fc, .flt]) s₀
    (s.configChannel ch cfg) := by
  refine h.trans ?_
  unfold State.configChannel
  dsimp only
  split
  exacts [(Within.ite Within.start.applyTdc.flywheelGate Within.start.applyTdc).mono (by decide), Within.start.applyTdc.mono (by decide)]

theorem Within.noteStale {f : Fin 3} (h : Within mask s₀ s) : Within (mask ||| partsOf [.flt]) s₀ (s.noteStale f) := by
  refine h.trans ?_
  unfold State.noteStale
  exact (Within.ite Within.start.causeGone (Within.ite Within.start Within.start.raise)).mono (by decide)

theorem Within.refitTemp {f : Fin 3} (h : Within mask s₀ s) : Within (mask ||| partsOf [.freeCtr, .fc]) s₀ (s.refitTemp f) := by
  refine h.trans ?_
  unfold State.refitTemp
  split
  exacts [Within.start.mono (by decide), Within.start.drawnN.mapFw.mono (by decide)]

theorem Within.firstFit {f : Fin 3} (h : Within mask s₀ s) : Within (mask ||| partsOf [.freeCtr, .fc]) s₀ (s.firstFit f) := by
  refine h.trans ?_
  unfold State.firstFit
  exact Within.start.drawnN.mapFw.mono (by decide)

theorem Within.refitAge {f : Fin 3} (h : Within mask s₀ s) : Within (mask ||| partsOf [.freeCtr, .fc]) s₀ (s.refitAge f) := by
  refine h.trans ?_
  unfold State.refitAge
  dsimp only
  split
  exacts [Within.start.mono (by decide), (Within.ite Within.start Within.start.drawnN.mapFw).mono (by decide)]

theorem Within.acceptObservation {f : Fin 3} {y : Rat} (h : Within mask s₀ s) : Within (mask ||| partsOf [.freeCtr, .fc, .flt]) s₀
    (s.acceptObservation f y) := by
  refine h.trans ?_
  unfold State.acceptObservation
  exact (Within.ite Within.start.mapFw.noteStale.firstFit Within.start.mapFw.noteStale).mono (by decide)

theorem Within.rejectObservation {f : Fin 3} {y : Rat} (h : Within mask s₀ s) : Within (mask ||| partsOf [.fc, .flt]) s₀
    (s.rejectObservation f y) := by
  refine h.trans ?_
  unfold State.rejectObservation
  exact (Within.ite Within.start.mapFw Within.start.mapFw.mapFw.raise).mono (by decide)

theorem Within.takeObservation {f : Fin 3} {y : Rat} (h : Within mask s₀ s) : Within (mask ||| partsOf [.freeCtr, .fc, .flt]) s₀
    (s.takeObservation f y) := by
  refine h.trans ?_
  unfold State.takeObservation
  dsimp only
  split
  exacts [Within.start.acceptObservation.mono (by decide), (Within.ite Within.start.rejectObservation
      Within.start.acceptObservation).mono (by decide)]

theorem Within.endHour {f : Fin 3} (h : Within mask s₀ s) : Within (mask ||| partsOf [.freeCtr, .mram, .fc]) s₀ (s.endHour f) := by
  refine h.trans ?_
  unfold State.endHour
  extract_lets _ t
  have kt : Within (partsOf [.freeCtr, .mram, .fc]) s t := by
    simp only [t]
    split
    exacts [Within.start.mono (by decide), (Within.start.set (partsOf [.mram])).mapFw.mono (by decide)]
  exact (Within.ite kt kt.refitTemp).mono (by decide)

theorem Within.endDay {f : Fin 3} (h : Within mask s₀ s) : Within (mask ||| partsOf [.freeCtr, .mram, .fc]) s₀ (s.endDay f) := by
  refine h.trans ?_
  unfold State.endDay
  extract_lets _ _ _ t
  have kt : Within (partsOf [.freeCtr, .mram, .fc]) s t := (Within.ite Within.start ((Within.start.set (partsOf
      [.mram])).mapFw)).mono (by decide)
  exact (Within.ite kt kt.refitAge).mono (by decide)

theorem Within.followOvertemp (h : Within mask s₀ s) : Within (mask ||| partsOf [.sys, .flt]) s₀ s.followOvertemp := by
  refine h.trans ?_
  unfold State.followOvertemp
  dsimp only
  split
  exacts [(Within.ite Within.start ((Within.start.set (partsOf [.sys])).raise)).mono (by decide), (Within.ite ((Within.start.set
      (partsOf [.sys])).causeGone) Within.start).mono (by decide)]

theorem Within.feedIdle {f : Fin 3} (h : Within mask s₀ s) : Within (mask ||| partsOf [.fc, .flt]) s₀ (s.feedIdle f) := by
  refine h.trans ?_
  unfold State.feedIdle
  dsimp only
  exact (Within.ite Within.start.feedTemp.mapFw (Within.at (partsOf [.fc, .flt])
      (by
        split
        exacts [(Within.ite Within.start.feedTemp Within.start).mono (by decide), Within.start.mono (by decide)]))).mono (by decide)

theorem Within.startSense {i : Fin 4} (h : Within mask s₀ s) : Within (mask ||| partsOf [.emits, .fc]) s₀ (s.startSense i) := by
  refine h.trans ?_
  unfold State.startSense
  exact ((Within.start.set (partsOf [.fc])).emit).mono (by decide)

theorem Within.senseGood {i : Fin 4} {v : Rat} (h : Within mask s₀ s) : Within (mask ||| partsOf [.fc, .flt]) s₀ (s.senseGood i v) := by
  refine h.trans ?_
  unfold State.senseGood
  extract_lets _ _ marked
  have karked : Within (partsOf [.fc, .flt]) s marked := (Within.start.each (fun _ _ => Within.start.mapFw)).mono (by decide)
  exact (Within.ite (Within.ite (((karked.set (partsOf [.fc])).causeEnds).each (fun _ _ => Within.start.feedTemp)) (karked.set
      (partsOf [.fc]))) ((karked.set (partsOf [.fc])).each (fun _ _ => Within.start.feedTemp))).mono (by decide)

theorem Within.senseBad {i : Fin 4} (h : Within mask s₀ s) : Within (mask ||| partsOf [.fc, .flt]) s₀ (s.senseBad i) := by
  refine h.trans ?_
  unfold State.senseBad
  dsimp only
  exact (Within.ite (Within.start.set (partsOf [.fc])) (Within.ite (Within.at (partsOf [.fc, .flt])
      (by
        split
        exacts [((Within.start.set (partsOf [.fc])).each (fun _ _ => Within.start.feedTemp)).mono (by decide), (Within.start.set
            (partsOf [.fc])).mono (by decide)])) (((Within.start.set (partsOf [.fc])).raise).each (fun _ _ =>
            Within.start.feedTemp)))).mono (by decide)

theorem Within.followComponents (h : Within mask s₀ s) : Within (mask ||| partsOf [.bound]) s₀ s.followComponents := by
  refine h.trans ?_
  unfold State.followComponents
  dsimp only
  split
  exacts [Within.start.mono (by decide), (Within.start.set (partsOf [.bound])).mono (by decide)]

theorem Within.checkThreshold {i : Fin 26} (h : Within mask s₀ s) : Within (mask ||| partsOf [.bound, .flt]) s₀ (s.checkThreshold i) := by
  refine h.trans ?_
  unfold State.checkThreshold
  extract_lets _ _ s1
  have k1 : Within (partsOf [.bound, .flt]) s s1 := (Within.start.set (partsOf [.bound])).mono (by decide)
  exact (Within.ite (Within.ite k1 k1.raise) k1.causeEnds).mono (by decide)

theorem Within.followUnknown {old : Word} (h : Within mask s₀ s) : Within (mask ||| partsOf [.flt]) s₀ (s.followUnknown old) := by
  refine h.trans ?_
  unfold State.followUnknown
  exact (Within.ite (Within.ite Within.start Within.start.raise) Within.start.causeGone).mono (by decide)

theorem Within.stepClass {i : Fin 16} (h : Within mask s₀ s) : Within (mask ||| partsOf [.svc]) s₀ (s.stepClass i) := by
  refine h.trans ?_
  unfold State.stepClass
  dsimp only
  exact (Within.ite Within.start.mapInst (Within.ite (Within.ite Within.start.mapInst Within.start.mapInst)
      Within.start.mapInst)).mono (by decide)

theorem Within.classesNow (h : Within mask s₀ s) : Within (mask ||| partsOf [.svc]) s₀ s.classesNow := by
  refine h.trans ?_
  unfold State.classesNow
  exact (Within.start.set (partsOf [.svc])).mono (by decide)

theorem Within.computeBounds (h : Within mask s₀ s) : Within (mask ||| partsOf [.bound]) s₀ s.computeBounds := by
  refine h.trans ?_
  unfold State.computeBounds
  extract_lets _ _ _ s1
  have k1 : Within (partsOf [.bound]) s s1 := (Within.start.set (partsOf [.bound])).mono (by decide)
  exact (k1.set (partsOf [.bound])).mono (by decide)

theorem Within.unblock (h : Within mask s₀ s) : Within (mask ||| partsOf [.slots]) s₀ s.unblock := by
  refine h.trans ?_
  unfold State.unblock
  exact (Within.ite (Within.start.set (partsOf [.slots])) Within.start).mono (by decide)

theorem Within.renewBounds (h : Within mask s₀ s) : Within (mask ||| partsOf [.emits, .bound, .tdc, .slots, .fc, .svc, .hosts, .flt])
    s₀ s.renewBounds := by
  refine h.trans ?_
  unfold State.renewBounds
  extract_lets old s1 _ s2 s3 s4 s5
  have h1 : Within (partsOf [.fc, .bound]) s s1 := Within.start.renewWeights.followComponents.computeBounds.mono (by decide)
  clear_value s1
  have h2 : Within (partsOf [.fc, .bound]) s s2 := (h1.set (partsOf [.bound])).mono (by decide)
  have h4 : Within (partsOf [.fc, .bound, .emits, .hosts, .flt]) s s4 :=
    (h2.hwEventAll.followUnknown.each fun _ _ => Within.start.checkThreshold).mono (by decide)
  have h5 : Within (partsOf [.emits, .bound, .tdc, .slots, .fc, .svc, .hosts, .flt]) s s5 :=
    (h4.each fun _ _ => Within.start.stepClass).renewWidths.unblock.mono (by decide)
  clear_value s5
  exact (h5.set (partsOf [.bound])).mono (by decide)

theorem Within.pinUnknown {n : Fin 80} (h : Within mask s₀ s) : Within (mask ||| partsOf [.emits, .bound, .pins, .hosts, .flt]) s₀
    (s.pinUnknown n) := by
  refine h.trans ?_
  unfold State.pinUnknown
  extract_lets s1
  have k1 : Within (partsOf [.emits, .bound, .pins, .hosts, .flt]) s s1 := Within.start.mapPin.mono (by decide)
  split
  exacts [(((k1.set (partsOf [.bound])).hwEventAll).checkThreshold).mono (by decide), (k1.set (partsOf [.bound])).mono (by decide)]

theorem Within.applied {g : Fin 8} {m : Nat} (h : Within mask s₀ s) : Within (mask ||| partsOf [.groups, .direct]) s₀ (s.applied g m) := by
  refine h.trans ?_
  unfold State.applied
  exact (Within.start.mapGroup.set (partsOf [.direct])).mono (by decide)

theorem Within.retune {o : Fin 4} (h : Within mask s₀ s) : Within (mask ||| partsOf [.os]) s₀ (s.retune o) := by
  refine h.trans ?_
  unfold State.retune
  exact Within.start.mapOs.mono (by decide)

theorem Within.retuneAll (h : Within mask s₀ s) : Within (mask ||| partsOf [.os]) s₀ s.retuneAll := by
  refine h.trans ?_
  unfold State.retuneAll
  exact (Within.start.each (fun _ _ => Within.start.retune)).mono (by decide)

theorem Within.followMute {o : Fin 4} (h : Within mask s₀ s) : Within (mask ||| partsOf [.pins]) s₀ (s.followMute o) := by
  refine h.trans ?_
  unfold State.followMute
  exact (Within.start.each (fun _ _ => Within.start.mapPin)).mono (by decide)

theorem Within.passPin {n : Fin 80} (h : Within mask s₀ s) : Within (mask ||| partsOf [.pins]) s₀ (s.passPin n) := by
  refine h.trans ?_
  unfold State.passPin
  exact Within.start.mapPin.mono (by decide)

theorem Within.changeUtc {b : Nat} {change : State → State} (h : Within mask s₀ s) (hc : Within b s (change s)) :
    Within (mask ||| b ||| partsOf [.pins]) s₀ (s.changeUtc change) := by
  unfold State.changeUtc
  exact (h.trans hc).each fun t _ => (Within.start.passPin.mono (by decide) : Within (partsOf [.pins]) t _)

theorem Within.applyPin {n : Fin 80} (h : Within mask s₀ s) : Within (mask ||| partsOf [.tdc, .fc, .pins, .flt]) s₀ (s.applyPin n) := by
  refine h.trans ?_
  unfold State.applyPin
  dsimp only
  split
  exacts [Within.start.mono (by decide), (Within.ite Within.start.mapPin Within.start.mapPin.passPin.configChannel).mono (by decide)]

theorem Within.endLockFaults {o : Fin 4} (h : Within mask s₀ s) : Within (mask ||| partsOf [.flt]) s₀ (s.endLockFaults o) := by
  refine h.trans ?_
  unfold State.endLockFaults
  exact Within.start.causeEnds.causeEnds.causeEnds.mono (by decide)

theorem Within.alignRecord {o : Fin 4} {walk : Bool} {removed : Rat} (h : Within mask s₀ s) : Within (mask ||| partsOf [.emits,
    .hosts, .flt, .log]) s₀ (s.alignRecord o walk removed) := by
  refine h.trans ?_
  unfold State.alignRecord
  exact Within.start.logAt.notice.mono (by decide)

theorem Within.alignDone {id : Nat} (h : Within mask s₀ s) : Within (mask ||| partsOf [.emits, .hosts, .handled]) s₀ (s.alignDone id) := by
  refine h.trans ?_
  unfold State.alignDone
  dsimp only
  split
  exacts [Within.start.mono (by decide), (Within.ite Within.start.complete Within.start).mono (by decide)]

theorem Within.closeAlign {o : Fin 4} {walk : Bool} {cmd : Nat} {removed : Rat} {b : Nat} {renew : State → State} (h : Within mask s₀ s)
    (hr : ∀ t, Within b t (renew t)) :
    Within (mask ||| (b ||| partsOf [.emits, .os, .outs, .hosts, .handled, .flt, .log])) s₀ (s.closeAlign o walk cmd removed renew) := by
  refine h.trans ?_
  unfold State.closeAlign
  extract_lets s1 s2
  have h1 : Within (partsOf [.emits, .os, .outs, .hosts, .handled, .flt, .log]) s (s1.alignRecord o walk removed) :=
    Within.start.mapOs.retune.alignRecord.mono (by decide)
  have h2 := h1.trans (hr _)
  have h3 : ∀ t : State, Within (partsOf [.emits, .os, .outs, .hosts, .handled, .flt, .log]) t
      (({ t with outs.aligned := t.outs.aligned.set o (some (cmd, removed)) } : State).alignDone cmd) := fun t =>
    ((Within.start.set (partsOf [.outs])).alignDone).mono (by decide)
  exact (h2.trans (h3 _)).mono (by ac_rfl)

theorem Within.startWalk {o : Fin 4} (h : Within mask s₀ s) :
    Within (mask ||| partsOf [.emits, .os, .outs, .hosts, .handled, .flt, .log]) s₀ (s.startWalk o) := by
  refine h.trans ?_
  unfold State.startWalk
  split
  · exact ((Within.start.closeAlign fun _ => Within.start).ite Within.start.mapOs.retune).mono (by decide)
  · exact Within.start.mono (by decide)

theorem Within.recompute (h : Within mask s₀ s) : Within (mask ||| partsOf [.emits, .bound, .tdc, .slots, .fc, .os, .outs, .svc,
    .hosts, .handled, .flt, .log]) s₀ s.recompute := by
  refine h.trans ?_
  unfold State.recompute
  exact (Within.start.renewBounds.each (fun _ _ => Within.start.startWalk)).mono (by decide)

theorem Within.finishAlign {o : Fin 4} {walk : Bool} {cmd : Nat} {removed : Rat} (h : Within mask s₀ s) :
    Within (mask ||| partsOf [.emits, .bound, .tdc, .slots, .fc, .os, .outs, .svc, .hosts, .handled, .flt, .log]) s₀
      (s.finishAlign o walk cmd removed) := by
  refine h.trans ?_
  unfold State.finishAlign
  exact (Within.start.closeAlign fun _ => Within.start.recompute).mono (by decide)

theorem Within.stepMis {d : Int} (h : Within mask s₀ s) : Within (mask ||| partsOf [.os]) s₀ (s.stepMis d) := by
  refine h.trans ?_
  unfold State.stepMis
  exact (Within.start.each (fun _ _ => Within.start.mapOs.retune)).mono (by decide)

theorem Within.pinAtStep {m : Rat} {n : Fin 80} (h : Within mask s₀ s) : Within (mask ||| partsOf [.pins, .flt]) s₀ (s.pinAtStep m n) := by
  refine h.trans ?_
  unfold State.pinAtStep
  exact (Within.ite Within.start.mapPin (Within.ite Within.start.mapPin.mapPin.raise Within.start.mapPin)).mono (by decide)

theorem Within.reportLost {o : Fin 4} (h : Within mask s₀ s) : Within (mask ||| partsOf [.flt]) s₀ (s.reportLost o) := by
  refine h.trans ?_
  unfold State.reportLost
  exact (Within.start.each (fun _ _ => Within.start.raise)).mono (by decide)

theorem Within.safeOutputs {on : Bool} (h : Within mask s₀ s) : Within (mask ||| partsOf [.pins, .outs]) s₀ (s.safeOutputs on) := by
  refine h.trans ?_
  unfold State.safeOutputs
  exact (Within.start.set (partsOf [.pins, .outs])).mono (by decide)

theorem Within.moveEngine {e : EngineState} (h : Within mask s₀ s) : Within (mask ||| partsOf [.freeCtr, .emits, .engine, .mram, .fc,
    .svc, .hosts, .flt, .log]) s₀ (s.moveEngine e) := by
  refine h.trans ?_
  unfold State.moveEngine
  exact (Within.ite Within.start Within.start.setEngine.classesNow).mono (by decide)

theorem Within.followPhase (h : Within mask s₀ s) : Within (mask ||| partsOf [.freeCtr, .emits, .engine, .mram, .fc, .svc, .hosts,
    .flt, .log]) s₀ s.followPhase := by
  refine h.trans ?_
  unfold State.followPhase
  split
  exacts [Within.start.moveEngine.mono (by decide), Within.start.moveEngine.mono (by decide), Within.start.moveEngine.mono
      (by decide), Within.start.moveEngine.mono (by decide), Within.start.mono (by decide)]

theorem Within.loopRequest {r : Rat} (h : Within mask s₀ s) : Within (mask ||| partsOf [.emits, .waits, .wv, .loop, .hosts, .handled,
    .flt]) s₀ (s.loopRequest r) := by
  refine h.trans ?_
  unfold State.loopRequest
  exact ((Within.at (partsOf [.emits, .waits, .wv, .loop, .hosts, .handled, .flt])
      (by
        split
        exacts [(((Within.start.set (partsOf [.loop])).causeGone).condition).mono (by decide), ((Within.start.set (partsOf
            [.loop])).causeGone).mono (by decide)])).requestRate).mono (by decide)

theorem Within.enterPhase {p : LoopPhase} (h : Within mask s₀ s) : Within (mask ||| partsOf [.loop]) s₀ (s.enterPhase p) := by
  refine h.trans ?_
  unfold State.enterPhase
  exact (Within.start.set (partsOf [.loop])).mono (by decide)

theorem Within.slewFlag {b : Bool} (h : Within mask s₀ s) : Within (mask ||| partsOf [.loop, .flt]) s₀ (s.slewFlag b) := by
  refine h.trans ?_
  unfold State.slewFlag
  exact (Within.ite (Within.start.set (partsOf [.loop])) ((Within.start.set (partsOf [.loop])).causeGone)).mono (by decide)

theorem Within.fallPhase {p : LoopPhase} (h : Within mask s₀ s) : Within (mask ||| partsOf [.loop, .flt]) s₀ (s.fallPhase p) := by
  refine h.trans ?_
  unfold State.fallPhase
  exact Within.start.enterPhase.raise.mono (by decide)

theorem Within.evalPhase (h : Within mask s₀ s) : Within (mask ||| partsOf [.loop, .flt]) s₀ s.evalPhase := by
  refine h.trans ?_
  unfold State.evalPhase
  dsimp only
  split
  exacts [Within.start.mono (by decide), (Within.ite Within.start.enterPhase (Within.start.set (partsOf [.loop]))).mono (by decide),
      (Within.ite Within.start.fallPhase (Within.ite Within.start.enterPhase (Within.start.set (partsOf [.loop])))).mono (by decide),
      (Within.ite Within.start.fallPhase Within.start).mono (by decide)]

theorem Within.loopOffset {phi : Int} {at_ : Nat} {dt : Rat} (h : Within mask s₀ s) : Within (mask ||| partsOf [.freeCtr, .emits,
    .engine, .mram, .waits, .wv, .loop, .fc, .svc, .hosts, .handled, .flt, .log]) s₀ (s.loopOffset phi at_ dt) := by
  refine h.trans ?_
  unfold State.loopOffset
  exact (((((Within.start.set (partsOf [.loop])).slewFlag).loopRequest).evalPhase).followPhase).mono (by decide)

theorem Within.enterHoldover {measured : Bool} (h : Within mask s₀ s) : Within (mask ||| partsOf [.freeCtr, .emits, .engine, .mram,
    .bound, .tdc, .slots, .loop, .fc, .os, .outs, .svc, .hosts, .handled, .flt, .log]) s₀ (s.enterHoldover measured) := by
  refine h.trans ?_
  unfold State.enterHoldover
  exact (((((Within.start.set (partsOf [.loop])).slewFlag).startHolding).recompute).followPhase).mono (by decide)

theorem Within.dropAid (h : Within mask s₀ s) : Within (mask ||| partsOf [.loop, .fc]) s₀ s.dropAid := by
  refine h.trans ?_
  unfold State.dropAid
  exact (Within.ite (Within.start.reanchor.rebase.set (partsOf [.loop])) Within.start).mono (by decide)

theorem Within.replSlot {i : Fin 16} (h : Within mask s₀ s) : Within (mask ||| partsOf [.emits]) s₀ (s.replSlot i) := by
  refine h.trans ?_
  unfold State.replSlot
  exact Within.start.repl.mono (by decide)

theorem Within.setSlot {i : Fin 16} {new : SlotState} {cause : Nat} (h : Within mask s₀ s) : Within (mask ||| partsOf [.emits,
    .slots, .hosts, .flt, .log]) s₀ (s.setSlot i new cause) := by
  refine h.trans ?_
  unfold State.setSlot
  exact (Within.ite Within.start.mapSlot Within.start.mapSlot.logAt.notice.replSlot).mono (by decide)

theorem Within.dropSlot {i : Fin 16} (h : Within mask s₀ s) : Within (mask ||| partsOf [.slots, .wv]) s₀ (s.dropSlot i) := by
  refine h.trans ?_
  unfold State.dropSlot
  extract_lets s1
  have k1 : Within (partsOf [.slots, .wv]) s s1 := Within.start.mapSlot.mono (by decide)
  split
  exacts [(Within.ite (k1.set (partsOf [.wv])) k1).mono (by decide), k1.mono (by decide)]

theorem Within.lockOut {i : Fin 16} {cause : Nat} (h : Within mask s₀ s) : Within (mask ||| partsOf [.emits, .slots, .wv, .hosts,
    .flt, .log]) s₀ (s.lockOut i cause) := by
  refine h.trans ?_
  unfold State.lockOut
  exact Within.start.dropSlot.setSlot.condition.mono (by decide)

theorem Within.alarm {i : Fin 16} {cause : Nat} (h : Within mask s₀ s) : Within (mask ||| partsOf [.emits, .slots, .wv, .hosts, .flt,
    .log]) s₀ (s.alarm i cause) := by
  refine h.trans ?_
  unfold State.alarm
  dsimp only
  split
  exacts [(Within.ite Within.start.dropSlot.setSlot.mapSlot.raise.lockOut Within.start.dropSlot.setSlot.mapSlot.raise).mono
      (by decide), (Within.ite Within.start.dropSlot.setSlot.mapSlot.raise.lockOut Within.start.dropSlot.setSlot.mapSlot.raise).mono
      (by decide), (Within.ite Within.start.dropSlot.setSlot.mapSlot.raise.lockOut Within.start.dropSlot.setSlot.mapSlot.raise).mono
      (by decide), Within.start.mono (by decide)]

theorem Within.nameAid (h : Within mask s₀ s) : Within (mask ||| partsOf [.wv, .loop, .fc]) s₀ s.nameAid := by
  refine h.trans ?_
  unfold State.nameAid
  exact (Within.ite Within.start (Within.start.dropAid.set (partsOf [.wv]))).mono (by decide)

theorem Within.letGo (h : Within mask s₀ s) : Within (mask ||| partsOf [.wv, .fc, .flt]) s₀ s.letGo := by
  refine h.trans ?_
  unfold State.letGo
  dsimp only
  split
  exacts [Within.start.mono (by decide), (Within.ite Within.start (Within.ite ((Within.start.set (partsOf [.wv])).startHolding)
      (Within.start.set (partsOf [.wv])))).mono (by decide)]

theorem Within.startSwitch {i : Fin 16} (h : Within mask s₀ s) : Within (mask ||| partsOf [.wv, .fc, .flt]) s₀ (s.startSwitch i) := by
  refine h.trans ?_
  unfold State.startSwitch
  extract_lets _ _ _ s1
  have k1 : Within (partsOf [.wv, .fc, .flt]) s s1 := (Within.start.set (partsOf [.wv, .fc])).mono (by decide)
  exact (Within.ite k1.startHolding k1).mono (by decide)

theorem Within.evaluate (h : Within mask s₀ s) : Within (mask ||| partsOf [.freeCtr, .emits, .engine, .mram, .bound, .tdc, .slots,
    .wv, .loop, .fc, .os, .outs, .svc, .hosts, .handled, .flt, .log]) s₀ s.evaluate := by
  refine h.trans ?_
  unfold State.evaluate
  dsimp only
  exact (Within.ite Within.start (Within.ite Within.start.nameAid.letGo (Within.at (partsOf [.freeCtr, .emits, .engine, .mram,
      .bound, .tdc, .slots, .wv, .loop, .fc, .os, .outs, .svc, .hosts, .handled, .flt, .log])
      (by
        split
        exacts [(Within.ite (Within.start.nameAid.letGo.set (partsOf [.wv])) ((Within.start.nameAid.letGo.set (partsOf
            [.wv])).startSwitch)).mono (by decide), (Within.ite (((Within.start.nameAid.letGo.set (partsOf
            [.wv])).condition).enterHoldover) (Within.start.nameAid.letGo.set (partsOf [.wv]))).mono (by decide)])))).mono (by decide)

theorem Within.completeSwitch {i : Fin 16} {phi : Int} (h : Within mask s₀ s) : Within (mask ||| partsOf [.freeCtr, .emits, .engine,
    .mram, .bound, .tdc, .slots, .wv, .loop, .fc, .os, .outs, .svc, .hosts, .handled, .flt, .log]) s₀ (s.completeSwitch i phi) := by
  refine h.trans ?_
  unfold State.completeSwitch
  extract_lets _ _ _ _ s1 _ _ _ _ _ s2 _ _ _ _ s3 _ s5 s6
  have k1 : Within (partsOf [.freeCtr, .emits, .engine, .mram, .bound, .tdc, .slots, .wv, .loop, .fc, .os, .outs, .svc, .hosts,
      .handled, .flt, .log]) s s1 := Within.start.endHolding.mono (by decide)
  have k2 : Within (partsOf [.freeCtr, .emits, .engine, .mram, .bound, .tdc, .slots, .wv, .loop, .fc, .os, .outs, .svc, .hosts,
      .handled, .flt, .log]) s s2 := (k1.set (partsOf [.engine, .bound, .wv, .loop, .fc])).mono (by decide)
  have k3 : Within (partsOf [.freeCtr, .emits, .engine, .mram, .bound, .tdc, .slots, .wv, .loop, .fc, .os, .outs, .svc, .hosts,
      .handled, .flt, .log]) s s3 := (Within.ite k2 (k2.set (partsOf [.loop]))).mono (by decide)
  have k5 : Within (partsOf [.freeCtr, .emits, .engine, .mram, .bound, .tdc, .slots, .wv, .loop, .fc, .os, .outs, .svc, .hosts,
      .handled, .flt, .log]) s s5 := (Within.ite k3.enterPhase.raise k3.enterPhase).mono (by decide)
  have k6 : Within (partsOf [.freeCtr, .emits, .engine, .mram, .bound, .tdc, .slots, .wv, .loop, .fc, .os, .outs, .svc, .hosts,
      .handled, .flt, .log]) s s6 := k5.causeGone.logAt.notice.mono (by decide)
  exact k6.recompute.followPhase.evaluate.mono (by decide)

theorem Within.steerWith {i : Fin 16} {phi : Int} {at_ : Nat} (h : Within mask s₀ s) : Within (mask ||| partsOf [.freeCtr, .emits,
    .engine, .mram, .waits, .wv, .loop, .fc, .svc, .hosts, .handled, .groups, .direct, .flt, .log]) s₀ (s.steerWith i phi at_) := by
  refine h.trans ?_
  unfold State.steerWith
  exact (((Within.start.set (partsOf [.fc])).applied).loopOffset).mono (by decide)

theorem Within.deliverMeas {i : Fin 16} {m : Meas} (h : Within mask s₀ s) : Within (mask ||| partsOf [.slots]) s₀ (s.deliverMeas i m) := by
  refine h.trans ?_
  unfold State.deliverMeas
  exact Within.start.mapSlot.mono (by decide)

theorem Within.dispute {i : Fin 16} (h : Within mask s₀ s) : Within (mask ||| partsOf [.emits, .slots, .fc, .hosts, .flt, .log]) s₀
    (s.dispute i) := by
  refine h.trans ?_
  unfold State.dispute
  exact ((Within.start.mapSlot.setSlot.set (partsOf [.fc])).raise).mono (by decide)

theorem Within.disputeRank {r : Nat} (h : Within mask s₀ s) : Within (mask ||| partsOf [.emits, .slots, .fc, .hosts, .flt, .log]) s₀
    (s.disputeRank r) := by
  refine h.trans ?_
  unfold State.disputeRank
  dsimp only
  exact (Within.ite Within.start (Within.at (partsOf [.emits, .slots, .fc, .hosts, .flt, .log])
      (by
        split
        exacts [((Within.start.each (fun _ _ => Within.start.dispute)).raise).mono (by decide), (Within.at (partsOf [.emits, .slots,
            .fc, .hosts, .flt, .log])
            (by
              split
              exacts [Within.start.mono (by decide), (Within.ite (Within.start.each (fun _ _ => Within.start.dispute))
                  ((Within.start.each (fun _ _ => Within.start.dispute)).raise)).mono (by decide)])).mono (by decide)]))).mono (by decide)

theorem Within.disputeReturn {i : Fin 16} (h : Within mask s₀ s) : Within (mask ||| partsOf [.emits, .slots, .hosts, .flt, .log]) s₀
    (s.disputeReturn i) := by
  refine h.trans ?_
  unfold State.disputeReturn
  dsimp only
  exact (Within.ite Within.start (Within.at (partsOf [.emits, .slots, .hosts, .flt, .log])
      (by
        split
        exacts [Within.start.mono (by decide), (Within.ite Within.start.setSlot Within.start).mono (by decide)]))).mono (by decide)

theorem Within.signalLost {l : List (Fin 16)} (h : Within mask s₀ s) : Within (mask ||| partsOf [.freeCtr, .emits, .engine, .mram,
    .bound, .tdc, .slots, .wv, .loop, .fc, .os, .outs, .svc, .hosts, .handled, .flt, .log]) s₀ (s.signalLost l) := by
  refine h.trans ?_
  unfold State.signalLost
  exact ((Within.start.each (fun _ _ => Within.start.alarm)).evaluate).mono (by decide)

theorem Within.checkLeapBits {i : Fin 16} {t : IrigTime} (h : Within mask s₀ s) : Within (mask ||| partsOf [.wv, .flt]) s₀
    (s.checkLeapBits i t) := by
  refine h.trans ?_
  unfold State.checkLeapBits
  exact (Within.ite ((Within.start.set (partsOf [.wv])).raise) Within.start).mono (by decide)

theorem Within.markGate {cyc : Nat} {ch : Fin 88} (h : Within mask s₀ s) : Within (mask ||| partsOf [.tdc]) s₀ (s.markGate cyc ch) := by
  refine h.trans ?_
  unfold State.markGate
  exact (Within.ite Within.start.mapTdc Within.start).mono (by decide)

theorem Within.doStep {d : Int} {cyc : Nat} {before : Int} (h : Within mask s₀ s) :
    Within (mask ||| partsOf [.emits, .ts, .tdc, .slots, .loop, .fc, .os, .pins, .hosts, .flt, .log]) s₀ (s.doStep d cyc before) := by
  refine h.trans ?_
  unfold State.doStep
  extract_lets leap flags s1 _ _ _ _ s2 s3 s4 t
  have h1 : Within (partsOf [.ts, .pins]) s s1 := ((Within.start.changeUtc Within.start.applyLeap).ite Within.start).mono (by decide)
  have h2 : Within (partsOf [.ts, .pins, .slots, .loop, .fc]) s s2 := (h1.set (partsOf [.ts, .slots, .loop, .fc])).mono (by decide)
  exact (((h2.stepMis.each fun _ _ => Within.start.markGate).logAt).each fun _ _ => Within.start.noticePort).mono (by decide)

theorem Within.replModel {f : Fin 3} (h : Within mask s₀ s) : Within (mask ||| partsOf [.emits]) s₀ (s.replModel f) := by
  refine h.trans ?_
  unfold State.replModel
  split
  exacts [Within.start.repl.mono (by decide), Within.start.mono (by decide)]

theorem Within.applyK (h : Within mask s₀ s) : Within (mask ||| partsOf [.emits, .bound, .groups, .direct]) s₀ s.applyK := by
  refine h.trans ?_
  unfold State.applyK
  dsimp only
  split
  exacts [(((Within.start.set (partsOf [.bound])).applied).repl).mono (by decide), Within.start.applied.mono (by decide)]

theorem Within.busError {hp : Fin 4} {addr cause : Nat} {write : Bool} {region : Nat} (h : Within mask s₀ s) : Within (mask |||
    partsOf [.hosts, .flt]) s₀ (s.busError hp addr cause write region) := by
  refine h.trans ?_
  unfold State.busError
  exact Within.start.mapHost.raise.mono (by decide)

theorem Within.takeImb {hp : Fin 4} {m : Fin 8} (h : Within mask s₀ s) : Within (mask ||| partsOf [.emits, .hosts, .cmds]) s₀
    (s.takeImb hp m) := by
  refine h.trans ?_
  unfold State.takeImb
  exact (((Within.start.set (partsOf [.cmds])).mapHost).ring).mono (by decide)

theorem Within.portReset {hp : Fin 4} (h : Within mask s₀ s) : Within (mask ||| partsOf [.flash, .svc, .hosts, .locks, .cmds,
    .handled]) s₀ (s.portReset hp) := by
  refine h.trans ?_
  unfold State.portReset
  extract_lets s1 _ s2
  have k1 : Within (partsOf [.flash, .svc, .hosts, .locks, .cmds, .handled]) s s1 := Within.start.mapHost.mono (by decide)
  have k2 : Within (partsOf [.flash, .svc, .hosts, .locks, .cmds, .handled]) s s2 := (k1.set (partsOf [.flash, .locks, .cmds,
      .handled])).mono (by decide)
  split
  exacts [k2.mapLane.mono (by decide), k2.mono (by decide)]

theorem Within.pushGq {p : Fin 4} {f : Fin 6} {w : List Word} (h : Within mask s₀ s) : Within (mask ||| partsOf [.emits, .feeds,
    .hosts, .flt]) s₀ (s.pushGq p f w) := by
  refine h.trans ?_
  unfold State.pushGq
  dsimp only
  exact (Within.ite Within.start.mapHost.mapFeed.hwEvent.raise (Within.ite Within.start.mapHost.mapFeed.hwLevelRise
      Within.start.mapHost.mapFeed)).mono (by decide)

theorem Within.gridRecord {f : Fin 6} {kind : Nat} {set : Bool} {t : Stamp} {value : Word} (h : Within mask s₀ s) : Within (mask |||
    partsOf [.freeCtr, .emits, .feeds, .hosts, .flt]) s₀ (s.gridRecord f kind set t value) := by
  refine h.trans ?_
  unfold State.gridRecord
  extract_lets _ _ _ _ s0 s1
  have k0 : Within (partsOf [.freeCtr, .emits, .feeds, .hosts, .flt]) s s0 := (Within.ite Within.start.noteLateBlock
      Within.start.noteLate).mono (by decide)
  have k1 : Within (partsOf [.freeCtr, .emits, .feeds, .hosts, .flt]) s s1 := (k0.each (fun _ _ => Within.start.pushGq)).mono (by decide)
  exact k1.mapFeed.mono (by decide)

theorem Within.restartFeed {f : Fin 6} (h : Within mask s₀ s) : Within (mask ||| partsOf [.feeds]) s₀ (s.restartFeed f) := by
  refine h.trans ?_
  unfold State.restartFeed
  exact Within.start.mapFeed.mono (by decide)

theorem Within.dataLost {f : Fin 6} (h : Within mask s₀ s) : Within (mask ||| partsOf [.feeds, .flt]) s₀ (s.dataLost f) := by
  refine h.trans ?_
  unfold State.dataLost
  exact (Within.ite Within.start Within.start.restartFeed.mapFeed.raise).mono (by decide)

theorem Within.feedReturns {f : Fin 6} {t now : Int × Stamp} (h : Within mask s₀ s) : Within (mask ||| partsOf [.freeCtr, .emits,
    .feeds, .hosts, .flt]) s₀ (s.feedReturns f t now) := by
  refine h.trans ?_
  unfold State.feedReturns
  extract_lets _ _ _ s1 _
  have k1 : Within (partsOf [.freeCtr, .emits, .feeds, .hosts, .flt]) s s1 := (Within.ite Within.start.gridRecord Within.start).mono
      (by decide)
  exact (Within.ite k1.mapFeed.notice.causeEnds.raise k1.mapFeed).mono (by decide)

theorem Within.rejectCrossing {f : Fin 6} (h : Within mask s₀ s) : Within (mask ||| partsOf [.feeds]) s₀ (s.rejectCrossing f) := by
  refine h.trans ?_
  unfold State.rejectCrossing
  exact Within.start.mapFeed.mono (by decide)

theorem Within.lostCrossing {f : Fin 6} {t : Int × Stamp} (h : Within mask s₀ s) : Within (mask ||| partsOf [.freeCtr, .emits,
    .feeds, .hosts, .flt]) s₀ (s.lostCrossing f t) := by
  refine h.trans ?_
  unfold State.lostCrossing
  exact (Within.ite Within.start.rejectCrossing (Within.ite Within.start.mapFeed Within.start.feedReturns)).mono (by decide)

theorem Within.condRecord {f : Fin 6} {kind : Nat} {set : Bool} {due : Option Stamp} {v : Word} (h : Within mask s₀ s) : Within (mask
    ||| partsOf [.freeCtr, .emits, .feeds, .hosts, .flt]) s₀ (s.condRecord f kind set due v) := by
  refine h.trans ?_
  unfold State.condRecord
  dsimp only
  split
  exacts [Within.start.mono (by decide), (Within.ite Within.start.gridRecord.raise Within.start.gridRecord).mono (by decide)]

theorem Within.gridThresholds {f : Fin 6} {t : Stamp} (h : Within mask s₀ s) : Within (mask ||| partsOf [.freeCtr, .emits, .feeds,
    .hosts, .flt]) s₀ (s.gridThresholds f t) := by
  refine h.trans ?_
  unfold State.gridThresholds
  dsimp only
  split
  exacts [Within.start.mono (by decide), Within.start.mapFeed.condRecord.condRecord.condRecord.mono (by decide)]

theorem Within.gridLatch {f : Fin 6} {t counted : Int} (h : Within mask s₀ s) : Within (mask ||| partsOf [.feeds]) s₀ (s.gridLatch f
    t counted) := by
  refine h.trans ?_
  unfold State.gridLatch
  exact (Within.ite Within.start Within.start.mapFeed).mono (by decide)

theorem Within.gridFit {f : Fin 6} {k : Nat} {t : Int} {st : Stamp} (h : Within mask s₀ s) : Within (mask ||| partsOf [.freeCtr,
    .emits, .feeds, .hosts, .flt]) s₀ (s.gridFit f k t st) := by
  refine h.trans ?_
  unfold State.gridFit
  extract_lets x g s1 s2 s3
  have w1 : Within (partsOf [.feeds]) s s1 := by
    cases hg : g with
    | none =>
      have h1 : s1 = s := by dsimp only [s1]; rw [hg]
      rw [h1]
      exact Within.start.mono (by decide)
    | some y =>
      dsimp only [s1]
      rw [hg]
      exact Within.start.mapFeed.mono (by decide)
  have w2 : Within (partsOf [.feeds]) s s2 := w1.mapFeed.mono (by decide)
  exact ((Within.ite w2.gridThresholds w2).gridLatch).mono (by decide)


theorem Within.acceptCrossing {f : Fin 6} {k : Nat} {t : Int} {st : Stamp} (h : Within mask s₀ s) : Within (mask ||| partsOf
    [.freeCtr, .emits, .feeds, .hosts, .flt]) s₀ (s.acceptCrossing f k t st) := by
  refine h.trans ?_
  unfold State.acceptCrossing
  extract_lets _ s0 _
  have k0 : Within (partsOf [.freeCtr, .emits, .feeds, .hosts, .flt]) s s0 := Within.start.mapFeed.mono (by decide)
  exact (Within.ite k0.gridRecord.raise.gridLatch.restartFeed.mapFeed k0.mapFeed.gridFit).mono (by decide)

theorem Within.crossing {f : Fin 6} {t : Int} {st : Stamp} (h : Within mask s₀ s) : Within (mask ||| partsOf [.freeCtr, .emits,
    .feeds, .hosts, .flt]) s₀ (s.crossing f t st) := by
  refine h.trans ?_
  unfold State.crossing
  dsimp only
  exact (Within.ite Within.start.lostCrossing (Within.at (partsOf [.freeCtr, .emits, .feeds, .hosts, .flt])
      (by
        split
        exacts [Within.start.acceptCrossing.mono (by decide), (Within.ite Within.start.rejectCrossing (Within.ite
            Within.start.acceptCrossing Within.start.rejectCrossing)).mono (by decide)]))).mono (by decide)

theorem Within.mainsTimeout {feed : Fin 6} (h : Within mask s₀ s) : Within (mask ||| partsOf [.freeCtr, .emits, .feeds, .hosts,
    .flt]) s₀ (s.mainsTimeout feed) := by
  refine h.trans ?_
  unfold State.mainsTimeout
  dsimp only
  exact (Within.ite Within.start (Within.ite Within.start.gridRecord.restartFeed.mapFeed.notice.condition
      Within.start.gridRecord.restartFeed.mapFeed)).mono (by decide)

theorem Within.stopsDone {id : Nat} (h : Within mask s₀ s) : Within (mask ||| partsOf [.emits, .hosts, .handled]) s₀ (s.stopsDone id) := by
  refine h.trans ?_
  unfold State.stopsDone
  exact (Within.ite Within.start Within.start.complete).mono (by decide)

theorem Within.stopPort {n : Fin 8} (h : Within mask s₀ s) : Within (mask ||| partsOf [.emits, .feeds, .cps, .hosts, .handled, .flt])
    s₀ (s.stopPort n) := by
  refine h.trans ?_
  unfold State.stopPort
  exact ((Within.start.mapCp.each (fun _ _ => Within.start.dataLost)).each (fun _ _ => Within.start.stopsDone)).mono (by decide)

theorem Within.stopConverters (h : Within mask s₀ s) : Within (mask ||| partsOf [.emits, .feeds, .cps, .hosts, .handled, .flt]) s₀
    s.stopConverters := by
  refine h.trans ?_
  unfold State.stopConverters
  extract_lets s1
  have k1 : Within (partsOf [.emits, .feeds, .cps, .hosts, .handled, .flt]) s s1 := (Within.start.each (fun _ _ =>
      Within.start.stopPort)).mono (by decide)
  exact (k1.each (fun _ _ => Within.at (partsOf [.emits, .feeds, .cps, .hosts, .handled, .flt])
      (by
        split
        exacts [Within.start.mapCp.complete.mono (by decide), Within.start.mono (by decide)]))).mono (by decide)

theorem Within.underrun {n : Fin 8} (h : Within mask s₀ s) : Within (mask ||| partsOf [.cps, .flt]) s₀ (s.underrun n) := by
  refine h.trans ?_
  unfold State.underrun
  exact (Within.ite Within.start.mapCp.mapCp.raise Within.start.mapCp).mono (by decide)

theorem Within.pickTx {k : Nat} {n : Fin 8} (h : Within mask s₀ s) : Within (mask ||| partsOf [.cps, .flt]) s₀ (State.pickTx k s n) := by
  refine h.trans ?_
  clear h
  induction k generalizing s with
  | zero => exact Within.start.underrun.mono (by decide)
  | succ k ih =>
    unfold State.pickTx
    exact (Within.start.mapCp.underrun.ite (Within.start.mapCp.ite (Within.start.mapCp.underrun.ite
        (Within.start.mapCp.underrun.trans ih)))).mono (by decide)

theorem Within.sendBits {n : Fin 8} (h : Within mask s₀ s) : Within (mask ||| partsOf [.emits]) s₀ (s.sendBits n) := by
  refine h.trans ?_
  unfold State.sendBits
  exact (Within.ite Within.start.emit Within.start).mono (by decide)

theorem Within.loseBlock {n : Fin 8} (h : Within mask s₀ s) : Within (mask ||| partsOf [.cps, .flt]) s₀ (s.loseBlock n) := by
  refine h.trans ?_
  unfold State.loseBlock
  exact (Within.ite Within.start.mapCp.mapCp.raise Within.start.mapCp).mono (by decide)

theorem Within.feedSample {f : Fin 6} {x : Int} {t : Rat} (h : Within mask s₀ s) : Within (mask ||| partsOf [.freeCtr, .emits,
    .feeds, .hosts, .flt]) s₀ (s.feedSample f x t) := by
  refine h.trans ?_
  unfold State.feedSample
  extract_lets _ _ s1
  have k1 : Within (partsOf [.freeCtr, .emits, .feeds, .hosts, .flt]) s s1 := Within.start.mapFeed.mono (by decide)
  split
  exacts [(Within.ite k1.mapFeed.crossing k1).mono (by decide), k1.mono (by decide)]

theorem Within.feedLostSample {f : Fin 6} {fs : Rat} (h : Within mask s₀ s) : Within (mask ||| partsOf [.feeds, .flt]) s₀
    (s.feedLostSample f fs) := by
  refine h.trans ?_
  unfold State.feedLostSample
  exact (Within.ite Within.start.mapFeed.dataLost Within.start.mapFeed).mono (by decide)

theorem Within.feedFrame {n : Fin 8} {samples : List Word} {lost : Bool} {t : Rat} (h : Within mask s₀ s) : Within (mask ||| partsOf
    [.freeCtr, .emits, .feeds, .hosts, .flt]) s₀ (s.feedFrame n samples lost t) := by
  refine h.trans ?_
  unfold State.feedFrame
  exact (Within.start.each (fun _ _ => Within.ite Within.start.feedLostSample Within.start.feedSample)).mono (by decide)

theorem Within.startPort {n : Fin 8} (h : Within mask s₀ s) : Within (mask ||| partsOf [.cps, .flt]) s₀ (s.startPort n) := by
  refine h.trans ?_
  unfold State.startPort
  exact Within.start.mapCp.causeEnds.mono (by decide)

theorem Within.portCount {p : Fin 8} {i : Fin 45} {n : Nat} (h : Within mask s₀ s) : Within (mask ||| partsOf [.emits, .ports,
    .hosts]) s₀ (s.portCount p i n) := by
  refine h.trans ?_
  unfold State.portCount
  extract_lets _ _ s1
  have k1 : Within (partsOf [.emits, .ports, .hosts]) s s1 := Within.start.mapPort.mono (by decide)
  exact (Within.ite k1 (k1.each (fun _ _ => Within.ite Within.start.mapHost Within.start.mapHost.hwLevelRise))).mono (by decide)

theorem Within.portFault {p : Fin 8} {last : Option Nat} {k : FaultKind} {keep : Port → Option Nat → Port} (h : Within mask s₀ s) :
    Within (mask ||| partsOf [.ports, .flt]) s₀ (s.portFault p last k keep) := by
  refine h.trans ?_
  unfold State.portFault
  exact (Within.ite Within.start.mapPort.raise Within.start).mono (by decide)

theorem Within.lineCounts {p : Fin 8} {f : RxFrame} (h : Within mask s₀ s) : Within (mask ||| partsOf [.emits, .ports, .hosts, .flt])
    s₀ (s.lineCounts p f) := by
  refine h.trans ?_
  unfold State.lineCounts
  extract_lets s1 s2
  have k1 : Within (partsOf [.emits, .ports, .hosts, .flt]) s s1 := (Within.ite Within.start Within.start.portCount).mono (by decide)
  have k2 : Within (partsOf [.emits, .ports, .hosts, .flt]) s s2 := (Within.ite k1 k1.portCount.portFault).mono (by decide)
  exact (Within.ite k2 k2.portCount).mono (by decide)

theorem Within.countRx {p : Fin 8} {f : RxFrame} (h : Within mask s₀ s) : Within (mask ||| partsOf [.emits, .ports, .hosts, .perf])
    s₀ (s.countRx p f) := by
  refine h.trans ?_
  unfold State.countRx
  extract_lets s1 _ s3 _
  have k1 : Within (partsOf [.emits, .ports, .hosts, .perf]) s s1 := Within.start.portCount.portCount.mono (by decide)
  have k3 : Within (partsOf [.emits, .ports, .hosts, .perf]) s s3 := (Within.ite k1.portCount.portCount k1.portCount).mono (by decide)
  exact (k3.portCount.set (partsOf [.perf])).mono (by decide)

theorem Within.queueFrame {p : Fin 8} {f : TxFrame} (h : Within mask s₀ s) : Within (mask ||| partsOf [.ports]) s₀ (s.queueFrame p f) := by
  refine h.trans ?_
  unfold State.queueFrame
  exact (Within.ite Within.start.mapPort Within.start).mono (by decide)

theorem Within.sendFrame {p : Fin 8} {f : TxFrame} (h : Within mask s₀ s) : Within (mask ||| partsOf [.ports, .pairs]) s₀
    (s.sendFrame p f) := by
  refine h.trans ?_
  unfold State.sendFrame
  exact (Within.ite Within.start.queueFrame Within.start.queueFrame.queueFrame.mapPair).mono (by decide)

theorem Within.countTx {p : Fin 8} {f : TxFrame} (h : Within mask s₀ s) : Within (mask ||| partsOf [.emits, .ports, .hosts, .perf])
    s₀ (s.countTx p f) := by
  refine h.trans ?_
  unfold State.countTx
  extract_lets s1 _ s3 s4 s5
  have k1 : Within (partsOf [.emits, .ports, .hosts, .perf]) s s1 := Within.start.portCount.portCount.mono (by decide)
  have k3 : Within (partsOf [.emits, .ports, .hosts, .perf]) s s3 := k1.portCount.portCount.mono (by decide)
  have k4 : Within (partsOf [.emits, .ports, .hosts, .perf]) s s4 := (Within.ite k3.portCount k3).mono (by decide)
  have k5 : Within (partsOf [.emits, .ports, .hosts, .perf]) s s5 := (Within.ite k4.portCount k4).mono (by decide)
  exact (k5.set (partsOf [.perf])).mono (by decide)

theorem Within.followPair {q : Fin 4} (h : Within mask s₀ s) : Within (mask ||| partsOf [.pairs, .flt]) s₀ (s.followPair q) := by
  refine h.trans ?_
  unfold State.followPair
  exact (Within.ite Within.start.mapPair.causeGone.condition Within.start.mapPair.causeGone).mono (by decide)

theorem Within.linkDown {p : Fin 8} {planned : Bool} (h : Within mask s₀ s) : Within (mask ||| partsOf [.ports, .pairs, .flt]) s₀
    (s.linkDown p planned) := by
  refine h.trans ?_
  unfold State.linkDown
  exact ((Within.ite Within.start.mapPort.condition Within.start.mapPort).followPair).mono (by decide)

theorem Within.linkIsUp {p : Fin 8} (h : Within mask s₀ s) : Within (mask ||| partsOf [.ports, .pairs, .flt]) s₀ (s.linkIsUp p) := by
  refine h.trans ?_
  unfold State.linkIsUp
  exact Within.start.mapPort.causeEnds.causeEnds.followPair.mono (by decide)

theorem Within.os3Lost (h : Within mask s₀ s) : Within (mask ||| partsOf [.ports, .pairs, .flt]) s₀ s.os3Lost := by
  refine h.trans ?_
  unfold State.os3Lost
  exact (Within.start.each (fun _ _ => Within.start.linkDown.mapPort)).mono (by decide)

theorem Within.os3Back (h : Within mask s₀ s) : Within (mask ||| partsOf [.ports, .pairs, .flt]) s₀ s.os3Back := by
  refine h.trans ?_
  unfold State.os3Back
  exact (Within.ite (Within.start.each (fun _ _ => Within.start.linkDown.mapPort)) Within.start).mono (by decide)

theorem Within.mapKey {sa : Bool} {n : Fin 64} {f : KeySlot → KeySlot} (h : Within mask s₀ s) : Within (mask ||| partsOf [.auth]) s₀
    (s.mapKey sa n f) := by
  refine h.trans ?_
  unfold State.mapKey
  exact (Within.ite (Within.start.set (partsOf [.auth])) (Within.start.set (partsOf [.auth]))).mono (by decide)

theorem Within.followInstAuth {i : Fin 16} (h : Within mask s₀ s) : Within (mask ||| partsOf [.svc, .flt]) s₀ (s.followInstAuth i) := by
  refine h.trans ?_
  unfold State.followInstAuth
  exact (Within.ite (Within.ite Within.start.mapInst Within.start.mapInst.raise) Within.start.mapInst.causeGone).mono (by decide)

theorem Within.followAuth (h : Within mask s₀ s) : Within (mask ||| partsOf [.svc, .auth, .flt]) s₀ s.followAuth := by
  refine h.trans ?_
  unfold State.followAuth
  extract_lets _ _ s1 s2
  have k1 : Within (partsOf [.svc, .auth, .flt]) s s1 := (Within.start.set (partsOf [.auth])).mono (by decide)
  have k2 : Within (partsOf [.svc, .auth, .flt]) s s2 := (Within.ite k1.causeGone k1).mono (by decide)
  exact (k2.each (fun _ _ => Within.start.followInstAuth)).mono (by decide)

theorem Within.drainKey {sa : Bool} {n : Fin 64} (h : Within mask s₀ s) : Within (mask ||| partsOf [.svc, .auth, .flt]) s₀
    (s.drainKey sa n) := by
  refine h.trans ?_
  unfold State.drainKey
  exact Within.start.mapKey.followAuth.mono (by decide)

theorem Within.replState {sa : Bool} {slot : Fin 64} (h : Within mask s₀ s) : Within (mask ||| partsOf [.emits]) s₀ (s.replState sa
    slot) := by
  refine h.trans ?_
  unfold State.replState
  exact (Within.ite Within.start.repl Within.start).mono (by decide)

theorem Within.storeKey {sa : Bool} {slot : Fin 64} {form : Nat} {r : KeyRecord} (h : Within mask s₀ s) : Within (mask ||| partsOf
    [.freeCtr, .svc, .auth, .flt]) s₀ (s.storeKey sa slot form r) := by
  refine h.trans ?_
  unfold State.storeKey
  exact Within.start.mapKey.drawn.followAuth.mono (by decide)

theorem Within.takeId {p : Fin 8} (h : Within mask s₀ s) : Within (mask ||| partsOf [.ports]) s₀ (s.takeId p) := by
  refine h.trans ?_
  unfold State.takeId
  exact (Within.start.each (fun _ _ => Within.start.mapPort)).mono (by decide)

theorem Within.mapSquall {e : Fin 16} {f : Squall → Squall} (h : Within mask s₀ s) : Within (mask ||| partsOf [.svc]) s₀ (s.mapSquall
    e f) := by
  refine h.trans ?_
  unfold State.mapSquall
  exact (Within.start.set (partsOf [.svc])).mono (by decide)

theorem Within.removeEngine {e : Fin 16} {parity : Bool} (h : Within mask s₀ s) : Within (mask ||| partsOf [.svc, .flt]) s₀
    (s.removeEngine e parity) := by
  refine h.trans ?_
  unfold State.removeEngine
  exact Within.start.mapSquall.condition.mono (by decide)

theorem Within.launchDropped {p : Fin 8} (h : Within mask s₀ s) : Within (mask ||| partsOf [.svc, .flt]) s₀ (s.launchDropped p) := by
  refine h.trans ?_
  unfold State.launchDropped
  extract_lets _ s1
  have k1 : Within (partsOf [.svc, .flt]) s s1 := (Within.start.set (partsOf [.svc])).mono (by decide)
  exact (Within.ite ((k1.set (partsOf [.svc])).raise) k1).mono (by decide)

theorem Within.reserveAt {ps : List (Fin 8)} {p : Fin 8} {target work len : Nat} (h : Within mask s₀ s) : Within (mask ||| partsOf
    [.freeCtr, .svc, .flt]) s₀ (s.reserveAt ps p target work len).1 := by
  refine h.trans ?_
  unfold State.reserveAt
  extract_lets _ _ s1
  have k1 : Within (partsOf [.freeCtr, .svc, .flt]) s s1 := Within.start.drawn.mono (by decide)
  exact (Within.iteFst k1.launchDropped (Within.iteFst (k1.set (partsOf [.svc])) k1)).mono (by decide)

theorem Within.replDrop {g : Grant} (h : Within mask s₀ s) : Within (mask ||| partsOf [.emits]) s₀ (s.replDrop g) := by
  refine h.trans ?_
  unfold State.replDrop
  exact Within.start.repl.mono (by decide)

theorem Within.announceAddresses {i : Fin 16} {p : Fin 8} (h : Within mask s₀ s) : Within (mask ||| partsOf [.ports, .pairs]) s₀
    (s.announceAddresses i p) := by
  refine h.trans ?_
  unfold State.announceAddresses
  exact (Within.ite Within.start (Within.start.each (fun _ _ => Within.start.sendFrame))).mono (by decide)

theorem Within.setNominal {src : Nat} {t : Int} (h : Within mask s₀ s) : Within (mask ||| partsOf [.svc]) s₀ (s.setNominal src t) := by
  refine h.trans ?_
  unfold State.setNominal
  exact (Within.start.set (partsOf [.svc])).mono (by decide)

theorem Within.startDwell (h : Within mask s₀ s) : Within (mask ||| partsOf [.gnss]) s₀ s.startDwell := by
  refine h.trans ?_
  unfold State.startDwell
  dsimp only
  exact (Within.ite Within.start (Within.at (partsOf [.gnss])
      (by
        split
        exacts [(Within.start.set (partsOf [.gnss])).mono (by decide), (Within.at (partsOf [.gnss])
            (by
              split
              exacts [Within.start.mono (by decide), (Within.start.set (partsOf [.gnss])).mono (by decide)])).mono
                  (by decide)]))).mono (by decide)

theorem Within.mapChan {c : Fin 128} {f : GnssChan → GnssChan} (h : Within mask s₀ s) : Within (mask ||| partsOf [.gnss]) s₀
    (s.mapChan c f) := by
  refine h.trans ?_
  unfold State.mapChan
  exact (Within.start.set (partsOf [.gnss])).mono (by decide)

theorem Within.dropChans {p : GnssChan → Bool} (h : Within mask s₀ s) : Within (mask ||| partsOf [.gnss]) s₀ (s.dropChans p) := by
  refine h.trans ?_
  unfold State.dropChans
  exact (Within.start.set (partsOf [.gnss])).mono (by decide)

theorem Within.latch {m : ChanMeas} (h : Within mask s₀ s) : Within (mask ||| partsOf [.gnss]) s₀ (s.latch m) := by
  refine h.trans ?_
  unfold State.latch
  dsimp only
  split
  exacts [Within.start.mono (by decide), (Within.ite Within.start (Within.ite Within.start.mapChan
      Within.start.mapChan.mapStream)).mono (by decide)]

theorem Within.followRefresh (h : Within mask s₀ s) : Within (mask ||| partsOf [.gnss]) s₀ s.followRefresh := by
  refine h.trans ?_
  unfold State.followRefresh
  exact (Within.start.set (partsOf [.gnss])).mono (by decide)

theorem Within.followSurvey (h : Within mask s₀ s) : Within (mask ||| partsOf [.gnss]) s₀ s.followSurvey := by
  refine h.trans ?_
  unfold State.followSurvey
  dsimp only
  exact (Within.ite (Within.start.set (partsOf [.gnss])) (Within.ite Within.start (Within.start.set (partsOf [.gnss])))).mono (by decide)

theorem Within.releaseLow (h : Within mask s₀ s) : Within (mask ||| partsOf [.gnss]) s₀ s.releaseLow := by
  refine h.trans ?_
  unfold State.releaseLow
  exact Within.start.dropChans.mono (by decide)

theorem Within.setNotch {stream j : Fin 4} {bin : Option Int} (h : Within mask s₀ s) : Within (mask ||| partsOf [.gnss, .flt]) s₀
    (s.setNotch stream j bin) := by
  refine h.trans ?_
  unfold State.setNotch
  exact Within.start.mapStream.raise.mono (by decide)

theorem Within.placeNotch {stream : Fin 4} {top all : List Int} {b : Int} (h : Within mask s₀ s) : Within (mask ||| partsOf [.gnss,
    .flt]) s₀ (s.placeNotch stream top all b) := by
  refine h.trans ?_
  unfold State.placeNotch
  dsimp only
  exact (Within.ite Within.start (Within.at (partsOf [.gnss, .flt])
      (by
        split
        exacts [Within.start.setNotch.mono (by decide), (Within.at (partsOf [.gnss, .flt])
            (by
              split
              exacts [Within.start.setNotch.setNotch.mono (by decide), Within.start.mono (by decide)])).mono (by decide)]))).mono
                  (by decide)

theorem Within.endVote (h : Within mask s₀ s) : Within (mask ||| partsOf [.twin]) s₀ s.endVote := by
  refine h.trans ?_
  unfold State.endVote
  exact (Within.start.set (partsOf [.twin])).mono (by decide)

theorem Within.stopService (h : Within mask s₀ s) : Within (mask ||| partsOf [.ports, .svc]) s₀ s.stopService := by
  refine h.trans ?_
  unfold State.stopService
  exact (Within.start.set (partsOf [.ports, .svc])).mono (by decide)

theorem Within.startBulk (h : Within mask s₀ s) : Within (mask ||| partsOf [.emits, .twin]) s₀ s.startBulk := by
  refine h.trans ?_
  unfold State.startBulk
  exact (Within.ite ((Within.start.set (partsOf [.twin])).emit) (Within.start.set (partsOf [.twin]))).mono (by decide)

theorem Within.dropCalibration (h : Within mask s₀ s) : Within (mask ||| partsOf [.emits, .twin, .hosts, .handled, .flt]) s₀
    s.dropCalibration := by
  refine h.trans ?_
  unfold State.dropCalibration
  dsimp only
  split
  exacts [Within.start.mono (by decide), (((Within.start.set (partsOf [.twin])).raise).complete).mono (by decide)]

theorem Within.setTwinSlot {on : Bool} (h : Within mask s₀ s) : Within (mask ||| partsOf [.slots]) s₀ (s.setTwinSlot on) := by
  refine h.trans ?_
  unfold State.setTwinSlot
  exact Within.start.mapSlot.mono (by decide)

theorem Within.setRole {r : Role} (h : Within mask s₀ s) : Within (mask ||| partsOf [.emits, .slots, .twin, .hosts, .handled, .flt])
    s₀ (s.setRole r) := by
  refine h.trans ?_
  unfold State.setRole
  extract_lets _ s0 s1 _ s2
  have h0 : Within (partsOf [.twin]) s s0 := (Within.start.set (partsOf [.twin])).mono (by decide)
  have h1 : Within (partsOf [.twin, .slots, .emits, .hosts, .flt]) s s1 := h0.setTwinSlot.mono (by decide)
  have h2 : Within (partsOf [.twin, .slots, .emits, .hosts, .flt]) s s2 := by
    unfold s2
    clear_value s1
    split
    exacts [(h1.ite (h1.set (partsOf [.twin]))).mono (by decide), h1]
  exact (Within.start.ite (h2.ite h2.dropCalibration)).mono (by decide)

theorem Within.becomeFollower {r : Role} (h : Within mask s₀ s) : Within (mask ||| partsOf [.emits, .slots, .ports, .svc, .twin,
    .hosts, .handled, .flt]) s₀ (s.becomeFollower r) := by
  refine h.trans ?_
  unfold State.becomeFollower
  exact (((((Within.start.completeOpt.set (partsOf [.twin])).endVote).setRole).stopService).startBulk).mono (by decide)

theorem Within.takeSequences {exactly : Bool} (h : Within mask s₀ s) : Within (mask ||| partsOf [.svc]) s₀ (s.takeSequences exactly) := by
  refine h.trans ?_
  unfold State.takeSequences
  exact (Within.start.each (fun _ _ => Within.start.mapInst)).mono (by decide)

theorem Within.sendHb {path : Fin 2} {handover : Bool} (h : Within mask s₀ s) : Within (mask ||| partsOf [.emits, .ports, .pairs,
    .twin]) s₀ (s.sendHb path handover) := by
  refine h.trans ?_
  unfold State.sendHb
  dsimp only
  exact (Within.ite (Within.ite (Within.start.emit.set (partsOf [.twin])) Within.start) (Within.ite (Within.start.sendFrame.set
      (partsOf [.twin])) Within.start)).mono (by decide)

theorem Within.sendHbs {handover : Bool} (h : Within mask s₀ s) : Within (mask ||| partsOf [.emits, .ports, .pairs, .twin]) s₀
    (s.sendHbs handover) := by
  refine h.trans ?_
  unfold State.sendHbs
  exact (((Within.ite Within.start.emit Within.start).sendHb).sendHb).mono (by decide)

theorem Within.releaseToken (h : Within mask s₀ s) : Within (mask ||| partsOf [.emits, .slots, .ports, .pairs, .svc, .twin, .hosts,
    .handled, .flt]) s₀ s.releaseToken := by
  refine h.trans ?_
  unfold State.releaseToken
  exact (Within.ite (((Within.start.set (partsOf [.twin])).sendHbs).becomeFollower) Within.start).mono (by decide)

theorem Within.followPaths (h : Within mask s₀ s) : Within (mask ||| partsOf [.flt]) s₀ s.followPaths := by
  refine h.trans ?_
  unfold State.followPaths
  exact (Within.ite Within.start.causeGone Within.start.causeGone.condition).mono (by decide)

theorem Within.followNoKey (h : Within mask s₀ s) : Within (mask ||| partsOf [.flt]) s₀ s.followNoKey := by
  refine h.trans ?_
  unfold State.followNoKey
  extract_lets _ _ s1
  have k1 : Within (partsOf [.flt]) s s1 := (Within.ite Within.start.condition Within.start.causeEnds).mono (by decide)
  exact (Within.ite k1.condition k1.causeEnds).mono (by decide)

theorem Within.followCalibration (h : Within mask s₀ s) : Within (mask ||| partsOf [.emits, .twin, .hosts, .handled, .flt]) s₀
    s.followCalibration := by
  refine h.trans ?_
  unfold State.followCalibration
  split
  exacts [(Within.ite Within.start Within.start.dropCalibration).mono (by decide), Within.start.mono (by decide)]

theorem Within.tryArea {ar : Area} (h : Within mask s₀ s) : Within (mask ||| partsOf [.sys]) s₀ (s.tryArea ar) := by
  refine h.trans ?_
  unfold State.tryArea
  exact (Within.start.set (partsOf [.sys])).mono (by decide)

theorem Within.tryActive (h : Within mask s₀ s) : Within (mask ||| partsOf [.sys]) s₀ s.tryActive := by
  refine h.trans ?_
  unfold State.tryActive
  exact ((Within.start.set (partsOf [.sys])).tryArea).mono (by decide)

theorem Within.firstCandidate (h : Within mask s₀ s) : Within (mask ||| partsOf [.sys, .mram]) s₀ s.firstCandidate := by
  refine h.trans ?_
  unfold State.firstCandidate
  dsimp only
  split
  exacts [((Within.start.set (partsOf [.sys, .mram])).tryArea).mono (by decide), ((Within.start.set (partsOf
      [.mram])).tryActive).mono (by decide), Within.start.tryActive.mono (by decide)]

theorem Within.restoreModel {c : Checkpoint} {f : Fin 3} (h : Within mask s₀ s) : Within (mask ||| partsOf [.fc, .flt]) s₀
    (s.restoreModel c f) := by
  refine h.trans ?_
  unfold State.restoreModel
  extract_lets s1
  have k1 : Within (partsOf [.fc, .flt]) s s1 := Within.start.mapFw.mono (by decide)
  split
  exacts [k1.mapFw.noteStale.mono (by decide), k1.mono (by decide)]

theorem Within.startTime {t : Int} (h : Within mask s₀ s) : Within (mask ||| partsOf [.sets]) s₀ (s.startTime t) := by
  refine h.trans ?_
  unfold State.startTime
  exact (Within.start.set (partsOf [.sets])).mono (by decide)

theorem Within.restoreCheckpoint (h : Within mask s₀ s) : Within (mask ||| partsOf [.sets, .fc, .flt]) s₀ s.restoreCheckpoint := by
  refine h.trans ?_
  unfold State.restoreCheckpoint
  dsimp only
  split
  exacts [(Within.start.startTime.set (partsOf [.fc])).mono (by decide), ((Within.start.startTime.each (fun _ _ =>
      Within.start.restoreModel)).set (partsOf [.fc])).mono (by decide)]

theorem Within.restoreRate (h : Within mask s₀ s) : Within (mask ||| partsOf [.emits, .waits, .wv, .hosts, .handled, .flt]) s₀
    s.restoreRate := by
  refine h.trans ?_
  unfold State.restoreRate
  extract_lets s1
  have k1 : Within (partsOf [.emits, .waits, .wv, .hosts, .handled, .flt]) s s1 := (Within.ite Within.start.raise Within.start).mono
      (by decide)
  exact (Within.ite k1.requestRate k1).mono (by decide)

theorem Within.initChannel {cal : CalResult} {failed : List (Fin 88)} {ch : Fin 88} (h : Within mask s₀ s) : Within (mask ||| partsOf
    [.tdc, .flt]) s₀ (s.initChannel cal failed ch) := by
  refine h.trans ?_
  unfold State.initChannel
  exact ((Within.ite Within.start.mapTdc.mapTdc Within.start.mapTdc.raise.raise).followCal).mono (by decide)

theorem Within.initGenerator (h : Within mask s₀ s) : Within (mask ||| partsOf [.freeCtr, .auth]) s₀ s.initGenerator := by
  refine h.trans ?_
  unfold State.initGenerator
  exact (((Within.start.set (partsOf [.auth])).drawn).drawn).mono (by decide)

theorem Within.startIntervals (h : Within mask s₀ s) : Within (mask ||| partsOf [.fc, .outs]) s₀ s.startIntervals := by
  refine h.trans ?_
  unfold State.startIntervals
  exact (Within.start.set (partsOf [.fc, .outs])).mono (by decide)

theorem Within.acceptCmd {c : Cmd} {slot : Fin 256} {group : Option (Fin 8)} {target : Nat} {data : List Int} {obj : Nat} {cfg : Cfg}
    (h : Within mask s₀ s) : Within (mask ||| partsOf [.emits, .hosts, .handled, .nextHandled]) s₀ (s.acceptCmd c slot group target
    data obj cfg) := by
  refine h.trans ?_
  unfold State.acceptCmd
  exact ((Within.start.mapHost.set (partsOf [.handled, .nextHandled])).reply).mono (by decide)

theorem Within.hostQualify {i : Fin 16} (h : Within mask s₀ s) : Within (mask ||| partsOf [.emits, .slots, .hosts, .flt, .log]) s₀
    (s.hostQualify i) := by
  refine h.trans ?_
  unfold State.hostQualify
  exact Within.start.mapSlot.setSlot.mono (by decide)

theorem Within.directWord {group offset : Nat} (h : Within mask s₀ s) : Within (mask ||| partsOf [.freeCtr]) s₀ (s.directWord group
    offset).1 := by
  refine h.trans ?_
  unfold State.directWord
  split
  exacts [Within.start.mono (by decide), Within.start.drawn.mono (by decide)]

theorem Within.directRead {group offset : Nat} (h : Within mask s₀ s) : Within (mask ||| partsOf [.freeCtr]) s₀ (s.directRead group
    offset).1 := by
  refine h.trans ?_
  unfold State.directRead
  split
  exacts [Within.start.mono (by decide), Within.start.mono (by decide), Within.start.directWord.mono (by decide)]

theorem Within.directPut {group offset : Nat} {v : Word} (h : Within mask s₀ s) : Within (mask ||| partsOf [.direct, .flt]) s₀
    (s.directPut group offset v) := by
  refine h.trans ?_
  unfold State.directPut
  exact ((Within.start.set (partsOf [.direct])).raise).mono (by decide)

theorem Within.directWrite {group offset : Nat} {v : Word} (h : Within mask s₀ s) : Within (mask ||| partsOf [.direct, .flt]) s₀
    (s.directWrite group offset v).1 := by
  refine h.trans ?_
  unfold State.directWrite
  split
  exacts [Within.start.mono (by decide), Within.start.mono (by decide), (Within.ite Within.start.raise Within.start.directPut).mono
      (by decide), Within.start.directPut.mono (by decide), Within.start.raise.mono (by decide)]

end
end Sys2Proof.Machine

/-! PROOFS of family 'other', the loop's phase: O21. -/

namespace Sys2Proof.Machine

variable (s : State)

/-- A fault leaves the loop as it is. -/
@[simp] theorem State.raise_loop (k : FaultKind) (d : Nat) : (s.raise k d).loop = s.loop := by
  obtain ⟨c, hc⟩ := s.raise_only k d
  rw [hc]

@[simp] theorem State.enterPhase_phase (p : LoopPhase) : (s.enterPhase p).loop.phase = p := rfl
@[simp] theorem State.fallPhase_phase (p : LoopPhase) : (s.fallPhase p).loop.phase = p := by simp [State.fallPhase]

/-- An entry to a phase changes the loop alone. -/
theorem State.enterPhase_eq (p : LoopPhase) : s.enterPhase p = { s with loop := (s.enterPhase p).loop, flt := (s.enterPhase p).flt } := rfl

/-- A fall to a lower phase changes the loop and reports its fault. -/
theorem State.fallPhase_eq (p : LoopPhase) : s.fallPhase p = { s with loop := (s.fallPhase p).loop, flt := (s.fallPhase p).flt } := by
  obtain ⟨c, hc⟩ := (s.enterPhase p).raise_only Flt.loopFallback p.code
  rw [State.fallPhase, hc]
  rfl

/-- A run of residuals within the limit ends the phase once it has lasted for the hold time. -/
theorem State.holdRun_over (within : Bool) (hold : Int) :
    (s.holdRun within hold).2 = true ↔ within = true ∧ s.loop.runStart.getD s.sys.cyc + hold.toNat * 625000000 ≤ s.sys.cyc := by
  cases within
  · simp [State.holdRun]
  · exact decide_eq_true_iff.trans (and_iff_right rfl).symm

/-- The phase after a residual that is no reason to fall: the next one where the run within the limit has lasted, otherwise the same with its run kept. -/
def State.afterRun (r : Option Nat × Bool) (p : LoopPhase) : State := if r.2 then s.enterPhase p else { s with loop.runStart := r.1 }

theorem State.afterRun_phase {p : LoopPhase} (r : Option Nat × Bool) (hp : s.loop.phase ≠ p) :
    ((s.afterRun r p).loop.phase = p ↔ r.2 = true) ∧ ((s.afterRun r p).loop.phase = p ∨ (s.afterRun r p).loop.phase = s.loop.phase) := by
  obtain ⟨run, lasted⟩ := r
  cases lasted
  · exact ⟨by simp [State.afterRun, hp], .inr rfl⟩
  · exact ⟨by simp [State.afterRun], .inl rfl⟩

theorem State.afterRun_eq (r : Option Nat × Bool) (p : LoopPhase) :
    s.afterRun r p = { s with loop := (s.afterRun r p).loop, flt := (s.afterRun r p).flt } := by
  unfold State.afterRun
  split
  exacts [s.enterPhase_eq p, rfl]

/-! The evaluation of the phase, phase by phase. -/

theorem State.evalPhase_off (h : s.loop.phase = .off) : s.evalPhase = s := by simp only [State.evalPhase, h]

theorem State.evalPhase_acquire (h : s.loop.phase = .acquire) :
    s.evalPhase = s.afterRun (s.holdRun (|s.loop.resid| ≤ ((s.loop.cfg.at Ix.steerAcqLimit : Int) : Rat)) (s.loop.cfg.at Ix.steerAcqHold)) .settle := by
  simp only [State.evalPhase, h, State.afterRun]

theorem State.evalPhase_settle (h : s.loop.phase = .settle) :
    s.evalPhase = if ((s.loop.cfg.at Ix.steerSettleExit : Int) : Rat) < |s.loop.resid| then s.fallPhase .acquire else
      s.afterRun (s.holdRun (|s.loop.resid| ≤ ((s.loop.cfg.at Ix.steerSettleLimit : Int) : Rat)) (s.loop.cfg.at Ix.steerSettleHold)) .track := by
  simp only [State.evalPhase, h, State.afterRun]

theorem State.evalPhase_track (h : s.loop.phase = .track) :
    s.evalPhase = if ((s.loop.cfg.at Ix.steerTrackExit : Int) : Rat) < |s.loop.resid| then s.fallPhase .settle else s := by
  simp only [State.evalPhase, h]

/-- The evaluation of the phase changes nothing but the loop and the fault messages. -/
theorem State.evalPhase_eq : s.evalPhase = { s with loop := s.evalPhase.loop, flt := s.evalPhase.flt } := by
  cases h : s.loop.phase with
  | off => rw [s.evalPhase_off h]
  | acquire => rw [s.evalPhase_acquire h]; exact s.afterRun_eq _ _
  | settle =>
    rw [s.evalPhase_settle h]
    split
    exacts [s.fallPhase_eq _, s.afterRun_eq _ _]
  | track =>
    rw [s.evalPhase_track h]
    split
    exacts [s.fallPhase_eq _, rfl]

/-- Settles O21, phase by phase. -/
theorem loopPhaseFollowsTheResidual : Obligations.LoopPhaseFollowsTheResidual := fun s => by
  refine ⟨fun h => ?_, fun h hr => ?_, fun h hr => ?_, fun h => ?_, s.evalPhase_off, s.evalPhase_eq⟩
  · rw [s.evalPhase_track h]
    exact ⟨fun hr => by rw [if_pos hr, State.fallPhase_phase], fun hr => if_neg (not_lt.mpr hr)⟩
  · rw [s.evalPhase_settle h, if_pos hr, State.fallPhase_phase]
  · obtain ⟨hp, hor⟩ := s.afterRun_phase (p := .track) (s.holdRun (|s.loop.resid| ≤ ((s.loop.cfg.at Ix.steerSettleLimit : Int) : Rat))
      (s.loop.cfg.at Ix.steerSettleHold)) (by rw [h]; decide)
    rw [s.evalPhase_settle h, if_neg (not_lt.mpr hr), ← h]
    exact ⟨hp.trans ((s.holdRun_over _ _).trans (and_congr_left' decide_eq_true_iff)), hor⟩
  · obtain ⟨hp, hor⟩ := s.afterRun_phase (p := .settle) (s.holdRun (|s.loop.resid| ≤ ((s.loop.cfg.at Ix.steerAcqLimit : Int) : Rat))
      (s.loop.cfg.at Ix.steerAcqHold)) (by rw [h]; decide)
    rw [s.evalPhase_acquire h, ← h]
    exact ⟨hp.trans ((s.holdRun_over _ _).trans (and_congr_left' decide_eq_true_iff)), hor⟩

end Sys2Proof.Machine

/-! PROOFS of family 'other', the loop's correction and its slew limit: O20. -/

namespace Sys2Proof.Machine

variable (s : State)

/-- A request for RATE leaves the loop as it is. -/
@[simp] theorem State.requestRate_loop (r : Int) (host : Option Nat) : (s.requestRate r host).loop = s.loop :=
  (Within.start.requestRate : Within _ s (s.requestRate r host)) .loop (by decide)

/-- An engine state that follows the loop's phase leaves the loop as it is. -/
@[simp] theorem State.followPhase_loop : s.followPhase.loop = s.loop := (Within.start.followPhase : Within _ s s.followPhase) .loop (by decide)

@[simp] theorem State.causeGone_loop (k : FaultKind) (p : Nat → Bool) : (s.causeGone k p).loop = s.loop := rfl

@[simp] theorem State.condition_loop (k : FaultKind) (d : Nat) : (s.condition k d).loop = s.loop := by
  obtain ⟨c, hc⟩ := s.condition_only k d
  rw [hc]

/-- Which side of its range a requested RATE lies beyond: above, below, neither. -/
def sideOf (r : Rat) : Option Bool :=
  if rateMax < looseRound (r * 2 ^ 56) then some true else if looseRound (r * 2 ^ 56) < rateMin then some false else none

/-- A request of the loop freezes the integrator on the side that its RATE lies beyond, and changes nothing else of the loop. -/
theorem State.loopRequest_loop (r : Rat) : (s.loopRequest r).loop = { s.loop with frozen := sideOf r } := by
  unfold State.loopRequest
  cases h : sideOf r <;> simp [← sideOf.eq_def, h]

/-- SLEW_LIMITED is set or cleared, and beside its start nothing else of the loop changes. -/
theorem State.slewFlag_loop (b : Bool) : ∃ since, (s.slewFlag b).loop = { s.loop with slewLimited := b, slewSince := since } := by
  cases b
  exacts [⟨s.loop.slewSince, rfl⟩, ⟨_, rfl⟩]

/-- The evaluation of the phase keeps the correction, the integrator and SLEW_LIMITED. -/
theorem State.evalPhase_keeps : s.evalPhase.loop.corr = s.loop.corr ∧ s.evalPhase.loop.integ = s.loop.integ ∧
    s.evalPhase.loop.slewLimited = s.loop.slewLimited := by
  have run (r : Option Nat × Bool) (p : LoopPhase) : (s.afterRun r p).loop.corr = s.loop.corr ∧ (s.afterRun r p).loop.integ = s.loop.integ ∧
      (s.afterRun r p).loop.slewLimited = s.loop.slewLimited := by
    unfold State.afterRun
    split <;> exact ⟨rfl, rfl, rfl⟩
  have fall (p : LoopPhase) : (s.fallPhase p).loop.corr = s.loop.corr ∧ (s.fallPhase p).loop.integ = s.loop.integ ∧
      (s.fallPhase p).loop.slewLimited = s.loop.slewLimited := by
    rw [State.fallPhase, State.raise_loop]
    exact ⟨rfl, rfl, rfl⟩
  cases h : s.loop.phase with
  | off => rw [s.evalPhase_off h]; exact ⟨rfl, rfl, rfl⟩
  | acquire => rw [s.evalPhase_acquire h]; exact run _ _
  | settle =>
    rw [s.evalPhase_settle h]
    split
    exacts [fall _, run _ _]
  | track =>
    rw [s.evalPhase_track h]
    split
    exacts [fall _, ⟨rfl, rfl, rfl⟩]

/-- The integrator after an offset. -/
def State.integAfter (phi : Int) (dt : Rat) : Rat :=
  if s.loop.frozen.isSome then s.loop.integ
  else s.loop.integ + 2 * Config.pi * s.loop.bandwidth * (2 * Config.pi * s.loop.bandwidth) * unitSeconds (phi : Rat) * dt

/-- The move of the correction that an offset asks for. -/
def State.moveFor (phi : Int) (dt : Rat) : Rat :=
  2 * (2 * Config.pi * s.loop.bandwidth) * unitSeconds (phi : Rat) + s.integAfter phi dt - s.loop.corr

/-- The move that SLEW_LIMIT lets pass. -/
def State.movePassed (phi : Int) (dt : Rat) : Rat :=
  max (-(frac64 (s.loop.cfg.at Ix.steerSlewLimit) * dt)) (min (frac64 (s.loop.cfg.at Ix.steerSlewLimit) * dt) (s.moveFor phi dt))

/-- The loop at an offset: the correction moves by what SLEW_LIMIT lets pass, and SLEW_LIMITED tells whether that is less than asked for. -/
theorem State.loopOffset_loop (phi : Int) (c : Nat) (dt : Rat) :
    (s.loopOffset phi c dt).loop.corr = s.loop.corr + s.movePassed phi dt ∧ (s.loopOffset phi c dt).loop.integ = s.integAfter phi dt ∧
    (s.loopOffset phi c dt).loop.slewLimited = (s.movePassed phi dt != s.moveFor phi dt) := by
  unfold State.loopOffset
  extract_lets x wn integ target slew d cut win _ s1
  rw [State.followPhase_loop]
  obtain ⟨hc, hi, hl⟩ := ((s1.slewFlag (cut != d)).loopRequest (s1.loop.ff + s1.loop.corr)).evalPhase_keeps
  obtain ⟨since, hs⟩ := s1.slewFlag_loop (cut != d)
  rw [hc, hi, hl, State.loopRequest_loop, hs]
  exact ⟨rfl, rfl, rfl⟩

/-- A clamped value lies within its bound. -/
theorem abs_clamp_le {b : Rat} (h : 0 ≤ b) (x : Rat) : |max (-b) (min b x)| ≤ b :=
  abs_le.mpr ⟨le_max_left _ _, max_le (by linarith) (min_le_left _ _)⟩

/-- Settles O20: what the loop makes of an offset, and the side of RATE's range that a request lies beyond. -/
theorem loopCorrectionMovesNoFasterThanTheSlewLimit : Obligations.LoopCorrectionMovesNoFasterThanTheSlewLimit := by
  refine ⟨fun s phi c dt hdt hl => ?_, fun s phi c dt hf => ?_, fun s r h => ?_, fun s r h => ?_, fun s r hmin hmax => ?_⟩
  · obtain ⟨hc, hi, hs⟩ := s.loopOffset_loop phi c dt
    have hmove : (s.loopOffset phi c dt).loop.corr - s.loop.corr = s.movePassed phi dt := by rw [hc, add_sub_cancel_left]
    have hlim : 0 ≤ frac64 (s.loop.cfg.at Ix.steerSlewLimit) * dt :=
      mul_nonneg (div_nonneg (Int.cast_nonneg hl) (by norm_num)) hdt
    rw [hmove, hi, hs, bne_iff_ne]
    exact ⟨abs_clamp_le hlim _, Iff.rfl⟩
  · rw [(s.loopOffset_loop phi c dt).2.1, State.integAfter, if_pos hf]
  · rw [State.loopRequest_loop, sideOf, if_pos h]
  · rw [State.loopRequest_loop, sideOf, if_neg (not_lt.mpr (h.le.trans (by decide : rateMin ≤ rateMax))), if_pos h]
  · rw [State.loopRequest_loop, sideOf, if_neg (not_lt.mpr hmax), if_neg (not_lt.mpr hmin)]

end Sys2Proof.Machine

/-! PROOFS of family 'other', alarms and lockouts of slots: O17. -/

namespace Sys2Proof.Machine

variable (s : State) (i : Fin 16)

@[simp] theorem State.raise_wv (k : FaultKind) (d : Nat) : (s.raise k d).wv = s.wv := by
  obtain ⟨c, hc⟩ := s.raise_only k d
  rw [hc]

@[simp] theorem State.condition_wv (k : FaultKind) (d : Nat) : (s.condition k d).wv = s.wv := by
  obtain ⟨c, hc⟩ := s.condition_only k d
  rw [hc]

/-- A notice leaves Weathervane as it is. -/
@[simp] theorem State.notice_wv (code : Nat) (a0 a1 : Word) : (s.notice code a0 a1).wv = s.wv := by
  obtain ⟨_, _, _, _, _, _, hn⟩ := s.notice_only code a0 a1
  rw [hn]

@[simp] theorem State.replSlot_wv : (s.replSlot i).wv = s.wv := by
  have w : Within _ s (s.replSlot i) := Within.start.replSlot
  rw [w.eq]
  rfl

/-- What dropping a slot's timers and force makes of it. -/
def Slot.dropped (x : Slot) : Slot := { x with timerStart := none, wtrDone := false, forced := false }

/-- What a new state with its cause makes of a slot. -/
def Slot.moved (x : Slot) (new : SlotState) (cause : Nat) : Slot :=
  { x with state := new, cause := cause, stepBlocked := x.stepBlocked && (x.state != .qualified || new == .qualified) }

theorem State.dropSlot_slots : (s.dropSlot i).wv.slots = upd s.wv.slots i Slot.dropped := by
  unfold State.dropSlot
  extract_lets s1
  split
  · split <;> rfl
  · rfl

theorem State.dropSlot_selected : (s.dropSlot i).wv.selected = s.wv.selected := by
  unfold State.dropSlot
  extract_lets s1
  split
  · split <;> rfl
  · rfl

/-- Two updates of an element are one. -/
@[simp] theorem upd_upd {α : Type} {n : Nat} (v : Vector α n) (i : Fin n) (f g : α → α) : upd (upd v i f) i g = upd v i fun x => g (f x) := by
  ext j hj
  by_cases h : i.val = j <;> simp [upd, h]

/-- A slot that is set changes in state and cause; the rest of Weathervane stays. -/
theorem State.setSlot_wv (new : SlotState) (cause : Nat) :
    (s.setSlot i new cause).wv = (s.mapSlot i fun x => x.moved new cause).wv := by
  have placed : ∀ f : Slot → Slot, f s.wv.slots[i] = s.wv.slots[i].moved new cause →
      (s.mapSlot i f).wv = (s.mapSlot i fun x => x.moved new cause).wv := fun f hf => by
    rw [State.mapSlot, State.mapSlot, upd_congr (g := fun x => x.moved new cause) _ _ hf]
  unfold State.setSlot
  extract_lets old s1 a0
  have h1 : s1.wv = (s.mapSlot i fun x => x.moved new cause).wv := placed _ rfl
  split
  · exact h1
  · rw [State.replSlot_wv, State.notice_wv]
    exact h1

/-- A lockout leaves the slot locked out with its cause, without timers and force. -/
theorem State.lockOut_slots (cause : Nat) : (s.lockOut i cause).wv.slots = upd s.wv.slots i fun x => x.dropped.moved .lockedOut cause := by
  rw [State.lockOut, State.condition_wv, State.setSlot_wv]
  exact (congrArg (upd · i fun x => x.moved .lockedOut cause) (s.dropSlot_slots i)).trans (upd_upd ..)

theorem State.lockOut_selected (cause : Nat) : (s.lockOut i cause).wv.selected = s.wv.selected := by
  rw [State.lockOut, State.condition_wv, State.setSlot_wv]
  exact s.dropSlot_selected i

/-- A slot that an alarm disqualifies. -/
def State.alarmed (c : Nat) (x : Slot) : Slot := { x.dropped.moved .disqualified c with flaps := s.sys.cyc :: s.flapsOf x }

/-- Whether an alarm now is one too many for a slot. -/
def State.flapsOut (x : Slot) : Bool := x.cfg.nat Ix.slotFlapLimit != 0 && x.cfg.nat Ix.slotFlapLimit ≤ (s.flapsOf x).length + 1

/-- An alarm does not reach a slot that is out already. -/
theorem State.alarm_out (c : Nat) (h : s.wv.slots[i].state = .disqualified ∨ s.wv.slots[i].state = .lockedOut) : s.alarm i c = s := by
  unfold State.alarm
  obtain h | h := h <;> simp only [h]

/-- An alarm disqualifies any other slot, and locks it out where it is one too many. -/
theorem State.alarm_wv (c : Nat) (hd : s.wv.slots[i].state ≠ .disqualified) (hl : s.wv.slots[i].state ≠ .lockedOut) :
    (s.alarm i c).wv.slots = upd s.wv.slots i (if s.flapsOut s.wv.slots[i] then fun x => (s.alarmed c x).dropped.moved .lockedOut 7 else s.alarmed c) ∧
    (s.alarm i c).wv.selected = s.wv.selected := by
  let s1 := (((s.dropSlot i).setSlot i .disqualified c).mapSlot i fun y => { y with flaps := s.sys.cyc :: s.flapsOf s.wv.slots[i] }).raise
    Flt.refDisqualified (i.val + c * 16)
  have halarm : s.alarm i c = if s.flapsOut s.wv.slots[i] then s1.lockOut i 7 else s1 := by
    unfold State.alarm
    cases h : s.wv.slots[i].state with
    | disqualified => exact absurd h hd
    | lockedOut => exact absurd h hl
    | qualifying | qualified | disputed => simp only [h]; rfl
  have hslots : s1.wv.slots = upd s.wv.slots i (s.alarmed c) := by
    have h : s1.wv.slots = upd ((s.dropSlot i).setSlot i .disqualified c).wv.slots i
      fun y => { y with flaps := s.sys.cyc :: s.flapsOf s.wv.slots[i] } := congrArg Weathervane.slots (State.raise_wv _ _ _)
    rw [h, State.setSlot_wv, State.mapSlot, s.dropSlot_slots i, upd_upd, upd_upd]
    exact upd_congr _ _ rfl
  have hsel : s1.wv.selected = s.wv.selected := by
    have h : s1.wv.selected = ((s.dropSlot i).setSlot i .disqualified c).wv.selected := by simp only [s1, State.raise_wv]; rfl
    rw [h, State.setSlot_wv]
    exact s.dropSlot_selected i
  rw [halarm]
  split
  · rw [State.lockOut_slots, State.lockOut_selected, hslots, upd_upd]
    exact ⟨rfl, hsel⟩
  · exact ⟨hslots, hsel⟩

/-- Settles O17: what an alarm makes of a slot, and that its frame leaves time, loop, outputs and channels out. -/
theorem alarmDisqualifiesAndFlapsLockOut : Obligations.AlarmDisqualifiesAndFlapsLockOut := fun s i c => by
  refine ⟨s.alarm_out i c, ?_⟩
  rintro hd hl t rfl
  obtain ⟨hslots, hsel⟩ := s.alarm_wv i c hd hl
  have w : Within _ s (s.alarm i c) := Within.start.alarm
  have hi : (s.alarm i c).wv.slots[i] = if s.flapsOut s.wv.slots[i] then (s.alarmed c s.wv.slots[i]).dropped.moved .lockedOut 7
      else s.alarmed c s.wv.slots[i] := by
    rw [hslots, upd_same]
    split <;> rfl
  rw [hi]
  refine ⟨fun h => ?_, fun h0 h1 => ?_, ?_, ?_, ?_, ?_, fun j hj => ?_, hsel, ?_⟩
  · have hn : s.flapsOut s.wv.slots[i] = false := by simp only [State.flapsOut]; grind
    rw [hn]
    exact ⟨rfl, rfl⟩
  · have hy : s.flapsOut s.wv.slots[i] = true := by simp only [State.flapsOut]; grind
    rw [hy]
    exact ⟨rfl, rfl⟩
  · split <;> rfl
  · split <;> rfl
  · split <;> rfl
  · split <;> rfl
  · rw [hslots, upd_other _ _ _ _ hj.symm]
  · rw [w.eq]
    exact ⟨rfl, rfl, rfl, rfl, rfl, rfl⟩

end Sys2Proof.Machine

/-! PROOFS of family 'other', records and the event queues: O16. -/

namespace Sys2Proof.Machine

/-- The first number that meets a condition. -/
theorem find?_finRange_eq_some {n : Nat} {p : Fin n → Bool} {i : Fin n} (hi : p i = true) (hlt : ∀ j, j < i → p j = false) :
    (List.finRange n).find? p = some i := by
  refine List.find?_eq_some_iff_getElem.mpr ⟨hi, i.val, by simp, by simp, fun j hj => ?_⟩
  have hjn : j < n := hj.trans i.isLt
  simpa using hlt ⟨j, hjn⟩ hj

/-- An update that leaves something of its element alone leaves it alone in every element. -/
theorem upd_keeps {α β : Type} {n : Nat} (g : α → β) {f : α → α} (v : Vector α n) (i j : Fin n) (h : ∀ x, g (f x) = g x) :
    g (upd v i f)[j] = g v[j] := by
  obtain rfl | hij := eq_or_ne i j
  · rw [upd_same, h]
  · rw [upd_other _ _ _ _ hij]

variable (s : State)

/-- The channel whose record is built next. -/
theorem State.recordBuild_channel {ch : Fin 88} (hch : s.tdc[ch].fifo ≠ [] ∨ s.tdc[ch].results ≠ [])
    (hlt : ∀ c, c < ch → s.tdc[c].fifo = [] ∧ s.tdc[c].results = []) :
    ((List.finRange 88).find? fun c => !s.tdc[c].fifo.isEmpty || !s.tdc[c].results.isEmpty) = some ch := by
  refine find?_finRange_eq_some ?_ fun c hc => ?_
  · simpa [List.isEmpty_iff] using hch
  · obtain ⟨hf, hr⟩ := hlt c hc
    rw [hf, hr]
    rfl

/-- Two updates of a host port that agree on it are one. -/
theorem State.mapHost_congr (p : Fin 4) {f g : HostPort → HostPort} (h : f s.hosts[p] = g s.hosts[p]) : s.mapHost p f = s.mapHost p g := by
  rw [State.mapHost, State.mapHost, upd_congr _ _ h]

/-- Past BOOT a write of a lane reaches its register. -/
theorem State.opened_up (f : State → State) (h : s.afterBoot = true) : s.opened f = .next (f s) := by
  rw [State.opened, if_pos h]

/-- The queue of a port that has room, with a record at its write index. -/
def Queue.put (q : Queue) (w : List Word) : Queue :=
  { q with wr := q.wr + 1, slots := (q.wr.toNat % 256, w) :: q.slots.filter (·.1 != q.wr.toNat % 256) }

/-- A record pushed into a queue with room stands at its write index; no other port's queue moves, and channels keep their sequence numbers. -/
theorem State.pushEvq_room (p : Fin 4) (ch : Fin 88) (w : List Word) (h : (s.hosts[p].evq.wr - s.hosts[p].evq.rd).toNat < 256) :
    (s.pushEvq p ch w).hosts[p].evq = s.hosts[p].evq.put w ∧ (∀ q, q ≠ p → (s.pushEvq p ch w).hosts[q].evq = s.hosts[q].evq) ∧
    (s.pushEvq p ch w).tdc[ch].seq = s.tdc[ch].seq := by
  unfold State.pushEvq
  extract_lets q _ slot s1 s2
  rw [if_neg (Nat.not_le.mpr h)]
  have hs2 : s2.hosts[p].evq = s.hosts[p].evq.put w ∧ (∀ r, r ≠ p → s2.hosts[r].evq = s.hosts[r].evq) ∧ s2.tdc[ch].seq = s.tdc[ch].seq := by
    refine ⟨?_, fun r hr => ?_, ?_⟩
    · exact congrArg HostPort.evq (upd_same s.hosts p _)
    · exact congrArg HostPort.evq (upd_other s.hosts p r _ hr.symm)
    · exact upd_keeps TdcChan.seq s.tdc ch ch fun _ => rfl
  split
  · obtain ⟨e, he⟩ := s2.hwLevelRise_only p 0
    rw [he]
    exact hs2
  · exact hs2

/-- The ports of a mask of one port. -/
theorem portsOf_single (p : Fin 4) : (allHosts.filter fun q => bitAt (2 ^ p.val) q.val) = [p] := by
  revert p; decide

/-- A record of a channel whose mask names one port with room. -/
theorem State.deliver_single (ch : Fin 88) (f : Bool → List Word) (p : Fin 4) (hm : s.tdc[ch].cfg.nat Ix.tdcPortMask = 2 ^ p.val)
    (h : (s.hosts[p].evq.wr - s.hosts[p].evq.rd).toNat < 256) :
    (∃ lost, (s.deliver ch f).hosts[p].evq = s.hosts[p].evq.put (f lost)) ∧
    (∀ q, q ≠ p → (s.deliver ch f).hosts[q].evq = s.hosts[q].evq) ∧ (s.deliver ch f).tdc[ch].seq = s.tdc[ch].seq := by
  unfold State.deliver
  extract_lets flag ports reached s1
  have hports : ports = [p] := by
    unfold ports
    rw [hm, portsOf_single]
  have hs1 : s1 = s.pushEvq p ch (f (flag || s.tdc[ch].lostBefore[p])) := by
    unfold s1
    rw [hports]
    rfl
  obtain ⟨hp, hq, hseq⟩ := s.pushEvq_room p ch (f (flag || s.tdc[ch].lostBefore[p])) h
  rw [← hs1] at hp hq hseq
  split
  · exact ⟨⟨_, hp⟩, hq, hseq ▸ upd_keeps TdcChan.seq s1.tdc ch ch fun _ => rfl⟩
  · exact ⟨⟨_, hp⟩, hq, hseq⟩

/-- An EDGE record of a channel whose mask names one port with room. -/
theorem State.edgeRecord_single (ch : Fin 88) (f : FifoStamp) (p : Fin 4) (hm : s.tdc[ch].cfg.nat Ix.tdcPortMask = 2 ^ p.val)
    (h : (s.hosts[p].evq.wr - s.hosts[p].evq.rd).toNat < 256) :
    (∃ head t0 t1 t2 b n, (s.edgeRecord ch f).hosts[p].evq = s.hosts[p].evq.put [head, loWord f.stamp.cyc, hiWord f.stamp.cyc, t0, t1, t2, b, n]) ∧
    (∀ q, q ≠ p → (s.edgeRecord ch f).hosts[q].evq = s.hosts[q].evq) ∧ (s.edgeRecord ch f).tdc[ch].seq = s.tdc[ch].seq + 1 := by
  obtain ⟨c, hc⟩ := s.noteLate_only f.delayed ch.val
  unfold State.edgeRecord
  extract_lets ch0 late t s1 body
  have hs1 : s1 = { s with flt := c } := hc
  rw [hs1]
  obtain ⟨⟨lost, hp⟩, hq, hseq⟩ := State.deliver_single { s with flt := c } ch
    (fun lb => recordHead ch.val 1 f.stamp.fine f.falling lb late false false false false f.stale :: body) p hm h
  exact ⟨⟨_, _, _, _, _, _, hp⟩, hq, (congrArg TdcChan.seq (upd_same _ ch _)).trans (congrArg (· + 1) hseq)⟩

/-- Settles O16: the channel that is next, the window of the read index, and an EDGE record's path to one port. -/
theorem recordsAreBuiltInOrderAndReadByIndex : Obligations.RecordsAreBuiltInOrderAndReadByIndex := by
  refine ⟨⟨fun s ch f fs hf hlt => ?_, fun s ch r rs hf hr hlt => ?_, fun s hp v hb hn => ?_, fun s hp v hb hn => ?_⟩, fun s ch f hp hm hr => ?_⟩
  · change execRecordBuild s = _
    rw [execRecordBuild, s.recordBuild_channel (.inl (by rw [hf]; exact List.cons_ne_nil _ _)) hlt]
    simp only [hf]
    rfl
  · change execRecordBuild s = _
    rw [execRecordBuild, s.recordBuild_channel (.inr (by rw [hr]; exact List.cons_ne_nil _ _)) hlt]
    simp only [hf, hr]
    rfl
  · change s.opened (fun t => t.writeEvqRd hp v) = _
    rw [s.opened_up _ hb, State.writeEvqRd]
    refine congrArg Host.Outcome.next ((if_pos (decide_eq_true hn)).trans ?_)
    exact s.mapHost_congr hp rfl
  · change s.opened (fun t => t.writeEvqRd hp v) = _
    rw [s.opened_up _ hb, State.writeEvqRd]
    exact congrArg Host.Outcome.next (if_neg (by simpa [indexFits] using hn))
  · obtain ⟨⟨head, t0, t1, t2, b, n, hrec⟩, hq, hseq⟩ := s.edgeRecord_single ch f hp hm hr
    intro t
    rw [hrec]
    exact ⟨rfl, rfl, ⟨_, rfl, rfl, rfl, rfl⟩, hseq, hq⟩

end Sys2Proof.Machine

/-! PROOFS of family 'other', committed conversion sets: O10. -/

namespace Sys2Proof.Machine

/-- A state whose committed set has taken effect: it is the newest of at most 16, and nothing is committed any more. -/
def State.withSet (s : State) (k : Committed) : State :=
  { s with
    ts.rateInt := s.rateIntegralAt ((k.effect : Int) * 1024), ts.sets := (k.newSet s.setNow :: s.ts.sets).take 16, ts.committed := none,
    ts.rateLog := (k.effect, s.rateIntegralAt ((k.effect : Int) * 1024)) :: keepSince (k.effect - 10016 * secCyc) s.ts.rateLog }

/-- What may follow from a set that takes effect: the conversion sets are not among it. -/
abbrev afterSet : Nat := partsOf [.freeCtr, .emits, .engine, .mram, .waits, .limited, .ts, .bound, .tdc, .slots, .wv, .loop, .fc, .os, .pins, .outs,
  .svc, .hosts, .handled, .flt, .log]

/-- What follows from a set that takes effect. -/
theorem State.setEffect_within (s : State) (k : Committed) : Within afterSet (s.withSet k) (s.setEffect k) := by
  unfold State.setEffect
  extract_lets c before _ s1 s2 s3 s4 s5
  have h2 : Within afterSet s1 s2 := Within.start.followRateLimit.retuneAll.mono (by decide)
  have h3 : Within afterSet s1 s3 := by
    unfold s3
    split
    exacts [h2.doStep.mono (by decide), h2]
  have h4 : Within afterSet s1 s4 := by
    unfold s4
    split
    exacts [h3.completeOpt.mono (by decide), h3]
  have h5 : Within afterSet s1 s5 := by
    unfold s5
    split
    · split
      exacts [h4.recompute.complete.mono (by decide), h4.completeSwitch.mono (by decide)]
    · exact h4
  exact h5.tryCommit.mono (by decide)

variable (s : State) (k : Committed)

/-- A committed set whose boundary has come takes effect. -/
theorem execConversionSetEffect_due (hk : s.ts.committed = some k) (h : k.effect ≤ s.sys.cyc) :
    exec .conversionSetEffect s = .next (s.setEffect k) := by
  change execConversionSetEffect s = _
  simp only [execConversionSetEffect, hk, if_neg (Nat.not_lt.mpr h)]

/-- Before its boundary a committed set waits. -/
theorem execConversionSetEffect_early (hk : s.ts.committed = some k) (h : s.sys.cyc < k.effect) :
    exec .conversionSetEffect s = .next s := by
  change execConversionSetEffect s = _
  simp only [execConversionSetEffect, hk, if_pos h]

/-- The set that takes effect becomes the newest of at most 16. -/
theorem State.setEffect_sets : (s.setEffect k).ts.sets = (k.newSet s.setNow :: s.ts.sets).take 16 :=
  (s.setEffect_within k) .sets (by decide)

/-- A new RATE moves the offset by the time that it would otherwise change at the boundary, to less than one unit of 2^-32 ns. -/
theorem offsetAt_near (c : ConvSet) (rate : Int) (n : Nat) :
    (c.rate - rate) * (n : Int) - 160 < 160 * (offsetAt c rate n - c.offset) ∧
    160 * (offsetAt c rate n - c.offset) < (c.rate - rate) * (n : Int) + 160 := by
  unfold offsetAt
  generalize (c.rate - rate) * (n : Int) = num
  dsimp only
  split
  · omega
  · split <;> omega

/-- Quotients of numbers that lie closer than the divisor lie within one. -/
theorem ediv_near {a b d : Int} (hd : 0 < d) (h : a ≤ b + d) : a / d - b / d ≤ 1 := by
  have h1 : a / d ≤ (b + 1 * d) / d := Int.ediv_le_ediv hd (by omega)
  rw [Int.add_mul_ediv_right _ _ hd.ne'] at h1
  omega

/-- A set without a step gives, at its boundary, the time of the set before to within one unit. -/
theorem Committed.newSet_time (c : ConvSet) (h : k.step = none) :
    (k.newSet c).time (k.effect * 1024) - c.time (k.effect * 1024) ≤ 1 ∧
    c.time (k.effect * 1024) - (k.newSet c).time (k.effect * 1024) ≤ 1 := by
  have hoff : (k.newSet c).offset = offsetAt c (k.newSet c).rate k.effect := by simp [Committed.newSet, h]
  obtain ⟨hlo, hhi⟩ := offsetAt_near c (k.newSet c).rate k.effect
  rw [← hoff] at hlo hhi
  have near : (k.newSet c).offset * 163840 + ((k.effect * 1024 : Nat) : Int) * (2 ^ 56 + (k.newSet c).rate) =
      c.offset * 163840 + ((k.effect * 1024 : Nat) : Int) * (2 ^ 56 + c.rate) +
        1024 * (160 * ((k.newSet c).offset - c.offset) - (c.rate - (k.newSet c).rate) * (k.effect : Int)) := by
    push_cast
    ring
  unfold ConvSet.time
  rw [near]
  constructor
  · exact ediv_near (by norm_num) (by linarith)
  · exact ediv_near (by norm_num) (by linarith)

/-- Settles O10: the boundary that has come or not, the sets after it, and the time at it. -/
theorem committedSetBecomesTheNewestAtItsBoundary : Obligations.CommittedSetBecomesTheNewestAtItsBoundary :=
  ⟨execConversionSetEffect_due, execConversionSetEffect_early, State.setEffect_sets, fun c k h =>
    ⟨rfl, fun r hr => by simp [Committed.newSet, hr], k.newSet_time c h⟩⟩

end Sys2Proof.Machine

/-! PROOFS of family 'other', the inverse conversion: O11. -/

namespace Sys2Proof.Machine

/-- The quotient that rounds to nearest leaves at most half a divisor. -/
theorem twice_natAbs_nearest_le (a : Int) {b : Int} (hb : 0 < b) : 2 * (a - (2 * a + b) / (2 * b) * b).natAbs ≤ b.natAbs := by
  have hd := Int.mul_ediv_add_emod (2 * a + b) (2 * b)
  have h0 := Int.emod_nonneg (2 * a + b) (show 2 * b ≠ 0 by omega)
  have h1 := Int.emod_lt_of_pos (2 * a + b) (show 0 < 2 * b by omega)
  have he : 2 * b * ((2 * a + b) / (2 * b)) = 2 * ((2 * a + b) / (2 * b) * b) := by ring
  omega

/-- A multiple of the divisor no farther than half of it is a nearest one. -/
theorem natAbs_le_of_twice_le {a b q : Int} (h : 2 * (a - q * b).natAbs ≤ b.natAbs) (n : Int) : (a - q * b).natAbs ≤ (a - n * b).natAbs := by
  obtain rfl | hn := eq_or_ne n q
  · exact le_rfl
  · have hb : b.natAbs ≤ ((q - n) * b).natAbs := by
      rw [Int.natAbs_mul]
      exact Nat.le_mul_of_pos_left _ (Int.natAbs_pos.mpr (by omega))
    have hs : (q - n) * b = (a - n * b) - (a - q * b) := by ring
    rw [hs] at hb
    omega

/-- Settles O11: the divisor is positive in RATE's range, and the inverse is the quotient that rounds to nearest. -/
theorem inverseConversionFindsTheNearestStep : Obligations.InverseConversionFindsTheNearestStep := fun c t hl _ n => by
  have hd : 0 < 2 ^ 56 + c.rate := by omega
  exact natAbs_le_of_twice_le (twice_natAbs_nearest_le _ hd) n


end Sys2Proof.Machine

/-! PROOFS of family 'other', the checks of command words: O46. -/

namespace Sys2Proof.Machine

/-! ### Host ports beside the one concerned -/

/-- Every host port but one is the same in both states. -/
def OtherHosts (p : Fin 4) (s t : State) : Prop := ∀ q, q ≠ p → t.hosts[q] = s.hosts[q]

theorem OtherHosts.trans {p : Fin 4} {s t u : State} (a : OtherHosts p s t) (b : OtherHosts p t u) : OtherHosts p s u := fun q hq =>
  (b q hq).trans (a q hq)

theorem OtherHosts.of_hosts {p : Fin 4} {s t : State} (h : t.hosts = s.hosts) : OtherHosts p s t := fun q _ => by rw [h]

variable (s : State) (p : Fin 4) (m : Fin 8)

theorem State.mapHost_others (f : HostPort → HostPort) : OtherHosts p s (s.mapHost p f) := fun q hq => upd_other s.hosts p q f hq.symm

theorem State.ring_others (b : Nat) : OtherHosts p s (s.ring p b) := fun q hq => by
  rw [s.ring_hosts p b, upd_other _ _ _ _ hq.symm]

theorem State.drainOmb_others : OtherHosts p s (s.drainOmb p m) := by
  rw [State.drainOmb]
  dsimp only
  split
  · exact s.mapHost_others p _
  · split
    exacts [s.mapHost_others p _, (s.mapHost_others p _).trans (State.ring_others _ p m.val)]

theorem State.reply_others (w : Word) : OtherHosts p s (s.reply p m w) := (s.mapHost_others p _).trans (State.drainOmb_others _ p m)

theorem State.writeResult_others (ofs : Nat) (ws : List Word) : OtherHosts p s (s.writeResult p ofs ws) := s.mapHost_others p _

theorem State.takeImb_others : OtherHosts p s (s.takeImb p m) :=
  (State.mapHost_others { s with cmds := dropCmd s.cmds p m } p _).trans (State.ring_others _ p (8 + m.val))

theorem State.rejectCmd_others (c : Cmd) (status : Nat) (r : Option Nat) : OtherHosts c.hp s (s.rejectCmd c status r) := by
  cases r with
  | none => exact s.reply_others c.hp c.mb _
  | some n => exact (s.writeResult_others c.hp c.ofs _).trans (State.reply_others _ c.hp c.mb _)

/-! ### The rows of Omend and the checks of R457 -/

variable {s} {hp : Fin 4} {mb : Fin 8} {c : Cmd} {f : CmdForm} {x : Nat × Instr}

/-- The word in a mailbox names that mailbox. -/
theorem State.cmdAt_port (h : s.cmdAt hp mb = some c) : c.hp = hp := by
  unfold State.cmdAt at h
  split at h
  · cases h
  · split at h
    · rw [← Option.some.inj h]; rfl
    · cases h

/-- The opcodes of the rows are those of R464. -/
theorem commandRows_opcodes (hp : Fin 4) (mb : Fin 8) : (commandRows hp mb).map Prod.fst = opcodes := rfl

theorem contains_opcodes (n : Nat) : opcodes.contains n = true ↔ ∃ y ∈ commandRows hp mb, y.1 = n := by
  rw [List.contains_iff_mem, ← commandRows_opcodes hp mb, List.mem_map]

/-- No two forms have one opcode. -/
theorem commandForms_inj {g : CmdForm} (hf : f ∈ commandForms) (hg : g ∈ commandForms) (h : f.op = g.op) : f = g :=
  List.inj_on_of_nodup_map (f := CmdForm.op) (by decide) hf hg h

/-- Only the two rows that carry keys wipe their parcel: KEY_LOAD from word 5 on, PAIR_KEY its whole. -/
theorem wipe_none (hf : f ∈ commandForms) (h70 : f.op ≠ 0x70) (h74 : f.op ≠ 0x74) : f.wipe = none := by
  have all : (commandForms.all fun f => f.op == 0x70 || f.op == 0x74 || f.wipe.isNone) = true := by decide
  simpa [h70, h74] using List.all_eq_true.mp all f hf

/-- The commands that only the active applies. -/
theorem follower_forms : ∀ f ∈ commandForms, f.follower = true ↔
    f.op ∈ [0x04, 0x12, 0x13, 0x14, 0x60, 0x61, 0x62, 0x63, 0x64, 0x70, 0x71, 0x72, 0x73] := by decide

/-- A parcel or a result that does not lie below the notice ring does not fit. -/
theorem Cmd.not_fits {r : Nat} (h : 15360 < c.ofs + c.len) : c.fits r = false := by
  simp [Cmd.fits, Nat.not_le.mpr h]

/-- A wrong form is rejected with 0x002 before anything else. -/
theorem State.runCmd_form (hw : f.wipe = none) (h : (c.fits f.results && f.shape s c) = false) : s.runCmd c f = s.rejectCmd c 2 none := by
  simp [State.runCmd, hw, h]

/-- Missing rights are rejected with 0x003 before the rest. -/
theorem State.runCmd_rights (hw : f.wipe = none) (hs : (c.fits f.results && f.shape s c) = true) (hr : f.rights s c = false) :
    s.runCmd c f = s.rejectCmd c 3 none := by
  simp [State.runCmd, hw, hs, hr]

/-- A follower rejects with 0x009 what the active applies. -/
theorem State.runCmd_follower (hs : (c.fits f.results && f.shape s c) = true) (hr : f.rights s c = true)
    (hf : f.follower = true) (hs' : s.follower = true) :
    s.runCmd c f = (match f.wipe with | some i => s.wipeParcel c i | none => s).rejectCmd c 9 none := by
  simp only [State.runCmd, hs, hr, hf, hs']
  rfl

/-- What a follower's rejection wipes: KEY_LOAD's words. -/
theorem wipe_of_follower (hf : f ∈ commandForms) (h : f.follower = true) : f.wipe = if f.op = 0x70 then some 5 else none := by
  have all : (commandForms.all fun f => !f.follower || f.wipe == if f.op = 0x70 then some 5 else none) = true := by decide
  simpa [h] using List.all_eq_true.mp all f hf

/-- The command taken from its mailbox runs on a state with the same rights and role. -/
theorem State.takeImb_sys : (s.takeImb hp mb).sys = s.sys := by rw [(s.takeImb_only hp mb).eq_of_hosts]

theorem State.takeImb_may (q : Fin 4) (r : Right) : (s.takeImb hp mb).may q r = s.may q r := by
  simp only [State.may, State.takeImb_sys]

theorem State.takeImb_follower : (s.takeImb hp mb).follower = s.follower := by rw [(s.takeImb_only hp mb).eq_of_hosts]; rfl

theorem State.takeImb_ts : (s.takeImb hp mb).ts = s.ts := by rw [(s.takeImb_only hp mb).eq_of_hosts]

/-- UTC_OFFSET past its checks on form, rights and role. -/
theorem State.runCmd_utcOffset (hs : (c.fits 0 && lenIs 1 c) = true) (hr : s.may c.hp .time = true) (hf : s.follower = false) :
    s.runCmd c utcOffsetForm = (utcOffsetForm.body s c).conclude c ((s.freeSlot c.hp).getD 0) :=
  State.runCmd_body s utcOffsetForm rfl hs hr (by rw [hf, Bool.and_false]) rfl

/-- STEP and UTC_OFFSET run their forms. -/
theorem State.step_runs (h : s.cmdAt hp mb = some c) (ho : c.op = 0x10) : exec (.step hp mb) s = .next ((s.takeImb hp mb).runCmd c stepForm) :=
  s.omend_runs hp mb stepForm h ho

theorem State.utcOffset_runs (h : s.cmdAt hp mb = some c) (ho : c.op = 0x12) :
    exec (.utcOffset hp mb) s = .next ((s.takeImb hp mb).runCmd c utcOffsetForm) := s.omend_runs hp mb utcOffsetForm h ho

/-- A rejection of the command in a mailbox changes the queue of command words, that port and the replies. -/
theorem State.rejected_only (h : s.cmdAt hp mb = some c) (status : Nat) (r : Option Nat) :
    TouchesHosts { s with cmds := dropCmd s.cmds hp mb } ((s.takeImb hp mb).rejectCmd c status r) ∧
    OtherHosts hp s ((s.takeImb hp mb).rejectCmd c status r) :=
  ⟨(s.takeImb_only hp mb).trans (State.rejectCmd_only _ c status r),
    (s.takeImb_others hp mb).trans (State.cmdAt_port h ▸ State.rejectCmd_others _ c status r)⟩

/-- What each row of Omend makes of the word in its mailbox. -/
theorem commandRow_takes (hx : x ∈ commandRows hp mb) :
    (s.cmdAt hp mb = none → exec x.2 s = .next s) ∧
    ∀ c : Cmd, s.cmdAt hp mb = some c →
      (c.op ≠ x.1 → (∃ y ∈ commandRows hp mb, y.1 = c.op) → exec x.2 s = .next s) ∧
      ((∀ y ∈ commandRows hp mb, y.1 ≠ c.op) → exec x.2 s = .next ((s.takeImb hp mb).rejectCmd c 1 none)) ∧
      (c.op = x.1 → x.1 ≠ 0x70 → x.1 ≠ 0x74 → 15360 < c.ofs + c.len → exec x.2 s = .next ((s.takeImb hp mb).rejectCmd c 2 none)) := by
  obtain ⟨f, hf, hop, hrun⟩ := exec_commandRow hx
  rw [hrun s]
  refine ⟨s.omend_waits hp mb f, fun c hc => ⟨fun hne hy => ?_, fun hy => ?_, fun ho h70 h74 hlen => ?_⟩⟩
  · exact s.omend_other hp mb f hc (hop ▸ hne) ((contains_opcodes _).mpr hy)
  · refine s.omend_unknown hp mb f hc (fun e => hy x hx (hop.trans e.symm)) (Bool.eq_false_iff.mpr fun hk => ?_)
    obtain ⟨y, hm, he⟩ := (contains_opcodes (hp := hp) (mb := mb) _).mp hk
    exact hy y hm he
  · rw [s.omend_runs hp mb f hc (ho.trans hop),
      State.runCmd_form (wipe_none hf (hop ▸ h70) (hop ▸ h74)) (by rw [Cmd.not_fits hlen, Bool.false_and])]

/-- The row of a form that only the active applies is rejected on a follower. -/
theorem commandRow_follower (hf : f ∈ commandForms) (hx : x ∈ commandRows hp mb) (hxf : x.1 = f.op) (hc : s.cmdAt hp mb = some c)
    (ho : c.op = f.op) (hff : f.follower = true) (hfo : s.follower = true)
    (hs : (c.fits f.results && f.shape (s.takeImb hp mb) c) = true) (hr : f.rights (s.takeImb hp mb) c = true) :
    exec x.2 s = .next ((if c.op = 0x70 then (s.takeImb hp mb).wipeParcel c 5 else s.takeImb hp mb).rejectCmd c 9 none) := by
  obtain ⟨g, hg, hop, hrun⟩ := exec_commandRow hx
  obtain rfl := commandForms_inj hf hg (hxf.symm.trans hop)
  rw [hrun s, s.omend_runs hp mb f hc ho, State.runCmd_follower hs hr hff (State.takeImb_follower.trans hfo), wipe_of_follower hf hff, ho]
  by_cases h : f.op = 0x70
  · simp only [h, if_true]
  · simp only [h, if_false]

/-- A follower's COVERAGE refuses a host's write. -/
theorem exec_coverageWrite_follower (hb : s.afterBoot = true) (hm : s.may hp .time = true) (hf : s.follower = true) (v : Word) :
    exec (.coverageWrite hp v) s = .next (s.raise Flt.writeLocked 0x2044) := by
  change s.opened (fun t => t.hostCoverage hp v.toNat) = _
  rw [s.opened_up _ hb, State.hostCoverage, if_neg (by simp [hm]), if_pos hf]

/-- Settles O46, from how each row takes its word, from the checks of R457 in their order, and from the forms that a follower refuses. -/
theorem commandWordsAreCheckedInOrderByTheirRows : Obligations.CommandWordsAreCheckedInOrderByTheirRows := by
  refine ⟨fun s hp mb x hx => commandRow_takes hx, ?_, fun s => ?_, follower_forms, ?_, fun s hp v hb hm hf => ?_⟩
  · rintro s u hp mb c rfl hc
    have hport := State.cmdAt_port hc
    refine ⟨fun ho hl => ?_, fun ho hl hfit hr => ?_, fun ho hl hfit hr hslot => ?_, fun ho hl => ?_, fun ho hl hfit hr => ?_,
      fun ho hl hfit hr hf => ?_, fun ho hl hfit hr hf hv => ?_, fun ho hl hfit hr hf hlo hhi hleap => ?_, ?_⟩
    · rw [State.step_runs hc ho, State.runCmd_form rfl]
      exact Bool.and_eq_false_imp.mpr fun _ => by simp [stepForm, plainForm, lenIs, hl]
    · rw [State.step_runs hc ho, State.runCmd_rights rfl (by simp [stepForm, plainForm, lenIs, hl, hfit])
        (by simp [stepForm, plainForm, needs, hport, State.takeImb_may, hr])]
    · rw [State.step_runs hc ho, State.runCmd_noHandle _ stepForm rfl rfl (by simp [stepForm, plainForm, lenIs, hl, hfit])
        (by simp [stepForm, plainForm, needs, hport, State.takeImb_may, hr]) rfl (hport ▸ hslot)]
    · rw [State.utcOffset_runs hc ho, State.runCmd_form rfl]
      exact Bool.and_eq_false_imp.mpr fun _ => by simp [utcOffsetForm, plainForm, lenIs, hl]
    · rw [State.utcOffset_runs hc ho, State.runCmd_rights rfl (by simp [utcOffsetForm, plainForm, lenIs, hl, hfit])
        (by simp [utcOffsetForm, plainForm, needs, hport, State.takeImb_may, hr])]
    · rw [State.utcOffset_runs hc ho, State.runCmd_follower (by simp [utcOffsetForm, plainForm, lenIs, hl, hfit])
        (by simp [utcOffsetForm, plainForm, needs, hport, State.takeImb_may, hr]) rfl (State.takeImb_follower.trans hf)]
      rfl
    · rw [State.utcOffset_runs hc ho, State.runCmd_utcOffset (by simp [lenIs, hl, hfit]) (by rw [hport, State.takeImb_may, hr])
        (State.takeImb_follower.trans hf)]
      simp [utcOffsetForm, plainForm, hv, Verdict.conclude]
    · rw [State.utcOffset_runs hc ho, State.runCmd_utcOffset (by simp [lenIs, hl, hfit]) (by rw [hport, State.takeImb_may, hr])
        (State.takeImb_follower.trans hf)]
      simp [utcOffsetForm, plainForm, Int.not_lt.mpr hlo, Int.not_lt.mpr hhi, State.takeImb_ts, hleap, Verdict.conclude]
    · obtain ⟨htouch, hothers⟩ := State.rejected_only hc 1 none
      rw [htouch.eq_of_hosts] at hothers ⊢
      exact ⟨rfl, rfl, rfl, rfl, rfl, rfl, hothers⟩
  · simp [State.follower]
  · rintro s u hp mb c f x rfl hf hx hxf hc ho hff hfo hs hr
    exact commandRow_follower hf hx hxf hc ho hff hfo hs hr
  · obtain ⟨d, hd⟩ := s.raise_only Flt.writeLocked 0x2044
    exact ⟨_, exec_coverageWrite_follower hb hm hf v, by rw [hd]⟩

end Sys2Proof.Machine

/-! PROOFS of family 'other', resets and their release: O7. -/

namespace Sys2Proof.Machine

variable (s : State)

/-- `t` is `s` but for the boot's stage and trial, the MRAM, what it prints and where. -/
def Staged (s t : State) : Prop :=
  ∃ (g : BootStage) (b : Bool) (m : Mram) (e : List Emit) (l : Monitor), t = { s with sys.stage := g, sys.trialRun := b, mram := m, emits := e, mon := l }

theorem State.tryArea_staged (ar : Area) : Staged s (s.tryArea ar) := ⟨_, s.sys.trialRun, s.mram, s.emits, s.mon, rfl⟩

theorem State.bootFail_staged (n : Nat) : Staged s (s.bootFail n) := by
  have w : Within _ _ (s.bootFail n) := (Within.start (s := { s with sys.stage := .failed n })).bootPrint
  rw [w.eq]
  exact ⟨_, s.sys.trialRun, s.mram, _, _, rfl⟩

theorem State.firstCandidate_staged : Staged s s.firstCandidate := by
  unfold State.firstCandidate
  split
  · exact ⟨_, _, _, s.emits, s.mon, rfl⟩
  · exact ⟨_, _, _, s.emits, s.mon, rfl⟩
  · exact ⟨_, _, s.mram, s.emits, s.mon, rfl⟩

/-- A state change keeps the log's boot count. -/
theorem State.setEngine_boots (e : EngineState) : (s.setEngine e).log.boot = s.log.boot := by
  unfold State.setEngine
  split
  · rfl
  · extract_lets a0 _ _ s1 s2 s3
    have h2 : s2.log = (s1.logAt 2 0 a0 0 s1.sys.cyc).log := (Within.start.notice : Within _ (s1.logAt 2 0 a0 0 s1.sys.cyc) s2) .log (by decide)
    have h3 : s3.log = s2.log := by
      unfold s3
      split
      exacts [rfl, rfl]
    have h4 : ((s3.print ("STATE " ++ e.name)).promptAgain).log = s3.log := (Within.start.print.promptAgain : Within _ s3 _) .log (by decide)
    rw [h4, h3, h2]
    rfl

/-- A release from RESET samples the straps and enters BOOT; what reset it, what holds it and the boot count stay. -/
theorem State.release_boots (x : Straps) (h : s.sys.engine = .reset) :
    (s.release x).sys.engine = .boot ∧ (s.release x).sys.straps = x ∧ (s.release x).sys.owner = x.ownerSel ∧
    (s.release x).sys.resetN = s.sys.resetN ∧ (s.release x).sys.por = s.sys.por ∧ (s.release x).sys.resetCause = s.sys.resetCause ∧
    (s.release x).sys.resetPort = s.sys.resetPort ∧ (s.release x).log.boot = s.log.boot ∧ (s.release x).cmds = s.cmds := by
  unfold State.release
  extract_lets _ s1 a0 s2
  have hlog : s2.log.boot = s.log.boot := (State.setEngine_boots _ .boot).trans (by
    obtain ⟨e, he⟩ := (s1.logAt 7 0 a0 s.log.lastCyc 0).print_only "QTE-9600 ROM 1"
    rw [he]
    rfl)
  have hs2 : ∃ u : State, u.sys = { s1.sys with engine := .boot } ∧ u.cmds = s.cmds ∧ Reports u s2 := by
    obtain ⟨e, he⟩ := (s1.logAt 7 0 a0 s.log.lastCyc 0).print_only "QTE-9600 ROM 1"
    have hne : ((s1.logAt 7 0 a0 s.log.lastCyc 0).print "QTE-9600 ROM 1").sys.engine ≠ .boot := by
      rw [he]
      exact h ▸ by decide
    refine ⟨_, ?_, ?_, State.setEngine_only _ .boot hne⟩ <;> rw [he] <;> rfl
  have staged : ∀ u : State, Staged s2 u → u.sys.engine = .boot ∧ u.sys.straps = x ∧ u.sys.owner = x.ownerSel ∧ u.sys.resetN = s.sys.resetN ∧
      u.sys.por = s.sys.por ∧ u.sys.resetCause = s.sys.resetCause ∧ u.sys.resetPort = s.sys.resetPort ∧ u.log.boot = s.log.boot ∧
      u.cmds = s.cmds := by
    rintro u ⟨g, b, m, e, l, rfl⟩
    obtain ⟨v, hsys, hcmds, _, _, _, _, _, _, hr⟩ := hs2
    have hs : s2.sys = { s1.sys with engine := .boot } := by rw [hr]; exact hsys
    have hc : s2.cmds = s.cmds := by rw [hr]; exact hcmds
    have hf : s2.sys.engine = .boot ∧ s2.sys.straps = x ∧ s2.sys.owner = x.ownerSel ∧ s2.sys.resetN = s.sys.resetN ∧ s2.sys.por = s.sys.por ∧
        s2.sys.resetCause = s.sys.resetCause ∧ s2.sys.resetPort = s.sys.resetPort ∧ s2.log.boot = s.log.boot ∧ s2.cmds = s.cmds := by
      rw [hs]
      exact ⟨rfl, rfl, rfl, rfl, rfl, rfl, rfl, hlog, hc⟩
    exact hf
  split
  exacts [staged _ s2.firstCandidate_staged, staged _ (s2.tryArea_staged _), staged _ (s2.bootFail_staged _), staged _ (s2.bootFail_staged _)]

/-- A reset: the engine in RESET with its cause, the block at its reset values, the MRAM kept, with the checkpoint of the state change where a time scale runs. -/
theorem State.enterReset_out (cause port : Nat) :
    (s.enterReset cause port).sys.engine = .reset ∧ (s.enterReset cause port).sys.resetCause = cause ∧ (s.enterReset cause port).sys.resetPort = port ∧
    (s.enterReset cause port).sys.resetN = s.sys.resetN ∧ (s.enterReset cause port).sys.por = s.sys.por ∧
    (s.enterReset cause port).mram = (if s.afterBoot then s.checkpoint.mram else s.mram) ∧
    (s.enterReset cause port).log.boot = (if cause = 0 then 0 else s.log.boot + 1) ∧ (cause = 0 → (s.enterReset cause port).log.entries = []) ∧
    (s.enterReset cause port).ts = State.reset.ts ∧ (s.enterReset cause port).cmds = [] ∧ (s.enterReset cause port).pending = s.pending := by
  unfold State.enterReset
  extract_lets a0 _ s1
  have h1 : s1.sys.resetN = s.sys.resetN ∧ s1.sys.por = s.sys.por ∧ s1.log.boot = s.log.boot ∧ s1.mram = s.mram ∧ s1.checkpoint.mram = s.checkpoint.mram ∧
      s1.pending = s.pending := by
    unfold s1
    split <;> exact ⟨rfl, rfl, rfl, rfl, rfl, rfl⟩
  obtain ⟨hn, hp, hb, hm, hcp, hq⟩ := h1
  have out : ∀ u : State, u.sys = s1.sys → u.log = s1.log → u.pending = s1.pending → u.mram = (if s.afterBoot then s.checkpoint.mram else s.mram) →
      (u.toReset cause port).sys.engine = .reset ∧ (u.toReset cause port).sys.resetCause = cause ∧ (u.toReset cause port).sys.resetPort = port ∧
      (u.toReset cause port).sys.resetN = s.sys.resetN ∧ (u.toReset cause port).sys.por = s.sys.por ∧
      (u.toReset cause port).mram = (if s.afterBoot then s.checkpoint.mram else s.mram) ∧
      (u.toReset cause port).log.boot = (if cause = 0 then 0 else s.log.boot + 1) ∧ (cause = 0 → (u.toReset cause port).log.entries = []) ∧
      (u.toReset cause port).ts = State.reset.ts ∧ (u.toReset cause port).cmds = [] ∧ (u.toReset cause port).pending = s.pending := by
    intro u hus hul huq hum
    refine ⟨rfl, rfl, rfl, (congrArg Sys.resetN hus).trans hn, (congrArg Sys.por hus).trans hp, hum, ?_, ?_, rfl, rfl, huq.trans hq⟩
    · simp only [State.toReset]
      split
      · rfl
      · simp only [hul, hb]
    · intro h0
      simp only [State.toReset, h0, if_true]
  refine out _ ?_ ?_ ?_ ?_
  · split <;> rfl
  · split <;> rfl
  · split <;> rfl
  · split
    exacts [hcp, hm]

/-- A reset from inside is released at once. -/
theorem State.innerReset_boots (cause port : Nat) (hc : cause ≠ 0) (hn : s.sys.resetN = true) (hp : s.sys.por = false) :
    (s.innerReset cause port).sys.engine = .boot ∧ (s.innerReset cause port).sys.resetCause = cause ∧ (s.innerReset cause port).sys.resetPort = port ∧
    (s.innerReset cause port).log.boot = s.log.boot + 1 ∧ (s.innerReset cause port).cmds = [] := by
  obtain ⟨he, hcause, hport, hrn, hpor, -, hboot, -, -, hcmds, -⟩ := s.enterReset_out cause port
  have hrel : s.innerReset cause port = (s.enterReset cause port).release s.sys.straps := by
    rw [State.innerReset, State.tryRelease, if_pos (by rw [he, hrn, hpor, hn, hp]; rfl)]
  obtain ⟨h1, -, -, -, -, h2, h3, h4, h5⟩ := (s.enterReset cause port).release_boots s.sys.straps he
  rw [hrel]
  exact ⟨h1, h2.trans hcause, h3.trans hport, h4.trans (hboot.trans (if_neg hc)), h5.trans hcmds⟩

/-- Settles O7: what a reset leaves, and where its release comes to. -/
theorem resetsEnterResetAndReleaseToBoot : Obligations.ResetsEnterResetAndReleaseToBoot := by
  refine ⟨⟨fun s => ?_, fun s n h => ?_, fun s n h he => ?_, fun s x he hp => ?_, fun s x he hn => ?_⟩, fun s ha hn hp => ?_, fun s n hd hl he hn hp => ?_⟩
  · obtain ⟨he, hcause, -, -, -, hmram, -, hent, hts, hcmds, hpend⟩ := s.enterReset_out 0 0
    exact ⟨_, rfl, he, rfl, hcause, hent rfl, hmram, hts, hcmds, hpend⟩
  · exact if_pos h
  · obtain ⟨hr, hcause, -, -, -, hmram, hboot, -, hts, hcmds, hpend⟩ := s.enterReset_out 1 0
    refine ⟨{ s.enterReset 1 0 with sys.resetN := false }, ?_, hr, rfl, hcause, hboot, hmram, hts, hcmds, hpend⟩
    change execResetNLow n s = _
    rw [execResetNLow, if_neg (Nat.not_lt.mpr h), if_neg he]
  · obtain ⟨h1, h2, h3, h4, -⟩ := State.release_boots { s with sys.resetN := true } x he
    refine ⟨_, ?_, h1, h4, h2, h3⟩
    change Host.Outcome.next (State.tryRelease { s with sys.resetN := true } x) = _
    rw [State.tryRelease, if_pos (by simp [he, hp])]
  · obtain ⟨h1, h2, h3, -, h4, -⟩ := State.release_boots { s with sys.por := false } x he
    refine ⟨_, ?_, h1, h4, h2, h3⟩
    change Host.Outcome.next (State.tryRelease { s with sys.por := false } x) = _
    rw [State.tryRelease, if_pos (by simp [he, hn])]
  · obtain ⟨h1, h2, -, h3, h4⟩ := s.innerReset_boots 4 0 (by decide) hn hp
    exact ⟨_, if_pos ha, h1, h2, h3, h4⟩
  · obtain ⟨h1, h2, h3, h4, h5⟩ := s.innerReset_boots 2 s.sys.resetPort (by decide) hn hp
    refine ⟨_, ?_, h1, h2, h3, h4, h5⟩
    change execWarmResetStart s = _
    simp only [execWarmResetStart, hd, if_neg (Nat.not_lt.mpr hl)]

end Sys2Proof.Machine

/-! PROOFS of family 'other', the ends of the boot, of INIT and of the warm-up: O8. -/

namespace Sys2Proof.Machine

variable (s : State)

theorem Within.restoreRest {mask : Nat} {s₀ : State} {s : State} (h : Within mask s₀ s) : Within (mask ||| partsOf [.gnss, .twin]) s₀ s.restoreRest := by
  refine h.trans ?_
  unfold State.restoreRest
  extract_lets _ s1
  have h1 : Within (partsOf [.gnss, .twin]) s s1 := by
    unfold s1
    split
    exacts [(Within.start.set (partsOf [.gnss])).mono (by decide), Within.start.mono (by decide)]
  clear_value s1
  split
  exacts [(h1.set (partsOf [.twin])).mono (by decide), h1]

/-- The work of INIT leaves the system's state and the twin's role alone, and ends the start-up mute. -/
theorem State.initWork_sys (cal : CalResult) (failed : List (Fin 88)) :
    (s.initWork cal failed).sys = s.sys ∧ (s.initWork cal failed).outs.startupMute = false := by
  unfold State.initWork
  extract_lets s1
  have h1 : Within (partsOf [.tdc, .emits, .waits, .wv, .hosts, .handled, .flt, .gnss, .twin, .freeCtr, .auth]) s s1 :=
    (Within.start.each fun _ _ => Within.start.initChannel).restoreRate.restoreRest.initGenerator.mono (by decide)
  clear_value s1
  constructor
  · have w := h1.useFlywheel (u := s1.chooseFlywheel) |>.startIntervals.retuneAll
    rw [w.eq]
    rfl
  · have w : Within _ (s1.useFlywheel s1.chooseFlywheel).startIntervals _ := Within.start.retuneAll
    rw [w.eq]
    rfl

/-- The state of the system after a state change. -/
theorem State.setEngine_sys (e : EngineState) (h : s.sys.engine ≠ e) : (s.setEngine e).sys = (s.inEngine e).sys := by
  obtain ⟨_, _, _, _, _, _, hr⟩ := s.setEngine_only e h
  rw [hr]

theorem State.moveEngine_sys (e : EngineState) (h : s.sys.engine ≠ e) : (s.moveEngine e).sys = (s.inEngine e).sys := by
  have w : Within _ (s.setEngine e) (s.setEngine e).classesNow := Within.start.classesNow
  rw [State.moveEngine, if_neg h, w.eq]
  exact s.setEngine_sys e h

theorem State.moveEngine_startupMute (e : EngineState) : (s.moveEngine e).outs.startupMute = s.outs.startupMute := by
  have w : Within _ s (s.moveEngine e) := Within.start.moveEngine
  rw [w.eq]
  rfl

/-- The entry to WARMUP starts its time. -/
theorem State.moveEngine_warmup (h : s.sys.engine ≠ .warmup) :
    (s.moveEngine .warmup).sys.cyc = s.sys.cyc ∧ (s.moveEngine .warmup).sys.warmupStart = s.sys.cyc ∧ (s.moveEngine .warmup).sys.warmupOver = false := by
  rw [s.moveEngine_sys .warmup h]
  exact ⟨rfl, rfl, rfl⟩

/-- The boot record leaves the engine's times and the start-up mute alone. -/
theorem State.bootRecord_times : s.bootRecord.sys.cyc = s.sys.cyc ∧ s.bootRecord.sys.warmupStart = s.sys.warmupStart ∧
    s.bootRecord.outs.startupMute = s.outs.startupMute := by
  obtain ⟨m, b, c, h⟩ := s.bootRecord_only
  rw [h]
  exact ⟨rfl, rfl, rfl⟩

/-- The end of INIT without a twin and with no safe state due. -/
theorem exec_initComplete_warmup (cal : CalResult) (failed : List (Fin 88)) (he : s.sys.engine = .init) (hs : s.sys.safePending = false)
    (hr : s.twin.role = .solo) : ∃ t, exec (.initComplete cal failed) s = .next t ∧ t.sys.engine = .warmup ∧ t.sys.cyc = s.sys.cyc ∧
      t.sys.warmupStart = s.sys.cyc ∧ t.outs.startupMute = false := by
  obtain ⟨hsys, hmute⟩ := s.initWork_sys cal failed
  have hexec := exec_initComplete s cal failed he
  have hwait := s.initWork_waiting cal failed
  generalize s.initWork cal failed = u at hsys hmute hexec hwait
  have hb := (State.bootRecord_waiting _).trans ((u.moveEngine_waiting .warmup).trans hwait)
  rw [State.startTogether_solo ((State.role_of_waiting hb).trans hr), State.safeNow_none ((State.safePending_of_waiting hb).trans hs)] at hexec
  obtain ⟨hcyc, hstart, -⟩ := u.moveEngine_warmup (by rw [hsys, he]; decide)
  obtain ⟨hrc, hrs, hrm⟩ := (u.moveEngine .warmup).bootRecord_times
  refine ⟨_, hexec, ?_, hrc.trans (hcyc.trans (congrArg Sys.cyc hsys)), hrs.trans (hstart.trans (congrArg Sys.cyc hsys)),
    hrm.trans ((u.moveEngine_startupMute .warmup).trans hmute)⟩
  rw [State.bootRecord_engine, State.moveEngine_engine]

/-! ### The end of the warm-up -/

/-- Beside the weights of the ensemble, a recomputation of every Bound leaves Forecast alone. -/
theorem State.recompute_within :
    Within (partsOf [.emits, .bound, .tdc, .slots, .os, .outs, .svc, .hosts, .handled, .flt, .log]) s.renewWeights s.recompute := by
  have renewed : Within (partsOf [.emits, .bound, .tdc, .slots, .svc, .hosts, .flt]) s.renewWeights s.renewBounds := by
    unfold State.renewBounds
    extract_lets old s1 _ s2 s3 s4 s5
    have h1 : Within (partsOf [.bound]) s.renewWeights s1 := Within.start.followComponents.computeBounds.mono (by decide)
    clear_value s1
    have h2 : Within (partsOf [.bound]) s.renewWeights s2 := (h1.set (partsOf [.bound])).mono (by decide)
    have h4 : Within (partsOf [.bound, .emits, .hosts, .flt]) s.renewWeights s4 :=
      (h2.hwEventAll.followUnknown.each fun _ _ => Within.start.checkThreshold).mono (by decide)
    have h5 : Within (partsOf [.emits, .bound, .tdc, .slots, .svc, .hosts, .flt]) s.renewWeights s5 :=
      (h4.each fun _ _ => Within.start.stepClass).renewWidths.unblock.mono (by decide)
    clear_value s5
    exact (h5.set (partsOf [.bound])).mono (by decide)
  exact (renewed.each fun _ _ => Within.start.startWalk).mono (by decide)

theorem State.recompute_holding : s.recompute.fc.holding = s.fc.holding := by
  have h : s.recompute.fc = s.renewWeights.fc := s.recompute_within .fc (by decide)
  rw [h]
  rfl

theorem State.startHolding_holding (loss : Nat) (measured : Bool) : (s.startHolding loss measured).fc.holding = true := by
  unfold State.startHolding
  split
  · assumption
  · extract_lets s1 s2 _ s3
    have w : Within (partsOf [.flt]) s3 _ := (Within.start.each (l := (fwOf s3.fc.use).filter fun f => s3.fc.fw[f].model.isNone)
      fun t f => (Within.start.raise : Within _ t (t.raise Flt.noModel f.val))).mono (by decide)
    exact congrArg Forecast.holding (w .fc (by decide))

/-- The engine follows the loop where it may: in WARMUP, ACQUIRE, LOCKED and HOLDOVER. -/
theorem State.followPhase_engine (h : s.sys.engine ∈ [.warmup, .acquire, .locked, .holdover]) : s.followPhase.sys.engine = s.loopState := by
  have moved := s.moveEngine_engine s.loopState
  unfold State.followPhase
  cases he : s.sys.engine <;> simp only [he] at h ⊢ <;> first | exact moved | simp at h

/-- The entry to holdover. -/
theorem State.enterHoldover_out (measured : Bool) (h : s.sys.engine ∈ [.warmup, .acquire, .locked, .holdover]) :
    (s.enterHoldover measured).sys.engine = .holdover ∧ (s.enterHoldover measured).sys.cyc = s.sys.cyc ∧
    (s.enterHoldover measured).loop.phase = .off := by
  unfold State.enterHoldover
  extract_lets _ s1 s2
  have h2 : Within (partsOf [.loop, .flt, .fc]) s s2 :=
    ((Within.start.set (partsOf [.loop])).slewFlag.startHolding).mono (by decide)
  have hoff : s2.loop.phase = .off := by
    have w : Within (partsOf [.flt, .fc]) (s1.slewFlag false) s2 := Within.start.startHolding.mono (by decide)
    rw [w .loop (by decide)]
    rfl
  have hold : s2.fc.holding = true := State.startHolding_holding _ _ _
  clear_value s2
  have hr : s2.recompute.sys = s2.sys ∧ s2.recompute.loop = s2.loop := by
    have w : Within _ s2 s2.recompute := Within.start.recompute
    exact ⟨w.sys_eq (by decide) (by decide), w .loop (by decide)⟩
  have hs2 : s2.sys = s.sys := h2.sys_eq (by decide) (by decide)
  have hfrom : s2.recompute.sys.engine ∈ [.warmup, .acquire, .locked, .holdover] := by rw [hr.1, hs2]; exact h
  refine ⟨?_, ?_, ?_⟩
  · rw [s2.recompute.followPhase_engine hfrom]
    simp only [State.loopState, hr.2, hoff, s2.recompute_holding, hold, if_true]
  · have w : Within _ s2.recompute s2.recompute.followPhase := Within.start.followPhase
    obtain ⟨-, -, -, -, -, -, hc, -⟩ := w .sys (by decide)
    rw [hc, hr.1, hs2]
  · rw [State.followPhase_loop, hr.2, hoff]

/-! ### The ROM -/

/-- Clardasum's start leaves the engine in INIT with the area that runs. -/
theorem State.enterInit_out (ar : Area) (hdr : ImageHdr) (he : s.sys.engine = .boot) (ht : s.sys.straps.twinEn = false) :
    (s.enterInit ar hdr).sys.engine = .init ∧ (s.enterInit ar hdr).sys.running = some ar ∧ (s.enterInit ar hdr).sys.hdr = some hdr ∧
    (s.enterInit ar hdr).sys.cyc = s.sys.cyc := by
  unfold State.enterInit
  extract_lets _ _ s1 s0 s2
  let u := (s1.bootPrint ("BOOT AREA " ++ areaName ar ++ " OK VERSION " ++ wordText hdr.version)).restoreCheckpoint
  have hu : u.sys = s1.sys := (Within.start.bootPrint.restoreCheckpoint : Within _ s1 u).sys_eq (by decide) (by decide)
  have hs0 : s0.sys = (u.inEngine .init).sys := u.setEngine_sys .init (by rw [hu]; exact he ▸ by decide)
  have hs2 : s2.sys = s0.sys := (Within.start.useFlywheel : Within _ s0 s2).sys_eq (by decide) (by decide)
  have hsys : s2.sys = { s1.sys with engine := .init } := by
    rw [hs2, hs0, State.inEngine, hu]
    rfl
  rw [if_neg (by rw [hsys]; simpa using ht), hsys]
  exact ⟨rfl, rfl, rfl, rfl⟩

/-- An image that is not rejected is none of another kind. -/
theorem hdrForeign_of_rejects {ar : Area} {hdr : ImageHdr} (h : s.rejects ar hdr none = none) : hdrForeign hdr = false := by
  cases hf : hdrForeign hdr
  · rfl
  · simp [State.rejects, hf] at h

/-- The image that passes every check: Clardasum starts in INIT. -/
theorem State.readImage_starts (ar : Area) (hdr : ImageHdr) (he : s.sys.engine = .boot) (ht : s.sys.straps.twinEn = false) (hx : hdr.xinCode ≤ 5)
    (hk : s.sys.xinCode = none ∨ s.sys.xinCode = some hdr.xinCode) (hr : s.rejects ar hdr none = none) :
    (s.readImage ar hdr none).sys.engine = .init ∧ (s.readImage ar hdr none).sys.running = some ar ∧
    (s.readImage ar hdr none).sys.hdr = some hdr ∧ (s.readImage ar hdr none).sys.cyc = s.sys.cyc := by
  have hknown : s.sys.xinCode.getD hdr.xinCode = hdr.xinCode := by obtain h | h := hk <;> rw [h] <;> rfl
  unfold State.readImage
  extract_lets known _ s1 s2
  have h2 : Within (partsOf [.emits, .mon]) s1 s2 := (Within.start.bootPrint.ite Within.start).mono (by decide)
  have hsys : s2.sys = s1.sys := h2.sys_eq (by decide) (by decide)
  have hrej : s2.rejects ar hdr none = none := by
    rw [State.rejects, h2 .mram (by decide)]
    exact hr
  have hn : known = hdr.xinCode := hknown
  rw [if_neg (by omega), if_neg (by simp [hn]), hrej]
  obtain ⟨h1, h3, h4, h5⟩ := s2.enterInit_out ar hdr (by rw [hsys]; exact he) (by rw [hsys]; exact ht)
  exact ⟨h1, h3, h4, h5.trans (by rw [hsys])⟩

/-- Settles O8: the ROM's ends, the end of INIT, and the warm-up's. -/
theorem bootInitAndWarmupEndInTheirStates : Obligations.BootInitAndWarmupEndInTheirStates := by
  refine ⟨⟨fun s n ar he hs => ?_, fun s ar he hs => ?_, fun s hdr ar he hs ht hx hk hr => ?_⟩, exec_initComplete_warmup, fun s he ho hl hsel => ?_,
    fun s e => ⟨s.setEngine_engine e, fun hne => ?_⟩⟩
  · change execRpllLock n s = _
    simp only [execRpllLock, he, hs]
  · have w : Within _ { s with sys.stage := .failed 2 } (s.bootFail 2) := Within.start.bootPrint
    refine ⟨s.bootFail 2, ?_, w.sys_eq (by decide) (by decide), w.ts_eq (by decide), w .log (by decide), w .flt (by decide)⟩
    change execRpllLockTimeout s = _
    simp only [execRpllLockTimeout, he, hs]
  · refine ⟨_, ?_, s.readImage_starts ar hdr he ht hx hk hr⟩
    change execBootImageReadDone hdr none s = _
    simp [execBootImageReadDone, he, hs, hdrForeign_of_rejects s hr]
  · have due : exec .warmupTimeExpiry s = if s.wv.selected.isNone && s.fc.fw.toList.any (fun w => w.model.isSome)
        then .next ((State.raise { s with sys.warmupOver := true } Flt.noReference 0).enterHoldover false) else .next { s with sys.warmupOver := true } :=
      if_pos (by simp [he, ho, State.lapsed, secCyc, hl])
    refine ⟨fun hm => ?_, fun hm => ?_⟩
    · obtain ⟨c, hc⟩ := State.raise_only { s with sys.warmupOver := true } Flt.noReference 0
      obtain ⟨h1, h2, h3⟩ := (State.raise { s with sys.warmupOver := true } Flt.noReference 0).enterHoldover_out false (by
        rw [show (State.raise { s with sys.warmupOver := true } Flt.noReference 0).sys.engine = .warmup by rw [hc]; exact he]
        decide)
      refine ⟨_, due.trans (if_pos (by simp [hsel, hm])), h1, h2.trans (by rw [hc]), h3⟩
    · exact due.trans (if_neg (by simp [hm]))
  · rw [s.setEngine_sys .warmup hne]
    exact ⟨rfl, rfl⟩

end Sys2Proof.Machine

/-! PROOFS of family 'other', faults of the system source: O9. -/

namespace Sys2Proof.Machine

/-! ### A fault message at a queue with room -/

/-- The collector with a message at its source's queue, a condition among those present. -/
def Collector.took (f : Collector) (k : FaultKind) (d cyc : Nat) : Collector :=
  { f with
    queues := upd f.queues (sourceIx k.source) (· ++ [(k.msg d, cyc)]),
    present := if k.cond && !f.present.contains (k.msg d) then f.present ++ [k.msg d] else f.present }

variable (s : State)

/-- A fault raised while its source's queue has room joins that queue last. -/
theorem State.raise_room (k : FaultKind) (d : Nat) (h : s.flt.queues[sourceIx k.source].length < 16) :
    s.raise k d = { s with flt := s.flt.took k d s.sys.cyc } := by
  have hpush : s.pushMsg (k.msg d) = { s with flt.queues := upd s.flt.queues (sourceIx k.source) (· ++ [(k.msg d, s.sys.cyc)]) } := by
    rw [State.pushMsg]
    exact if_pos h
  cases hc : (k.cond && !s.flt.present.contains (k.msg d)) <;>
    simp only [State.raise, Collector.took, hpush, Nat.not_le.mpr h, hc, if_true, if_false, Bool.false_eq_true]

/-- A condition not yet present is raised. -/
theorem State.condition_new (k : FaultKind) (d : Nat) (h : s.flt.present.contains (k.msg d) = false) : s.condition k d = s.raise k d := by
  rw [State.condition, h]
  rfl

/-- The queue that a message joins. -/
theorem Collector.took_queue (f : Collector) (k : FaultKind) (d cyc : Nat) :
    (f.took k d cyc).queues[sourceIx k.source] = f.queues[sourceIx k.source] ++ [(k.msg d, cyc)] := upd_same ..

/-! ### The collector's own fault -/

/-- The mark of the collector's own fault is the same. -/
def SameSelfFault (s t : State) : Prop := t.flt.selfFault = s.flt.selfFault

variable {s} {t u : State}

theorem SameSelfFault.trans (a : SameSelfFault s t) (b : SameSelfFault t u) : SameSelfFault s u := Eq.trans b a

theorem SameSelfFault.of_within {m : Nat} (w : Within m s t) (h : holds m .flt = false) : SameSelfFault s t := congrArg Collector.selfFault (w .flt h)

variable (s)

theorem State.pushMsg_selfFault (m : FaultMsg) : SameSelfFault s (s.pushMsg m) := by
  unfold State.pushMsg SameSelfFault
  extract_lets i
  split <;> rfl

theorem State.raiseDropped_selfFault (i : Fin 16) : SameSelfFault s (s.raiseDropped i) := by
  unfold State.raiseDropped
  split
  · exact SameSelfFault.trans (s := s) (t := { s with flt.droppedAt := s.flt.droppedAt.set i (some s.sys.cyc) }) rfl (State.pushMsg_selfFault _ _)
  · rfl

theorem State.raise_selfFault (k : FaultKind) (d : Nat) : SameSelfFault s (s.raise k d) := by
  unfold State.raise
  extract_lets m full s1 s2
  have h2 : SameSelfFault s s2 := by
    unfold s2
    split
    exacts [(s.pushMsg_selfFault m).trans (State.raiseDropped_selfFault _ _), s.pushMsg_selfFault m]
  split
  exacts [h2, h2]

theorem State.condition_selfFault (k : FaultKind) (d : Nat) : SameSelfFault s (s.condition k d) := by
  unfold State.condition
  split
  exacts [rfl, s.raise_selfFault k d]

theorem State.noticePort_selfFault (p : Fin 4) (code : Nat) (a0 a1 : Word) (t : Int) (cyc : Nat) :
    SameSelfFault s (s.noticePort p code a0 a1 t cyc) := by
  unfold State.noticePort
  split
  · rfl
  · extract_lets q w0 s1
    split
    · exact SameSelfFault.trans (.of_within Within.start.mapHost.ring (by decide)) (State.raise_selfFault _ _ _)
    · exact .of_within Within.start.parcelWrite.mapHost.ring (by decide)

theorem State.notice_selfFault (code : Nat) (a0 a1 : Word) : SameSelfFault s (s.notice code a0 a1) :=
  s.each_keeps (P := SameSelfFault s) _ _ rfl fun t p h => h.trans (t.noticePort_selfFault p code a0 a1 _ _)

theorem State.checkpoint_selfFault : SameSelfFault s s.checkpoint := by
  unfold State.checkpoint State.checkpointAt SameSelfFault
  dsimp only
  split
  exacts [rfl, s.raise_selfFault _ _]

theorem State.setEngine_selfFault (e : EngineState) : SameSelfFault s (s.setEngine e) := by
  unfold State.setEngine
  split
  · rfl
  · extract_lets a0 _ _ s1 s2 s3
    have h2 : SameSelfFault s s2 := (State.notice_selfFault (s1.logAt 2 0 a0 0 s1.sys.cyc) 1 a0 0)
    have h3 : SameSelfFault s s3 := by
      unfold s3
      split
      exacts [h2, h2.trans s2.checkpoint_selfFault]
    exact h3.trans (.of_within Within.start.print.promptAgain (by decide))

theorem State.moveEngine_selfFault (e : EngineState) : SameSelfFault s (s.moveEngine e) := by
  unfold State.moveEngine
  split
  exacts [rfl, (s.setEngine_selfFault e).trans (.of_within Within.start.classesNow (by decide))]

theorem State.dropCalibration_selfFault : SameSelfFault s s.dropCalibration := by
  unfold State.dropCalibration
  split
  · rfl
  · refine SameSelfFault.trans ?_ (.of_within Within.start.complete (by decide))
    exact State.raise_selfFault { s with twin.calibrating := none, twin.calSamples := [] } _ _

theorem State.setRole_selfFault (r : Role) : SameSelfFault s (s.setRole r) := by
  unfold State.setRole
  extract_lets _ s0 s1 _ s2
  have h2 : SameSelfFault s s2 := by
    unfold s2
    split
    · split <;> rfl
    · rfl
  split
  · rfl
  · split
    exacts [h2, h2.trans s2.dropCalibration_selfFault]

theorem State.becomeFollower_selfFault (r : Role) : SameSelfFault s (s.becomeFollower r) := by
  unfold State.becomeFollower
  extract_lets s1
  have h1 : SameSelfFault s s1 := .of_within Within.start.completeOpt (by decide)
  have h2 : SameSelfFault s (State.endVote { s1 with twin.handover := none }) :=
    h1.trans (.of_within (Within.start.set (partsOf [.twin])).endVote (by decide))
  exact (h2.trans (State.setRole_selfFault _ r)).trans (.of_within Within.start.stopService.startBulk (by decide))

theorem State.releaseToken_selfFault : SameSelfFault s s.releaseToken := by
  unfold State.releaseToken
  split
  · exact SameSelfFault.trans (.of_within (Within.start.set (partsOf [.twin])).sendHbs (by decide)) (State.becomeFollower_selfFault _ _)
  · rfl

/-- SAFE: entered at once after the end of INIT, otherwise left to wait; whether only a reset leaves it, and the collector's mark, stay. -/
theorem State.enterSafe_out :
    SameSelfFault s s.enterSafe ∧ s.enterSafe.sys.resetOnly = s.sys.resetOnly ∧ (s.afterInit = true → s.enterSafe.sys.engine = .safe) ∧
    (s.afterInit = false → s.enterSafe = { s with sys.safePending := true }) := by
  unfold State.enterSafe
  cases hi : s.afterInit
  · exact ⟨rfl, rfl, nofun, fun _ => rfl⟩
  · simp only [Bool.not_true, Bool.false_eq_true, if_false]
    split
    next he => exact ⟨rfl, rfl, fun _ => he, nofun⟩
    next he =>
      have w : Within (partsOf [.emits, .slots, .ports, .pairs, .svc, .twin, .hosts, .handled, .flt, .pins, .outs]) (s.moveEngine .safe)
        (((s.moveEngine .safe).safeOutputs true).hwLevelAll 12).releaseToken := Within.start.safeOutputs.hwLevelAll.releaseToken.mono (by decide)
      refine ⟨?_, ?_, fun _ => ?_, nofun⟩
      · exact ((s.moveEngine_selfFault .safe).trans (.of_within Within.start.safeOutputs.hwLevelAll (by decide))).trans (State.releaseToken_selfFault _)
      · rw [w.sys_eq (by decide) (by decide), s.moveEngine_sys .safe he]
        rfl
      · rw [w.sys_eq (by decide) (by decide), State.moveEngine_engine]

/-! ### The commands -/

/-- A fault of the system source, at its queue while that has room. -/
theorem Collector.took_system {k : FaultKind} {d : Nat} (hk : k.source = 0) (hd : d < 65536) :
    (s.flt.took k d s.sys.cyc).queues[(0 : Fin 16)] = s.flt.queues[(0 : Fin 16)] ++ [(⟨0, k.kind, k.sev, d⟩, s.sys.cyc)] := by
  obtain ⟨source, kind, sev, cond⟩ := k
  obtain rfl : source = 0 := hk
  have h := s.flt.took_queue ⟨0, kind, sev, cond⟩ d s.sys.cyc
  rw [FaultKind.msg, Nat.mod_eq_of_lt (show d < 2 ^ 16 from hd)] at h
  exact h

/-- A condition of the system source that is not present yet. -/
theorem State.condition_system {k : FaultKind} (hk : k.source = 0) (hc : k.cond = true) (h : s.flt.queues[(0 : Fin 16)].length < 16)
    (hn : s.flt.present.contains ⟨0, k.kind, k.sev, 0⟩ = false) :
    (s.condition k 0).flt.queues[(0 : Fin 16)] = s.flt.queues[(0 : Fin 16)] ++ [(⟨0, k.kind, k.sev, 0⟩, s.sys.cyc)] ∧
    (s.condition k 0).flt.present = s.flt.present ++ [⟨0, k.kind, k.sev, 0⟩] ∧ s.condition k 0 = { s with flt := (s.condition k 0).flt } := by
  obtain ⟨source, kind, sev, cond⟩ := k
  obtain rfl : source = 0 := hk
  obtain rfl : cond = true := hc
  have hraise : s.condition ⟨0, kind, sev, true⟩ 0 = { s with flt := s.flt.took ⟨0, kind, sev, true⟩ 0 s.sys.cyc } := by
    rw [s.condition_new ⟨0, kind, sev, true⟩ 0 hn, s.raise_room ⟨0, kind, sev, true⟩ 0 h]
  rw [hraise]
  refine ⟨Collector.took_system s rfl (by decide), ?_, rfl⟩
  exact if_pos (by rw [show (FaultKind.mk 0 kind sev true).msg 0 = ⟨0, kind, sev, 0⟩ from rfl, hn]; rfl)

/-- What follows the key tables changes neither of them. -/
theorem State.followAuth_tables : s.followAuth.auth.nts = s.auth.nts ∧ s.followAuth.auth.sa = s.auth.sa := by
  unfold State.followAuth
  extract_lets cur _ s1 s2
  have w : Within (partsOf [.svc, .flt]) s1 (s2.each (List.finRange 16) State.followInstAuth) :=
    ((Within.start.causeGone.ite Within.start).each fun _ _ => Within.start.followInstAuth).mono (by decide)
  rw [w .auth (by decide)]
  exact ⟨rfl, rfl⟩

/-- A zeroisation empties both tables. -/
theorem State.zeroiseKeys_tables (why : Nat) : (s.zeroiseKeys why).auth.nts = s.auth.nts.map KeySlot.emptied ∧
    (s.zeroiseKeys why).auth.sa = s.auth.sa.map KeySlot.emptied := by
  unfold State.zeroiseKeys
  extract_lets n _ _ s1
  obtain ⟨hnts, hsa⟩ := (s1.drawn.drawn.raise Flt.keyZeroised why).followAuth_tables
  have hauth : (s1.drawn.drawn.raise Flt.keyZeroised why).auth = s1.auth := (Within.start.drawn.drawn.raise : Within _ s1 _) .auth (by decide)
  rw [hnts, hsa, hauth]
  exact ⟨rfl, rfl⟩

/-- An unlocked debug port leaves no key: the device KEK off, no pair key, both tables empty. -/
theorem exec_debugUnlock_keys : ∃ t, exec .debugUnlock s = .next t ∧ t.auth.kekEnabled = false ∧ t.auth.pairKey = none ∧
    (∀ i : Fin 4, t.auth.nts[i].state = .empty) ∧ (∀ i : Fin 64, t.auth.sa[i].state = .empty) := by
  obtain ⟨hnts, hsa⟩ := s.zeroiseKeys_tables 1
  have hrepl : ((s.zeroiseKeys 1).repl .zeroise).auth = (s.zeroiseKeys 1).auth :=
    (Within.start.repl : Within _ (s.zeroiseKeys 1) ((s.zeroiseKeys 1).repl .zeroise)) .auth (by decide)
  refine ⟨{ (s.zeroiseKeys 1).repl .zeroise with auth.kekEnabled := false, auth.pairKey := none }, rfl, rfl, rfl, fun i => ?_, fun i => ?_⟩
  · dsimp only
    rw [hrepl, hnts]
    simp [KeySlot.emptied]
  · dsimp only
    rw [hrepl, hsa]
    simp [KeySlot.emptied]

/-- Settles O9: the messages of the system source at a queue with room, the collector's own fault, and the debug port's unlock. -/
theorem systemFaultsReachTheCollector : Obligations.SystemFaultsReachTheCollector := by
  refine ⟨fun s he hq => ⟨fun hl hp => ?_, fun hp => ?_, fun det mv hd => ?_, fun mem hm => ?_⟩, fun s word he => ?_, exec_debugUnlock_keys⟩
  · obtain ⟨h1, h2, h3⟩ := s.condition_system (k := Flt.rpllUnlock) rfl rfl hq hp
    exact ⟨_, if_pos hl, h1, h2, h3⟩
  · obtain ⟨h1, h2, h3⟩ := s.condition_system (k := Flt.lockstep) rfl rfl hq hp
    exact ⟨_, if_neg he, h1, h2, h3⟩
  · have hspaced : s.spaced s.sys.droopLast[det] msCyc = true := by
      unfold State.spaced
      split
      · rfl
      next c hc => exact decide_eq_true (hd c hc)
    have hraise := State.raise_room { s with sys.droopLast := s.sys.droopLast.set det (some s.sys.cyc) } Flt.vddDroop (det.val + min 255 mv * 256) hq
    refine ⟨State.raise { s with sys.droopLast := s.sys.droopLast.set det (some s.sys.cyc) } Flt.vddDroop (det.val + min 255 mv * 256), ?_, ?_, ?_⟩
    · change execVddDroopDetect det mv s = _
      rw [execVddDroopDetect, hspaced, decide_eq_false he]
      rfl
    · rw [hraise]
      exact Collector.took_system s rfl (by omega)
    · rw [hraise]
  · have hraise := s.raise_room Flt.sramEccUncorr mem hq
    refine ⟨s.raise Flt.sramEccUncorr mem, ?_, ?_, ?_⟩
    · change execSramEccError mem true .configuration s = _
      rw [execSramEccError, if_neg he]
      rfl
    · rw [hraise]
      exact Collector.took_system s rfl hm
    · rw [hraise]
  · obtain ⟨hself, honly, hsafe, hwait⟩ := State.enterSafe_out { s with flt.selfFault := true, sys.resetOnly := true }
    have hcond : Within (partsOf [.flt]) _ ((State.enterSafe { s with flt.selfFault := true, sys.resetOnly := true }).condition Flt.collectorParity word) :=
      Within.start.condition.mono (by decide)
    have hsys := hcond.sys_eq (by decide) (by decide)
    refine ⟨_, if_neg he, hself.trans (State.condition_selfFault _ _ _), (congrArg Sys.resetOnly hsys).trans honly, fun hi => ?_, fun hi => ?_⟩
    · exact (congrArg Sys.engine hsys).trans (hsafe hi)
    · rw [hsys, hwait hi]

end Sys2Proof.Machine

/-! PROOFS of family 'other', instants of the time scale: O12. -/

namespace Sys2Proof.Machine

variable (s : State)

/-! ### A committed set and its step -/

/-- Beside the conversion sets and what waits, a set without a step leaves the time scale alone. -/
theorem State.setEffect_rateOnly (k : Committed) (h : k.step = none) :
    Within (partsOf [.emits, .waits, .limited, .wv, .os, .hosts, .handled, .flt]) (s.withSet k) (s.setEffect k) := by
  unfold State.setEffect
  extract_lets c before _ s1 s2 s3 s4 s5
  have h2 : Within (partsOf [.emits, .limited, .os, .hosts, .handled, .flt]) s1 s2 := Within.start.followRateLimit.retuneAll.mono (by decide)
  have h3 : s3 = s2 := by simp only [s3, h]
  have h4 : Within (partsOf [.emits, .limited, .os, .hosts, .handled, .flt]) s1 s4 := by
    unfold s4
    rw [h3]
    split
    exacts [h2.completeOpt.mono (by decide), h2]
  have h5 : s5 = s4 := by simp only [s5, h]
  rw [h5]
  exact h4.tryCommit.mono (by decide)

/-- A step is counted, and noted at its boundary. -/
theorem State.doStep_counts (d : Int) (cyc : Nat) (before : Int) :
    (s.doStep d cyc before).ts.stepCount = s.ts.stepCount + 1 ∧ (s.doStep d cyc before).ts.lastStepAt = cyc := by
  unfold State.doStep
  extract_lets leap flags s1 _ _ _ _ s2 s3 s4 t
  have h1 : s1.ts.stepCount = s.ts.stepCount := by
    unfold s1
    split
    · have w : Within (partsOf [.pins]) s.applyLeap (s.changeUtc State.applyLeap) :=
        (Within.start.each fun _ _ => Within.start.passPin).mono (by decide)
      rw [w.ts_eq (by decide), State.applyLeap]
      split <;> rfl
    · rfl
  have w : Within (partsOf [.os, .tdc, .log, .emits, .hosts, .flt]) s2 (s4.each allHosts fun u p => u.noticePort p 2 (intLo d) (intHi d) t cyc) :=
    ((Within.start.stepMis.each fun _ _ => Within.start.markGate).logAt.each fun _ _ => Within.start.noticePort).mono (by decide)
  rw [w.ts_eq (by decide)]
  exact ⟨congrArg (· + 1) h1, rfl⟩

/-- A host's step with its set: what follows the step leaves its count alone. -/
theorem State.setEffect_hostStep (k : Committed) {r : StepReq} {id : Nat} (hk : k.step = some r) (hr : r.origin = .host id) :
    (s.setEffect k).ts.stepCount = s.ts.stepCount + 1 ∧ (s.setEffect k).ts.lastStepAt = k.effect := by
  unfold State.setEffect
  extract_lets c before _ s1 s2 s3 s4 s5
  have h2 : s2.ts.stepCount = s.ts.stepCount := by
    have w : Within (partsOf [.limited, .os, .flt]) s1 s2 := Within.start.followRateLimit.retuneAll.mono (by decide)
    obtain ⟨-, -, -, hc, -⟩ := w .ts (by decide)
    exact hc
  have h3 : s3 = s2.doStep r.size k.effect before := by simp only [s3, hk]
  have h5 : s5 = s4.recompute.complete id 0 (cycWords k.effect) := by simp only [s5, hk, hr]
  have h4 : Within (partsOf [.emits, .hosts, .handled]) s3 s4 := by
    unfold s4
    split
    exacts [Within.start.completeOpt.mono (by decide), Within.start.mono (by decide)]
  have w : Within (partsOf [.emits, .waits, .bound, .tdc, .slots, .wv, .fc, .os, .outs, .svc, .hosts, .handled, .flt, .log]) s3 s5.tryCommit := by
    rw [h5]
    exact h4.recompute.complete.tryCommit.mono (by decide)
  obtain ⟨-, -, hl, hc, -⟩ := w .ts (by decide)
  obtain ⟨hd, hat⟩ := s2.doStep_counts r.size k.effect before
  rw [hl, hc, h3, hd, hat, h2]
  exact ⟨rfl, rfl⟩

/-- A set that takes effect leaves CYC alone. -/
theorem State.setEffect_cyc (k : Committed) : (s.setEffect k).sys.cyc = s.sys.cyc := by
  obtain ⟨-, -, -, -, -, -, hc, -⟩ := (s.setEffect_within k) .sys (by decide)
  exact hc

/-! ### Leap seconds -/

/-- A change of UTC_OFFSET changes the pins that count on UTC, and those alone. -/
theorem State.passPins_others (l : List (Fin 80)) (n : Fin 80) (h : n ∉ l) : (s.each l State.passPin).outs.pins[n] = s.outs.pins[n] := by
  induction l generalizing s with
  | nil => rfl
  | cons a l ih =>
    obtain ⟨ha, hl⟩ := not_or.mp (mt List.mem_cons.mpr h)
    have hp : (s.passPin a).outs.pins[n] = s.outs.pins[n] := upd_other _ _ _ _ (Ne.symm ha)
    exact (ih (s.passPin a) hl).trans hp

/-- A leap second that is due. -/
theorem execLeapAtReached_due (hp : s.ts.leapPending ≠ 0) (h : (s.ts.leapAt : Int) * 65536000000000 ≤ s.now) :
    exec .leapAtReached s = .next (s.changeUtc State.applyLeap) :=
  if_pos (by simp [hp]; exact h)

/-- What a leap second changes: UTC_OFFSET, the leap second itself, and the pins that count on UTC. -/
theorem State.changeUtc_leap (hp : s.ts.leapPending ≠ 0) :
    (s.changeUtc State.applyLeap).ts = { s.ts with utcOffset := s.ts.utcOffset + (if s.ts.leapPending = 1 then 1 else -1), leapPending := 0, leapAt := 0 } ∧
    s.changeUtc State.applyLeap = { s with ts := (s.changeUtc State.applyLeap).ts, outs := (s.changeUtc State.applyLeap).outs } ∧
    (s.changeUtc State.applyLeap).outs.os = s.outs.os ∧
    ∀ n : Fin 80, (s.outs.pins[n].pulsed && s.outs.pins[n].onUtc) = false → (s.changeUtc State.applyLeap).outs.pins[n] = s.outs.pins[n] := by
  have hsign : leapSign s.ts.leapPending = if s.ts.leapPending = 1 then 1 else -1 := by
    generalize s.ts.leapPending = p at hp
    revert p
    decide
  have happ : s.applyLeap = { s with ts := { s.ts with utcOffset := s.ts.utcOffset + (if s.ts.leapPending = 1 then 1 else -1), leapPending := 0, leapAt := 0 } } := by
    rw [State.applyLeap, if_neg hp, hsign]
  have w : Within (partsOf [.pins]) s.applyLeap (s.changeUtc State.applyLeap) := (Within.start.each fun _ _ => Within.start.passPin).mono (by decide)
  have wl : Within (partsOf [.sets, .waits, .limited, .ts, .os, .pins, .outs]) s (s.changeUtc State.applyLeap) :=
      (Within.start.changeUtc Within.start.applyLeap).mono (by decide)
  have hos : Within (partsOf [.ts, .pins]) s (s.changeUtc State.applyLeap) := (Within.start.changeUtc Within.start.applyLeap).mono (by decide)
  refine ⟨?_, wl.eq, hos .os (by decide), fun n hn => ?_⟩
  · rw [w.ts_eq (by decide), happ]
  · have hout : s.applyLeap.outs = s.outs := by rw [happ]
    rw [State.changeUtc, State.passPins_others _ _ _ fun hm => Bool.false_ne_true (hn.symm.trans (List.mem_filter.mp hm).2), hout]

/-! ### Checkpoints -/

/-- The time in a checkpoint is the time in whole nanoseconds. -/
theorem State.record_time : s.record.time = s.now / 65536 * 65536 := by
  change s.now / 65536000000000 * 65536000000000 + s.now % 65536000000000 / 65536 * 65536 = s.now / 65536 * 65536
  omega

/-- The newest record of the ring, if its CRC is good, is what INIT restores. -/
theorem Mram.checkpoint_newest (m : Mram) (n : Nat) (r : Checkpoint) (l : List (Nat × Checkpoint)) (hring : m.ring = (n, r) :: l)
    (hn : m.nextSeq = n + 1) (hr : r.crcGood = true) : m.checkpoint = some r := by
  simp [Mram.checkpoint, hring, hn, hr]

/-- A checkpoint that is due. -/
theorem execCheckpointWrite_due (hi : s.afterInit = true) (hd : s.fc.checkpointDue ≤ s.sys.cyc) (ok : Bool) (w : Nat) :
    exec (.checkpointWrite ok w) s = .next (if ok then
      ((State.checkpointAt { s with fc.checkpointDue := s.sys.cyc + 10000000000 } none).each
        (([1, 2] : List (Fin 3)).filter fun f => s.fc.fw[f].cfg.flag Ix.fwShared && s.fc.fw[f].model.isSome) State.replModel)
      else State.checkpointAt { s with fc.checkpointDue := s.sys.cyc + 10000000000 } (some w)) := by
  change execCheckpointWrite ok w s = _
  rw [execCheckpointWrite, if_neg (by simp [hi, Nat.not_lt.mpr hd])]
  cases ok <;> rfl

/-- A good checkpoint: the newest record, in whole nanoseconds. -/
theorem exec_checkpointWrite_good (hi : s.afterInit = true) (hd : s.fc.checkpointDue ≤ s.sys.cyc) (w : Nat) :
    ∃ t r, exec (.checkpointWrite true w) s = .next t ∧
      t.mram.ring = (s.mram.nextSeq, r) :: s.mram.ring.filter (fun e => s.mram.nextSeq < e.1 + 64) ∧
      r.seq = s.mram.nextSeq ∧ r.crcGood = true ∧ r.time = s.now / 65536 * 65536 ∧ t.mram.nextSeq = s.mram.nextSeq + 1 ∧
      t.mram.checkpoint = some r ∧
      t = { s with fc.checkpointDue := s.sys.cyc + 10000000000, mram := t.mram, emits := t.emits } := by
  have hexec := execCheckpointWrite_due s hi hd true w
  simp only [if_true] at hexec
  let u := State.checkpointAt { s with fc.checkpointDue := s.sys.cyc + 10000000000 } none
  have walked : Within (partsOf [.emits]) u (u.each
      (([1, 2] : List (Fin 3)).filter fun f => s.fc.fw[f].cfg.flag Ix.fwShared && s.fc.fw[f].model.isSome) State.replModel) :=
    (Within.start.each fun _ _ => Within.start.replModel).mono (by decide)
  refine ⟨_, { s.record with crcGood := true }, hexec, ?_, rfl, rfl, s.record_time, ?_, ?_, ?_⟩
  · rw [walked .mram (by decide)]
    rfl
  · rw [walked .mram (by decide)]
    rfl
  · rw [walked .mram (by decide)]
    exact Mram.checkpoint_newest _ s.mram.nextSeq _ _ rfl rfl rfl
  · have hm := walked .mram (by decide)
    rw [walked.eq]
    rfl

/-- What a fault makes of the collector depends on the collector and CYC alone. -/
theorem State.pushMsg_flt_congr {s t : State} (hf : t.flt = s.flt) (hc : t.sys.cyc = s.sys.cyc) (m : FaultMsg) : (t.pushMsg m).flt = (s.pushMsg m).flt := by
  unfold State.pushMsg
  rw [hf, hc]
  dsimp only
  split <;> rfl

theorem State.raiseDropped_flt_congr {s t : State} (hf : t.flt = s.flt) (hc : t.sys.cyc = s.sys.cyc) (i : Fin 16) :
    (t.raiseDropped i).flt = (s.raiseDropped i).flt := by
  have hs (l : Option Nat) (n : Nat) : t.spaced l n = s.spaced l n := by simp only [State.spaced, hc]
  unfold State.raiseDropped
  rw [hf, hs, hc]
  split
  · apply State.pushMsg_flt_congr
    · rfl
    · exact hc
  · exact hf

theorem State.raise_flt_congr {s t : State} (hf : t.flt = s.flt) (hc : t.sys.cyc = s.sys.cyc) (k : FaultKind) (d : Nat) :
    (t.raise k d).flt = (s.raise k d).flt := by
  have hpush := State.pushMsg_flt_congr hf hc (k.msg d)
  have hcyc (u : State) : (u.pushMsg (k.msg d)).sys.cyc = u.sys.cyc := by
    obtain ⟨c, h⟩ := u.pushMsg_only (k.msg d)
    rw [h]
  have hdrop := State.raiseDropped_flt_congr hpush ((hcyc t).trans (hc.trans (hcyc s).symm)) (sourceIx k.source)
  unfold State.raise
  rw [hf]
  dsimp only
  split
  · split <;> simp only [hdrop, hpush]
  · split <;> simp only [hdrop, hpush]

/-- A failed checkpoint: its record does not match its CRC, and the fault names the MRAM word. -/
theorem exec_checkpointWrite_failed (hi : s.afterInit = true) (hd : s.fc.checkpointDue ≤ s.sys.cyc) (w : Nat) :
    ∃ t r, exec (.checkpointWrite false w) s = .next t ∧
      t.mram.ring = (s.mram.nextSeq, r) :: s.mram.ring.filter (fun e => s.mram.nextSeq < e.1 + 64) ∧
      r.seq = s.mram.nextSeq ∧ r.crcGood = false ∧ t.mram.nextSeq = s.mram.nextSeq + 1 ∧
      t = { s with fc.checkpointDue := s.sys.cyc + 10000000000, mram := t.mram, flt := (s.raise Flt.checkpointFail w).flt } :=
  ⟨State.checkpointAt { s with fc.checkpointDue := s.sys.cyc + 10000000000 } (some w), { s.record with crcGood := false },
    execCheckpointWrite_due s hi hd false w, rfl, rfl, rfl, rfl, by
      rw [← State.raise_flt_congr (s := s) (t := { s with fc.checkpointDue := s.sys.cyc + 10000000000 }) rfl rfl]
      rfl⟩

/-! ### COVERAGE and the routine recomputation -/

/-- A host's write of COVERAGE with the right to it reaches the register. -/
theorem exec_coverageWrite_may (hp : Fin 4) (v : Word) (hb : s.afterBoot = true) (hm : s.may hp .time = true) (hf : s.follower = false) :
    exec (.coverageWrite hp v) s = .next (s.writeCoverage v.toNat) := by
  change s.opened (fun t => t.hostCoverage hp v.toNat) = _
  rw [s.opened_up _ hb, State.hostCoverage, if_neg (by simp [hm]), if_neg (by simp [hf])]

/-- What a recomputation keeps of the Bound calculator's own state: the factor, the count and the due time. -/
def SameRound (s t : State) : Prop := t.bound.k = s.bound.k ∧ t.bound.epoch = s.bound.epoch ∧ t.bound.due = s.bound.due

theorem SameRound.trans {s t u : State} (a : SameRound s t) (b : SameRound t u) : SameRound s u := by
  obtain ⟨hk, he, hd⟩ := a
  obtain ⟨hk', he', hd'⟩ := b
  exact ⟨hk'.trans hk, he'.trans he, hd'.trans hd⟩

theorem SameRound.of_within {m : Nat} {s t : State} (w : Within m s t) (h : holds m .bound = false) : SameRound s t := by
  have hb : t.bound = s.bound := w .bound h
  exact ⟨by rw [hb], by rw [hb], by rw [hb]⟩

theorem State.followComponents_round : SameRound s s.followComponents := by
  unfold State.followComponents
  split <;> exact ⟨rfl, rfl, rfl⟩

theorem State.checkThreshold_round (i : Fin 26) : SameRound s (s.checkThreshold i) := by
  unfold State.checkThreshold
  extract_lets high _ s1
  have h1 : SameRound s s1 := ⟨rfl, rfl, rfl⟩
  have hr := h1.trans (.of_within (Within.start.raise : Within _ s1 (s1.raise Flt.boundHigh i.val)) (by decide))
  have hc := h1.trans (.of_within (Within.start.causeEnds : Within _ s1 (s1.causeEnds Flt.boundHigh i.val)) (by decide))
  split
  · split
    exacts [h1, hr]
  · exact hc

/-- A recomputation of every Bound counts in BOUND_EPOCH, sets its next time and keeps the factor. -/
theorem State.recompute_round : s.recompute.bound.k = s.bound.k ∧ s.recompute.bound.epoch = s.bound.epoch + 1 ∧
    s.recompute.bound.due = s.sys.cyc + 39062500 := by
  have renewed : s.renewBounds.bound.k = s.bound.k ∧ s.renewBounds.bound.epoch = s.bound.epoch + 1 ∧
      s.renewBounds.bound.due = s.sys.cyc + 39062500 := by
    unfold State.renewBounds
    extract_lets old s1 _ s2 s3 s4 s5
    have h1 : SameRound s s1 :=
      (SameRound.of_within Within.start.renewWeights (by decide)).trans
        ((State.followComponents_round _).trans (t := s.renewWeights.followComponents) (u := s1) ⟨rfl, rfl, rfl⟩)
    have hcyc : s1.sys = s.sys :=
      (Within.start.renewWeights.followComponents.computeBounds : Within _ s s1).sys_eq (by decide) (by decide)
    have h3 : SameRound s2 s3 := .of_within Within.start.hwEventAll.followUnknown (by decide)
    have h4 : SameRound s2 s4 := s3.each_keeps (P := SameRound s2) _ _ h3 fun t i h => h.trans (t.checkThreshold_round i)
    have w5 : Within (partsOf [.svc, .tdc, .slots]) s4 s5 := (Within.start.each fun _ _ => Within.start.stepClass).renewWidths.unblock.mono (by decide)
    obtain ⟨hk, he, hd⟩ := h4.trans (.of_within w5 (by decide))
    obtain ⟨hk1, he1, -⟩ := h1
    clear_value s5 s4 s3 s1
    exact ⟨hk.trans hk1, he.trans (congrArg (· + 1) he1), hd.trans (congrArg (fun y : Sys => y.cyc + 39062500) hcyc)⟩
  have w : Within (partsOf [.emits, .os, .outs, .hosts, .handled, .flt, .log]) s.renewBounds s.recompute :=
    (Within.start.each fun _ _ => Within.start.startWalk).mono (by decide)
  obtain ⟨hk, he, hd⟩ := SameRound.of_within w (by decide)
  obtain ⟨hk', he', hd'⟩ := renewed
  exact ⟨hk.trans hk', he.trans he', hd.trans hd'⟩

/-- A staged factor that waits for the recomputation applies with it. -/
theorem State.applyK_round : s.applyK.bound.k = s.bound.kPending.getD s.bound.k ∧ s.applyK.bound.epoch = s.bound.epoch := by
  unfold State.applyK
  cases h : s.bound.kPending with
  | none =>
    have w : Within _ s (s.applied 0 0) := Within.start.applied
    have hb : (s.applied 0 0).bound = s.bound := w .bound (by decide)
    exact ⟨by rw [hb]; rfl, by rw [hb]⟩
  | some k =>
    have w : Within _ { s with bound.k := k, bound.kPending := none } ((State.applied { s with bound.k := k, bound.kPending := none } 0 0).repl (.coverage k)) :=
      Within.start.applied.repl
    have hb : (State.repl (State.applied { s with bound.k := k, bound.kPending := none } 0 0) (.coverage k)).bound =
        { s.bound with k := k, kPending := none } := w .bound (by decide)
    dsimp only
    rw [hb]
    exact ⟨rfl, rfl⟩

/-- Settles O12, time event by time event. -/
theorem timeEventsTakeEffectWhenDue : Obligations.TimeEventsTakeEffectWhenDue := by
  refine ⟨fun s k hk hd => ⟨fun hs => ?_, fun r id hs hr => ?_⟩, fun s hp h => ?_, ⟨fun s p a d n hl ht hr hs h1 h2 => ?_, fun s p a d n hl hr h => ?_⟩,
    fun s hi hd => ⟨exec_checkpointWrite_good s hi hd, exec_checkpointWrite_failed s hi hd⟩, fun s hp v hb hm hf hn h3 h8 => ?_,
    fun s hp v hb hm hf hv => ?_, fun s hd hs => ?_, fun s hd => if_pos hd⟩
  · have w := s.setEffect_rateOnly k hs
    obtain ⟨-, -, -, hc, hu, -⟩ := w .ts (by decide)
    exact ⟨_, execConversionSetEffect_due s k hk hd, s.setEffect_sets k, hc, hu, s.setEffect_cyc k⟩
  · obtain ⟨hc, hl⟩ := s.setEffect_hostStep k hs hr
    exact ⟨_, execConversionSetEffect_due s k hk hd, s.setEffect_sets k, hc, hl, s.setEffect_cyc k⟩
  · exact ⟨_, execLeapAtReached_due s hp h, s.changeUtc_leap hp⟩
  · change execSmearRampStart p s = .next (s.mapSmear p fun y => { y with running := true })
    simp only [execSmearRampStart, hl]
    rw [if_pos (by simp [-Fin.getElem_fin, ht, hr, hs, h1, h2])]
  · change execSmearRampEnd p s = .next (s.mapSmear p fun y => { y with running := false })
    simp only [execSmearRampEnd, hl]
    rw [if_pos (by simp [-Fin.getElem_fin, hr, h])]
  · rw [exec_coverageWrite_may s hp v hb hm hf, State.writeCoverage]
    simp [h3, h8, hn]
  · obtain ⟨c, hc⟩ := s.raise_only Flt.coverageRange (v.toNat % 16)
    refine ⟨?_, by rw [hc]⟩
    rw [exec_coverageWrite_may s hp v hb hm hf, State.writeCoverage]
    exact congrArg Host.Outcome.next (if_neg (by simp; omega))
  · have w : Within _ s s.applyK.recompute := Within.start.applyK.recompute
    obtain ⟨hk, he, hdue⟩ := s.applyK.recompute_round
    obtain ⟨hk', he'⟩ := s.applyK_round
    have hsys : s.applyK.sys = s.sys := (Within.start.applyK : Within _ s s.applyK).sys_eq (by decide) (by decide)
    refine ⟨s.applyK.recompute, ?_, hk.trans hk', he.trans (by rw [he']), hdue.trans (by rw [hsys]), w.ts_eq (by decide), w.sys_eq (by decide) (by decide)⟩
    change execBoundRecompute s = _
    rw [execBoundRecompute, if_neg (Nat.not_lt.mpr hd)]
    simp [hs]

end Sys2Proof.Machine

/-! PROOFS of family 'other', captures and PTM: O13. -/

namespace Sys2Proof.Machine

variable (s : State)

/-- A hardware event changes the host ports by its own bit of one port alone. -/
theorem State.hwEvent_hosts (p : Fin 4) (b : Nat) :
    (s.hwEvent p b).hosts = upd s.hosts p fun h => { h with hwEvents := h.hwEvents ||| BitVec.ofNat 32 (2 ^ b) } := by
  rw [State.hwEvent]
  split
  · exact State.msix_hosts _ p 1
  · rfl

/-- A capture with the values of its edge. -/
def State.published (c : Capture) : Capture :=
  { c with valid := true, busy := false, count := c.count + 1, cyc := c.edge, ts := s.convert ⟨c.edge, 0⟩, bound := s.tsBoundAt c.edge }

/-- A capture's edge has come: the capture of that edge is published, and event 14 latches. -/
theorem execCaptureComplete_due (hp : Fin 4) (hb : s.hosts[hp].cap.busy = true) (he : s.hosts[hp].cap.edge ≤ s.sys.cyc) :
    exec (.captureComplete hp) s = .next ((s.mapHost hp fun h => { h with cap := s.published s.hosts[hp].cap }).hwEvent hp 14) := by
  change execCaptureComplete hp s = _
  unfold execCaptureComplete
  extract_lets c
  rw [if_neg (by simp [-Fin.getElem_fin, c, hb, he])]
  rfl

/-- The nanoseconds of a time that 64 bits hold. -/
theorem ptm_nanoseconds (t : Int) (h0 : 0 ≤ t) (h : t / 65536 < 2 ^ 64) :
    ((BitVec.ofNat 64 (tsSec t * 1000000000 + tsNs t)).toNat : Int) = t / 65536 := by
  have hval : ((tsSec t * 1000000000 + tsNs t : Nat) : Int) = t / 65536 := by
    simp only [tsSec, tsNs, secFrac]
    omega
  rw [BitVec.toNat_ofNat, Nat.mod_eq_of_lt (by omega)]
  exact hval

/-- Settles O13: the request, its completion, and a PTM request of a linked PCIe port. -/
theorem capturesLatchOneEdgeAndPtmAnswersInTai : Obligations.CapturesLatchOneEdgeAndPtmAnswersInTai := by
  refine ⟨fun s hp v hb hv hc => ?_, fun s hp hb he => ?_, fun s hp h2 hu hb h0 => ?_, fun s => ⟨fun h => ?_, fun b h => ?_⟩⟩
  · change s.opened (fun t => t.requestCapture hp v) = _
    rw [s.opened_up _ hb]
    exact congrArg Host.Outcome.next (if_pos (by rw [hv, hc]; rfl))
  · have hhosts := State.hwEvent_hosts (s.mapHost hp fun h => { h with cap := s.published s.hosts[hp].cap }) hp 14
    rw [State.mapHost_hosts, upd_upd] at hhosts
    refine ⟨_, execCaptureComplete_due s hp hb he, ?_⟩
    rw [hhosts, upd_same]
    refine ⟨rfl, rfl, rfl, rfl, rfl, rfl, getLsbD_or_two_pow _ (by decide), fun q hq => ?_, ?_⟩
    · rw [upd_other _ _ _ _ hq.symm]
    · rw [← hhosts]
      exact ((State.mapHost_touches hp _).trans (State.hwEvent_only _ hp 14)).eq_of_hosts
  · refine ⟨BitVec.ofNat 64 (tsSec s.now * 1000000000 + tsNs s.now), ptm_nanoseconds s.now h0, ?_⟩
    change execPtmRequest hp s = _
    rw [execPtmRequest, if_pos (by simp [-Fin.getElem_fin, h2, hu, hb])]
    rfl
  · rw [State.ptmBound, h]
  · rw [State.ptmBound, h]

end Sys2Proof.Machine

/-! PROOFS of family 'other', edges, windows and gates of channels: O14. -/

namespace Sys2Proof.Machine

variable (s : State) (ch : Fin 88)

/-! ### A channel changed -/

@[simp] theorem upd_id {α : Type} {n : Nat} (v : Vector α n) (i : Fin n) : upd v i id = v := by simp [upd]

/-- Two changes of one channel are one. -/
theorem State.mapTdc_mapTdc (f g : TdcChan → TdcChan) : (s.mapTdc ch f).mapTdc ch g = s.mapTdc ch fun c => g (f c) := by
  simp only [State.mapTdc, upd_upd]

@[simp] theorem State.mapTdc_at (f : TdcChan → TdcChan) : (s.mapTdc ch f).tdc[ch] = f s.tdc[ch] := upd_same ..

theorem State.mapTdc_others (f : TdcChan → TdcChan) : ∀ c, c ≠ ch → (s.mapTdc ch f).tdc[c] = s.tdc[c] := fun _ hc => upd_other _ _ _ _ hc.symm

/-! ### Transitions and deglitch -/

/-- A transition that waits for its deglitch time is accepted once that has passed. -/
theorem State.acceptHeld_due {t : Stamp} {fall : Bool} (hp : s.tdc[ch].pend = some (t, fall)) (h : t.cyc + s.deglitch ch ≤ s.sys.cyc) :
    s.acceptHeld ch = s.acceptEdge ch t fall := by
  simp only [State.acceptHeld, hp, h, if_true]

theorem State.acceptHeld_early {t : Stamp} {fall : Bool} (hp : s.tdc[ch].pend = some (t, fall)) (h : s.sys.cyc < t.cyc + s.deglitch ch) :
    s.acceptHeld ch = s := by
  simp only [State.acceptHeld, hp, Nat.not_le.mpr h, if_false]

theorem State.acceptHeld_none (hp : s.tdc[ch].pend = none) : s.acceptHeld ch = s := by simp only [State.acceptHeld, hp]

/-- A transition without deglitch passes at once. -/
theorem execTdcEdge_passes (r : Bool) (f : Fin 1024) (hl : s.sys.rpllLocked = true) (hd : s.deglitch ch = 0) :
    exec (.tdcEdge ch r f) s = .next ((s.acceptHeld ch).acceptEdge ch ⟨s.sys.cyc, f.val⟩ (!r)) := by
  change execTdcEdge ch r f s = _
  simp only [execTdcEdge, hl, hd, if_true, Bool.not_true, Bool.false_eq_true, if_false]

/-- With deglitch time a transition waits, or, against one that waits, discards both. -/
theorem execTdcEdge_deglitch (r : Bool) (f : Fin 1024) (hl : s.sys.rpllLocked = true) (hd : s.deglitch ch ≠ 0) (ha : s.acceptHeld ch = s) :
    exec (.tdcEdge ch r f) s = match s.tdc[ch].pend with
      | some (_, falling) => .next (if falling = r then s.glitched ch else s)
      | none => .next (s.mapTdc ch fun c => { c with pend := some (⟨s.sys.cyc, f.val⟩, !r) }) := by
  change execTdcEdge ch r f s = _
  unfold execTdcEdge
  rw [if_neg (by simp [hl])]
  dsimp only
  rw [ha]
  exact if_neg hd

/-- A counter's fault changes the collector, and its period the channel's. -/
theorem State.counterChanged_only (i : Fin 4) : ∃ (f : TdcChan → TdcChan) (c : Collector),
    s.counterChanged ch i = { s.mapTdc ch f with flt := c } ∧ ∀ x, ∃ p, f x = { x with period := p } := by
  unfold State.counterChanged
  extract_lets now
  split
  · refine ⟨id, s.flt, ?_, fun x => ⟨x.period, rfl⟩⟩
    rw [State.mapTdc, upd_id]
  · obtain ⟨c, hc⟩ := (s.mapTdc ch fun c => { c with period := c.period.set i (some now) }).raise_only (counterFault i) ch.val
    exact ⟨_, c, hc, fun x => ⟨_, rfl⟩⟩

/-- Both transitions discarded: GLITCH counts, and nothing of the channel but its counter's period changes beside. -/
theorem State.glitched_out : (s.glitched ch).tdc[ch].pend = none ∧ (s.glitched ch).tdc[ch].glitch = s.tdc[ch].glitch + 1 ∧
    (s.glitched ch).tdc[ch].edges = s.tdc[ch].edges ∧ (∀ c, c ≠ ch → (s.glitched ch).tdc[c] = s.tdc[c]) ∧
    s.glitched ch = { s with tdc := (s.glitched ch).tdc, flt := (s.glitched ch).flt } := by
  obtain ⟨f, c, hc, hf⟩ := (s.mapTdc ch fun c => { c with glitch := c.glitch + 1, pend := none }).counterChanged_only ch 2
  rw [State.glitched, hc, State.mapTdc_mapTdc]
  have at_ := s.mapTdc_at ch fun c => f { c with glitch := c.glitch + 1, pend := none }
  obtain ⟨p, hp⟩ := hf { s.tdc[ch] with glitch := s.tdc[ch].glitch + 1, pend := none }
  have at_ := at_.trans hp
  have hpend := congrArg TdcChan.pend at_
  have hglitch := congrArg TdcChan.glitch at_
  have hedges := congrArg TdcChan.edges at_
  exact ⟨hpend, hglitch, hedges, s.mapTdc_others ch _, rfl⟩

/-- A transition that EDGE does not select and no interval waits for. -/
theorem State.acceptEdge_ignored (t : Stamp) (fall : Bool) (hs : s.tdc[ch].selects fall = false) (hn : s.stopsFor ch fall = []) :
    s.acceptEdge ch t fall = { s with tdc := upd s.tdc ch fun c => { c with level := !fall, pend := none } } := by
  unfold State.acceptEdge
  simp only [hs, hn, List.isEmpty_nil, Bool.false_and, Bool.not_false, Bool.and_self, if_true, Bool.false_eq_true, if_false]
  rfl

/-- The state with one channel in place. -/
def State.withTdc (x : TdcChan) : State := s.mapTdc ch fun _ => x

theorem State.mapTdc_eq_withTdc (f : TdcChan → TdcChan) : s.mapTdc ch f = s.withTdc ch (f s.tdc[ch]) :=
  congrArg (fun v => { s with tdc := v }) (upd_congr _ _ rfl)

@[simp] theorem State.withTdc_at (x : TdcChan) : (s.withTdc ch x).tdc[ch] = x := s.mapTdc_at ch _

@[simp] theorem State.withTdc_withTdc (x y : TdcChan) : (s.withTdc ch x).withTdc ch y = s.withTdc ch y := s.mapTdc_mapTdc ch ..

/-- The one channel put in place, and no other part of the state. -/
theorem State.withTdc_only (x : TdcChan) : (∀ c, c ≠ ch → (s.withTdc ch x).tdc[c] = s.tdc[c]) ∧
    s.withTdc ch x = { s with tdc := (s.withTdc ch x).tdc } := ⟨s.mapTdc_others ch _, rfl⟩

@[simp] theorem State.withTdc_wv (x : TdcChan) : (s.withTdc ch x).wv = s.wv := rfl

@[simp] theorem State.withTdc_fc (x : TdcChan) : (s.withTdc ch x).fc = s.fc := rfl

/-- Slots are chosen by Weathervane's part of the state alone. -/
theorem State.slotsWith_congr {s t : State} (h : s.wv = t.wv) (p : Slot → Bool) : s.slotsWith p = t.slotsWith p := by
  simp only [State.slotsWith, h]

/-! ### Windows -/

/-- A stamp in the gate, or in one that opens at it. -/
theorem State.gateStamp_eq (k t : Int) (stale : Bool) : ∃ (g : Gate) (l : List (Int × Int × Bool)),
    s.gateStamp ch k t stale = s.withTdc ch { s.tdc[ch] with gate := g, later := l } ∧ g.n ≤ s.tdc[ch].gate.n + 1 := by
  rw [State.gateStamp, State.mapTdc_eq_withTdc]
  refine ⟨_, _, rfl, ?_⟩
  have opened : (if s.tdc[ch].gate.waiting then s.openGate t else s.tdc[ch].gate).n ≤ s.tdc[ch].gate.n := by
    split
    · exact Nat.zero_le _
    · exact le_rfl
  generalize (if s.tdc[ch].gate.waiting then s.openGate t else s.tdc[ch].gate) = g at opened ⊢
  split
  · exact Nat.succ_le_succ opened
  · exact opened.trans (Nat.le_succ _)

/-- A gate short of 2^32 stamps is not cut by COUNT_LIMIT. -/
theorem State.limitGate_short {t : Int} (h : s.tdc[ch].gate.n < 2 ^ 32) : s.limitGate ch t = s := by
  have full : s.gateFull ch = false := by
    rw [State.gateFull, decide_eq_false (Nat.not_le.mpr h), Bool.false_and]
  rw [State.limitGate, full]; rfl

/-- An accepted edge with room in the FIFO and in its gate changes its channel alone. -/
theorem State.windowAccepted_eq {k : Int} {t : Stamp} {stale : Bool} (hf : s.tdc[ch].fifo.length < 64) (hg : s.tdc[ch].gate.n + 1 < 2 ^ 32) :
    ∃ (g : Gate) (l : List (Int × Int × Bool)), s.windowAccepted ch k t stale = s.withTdc ch
      { s.tdc[ch] with
        fifo := s.tdc[ch].fifo ++ [s.tdc[ch].entry t (s.tdc[ch].cfg.nat Ix.tdcEdge == 1) s.tdc[ch].rejSince stale],
        rejSince := 0, emptyRun := 0, gate := g, later := l } := by
  unfold State.windowAccepted State.toFifo
  extract_lets c s1
  have h1 : s1 = s.withTdc ch { c with fifo := c.fifo ++ [c.entry t (c.cfg.nat Ix.tdcEdge == 1) c.rejSince stale], rejSince := 0, emptyRun := 0 } := by
    simp only [s1, c, hf, if_true, State.mapTdc_eq_withTdc, State.withTdc_at, State.withTdc_withTdc]
  obtain ⟨g, l, hs, hn⟩ := s1.gateStamp_eq ch k (c.delayed t) stale
  rw [hs, h1, State.withTdc_withTdc, State.withTdc_at]
  refine ⟨g, l, State.limitGate_short _ _ ?_⟩
  rw [State.withTdc_at]
  rw [h1, State.withTdc_at] at hn
  exact hn.trans_lt hg

/-- A pulse that no slot follows gives no offset. -/
theorem State.pulseOffset_none {k : Int} {t : Stamp} (h : s.slotsWith (fun x => x.pulseChannel ch.val) = []) : s.pulseOffset ch k t = s := by
  simp only [State.pulseOffset, h, State.each, List.foldl_nil]

/-- What a window's close leaves of the edges of its channel. -/
def TdcChan.closed (x : TdcChan) (k close : Int) : TdcChan :=
  { x with closedTo := close.toNat, inside := x.inside.filter fun e => k < e.1 }

/-- A window without an edge, that no slot follows. -/
theorem State.closeWindow_empty {k close : Int} (hs : s.slotsWith (fun x => x.pulseChannel ch.val) = [])
    (he : s.tdc[ch].inside.filter (fun e => e.1 == k) = []) :
    s.closeWindow ch k close = s.withTdc ch { s.tdc[ch].closed k close with
      empty := s.tdc[ch].empty + 1, emptyRun := s.tdc[ch].emptyRun + 1, rejSince := 0 } := by
  have lost : ∀ (t : State) (m : Nat), t.wv = s.wv →
      t.slotsWith (fun x => x.pulseChannel ch.val && decide (x.cfg.nat Ix.slotEmptyLimit ≤ m)) = [] := by
    intro t m ht
    rw [State.slotsWith_congr ht, State.slotsWith, List.filter_eq_nil_iff]
    intro i hi
    have := List.filter_eq_nil_iff.mp hs i hi
    simp_all
  unfold State.closeWindow
  extract_lets mine s1
  rw [show mine = [] from he]
  dsimp only
  rw [lost (s1.windowEmpty ch [].length) _ rfl]
  simp only [List.isEmpty_nil, if_true, s1, List.length_nil, State.windowEmpty, State.mapTdc_eq_withTdc, State.withTdc_at, State.withTdc_withTdc]
  rfl

/-- A window with one edge, that no slot follows. -/
theorem State.closeWindow_single {k close : Int} {e : Int × Stamp × Bool} (hs : s.slotsWith (fun x => x.pulseChannel ch.val) = [])
    (he : s.tdc[ch].inside.filter (fun e => e.1 == k) = [e]) (hf : s.tdc[ch].fifo.length < 64) (hg : s.tdc[ch].gate.n + 1 < 2 ^ 32) :
    ∃ (g : Gate) (l : List (Int × Int × Bool)), s.closeWindow ch k close = s.withTdc ch { s.tdc[ch].closed k close with
        fifo := s.tdc[ch].fifo ++ [s.tdc[ch].entry e.2.1 (s.tdc[ch].cfg.nat Ix.tdcEdge == 1) s.tdc[ch].rejSince e.2.2],
        rejSince := 0, emptyRun := 0, gate := g, later := l } := by
  unfold State.closeWindow
  simp only [he]
  rw [State.mapTdc_eq_withTdc]
  change ∃ g l, ((s.withTdc ch (s.tdc[ch].closed k close)).windowAccepted ch k e.2.1 e.2.2).pulseOffset ch k e.2.1 = _
  obtain ⟨g, l, h⟩ := (s.withTdc ch (s.tdc[ch].closed k close)).windowAccepted_eq ch (k := k) (t := e.2.1) (stale := e.2.2)
    (by rw [State.withTdc_at]; exact hf) (by rw [State.withTdc_at]; exact hg)
  rw [State.withTdc_at, State.withTdc_withTdc] at h
  refine ⟨g, l, ?_⟩
  exact (congrArg (fun t => State.pulseOffset t ch k e.2.1) h).trans (State.pulseOffset_none _ ch hs)

/-! ### Gates and intervals -/

theorem State.gateResult_few (g : Gate) (e : Int) (cut limit : Bool) (h : g.n < 3) : (s.gateResult ch g e cut limit).valid? = none := by
  have fit : g.fit = none := by simp [Gate.fit, h]
  simp only [State.gateResult, fit, Result.valid?]

/-- Stamps that a gate takes up leave its start, and whether it waits. -/
theorem Gate.foldl_add (g : Gate) (l : List (Int × Int × Bool)) :
    (l.foldl (fun g x => g.add x.1 x.2.1 x.2.2) g).start = g.start ∧ (l.foldl (fun g x => g.add x.1 x.2.1 x.2.2) g).waiting = g.waiting := by
  induction l generalizing g with
  | nil => exact ⟨rfl, rfl⟩
  | cons x xs ih => exact ih _

/-- The end of a gate with another that opens at once: its results join the channel's. -/
theorem State.endGate_open (r : List Result) (g : Gate) (from_ : Int) (hw : g.waiting = false) :
    ∃ (g' : Gate) (l : List (Int × Int × Bool)) (m : List Int), s.endGate ch r g from_ = s.withTdc ch
      { s.tdc[ch] with results := s.tdc[ch].results ++ r, gate := g', later := l, stepsAt := m } ∧
      g'.start = g.start ∧ g'.waiting = false := by
  rw [State.endGate, State.mapTdc_eq_withTdc, hw]
  simp only [Bool.false_eq_true, if_false]
  exact ⟨_, _, _, rfl, (g.foldl_add _).1, (g.foldl_add _).2.trans hw⟩

/-- A result on a channel that no slot, no flywheel and no pin's verification follows. -/
theorem State.gateDelivered_none (r : Result) (hb : isFeedback ch = false) (hf : s.flywheelOn ch = none)
    (hs : s.slotsWith (fun x => x.clockChannel ch.val || (x.pulseChannel ch.val && x.kind != 2)) = []) : s.gateDelivered ch r = s := by
  cases hv : r.valid? with
  | none => simp only [State.gateDelivered, hv, hf, hb, Bool.false_and, Bool.false_eq_true, if_false]
  | some v => simp only [State.gateDelivered, hv, hs, State.each, List.foldl_nil, hf, hb, Bool.false_and, Bool.false_eq_true, if_false]

/-- A gate of FREQUENCY mode whose boundary has passed. -/
theorem execGateEnd_due (hm : s.tdc[ch].cfg.nat Ix.tdcMode = 3) (hd : s.gateEndRaw ch < s.stampedTo ch) :
    exec (.gateEnd ch) s = .next (if s.tdc[ch].gate.waiting then s.endGate ch [] (s.openGate (s.gateEndRaw ch)) (s.gateEndRaw ch)
      else (s.endGate ch [s.gateResult ch s.tdc[ch].gate (s.gateEndRaw ch) false false] (s.openGate (s.gateEndRaw ch)) (s.gateEndRaw ch)).gateDelivered
        ch (s.gateResult ch s.tdc[ch].gate (s.gateEndRaw ch) false false)) := by
  change execGateEnd ch s = _
  have gated : s.tdc[ch].gated = true := by simp only [TdcChan.gated, hm]; rfl
  unfold execGateEnd
  simp only [gated, Int.not_le.mpr hd, hm]
  rw [if_neg (by simp)]
  exact (apply_ite Host.Outcome.next _ _ _).symm

/-- The channel after its interval that started at `st` has ended without a stop. -/
def TdcChan.aborted (x : TdcChan) (st : Stamp) (coarse : Nat) (overflow : Bool) : TdcChan :=
  { x with
    armed := none,
    results := x.results ++ [.interval st coarse 0 0 (x.cfg.nat Ix.tdcPartner) true overflow (x.cfg.nat Ix.tdcEdge == 1) x.armedStale x.armedLate] }

theorem State.intervalAbort_armed {st : Stamp} (h : s.tdc[ch].armed = some st) (coarse : Nat) (overflow : Bool) :
    s.intervalAbort ch coarse overflow = s.withTdc ch (s.tdc[ch].aborted st coarse overflow) := by
  simp only [State.intervalAbort, h, State.mapTdc_eq_withTdc, TdcChan.aborted]

theorem execIntervalTimeout_armed {st : Stamp} (h : s.tdc[ch].armed = some st) :
    exec (.intervalTimeout ch) s = .next (if s.lapsed (st.cyc + 0xFFFFFFFF) then
      (s.intervalAbort ch 0xFFFFFFFF true).raise Flt.intervalOverflow ch.val else s) := by
  change execIntervalTimeout ch s = _
  simp only [execIntervalTimeout, h]
  cases s.lapsed (st.cyc + 0xFFFFFFFF) <;> rfl

theorem execWindowClose_due {k close : Int} (hm : s.tdc[ch].cfg.nat Ix.tdcMode = 1) (hb : isFeedback ch = false)
    (hc : s.closingWindow ch = some (k, close)) : exec (.windowClose ch) s = .next (s.closeWindow ch k close) := by
  change execWindowClose ch s = _
  simp only [execWindowClose, hm, hb, hc]
  rfl

/-- Settles O14. Every clause is one change of one channel, written out by the equations above. -/
theorem edgesWindowsAndGatesOfChannels : Obligations.EdgesWindowsAndGatesOfChannels := by
  unfold Obligations.EdgesWindowsAndGatesOfChannels
  refine ⟨⟨fun s ch r f => execTdcEdge_passes s ch r f, fun s ch r f hl hd hp => ?_, fun s ch t r f hl hd hp ht => ?_,
      fun s ch t fall hp ht => ?_, fun s ch t fall => s.acceptEdge_ignored ch t fall⟩,
    fun s ch k close hm hb hc hs => ⟨fun he => ?_, fun e he hf hg => ?_⟩, fun s ch hm hd hq => ?_, fun s ch hd hm hw => ?_,
    fun s ch g e cut limit => s.gateResult_few ch g e cut limit, fun s ch st ha hl => ?_, fun s ch st ha hl => ?_⟩
  · rw [execTdcEdge_deglitch s ch r f hl hd (s.acceptHeld_none ch hp), hp]
    rfl
  · rw [execTdcEdge_deglitch s ch r f hl hd (s.acceptHeld_early ch hp ht), hp]
    exact ⟨s.glitched ch, congrArg Host.Outcome.next (if_pos rfl), s.glitched_out ch⟩
  · exact congrArg _ (s.acceptHeld_due ch hp ht)
  · refine ⟨_, (execWindowClose_due s ch hm hb hc).trans (congrArg _ (s.closeWindow_empty ch hs he)), s.withTdc_at ch _, s.withTdc_only ch _⟩
  · obtain ⟨g, l, h⟩ := s.closeWindow_single ch (close := close) hs he hf hg
    have at_ := s.withTdc_at ch
    refine ⟨_, (execWindowClose_due s ch hm hb hc).trans (congrArg _ h), ?_, ?_, ?_, ?_, ?_, s.withTdc_only ch _⟩ <;> rw [s.withTdc_at] <;> rfl
  · rw [execGateEnd_due s ch hm hd]
    obtain ⟨g, l, m, h, hstart, hwait⟩ := s.endGate_open ch
      (if s.tdc[ch].gate.waiting then [] else [s.gateResult ch s.tdc[ch].gate (s.gateEndRaw ch) false false])
      (s.openGate (s.gateEndRaw ch)) (s.gateEndRaw ch) rfl
    refine ⟨_, rfl, ?_⟩
    have same : (if s.tdc[ch].gate.waiting then s.endGate ch [] (s.openGate (s.gateEndRaw ch)) (s.gateEndRaw ch)
      else (s.endGate ch [s.gateResult ch s.tdc[ch].gate (s.gateEndRaw ch) false false] (s.openGate (s.gateEndRaw ch)) (s.gateEndRaw ch)).gateDelivered
        ch (s.gateResult ch s.tdc[ch].gate (s.gateEndRaw ch) false false)) = s.withTdc ch
      { s.tdc[ch] with results := s.tdc[ch].results ++ (if s.tdc[ch].gate.waiting then [] else
          [s.gateResult ch s.tdc[ch].gate (s.gateEndRaw ch) false false]), gate := g, later := l, stepsAt := m } := by
      rw [← h]
      split
      · rfl
      · next hw =>
        obtain ⟨hb, hf, hs⟩ := hq.resolve_left hw
        exact State.gateDelivered_none _ ch _ hb hf hs
    rw [same, s.withTdc_at]
    exact ⟨rfl, hstart, hwait, s.withTdc_only ch _⟩
  · rw [execGateEnd_due s ch hm hd, if_neg (by rw [hw]; decide)]
    exact ⟨_, rfl, rfl⟩
  · rw [execIntervalTimeout_armed s ch ha, if_pos (show s.lapsed _ = true from decide_eq_true hl), s.intervalAbort_armed ch ha]
    obtain ⟨c, hc⟩ := (s.withTdc ch (s.tdc[ch].aborted st 0xFFFFFFFF true)).raise_only Flt.intervalOverflow ch.val
    have at_ := s.withTdc_at ch (s.tdc[ch].aborted st 0xFFFFFFFF true)
    have harmed := congrArg TdcChan.armed at_
    have hresults := congrArg TdcChan.results at_
    exact ⟨_, congrArg _ hc, harmed, hresults, (s.withTdc_only ch _).1, rfl⟩
  · rw [execIntervalTimeout_armed s ch ha, if_neg (by simpa [State.lapsed] using hl)]

end Sys2Proof.Machine

/-! PROOFS of family 'other', delay lines: O15. -/

namespace Sys2Proof.Machine

variable (s : State) (ch : Fin 88)

/-- Staleness follows the active table's age; the collector hears of it. -/
theorem State.followCal_out : ∃ c : Collector,
    s.followCal ch = { s.withTdc ch { s.tdc[ch] with stale := s.calOld ch } with flt := c } := by
  rw [State.followCal, State.mapTdc_eq_withTdc]
  extract_lets _ s1
  split
  · exact ⟨_, (Within.start.condition : Within _ s1 (s1.condition Flt.tdcUncal ch.val)).eq⟩
  · exact ⟨_, (Within.start.causeEnds : Within _ s1 (s1.causeEnds Flt.tdcUncal ch.val)).eq⟩

theorem calAccepted_iff (c : CalResult) : calAccepted c = true ↔ c.widestBin ≤ 8 ∧ c.anchorErr ≤ 2 := by
  simp [calAccepted]

/-- A table joins its own line of the channel. -/
theorem TdcChan.accept_lines (x : TdcChan) (sigma at_ : Nat) :
    ((x.accept false sigma at_).sigmaA = some sigma ∧ (x.accept false sigma at_).ageA = at_ ∧ (x.accept false sigma at_).sigmaB = x.sigmaB) ∧
    ((x.accept true sigma at_).sigmaB = some sigma ∧ (x.accept true sigma at_).ageB = at_ ∧ (x.accept true sigma at_).sigmaA = x.sigmaA) :=
  ⟨⟨rfl, rfl, rfl⟩, rfl, rfl, rfl⟩

/-- A slew: an on-die sensor has moved by more than one degree. -/
theorem State.slewing_iff : s.slewing = true ↔ ∃ v, s.sys.onDiePrev = some v ∧ ∃ i : Fin 4, 2 ^ 24 < (s.sys.onDie[i] - v[i]).natAbs := by
  unfold State.slewing oneDegree
  cases h : s.sys.onDiePrev with
  | none => simp
  | some v =>
    simp only [List.any_eq_true, List.mem_finRange, true_and, decide_eq_true_eq, Option.some.injEq, exists_eq_left']
    exact exists_congr fun i => by omega

/-- Settles O15: a table's test and what it replaces, the swap's period, and the sensors against the second before. -/
theorem delayLinesTakeGoodTablesAndSwap : Obligations.DelayLinesTakeGoodTablesAndSwap := by
  unfold Obligations.DelayLinesTakeGoodTablesAndSwap
  refine ⟨fun s ch lineB c hw ha => ?_, fun s ch lineB c h => ?_, fun s ch h => ?_, fun s ch => ?_, fun s h => ?_, fun s => s.slewing_iff⟩
  · refine ⟨s.withTdc ch (s.tdc[ch].accept lineB c.sigma s.sys.cyc), ?_, ?_, ?_, s.withTdc_only ch _⟩
    · change execTdcCalComplete ch lineB c s = _
      rw [execTdcCalComplete, if_pos ((calAccepted_iff c).mpr ⟨hw, ha⟩), State.mapTdc_eq_withTdc]
    · rintro rfl; rw [State.withTdc_at]; exact (TdcChan.accept_lines ..).1
    · rintro rfl; rw [State.withTdc_at]; exact (TdcChan.accept_lines ..).2
  · change execTdcCalComplete ch lineB c s = _
    rw [execTdcCalComplete, if_neg (by rw [calAccepted_iff]; omega)]
    cases lineB <;> rfl
  · obtain ⟨c, hc⟩ := (s.withTdc ch { s.tdc[ch] with lineB := s.tdc[ch].newerLine, swapDue := s.tdc[ch].swapDue + 625000000 }).followCal_out ch
    have he : exec (.delayLineSwap ch) s = .next (State.followCal (s.withTdc ch
        { s.tdc[ch] with lineB := s.tdc[ch].newerLine, swapDue := s.tdc[ch].swapDue + 625000000 }) ch) := by
      change execDelayLineSwap ch s = _
      rw [execDelayLineSwap, if_neg (by omega), State.mapTdc_eq_withTdc]
      rfl
    rw [he, hc, State.withTdc_withTdc, State.withTdc_at]
    have at_ := s.withTdc_at ch
    exact ⟨_, rfl, congrArg TdcChan.lineB (at_ _), congrArg TdcChan.swapDue (at_ _), (s.withTdc_only ch _).1, rfl⟩
  · obtain ⟨c, hc⟩ := s.followCal_out ch
    have at_ := s.withTdc_at ch { s.tdc[ch] with stale := s.calOld ch }
    have hstale := congrArg TdcChan.stale at_
    exact ⟨_, congrArg Host.Outcome.next hc, hstale, (s.withTdc_only ch _).1, rfl⟩
  · change execTempSlewCheck s = _
    rw [execTempSlewCheck, if_neg (by omega)]

end Sys2Proof.Machine

/-! PROOFS of family 'other', what an evaluation of the selection and alarms leave of slots. -/

namespace Sys2Proof.Machine

variable (s : State)

/-! ### What an evaluation of the selection leaves alone -/

/-- One Weathervane is another but for its slots, its selection and its switch. -/
def SameRest (w v : Weathervane) : Prop :=
  v = { w with slots := v.slots, selected := v.selected, switch := v.switch, aid := v.aid, betterSince := v.betterSince }

theorem SameRest.trans {w v x : Weathervane} (h : SameRest w v) (g : SameRest v x) : SameRest w x :=
  Eq.trans g (by rw [show v = _ from h])

theorem SameRest.ptp {w v : Weathervane} (h : SameRest w v) : v.ptp = w.ptp := by rw [show v = _ from h]

theorem SameRest.disputeDue {w v : Weathervane} (h : SameRest w v) : v.disputeDue = w.disputeDue := by rw [show v = _ from h]

theorem SameRest.esmcLast {w v : Weathervane} (h : SameRest w v) : v.esmcLast = w.esmcLast := by rw [show v = _ from h]

/-- One state has the slots of another but for their blocked steps, its channels but for the widths of their windows, and the rest of Weathervane but for
its selection. -/
structure KeepsSlots (s t : State) : Prop where
  slot : ∀ i : Fin 16, ∃ b, t.wv.slots[i] = { s.wv.slots[i] with stepBlocked := b }
  chan : ∀ c : Fin 88, ∃ w, t.tdc[c] = { s.tdc[c] with widths := w }
  rest : SameRest s.wv t.wv

theorem KeepsSlots.of_eq {s t : State} (hs : t.wv.slots = s.wv.slots) (hc : t.tdc = s.tdc) (hr : SameRest s.wv t.wv) : KeepsSlots s t :=
  ⟨fun i => ⟨s.wv.slots[i].stepBlocked, by rw [hs]⟩, fun c => ⟨s.tdc[c].widths, by rw [hc]⟩, hr⟩

theorem KeepsSlots.refl : KeepsSlots s s := .of_eq rfl rfl rfl

theorem KeepsSlots.trans {s t u : State} (h : KeepsSlots s t) (g : KeepsSlots t u) : KeepsSlots s u where
  slot i := by
    obtain ⟨a, ha⟩ := h.slot i
    obtain ⟨b, hb⟩ := g.slot i
    exact ⟨b, by rw [hb, ha]⟩
  chan c := by
    obtain ⟨a, ha⟩ := h.chan c
    obtain ⟨b, hb⟩ := g.chan c
    exact ⟨b, by rw [hb, ha]⟩
  rest := h.rest.trans g.rest

/-- A walk outside Weathervane and the channels keeps slots. -/
theorem KeepsSlots.of_within {m : Nat} {s t : State} (w : Within m s t) (hs : holds m .slots = false) (hw : holds m .wv = false)
    (hc : holds m .tdc = false) : KeepsSlots s t := by
  have e := w.wv_eq hs hw
  exact .of_eq (by rw [e]) (w .tdc hc) (by rw [e]; rfl)

/-- What is kept of a slot beside its blocked step. -/
theorem KeepsSlots.get {s t : State} (h : KeepsSlots s t) (i : Fin 16) {β : Type} (f : Slot → β) (hf : ∀ x b, f { x with stepBlocked := b } = f x) :
    f t.wv.slots[i] = f s.wv.slots[i] := by
  obtain ⟨b, hb⟩ := h.slot i
  rw [hb, hf]

theorem State.renewWidth_kept (c : Fin 88) : KeepsSlots s (s.renewWidth c) := by
  refine ⟨fun i => ⟨_, rfl⟩, fun d => ?_, rfl⟩
  obtain rfl | hd := eq_or_ne d c
  · exact ⟨_, s.mapTdc_at d _⟩
  · exact ⟨s.tdc[d].widths, s.mapTdc_others c _ d hd⟩

theorem KeepsSlots.each {α : Type} (l : List α) (f : State → α → State) (h : ∀ t a, KeepsSlots t (f t a)) : ∀ s, KeepsSlots s (s.each l f) := by
  induction l with
  | nil => exact KeepsSlots.refl
  | cons a l ih => exact fun s => (h s a).trans (ih (f s a))

theorem State.unblock_kept : KeepsSlots s s.unblock := by
  unfold State.unblock
  split
  · exact ⟨fun i => ⟨false, by simp⟩, fun c => ⟨s.tdc[c].widths, rfl⟩, rfl⟩
  · exact .refl s

theorem State.recompute_kept : KeepsSlots s s.recompute := by
  have renewed : KeepsSlots s s.renewBounds := by
    unfold State.renewBounds
    extract_lets old s1 _ s2 s3 s4 s5
    have h1 : Within (partsOf [.bound, .fc]) s s1 :=
      ((Within.start.set (partsOf [.fc]) : Within _ s s.renewWeights).followComponents.computeBounds).mono (by decide)
    clear_value s1
    have h2 : Within (partsOf [.bound, .fc]) s s2 := (h1.set (partsOf [.bound])).mono (by decide)
    have h4 : Within (partsOf [.bound, .fc, .emits, .hosts, .flt, .svc]) s (s4.each (List.finRange 16) State.stepClass) :=
      ((h2.hwEventAll.followUnknown.each fun _ _ => Within.start.checkThreshold).each fun _ _ => Within.start.stepClass).mono (by decide)
    have h5 : KeepsSlots s s5 := ((KeepsSlots.of_within h4 (by decide) (by decide) (by decide)).trans
      (KeepsSlots.each _ _ (fun t c => t.renewWidth_kept c) _)).trans (State.unblock_kept _)
    clear_value s5
    exact h5.trans (.of_eq rfl rfl rfl)
  exact renewed.trans (KeepsSlots.each _ _ (fun t o => .of_within (Within.start.startWalk : Within _ t (t.startWalk o))
    (by decide) (by decide) (by decide)) _)

theorem State.enterHoldover_kept (measured : Bool) : KeepsSlots s (s.enterHoldover measured) := by
  unfold State.enterHoldover
  extract_lets _ s1 s2
  have h2 : Within (partsOf [.loop, .flt, .fc]) s s2 := ((Within.start.set (partsOf [.loop])).slewFlag.startHolding).mono (by decide)
  refine ((KeepsSlots.of_within h2 (by decide) (by decide) (by decide)).trans (State.recompute_kept _)).trans ?_
  exact .of_within (Within.start.followPhase : Within _ s2.recompute s2.recompute.followPhase) (by decide) (by decide) (by decide)

theorem State.nameAid_kept : KeepsSlots s s.nameAid := by
  unfold State.nameAid
  extract_lets a
  split
  · exact .refl s
  · have h : Within _ s s.dropAid := Within.start.dropAid
    have e := h.wv_eq (by decide) (by decide)
    have hs : s.dropAid.wv.slots = s.wv.slots := congrArg Weathervane.slots e
    have hr : SameRest s.wv { s.dropAid.wv with aid := a } := by rw [e]; rfl
    exact .of_eq hs (h .tdc (by decide)) hr

theorem State.startHolding_kept (loss : Nat) (measured : Bool) : KeepsSlots s (s.startHolding loss measured) :=
  .of_within (Within.start.startHolding : Within _ s (s.startHolding loss measured)) (by decide) (by decide) (by decide)

theorem State.letGo_kept : KeepsSlots s s.letGo := by
  unfold State.letGo
  split
  · exact .refl s
  · split
    · exact .refl s
    · extract_lets _ s1
      have h1 : KeepsSlots s s1 := .of_eq rfl rfl rfl
      split
      · exact h1.trans (s1.startHolding_kept ..)
      · exact h1

theorem State.startSwitch_kept (i : Fin 16) : KeepsSlots s (s.startSwitch i) := by
  unfold State.startSwitch
  extract_lets lost _ _ s1
  have h1 : KeepsSlots s s1 := .of_eq rfl rfl rfl
  split
  · exact h1.trans (s1.startHolding_kept ..)
  · exact h1

/-- An evaluation changes no slot but for its blocked step. -/
theorem State.evaluate_kept : KeepsSlots s s.evaluate := by
  unfold State.evaluate
  split
  · exact .refl s
  · extract_lets s1 w _ s2
    have h1 : KeepsSlots s s1 := s.nameAid_kept.trans (State.letGo_kept _)
    have h2 : KeepsSlots s s2 := h1.trans (.of_eq rfl rfl rfl)
    clear_value s1
    split
    · exact h1
    · split
      · split
        · exact h2
        · exact h2.trans (s2.startSwitch_kept _)
      · split
        · have hc : KeepsSlots s2 (s2.condition Flt.noReference 0) :=
            .of_within (Within.start.condition : Within _ s2 (s2.condition Flt.noReference 0)) (by decide) (by decide) (by decide)
          exact (h2.trans hc).trans (State.enterHoldover_kept _ _)
        · exact h2

theorem State.evaluate_beforeInit (h : s.afterInit = false) : s.evaluate = s := by simp only [State.evaluate, h, Bool.not_false, if_true]

/-! ### Alarms on several slots -/

/-- Whether a slot is out of the running. -/
def Slot.isOut (x : Slot) : Prop := x.state = .disqualified ∨ x.state = .lockedOut

/-- What an alarm leaves of a slot: its inputs, its history of offsets and what the conditions of R135 say of it. -/
def Slot.SameInputs (x y : Slot) : Prop :=
  y = { x with state := y.state, cause := y.cause, forced := y.forced, stepBlocked := y.stepBlocked, flaps := y.flaps,
               timerStart := y.timerStart, wtrDone := y.wtrDone }

variable (i : Fin 16)

/-- The slot that an alarm is for is out, with its inputs as they were; the other slots stay. -/
theorem State.alarm_slot (c : Nat) : (s.alarm i c).wv.slots[i].isOut ∧ s.wv.slots[i].SameInputs (s.alarm i c).wv.slots[i] ∧
    ∀ j, j ≠ i → (s.alarm i c).wv.slots[j] = s.wv.slots[j] := by
  by_cases h : s.wv.slots[i].state = .disqualified ∨ s.wv.slots[i].state = .lockedOut
  · rw [s.alarm_out i c h]
    exact ⟨h, rfl, fun _ _ => rfl⟩
  · obtain ⟨hd, hl⟩ := not_or.mp h
    rw [(s.alarm_wv i c hd hl).1]
    refine ⟨?_, ?_, fun j hj => upd_other _ _ _ _ hj.symm⟩
    · rw [upd_same]; split
      · exact .inr rfl
      · exact .inl rfl
    · rw [upd_same]; split <;> rfl

theorem State.dropSlot_rest : SameRest s.wv (s.dropSlot i).wv := by
  unfold State.dropSlot
  extract_lets s1
  split
  · split <;> rfl
  · rfl

theorem State.setSlot_rest (new : SlotState) (c : Nat) : SameRest s.wv (s.setSlot i new c).wv := by
  rw [State.setSlot_wv]
  rfl

theorem State.lockOut_rest (c : Nat) : SameRest s.wv (s.lockOut i c).wv := by
  rw [State.lockOut, State.condition_wv]
  exact (s.dropSlot_rest i).trans (State.setSlot_rest ..)

theorem State.alarm_rest (c : Nat) : SameRest s.wv (s.alarm i c).wv := by
  let s1 := (((s.dropSlot i).setSlot i .disqualified c).mapSlot i fun y => { y with flaps := s.sys.cyc :: s.flapsOf s.wv.slots[i] }).raise
    Flt.refDisqualified (i.val + c * 16)
  have h1 : SameRest s.wv s1.wv := by
    simp only [s1, State.raise_wv]
    exact ((s.dropSlot_rest i).trans (State.setSlot_rest ..)).trans rfl
  by_cases out : s.wv.slots[i].state = .disqualified ∨ s.wv.slots[i].state = .lockedOut
  · rw [s.alarm_out i c out]; rfl
  · have halarm : s.alarm i c = if s.flapsOut s.wv.slots[i] then s1.lockOut i 7 else s1 := by
      unfold State.alarm
      cases h : s.wv.slots[i].state with
      | disqualified => exact absurd (.inl h) out
      | lockedOut => exact absurd (.inr h) out
      | qualifying | qualified | disputed => simp only [h]; rfl
    rw [halarm]
    split
    · exact h1.trans (s1.lockOut_rest i 7)
    · exact h1

/-- A walk over a list without repetitions: what holds before its turn, and what its turn brings, for one of its elements. -/
theorem State.each_reaches {α : Type} {f : State → α → State} {a : α} {Q P : State → Prop} (before : ∀ t b, b ≠ a → Q t → Q (f t b))
    (turn : ∀ t, Q t → P (f t a)) (after : ∀ t b, b ≠ a → P t → P (f t b)) :
    ∀ {l : List α}, l.Nodup → a ∈ l → ∀ s, Q s → P (s.each l f) := by
  have keeps : ∀ (l : List α), a ∉ l → ∀ s, P s → P (s.each l f) := by
    intro l
    induction l with
    | nil => exact fun _ s h => h
    | cons b l ih =>
      exact fun hn s h => ih (fun hm => hn (List.mem_cons_of_mem _ hm)) _ (after s b (fun he => hn (he ▸ List.mem_cons_self)) h)
  intro l
  induction l with
  | nil => exact fun _ hm => absurd hm (by simp)
  | cons b l ih =>
    intro hn hm s hq
    obtain ⟨hb, hl⟩ := List.nodup_cons.mp hn
    obtain rfl | hm := List.mem_cons.mp hm
    · exact keeps l hb _ (turn s hq)
    · exact ih hl hm _ (before s b (fun he => hb (he ▸ hm)) hq)

theorem State.slotsWith_nodup (p : Slot → Bool) : (s.slotsWith p).Nodup := (List.nodup_finRange 16).filter _

/-- A loss of signal puts each of its slots out, its inputs staying. -/
theorem State.signalLost_slot {l : List (Fin 16)} (hl : l.Nodup) (hi : i ∈ l) :
    (s.signalLost l).wv.slots[i].isOut ∧ ∀ {β : Type} (f : Slot → β), (∀ x y : Slot, x.SameInputs y → f y = f x) →
      f (s.signalLost l).wv.slots[i] = f s.wv.slots[i] := by
  let u := s.each l fun t i => t.alarm i 1
  have hu : u.wv.slots[i].isOut ∧ s.wv.slots[i].SameInputs u.wv.slots[i] :=
    State.each_reaches (Q := fun t => t.wv.slots[i] = s.wv.slots[i]) (P := fun t => t.wv.slots[i].isOut ∧ s.wv.slots[i].SameInputs t.wv.slots[i])
      (fun t j hj h => ((t.alarm_slot j 1).2.2 i hj.symm).trans h)
      (fun t h => ⟨(t.alarm_slot i 1).1, h ▸ (t.alarm_slot i 1).2.1⟩)
      (fun t j hj h => by rw [(t.alarm_slot j 1).2.2 i hj.symm]; exact h) hl hi s rfl
  obtain ⟨b, hb⟩ := u.evaluate_kept.slot i
  change (u.evaluate.wv.slots[i]).isOut ∧ ∀ {β : Type} (f : Slot → β), _ → f u.evaluate.wv.slots[i] = _
  rw [hb]
  exact ⟨hu.1, fun f hf => hf _ _ (hu.2 ▸ rfl)⟩

end Sys2Proof.Machine

/-! PROOFS of family 'other', losses, timers and disputes of slots: O18. -/

namespace Sys2Proof.Machine
variable (s : State) (i : Fin 16)

/-! ### Losses of signal -/

theorem Within.wv_rest {m : Nat} {s t : State} (w : Within m s t) (h : holds m .wv = false) : SameRest s.wv t.wv := by
  obtain ⟨hcfg, hptp, -, hlast, -, -, hcount, hstep, -, hdue, hleap, hesmc⟩ := w .wv h
  rw [SameRest, ← hcfg, ← hptp, ← hlast, ← hcount, ← hstep, ← hdue, ← hleap, ← hesmc]

theorem State.signalLost_chan (l : List (Fin 16)) (c : Fin 88) : ∃ w, (s.signalLost l).tdc[c] = { s.tdc[c] with widths := w } := by
  have w : Within (partsOf [.emits, .slots, .wv, .hosts, .flt, .log]) s (s.each l fun t i => t.alarm i 1) :=
    (Within.start.each fun _ _ => Within.start.alarm).mono (by decide)
  have h := (State.evaluate_kept (s.each l fun t i => t.alarm i 1)).chan c
  rw [w .tdc (by decide)] at h
  exact h

theorem State.signalLost_rest (l : List (Fin 16)) : SameRest s.wv (s.signalLost l).wv := by
  have alarms : ∀ (l : List (Fin 16)) (s : State), SameRest s.wv (s.each l fun t i => t.alarm i 1).wv := by
    intro l
    induction l with
    | nil => exact fun _ => rfl
    | cons a l ih => exact fun s => (s.alarm_rest a 1).trans (ih _)
  exact (alarms l s).trans (State.evaluate_kept _).rest

@[simp] theorem State.mapSlot_at (f : Slot → Slot) : (s.mapSlot i f).wv.slots[i] = f s.wv.slots[i] := upd_same ..

theorem State.mapSlot_others (f : Slot → Slot) : ∀ j, j ≠ i → (s.mapSlot i f).wv.slots[j] = s.wv.slots[j] :=
  fun _ hj => upd_other _ _ _ _ hj.symm

/-- One change on several slots. -/
theorem State.each_mapSlot {l : List (Fin 16)} (hl : l.Nodup) (hi : i ∈ l) (f : Slot → Slot) :
    (s.each l fun t i => t.mapSlot i f).wv.slots[i] = f s.wv.slots[i] :=
  State.each_reaches (Q := fun t => t.wv.slots[i] = s.wv.slots[i]) (P := fun t => t.wv.slots[i] = f s.wv.slots[i])
    (fun t j hj h => (t.mapSlot_others j f i hj.symm).trans h) (fun t h => by rw [t.mapSlot_at, h])
    (fun t j hj h => (t.mapSlot_others j f i hj.symm).trans h) hl hi s rfl

/-- Slots that a change marks and that are put out. -/
theorem State.mark_signalLost {l : List (Fin 16)} (hl : l.Nodup) (hi : i ∈ l) (f : Slot → Slot) :
    ((s.each l fun t i => t.mapSlot i f).signalLost l).wv.slots[i].isOut ∧
    ∀ {β : Type} (g : Slot → β), (∀ x y : Slot, x.SameInputs y → g y = g x) →
      g ((s.each l fun t i => t.mapSlot i f).signalLost l).wv.slots[i] = g (f s.wv.slots[i]) := by
  obtain ⟨hout, hkeep⟩ := State.signalLost_slot (s.each l fun t i => t.mapSlot i f) i hl hi
  exact ⟨hout, fun g hg => (hkeep g hg).trans (congrArg g (s.each_mapSlot i hl hi f))⟩

theorem State.clockGone_slot {l : List (Fin 16)} (hl : l.Nodup) (hi : i ∈ l) : (s.clockGone l).wv.slots[i].clockLost = true ∧
    (s.clockGone l).wv.slots[i].clock = [] ∧ (s.clockGone l).wv.slots[i].isOut := by
  obtain ⟨hout, hkeep⟩ := s.mark_signalLost i hl hi fun x => { x with clockLost := true, clock := [] }
  exact ⟨hkeep Slot.clockLost fun x y h => by rw [show y = _ from h], hkeep Slot.clock fun x y h => by rw [show y = _ from h], hout⟩

theorem State.clockGone_monitor (l : List (Fin 16)) (k : Fin 88) : (s.clockGone l).tdc[k].monitor = s.tdc[k].monitor := by
  obtain ⟨w, hw⟩ := State.signalLost_chan (s.each l fun t i => t.mapSlot i fun x => { x with clockLost := true, clock := [] }) l k
  have h : Within (partsOf [.slots]) s (s.each l fun t i => t.mapSlot i fun x => { x with clockLost := true, clock := [] }) :=
    (Within.start.each fun _ _ => Within.start.mapSlot).mono (by decide)
  rw [State.clockGone, hw, h .tdc (by decide)]

/-- What an ESMC PDU with this SSM makes of one of its slots. -/
def State.esmcSlot (ssm : Fin 16) (i : Fin 16) : State :=
  if bitAt (s.wv.slots[i].cfg.nat (Ix.slotSource + 1)) ssm.val then s.mapSlot i fun x => { x with esmcLost := false, kindBad := false }
  else (s.mapSlot i fun x => { x with esmcLost := false, kindBad := true }).alarm i 4

/-- Whether the SSM is in the set of R127 of a slot. -/
def Slot.inSet (x : Slot) (ssm : Fin 16) : Bool := bitAt (x.cfg.nat (Ix.slotSource + 1)) ssm.val

/-- A slot `y` after a PDU with this SSM, which was `x`. -/
def Slot.AfterPdu (ssm : Fin 16) (x y : Slot) : Prop :=
  y.esmcLost = false ∧ (x.inSet ssm = true → y.kindBad = false ∧ y.state = x.state) ∧ (x.inSet ssm = false → y.kindBad = true ∧ y.isOut)

theorem State.esmcPdu_eq (p : Fin 8) (ssm : Fin 16) : s.esmcPdu p ssm =
    (({ s with wv.esmcLast := s.wv.esmcLast.set p s.sys.cyc } : State).each (s.synceSlots p) fun t i => t.esmcSlot ssm i).evaluate := by
  have same : ∀ (t : State) (i : Fin 16), t.esmcSlot ssm i = (let bad := !bitAt (t.wv.slots[i].cfg.nat (Ix.slotSource + 1)) ssm.val
      let u := t.mapSlot i fun x => { x with esmcLost := false, kindBad := bad }
      if bad then u.alarm i 4 else u) := fun t i => by
    unfold State.esmcSlot
    cases bitAt (t.wv.slots[i].cfg.nat (Ix.slotSource + 1)) ssm.val <;> rfl
  simp only [same]
  rfl

theorem State.esmcSlot_at (ssm : Fin 16) : s.wv.slots[i].AfterPdu ssm (s.esmcSlot ssm i).wv.slots[i] := by
  unfold State.esmcSlot
  split
  · next h =>
    rw [State.mapSlot_at]
    exact ⟨rfl, fun _ => ⟨rfl, rfl⟩, fun hn => absurd hn (by simpa [Slot.inSet] using h)⟩
  · next h =>
    obtain ⟨hout, hsame, -⟩ := (s.mapSlot i fun x => { x with esmcLost := false, kindBad := true }).alarm_slot i 4
    rw [State.mapSlot_at] at hsame
    refine ⟨?_, fun hy => absurd hy h, fun _ => ⟨?_, hout⟩⟩ <;> rw [show _ = _ from hsame]

theorem State.esmcSlot_others (ssm : Fin 16) : ∀ j, j ≠ i → (s.esmcSlot ssm i).wv.slots[j] = s.wv.slots[j] := by
  intro j hj
  unfold State.esmcSlot
  split
  · exact s.mapSlot_others i _ j hj
  · exact ((State.alarm_slot _ i 4).2.2 j hj).trans (s.mapSlot_others i _ j hj)

/-- An ESMC PDU on a port's slot: in its set, the slot stays; otherwise it is put out. -/
theorem State.esmcPdu_slot (p : Fin 8) (ssm : Fin 16) (hi : i ∈ s.synceSlots p) :
    s.wv.slots[i].AfterPdu ssm (s.esmcPdu p ssm).wv.slots[i] := by
  have walked := State.each_reaches (f := fun t i => State.esmcSlot t ssm i) (a := i)
    (Q := fun t => t.wv.slots[i] = s.wv.slots[i]) (P := fun t => s.wv.slots[i].AfterPdu ssm t.wv.slots[i])
    (fun t j hj h => (t.esmcSlot_others j ssm i hj.symm).trans h) (fun t h => h ▸ t.esmcSlot_at i ssm)
    (fun t j hj h => by rw [t.esmcSlot_others j ssm i hj.symm]; exact h) (s.slotsWith_nodup _) hi
    { s with wv.esmcLast := s.wv.esmcLast.set p s.sys.cyc } rfl
  rw [State.esmcPdu_eq]
  obtain ⟨b, hb⟩ := (State.evaluate_kept _).slot i
  rw [hb]
  exact walked

theorem State.esmcPdu_last (p : Fin 8) (ssm : Fin 16) : (s.esmcPdu p ssm).wv.esmcLast[p] = s.sys.cyc := by
  have walked : ∀ (l : List (Fin 16)) (s : State), SameRest s.wv (s.each l fun t i => t.esmcSlot ssm i).wv := by
    intro l
    induction l with
    | nil => exact fun _ => rfl
    | cons a l ih =>
      intro s
      refine SameRest.trans ?_ (ih (s.esmcSlot ssm a))
      unfold State.esmcSlot
      split
      · rfl
      · exact SameRest.trans (v := (s.mapSlot a _).wv) rfl (State.alarm_rest _ a 4)
  have h : ((s.esmcPdu p ssm)).wv.esmcLast = s.wv.esmcLast.set p s.sys.cyc := by
    rw [State.esmcPdu_eq]
    exact ((walked _ _).trans (State.evaluate_kept _).rest).esmcLast
  simp [h]

/-! ### Timers -/

@[simp] theorem State.setSlot_at (new : SlotState) (c : Nat) : (s.setSlot i new c).wv.slots[i] = s.wv.slots[i].moved new c := by
  rw [State.setSlot_wv, State.mapSlot_at]

theorem State.setSlot_others (new : SlotState) (c : Nat) : ∀ j, j ≠ i → (s.setSlot i new c).wv.slots[j] = s.wv.slots[j] := by
  rw [State.setSlot_wv]
  exact s.mapSlot_others i _

/-- A QUALIFYING slot whose WTR is over, qualified. -/
def State.qualified : State := (s.mapSlot i fun y => { y with timerStart := none }).setSlot i .qualified s.wv.slots[i].cause

/-- A QUALIFYING slot whose WTR is over, disputed. -/
def State.phaseDisputed : State :=
  ((s.mapSlot i fun y => { y with timerStart := some s.sys.cyc, freqDispute := false }).setSlot i .disputed s.wv.slots[i].cause).raise Flt.refDisputed i.val

theorem State.tryQualify_eq (hs : s.wv.slots[i].state = .qualifying) (hw : s.wv.slots[i].wtrDone = true) : s.tryQualify i =
    if freqKind s.wv.slots[i].kind then s.qualified i else if s.wv.slots[i].var.isNone then s
    else if s.phaseCheck i then s.qualified i else s.phaseDisputed i := by
  unfold State.tryQualify
  rw [if_neg (by rw [hs, hw]; decide)]
  rfl

theorem State.qualified_slot : (s.qualified i).wv.slots[i].state = .qualified ∧ (s.qualified i).wv.slots[i].timerStart = none ∧
    (s.qualified i).wv.slots[i].wtrDone = s.wv.slots[i].wtrDone ∧ ∀ j, j ≠ i → (s.qualified i).wv.slots[j] = s.wv.slots[j] := by
  refine ⟨?_, ?_, ?_, fun j hj => (State.setSlot_others _ i _ _ j hj).trans (s.mapSlot_others i _ j hj)⟩ <;>
    rw [State.qualified, State.setSlot_at, State.mapSlot_at] <;> rfl

theorem State.phaseDisputed_slot : (s.phaseDisputed i).wv.slots[i].state = .disputed ∧
    (s.phaseDisputed i).wv.slots[i].wtrDone = s.wv.slots[i].wtrDone ∧ ∀ j, j ≠ i → (s.phaseDisputed i).wv.slots[j] = s.wv.slots[j] := by
  rw [State.phaseDisputed, State.raise_wv]
  refine ⟨?_, ?_, fun j hj => (State.setSlot_others _ i _ _ j hj).trans (s.mapSlot_others i _ j hj)⟩ <;>
    rw [State.setSlot_at, State.mapSlot_at] <;> rfl

/-- What the end of a slot's WTR, its timer stopped, makes of it. -/
theorem State.tryQualify_slot (hs : s.wv.slots[i].state = .qualifying) (hw : s.wv.slots[i].wtrDone = true) (ht : s.wv.slots[i].timerStart = none) :
    (freqKind s.wv.slots[i].kind = true → (s.tryQualify i).wv.slots[i].state = .qualified) ∧
    (s.wv.slots[i].var.isSome = true → s.phaseCheck i = true → (s.tryQualify i).wv.slots[i].state = .qualified) ∧
    (freqKind s.wv.slots[i].kind = false → s.wv.slots[i].var = none → (s.tryQualify i).wv.slots[i].state = .qualifying) ∧
    ((s.tryQualify i).wv.slots[i].state ≠ .disputed → (s.tryQualify i).wv.slots[i].timerStart = none) ∧
    (s.tryQualify i).wv.slots[i].wtrDone = true ∧ ∀ j, j ≠ i → (s.tryQualify i).wv.slots[j] = s.wv.slots[j] := by
  obtain ⟨hq, hqt, hqw, hqo⟩ := s.qualified_slot i
  obtain ⟨hd, hdw, hdo⟩ := s.phaseDisputed_slot i
  rw [s.tryQualify_eq i hs hw]
  split
  · next hf => exact ⟨fun _ => hq, fun _ _ => hq, fun h => (Bool.false_ne_true (h ▸ hf)).elim, fun _ => hqt, hqw.trans hw, hqo⟩
  · next hf =>
    split
    · next hv =>
      refine ⟨fun h => absurd h hf, fun h => ?_, fun _ _ => hs, fun _ => ht, hw, fun _ _ => rfl⟩
      rw [Option.isNone_iff_eq_none.mp hv] at h
      exact absurd h (by decide)
    · next hv =>
      split
      · exact ⟨fun h => absurd h hf, fun _ _ => hq, fun _ h => absurd (Option.isNone_iff_eq_none.mpr h) hv, fun _ => hqt, hqw.trans hw, hqo⟩
      · next hp => exact ⟨fun h => absurd h hf, fun _ h => absurd h hp, fun _ h => absurd (Option.isNone_iff_eq_none.mpr h) hv,
          fun h => absurd hd h, hdw.trans hw, hdo⟩

theorem freqKind_of_timeKind {k : Nat} (h : timeKind k = true) : freqKind k = false := by
  simp only [timeKind, freqKind, Bool.or_eq_true, beq_iff_eq, Bool.or_eq_false_iff, beq_eq_false_iff_ne] at *
  omega

/-! ### The selection -/

/-- A selected slot is selectable. -/
def State.SelectsSelectable : Prop := ∀ j, s.wv.selected = some j → s.wv.slots[j].selectable = true

theorem State.SelectsSelectable.of_within {m : Nat} {s t : State} (h : s.SelectsSelectable) (w : Within m s t)
    (hs : holds m .slots = false) (hw : holds m .wv = false) : t.SelectsSelectable := by
  have e := w.wv_eq hs hw
  rw [State.SelectsSelectable, e]
  exact h

theorem State.letGo_selects : s.letGo.SelectsSelectable := by
  unfold State.letGo
  split
  · next h => exact fun j hj => by rw [h] at hj; cases hj
  · next j h =>
    split
    · next hj => exact fun k hk => by rw [h] at hk; cases hk; exact hj
    · extract_lets _ s1
      have h1 : s1.SelectsSelectable := fun _ hj => by cases hj
      split
      · exact h1.of_within (Within.start.startHolding : Within _ s1 (s1.startHolding s.sys.cyc true)) (by decide) (by decide)
      · exact h1

theorem State.evaluate_selects (hi : s.afterInit = true) : s.evaluate.SelectsSelectable := by
  unfold State.evaluate
  rw [if_neg (by simp [hi])]
  extract_lets s1 w _ s2
  have h1 : s1.SelectsSelectable := State.letGo_selects _
  have h2 : s2.SelectsSelectable := h1
  clear_value s1
  split
  · exact h1
  · split
    · next j _ =>
      split
      · exact h2
      · unfold State.startSwitch
        extract_lets lost _ _ s3
        have h3 : s3.SelectsSelectable := h2
        split
        · exact h3.of_within (Within.start.startHolding : Within _ s3 (s3.startHolding s2.sys.cyc true)) (by decide) (by decide)
        · exact h3
    · split
      · next hn =>
        have w : Within (partsOf [.freeCtr, .emits, .engine, .mram, .bound, .tdc, .slots, .loop, .fc, .os, .outs, .svc, .hosts, .handled, .flt, .log])
          s2 ((s2.condition Flt.noReference 0).enterHoldover true) := Within.start.condition.enterHoldover.mono (by decide)
        obtain ⟨-, -, hsel, -⟩ := w .wv (by decide)
        have none : s2.wv.selected = none := Option.isNone_iff_eq_none.mp (Bool.and_eq_true_iff.mp hn).1
        exact fun j hj => by rw [hsel, none] at hj; cases hj
      · exact h2

/-! ### Disputes -/

/-- Fewer than two slots of a rank have no dispute. -/
theorem State.disputeRank_few (r : Nat)
    (h : (s.slotsWith fun x => x.state == .qualified && !x.forced && x.cfg.nat Ix.slotRank == r).length < 2) : s.disputeRank r = s := by
  have self : ∀ i j : Fin 16, s.disagrees i j = true → i ≠ j := by
    rintro i j hd rfl
    simp [State.disagrees] at hd
  let group := s.slotsWith fun x => x.cfg.flag Ix.slotEnable && x.state == .qualified && !x.forced && x.cfg.nat Ix.slotRank == r && x.freqSeen
  have inRank : ∀ i ∈ group, i ∈ s.slotsWith fun x => x.state == .qualified && !x.forced && x.cfg.nat Ix.slotRank == r := by
    intro i hi
    simp only [group, State.slotsWith, List.mem_filter, Bool.and_eq_true] at hi ⊢
    obtain ⟨hm, ⟨⟨⟨-, hq⟩, hf⟩, hr⟩, -⟩ := hi
    exact ⟨hm, ⟨hq, hf⟩, hr⟩
  have alone : (group.filter fun i => group.any fun j => s.disagrees i j) = [] := by
    rw [List.filter_eq_nil_iff]
    intro i hi hany
    obtain ⟨j, hj, hd⟩ := List.any_eq_true.mp hany
    have two : [i, j] ⊆ s.slotsWith fun x => x.state == .qualified && !x.forced && x.cfg.nat Ix.slotRank == r := by
      simpa using ⟨inRank i hi, inRank j hj⟩
    have nodup : [i, j].Nodup := by simpa using self i j hd
    exact absurd (nodup.subperm two).length_le (by simpa using h)
  unfold State.disputeRank
  exact if_pos (by rw [alone]; rfl)

/-- The disputes of a second leave Weathervane's instants alone. -/
theorem State.disputes_rest : SameRest s.wv ((s.each (List.range 16) State.disputeRank).each (List.finRange 16) State.disputeReturn).evaluate.wv :=
  ((((Within.start.each fun _ _ => Within.start.disputeRank).each fun _ _ => Within.start.disputeReturn).mono (by decide) :
    Within (partsOf [.emits, .slots, .fc, .hosts, .flt, .log]) s _).wv_rest (by decide)).trans (State.evaluate_kept _).rest

theorem State.lapsed_of {d : Nat} (h : d < s.sys.cyc) : s.lapsed d = true := decide_eq_true h

theorem State.not_lapsed_of {d : Nat} (h : s.sys.cyc ≤ d) : s.lapsed d = false := decide_eq_false (Nat.not_lt.mpr h)

/-- A clock that has stayed away for four of its periods. -/
theorem execClockSignalLoss_due (ch : Fin 72) (k : Fin 88) (hk : k.val = ch.val)
    (h : 4 * 640000000000000000 / (s.tdc[k].cfg.at Ix.tdcFNom : Rat) ≤ ((s.sys.cyc : Rat) - s.tdc[k].seenAt - 1) * 1024) :
    ∃ u : State, u.wv = s.wv ∧ u.tdc[k].monitor = [] ∧
      exec (.clockSignalLoss (.channel ch)) s = .next (u.clockGone (s.slotsWith fun y => y.clockChannel ch.val)) := by
  have lt : ch.val < 88 := by omega
  obtain rfl : ⟨ch.val, lt⟩ = k := Fin.ext hk.symm
  change ∃ u : State, _ ∧ _ ∧ execClockSignalLoss (.channel ch) s = _
  unfold execClockSignalLoss
  dsimp only
  rw [if_neg (by push_cast; norm_num at h ⊢; exact h)]
  have out : ∀ v : State, v.wv = s.wv → ∃ u : State, u.wv = s.wv ∧ u.tdc[(⟨ch.val, lt⟩ : Fin 88)].monitor = [] ∧
      (Host.Outcome.next ((v.mapTdc ⟨ch.val, lt⟩ fun y => { y with monitor := [] }).clockGone
        ((v.mapTdc ⟨ch.val, lt⟩ fun y => { y with monitor := [] }).slotsWith fun y => y.clockChannel ch.val)) : Out) =
      .next (u.clockGone (s.slotsWith fun y => y.clockChannel ch.val)) := fun v hv =>
    ⟨v.mapTdc ⟨ch.val, lt⟩ fun y => { y with monitor := [] }, hv, congrArg TdcChan.monitor (v.mapTdc_at _ _),
      congrArg (fun l => Host.Outcome.next (State.clockGone _ l)) (State.slotsWith_congr (s := v.mapTdc ⟨ch.val, lt⟩ _) hv _)⟩
  cases s.flywheelOn ⟨ch.val, lt⟩ with
  | none => exact out s rfl
  | some f => exact out (s.loseFlywheel f) ((Within.start.loseFlywheel : Within _ s _).wv_eq (by decide) (by decide))

/-- Settles O18: which slots a loss concerns and what it leaves of them, the timers that have run out, and the rounds of disputes before an evaluation. -/
theorem lossesTimersAndDisputesOfSlots : Obligations.LossesTimersAndDisputesOfSlots := by
  unfold Obligations.LossesTimersAndDisputesOfSlots
  refine ⟨⟨fun s ch k hk h => ?_, fun s p => ?_, fun s p h => ?_, fun s p h => ?_, fun s i hi h => ?_, fun s p ssm => ?_⟩,
    fun s i c hs ht hw => ⟨fun h => ?_, fun h => ?_⟩, fun s i c hs ht hw => ⟨fun h => ?_, fun h => ?_⟩, fun s h => ?_, fun s h => ?_,
    fun s r => s.disputeRank_few r, fun s h => ⟨_, rfl, rfl, State.evaluate_selects _ h⟩, fun s h => s.evaluate_beforeInit h⟩
  · obtain ⟨u, hwv, hm, he⟩ := execClockSignalLoss_due s ch k hk h
    refine ⟨_, he, (u.clockGone_monitor _ k).trans hm, fun i hi => ?_⟩
    obtain ⟨hl, -, ho⟩ := u.clockGone_slot i (s.slotsWith_nodup _) hi
    exact ⟨hl, ho⟩
  · exact ⟨_, rfl, fun i hi => s.clockGone_slot i (s.slotsWith_nodup _) hi⟩
  · refine ⟨_, if_neg (by rw [show s.lapsed (s.wv.esmcLast[p] + 5 * secCyc) = true from s.lapsed_of h]; decide), fun i hi => ?_⟩
    obtain ⟨ho, hk⟩ := s.mark_signalLost i (s.slotsWith_nodup _) hi fun x => { x with esmcLost := true }
    exact ⟨hk Slot.esmcLost fun x y h => by rw [show y = _ from h], ho⟩
  · exact if_pos (by rw [show s.lapsed (s.wv.esmcLast[p] + 5 * secCyc) = false from s.not_lapsed_of h]; decide)
  · let u : State := { s with wv.ptp := { seq := s.wv.ptp.seq, lastSync := s.sys.cyc, lastAnnounce := s.sys.cyc } }
    have he : exec .ptpSlotTimeout s = .next (u.signalLost [i]) := by
      change execPtpSlotTimeout s = _
      unfold execPtpSlotTimeout
      rw [hi]
      exact if_pos (by simpa using h)
    have hptp : (u.signalLost [i]).wv.ptp = u.wv.ptp := (u.signalLost_rest [i]).ptp
    rw [he]
    refine ⟨_, rfl, (u.signalLost_slot i (l := [i]) (by simp) (by simp)).1, ?_⟩
    rw [hptp]
    exact ⟨rfl, rfl, rfl, rfl⟩
  · exact ⟨_, rfl, s.esmcPdu_last p ssm, fun i hi => s.esmcPdu_slot i p ssm hi⟩
  · let u := s.mapSlot i fun y => { y with wtrDone := true, timerStart := none }
    have he : exec (.wtrExpiry i) s = .next (u.tryQualify i).evaluate := by
      change execWtrExpiry i s = _
      unfold execWtrExpiry
      dsimp only
      rw [hs, ht]
      exact if_neg (by rw [hw, show s.lapsed (c + s.wv.slots[i].cfg.nat Ix.slotWtr * secCyc) = true from s.lapsed_of h]; decide)
    have hu : u.wv.slots[i] = { s.wv.slots[i] with wtrDone := true, timerStart := none } := s.mapSlot_at i _
    have hp : u.phaseCheck i = s.phaseCheck i := by
      simp only [State.phaseCheck, hu]; rfl
    obtain ⟨hf, hq, hn, htm, hd, ho⟩ := u.tryQualify_slot i (by rw [hu]; exact hs) (by rw [hu]) (by rw [hu])
    simp only [hu, hp] at hf hq hn
    have kept := (u.tryQualify i).evaluate_kept
    have hstate : ∀ j : Fin 16, (u.tryQualify i).evaluate.wv.slots[j].state = (u.tryQualify i).wv.slots[j].state :=
      fun j => kept.get j Slot.state fun _ _ => rfl
    have htimer := kept.get i Slot.timerStart fun _ _ => rfl
    refine ⟨_, he, (kept.get i Slot.wtrDone fun _ _ => rfl).trans hd, ?_⟩
    rw [hstate i, htimer]
    exact ⟨hf, fun _ => hq, fun hk => hn (freqKind_of_timeKind hk), htm, fun j hj => by
      rw [hstate j, ho j hj]
      exact congrArg Slot.state (s.mapSlot_others i _ j hj)⟩
  · change execWtrExpiry i s = _
    unfold execWtrExpiry
    dsimp only
    rw [hs, ht]
    exact if_pos (by rw [hw, show s.lapsed (c + s.wv.slots[i].cfg.nat Ix.slotWtr * secCyc) = false from s.not_lapsed_of h]; decide)
  · let u := (s.mapSlot i fun y => { y with timerStart := none }).setSlot i .qualified s.wv.slots[i].cause
    have he : exec (.confirmExpiry i) s = .next u.evaluate := by
      change execConfirmExpiry i s = _
      unfold execConfirmExpiry
      dsimp only
      rw [hs, ht]
      exact if_neg (by rw [hw, show s.lapsed (c + s.wv.slots[i].cfg.nat Ix.slotConfirm * secCyc) = true from s.lapsed_of h]; decide)
    obtain ⟨hst, htm, -, ho⟩ := s.qualified_slot i
    have kept := u.evaluate_kept
    exact ⟨_, he, (kept.get i Slot.state fun _ _ => rfl).trans hst, (kept.get i Slot.timerStart fun _ _ => rfl).trans htm, fun j hj =>
      (kept.get j Slot.state fun _ _ => rfl).trans (congrArg Slot.state (ho j hj))⟩
  · change execConfirmExpiry i s = _
    unfold execConfirmExpiry
    dsimp only
    rw [hs, ht]
    exact if_pos (by rw [hw, show s.lapsed (c + s.wv.slots[i].cfg.nat Ix.slotConfirm * secCyc) = false from s.not_lapsed_of h]; decide)
  · exact ⟨_, if_neg (by omega), (State.disputes_rest _).disputeDue, rfl⟩
  · exact if_pos h

end Sys2Proof.Machine

/-! PROOFS of family 'other', measurements, frames and PTP messages of slots: O19. -/

namespace Sys2Proof.Machine

variable (s : State) (i : Fin 16)

/-! ### Measurements: the last offset of a slot -/

/-- Each slot has the last offset that it had. -/
def SameOffsets (s t : State) : Prop := ∀ j : Fin 16, t.wv.slots[j].lastOffset = s.wv.slots[j].lastOffset

theorem SameOffsets.refl : SameOffsets s s := fun _ => rfl

theorem SameOffsets.trans {s t u : State} (h : SameOffsets s t) (g : SameOffsets t u) : SameOffsets s u := fun j => (g j).trans (h j)

theorem SameOffsets.of_within {m : Nat} {s t : State} (w : Within m s t) (h : holds m .slots = false) : SameOffsets s t := fun j => by
  have e : t.wv.slots = s.wv.slots := w .slots h
  rw [e]

theorem State.mapSlot_offsets {f : Slot → Slot} (hf : ∀ x, (f x).lastOffset = x.lastOffset) : SameOffsets s (s.mapSlot i f) := fun j => by
  obtain rfl | hj := eq_or_ne j i
  · rw [State.mapSlot_at, hf]
  · rw [s.mapSlot_others i f j hj]

theorem State.setSlot_offsets (new : SlotState) (c : Nat) : SameOffsets s (s.setSlot i new c) := fun j => by
  obtain rfl | hj := eq_or_ne j i
  · rw [State.setSlot_at]; rfl
  · rw [s.setSlot_others i new c j hj]

theorem State.evaluate_offsets : SameOffsets s s.evaluate := fun j => s.evaluate_kept.get j Slot.lastOffset fun _ _ => rfl

theorem State.alarm_offsets (c : Nat) : SameOffsets s (s.alarm i c) := fun j => by
  obtain ⟨-, hi, ho⟩ := s.alarm_slot i c
  obtain rfl | hj := eq_or_ne j i
  · rw [show _ = _ from hi]
  · rw [ho j hj]

theorem State.takeFrequency_offsets (y : Int) (at_ : Nat) : SameOffsets s (s.takeFrequency i y at_) :=
  s.mapSlot_offsets i fun _ => rfl

theorem State.raise_offsets (k : FaultKind) (d : Nat) : SameOffsets s (s.raise k d) := fun j => by rw [State.raise_wv]

theorem State.tryQualify_offsets : SameOffsets s (s.tryQualify i) := by
  have moved : ∀ (f : Slot → Slot) (new : SlotState) (c : Nat), (∀ x, (f x).lastOffset = x.lastOffset) →
      SameOffsets s ((s.mapSlot i f).setSlot i new c) := fun f new c hf => (s.mapSlot_offsets i hf).trans (State.setSlot_offsets _ i new c)
  unfold State.tryQualify
  extract_lets x
  split
  · exact .refl s
  · split
    · exact moved _ _ _ fun _ => rfl
    · split
      · exact .refl s
      · split
        · exact moved _ _ _ fun _ => rfl
        · exact SameOffsets.trans (moved _ _ _ (by exact fun _ => rfl)) (State.raise_offsets _ _ _)

theorem State.phiArrives_offsets (phi : Int) : SameOffsets s (s.phiArrives i phi) := by
  unfold State.phiArrives
  extract_lets x ceiling
  split
  · have h0 : SameOffsets s { s with wv.switch := none } := fun _ => rfl
    have h1 := State.mapSlot_offsets { s with wv.switch := none } i (f := fun y => { y with stepBlocked := true }) fun _ => rfl
    have h2 := (h0.trans h1).trans (State.raise_offsets _ Flt.switchRefused i.val)
    exact h2.trans (State.evaluate_offsets _)
  · next s1 _ =>
    have w : Within _ s1 (s1.requestStep ⟨phi, .switch i⟩) := Within.start.requestStep
    exact fun j => SameOffsets.of_within w (by decide) j

theorem State.steerWith_offsets (phi : Int) (at_ : Nat) : SameOffsets s (s.steerWith i phi at_) :=
  .of_within (Within.start.steerWith : Within _ s _) (by decide)

theorem State.setRole_offsets (r : Role) : SameOffsets s (s.setRole r) := by
  unfold State.setRole
  split
  · exact .refl s
  · extract_lets _ s0 s1 _ s2
    have h1 : SameOffsets s s1 := s0.mapSlot_offsets 15 fun _ => rfl
    have h2 : SameOffsets s s2 := by
      refine h1.trans ?_
      simp only [s2]
      split
      · split <;> exact fun _ => rfl
      · exact .refl s1
    split
    · exact h2
    · exact h2.trans (.of_within (Within.start.dropCalibration : Within _ s2 _) (by decide))

theorem State.followTwin_offsets : SameOffsets s s.followTwin := by
  unfold State.followTwin
  extract_lets s1 x
  have h1 : SameOffsets s s1 := by
    simp only [s1]
    split
    · exact s.setRole_offsets _
    · exact .refl s
  clear_value s1
  split
  · exact ((h1.trans (s1.mapSlot_offsets 15 (by exact fun _ => rfl))).trans (State.setSlot_offsets _ 15 _ _)).trans (State.evaluate_offsets _)
  · exact h1

theorem State.followCalibration_offsets : SameOffsets s s.followCalibration :=
  .of_within (Within.start.followCalibration : Within _ s _) (by decide)

theorem State.storeOffset_last (phi : Int) (at_ : Nat) (extra : Rat) : (s.storeOffset i phi at_ extra).wv.slots[i].lastOffset = some phi := by
  unfold State.storeOffset
  extract_lets x s1 s2
  have h1 : s1.wv.slots[i].lastOffset = some phi := congrArg Slot.lastOffset (s.mapSlot_at i _)
  have h2 : s2.wv.slots[i].lastOffset = some phi := by
    rw [← h1]
    exact SameOffsets.of_within (Within.start.replSlot : Within _ s1 _) (by decide) i
  clear_value s2
  split
  · split
    · exact (s2.takeFrequency_offsets i _ _ i).trans h2
    · exact h2
  · exact h2

/-- An offset of an enabled time slot that is not locked out becomes its last one. -/
theorem State.takeOffset_last (phi : Int) (at_ : Nat) (extra : Rat) (he : s.wv.slots[i].cfg.flag Ix.slotEnable = true)
    (hk : timeKind s.wv.slots[i].kind = true) (hl : s.wv.slots[i].state ≠ .lockedOut) :
    (s.takeOffset i phi at_ extra).wv.slots[i].lastOffset = some phi := by
  unfold State.takeOffset
  rw [if_neg (by simp [-Fin.getElem_fin, he, hk, hl])]
  extract_lets s0 s1 s2
  have h0 : s0.wv.slots[i].lastOffset = some phi := congrArg Slot.lastOffset (s.mapSlot_at i _)
  have h2 : s2.wv.slots[i].lastOffset = some phi := (State.tryQualify_offsets _ i i).trans (s1.storeOffset_last i phi at_ extra)
  clear_value s0 s2
  split
  · exact h0
  · split
    · exact ((s0.alarm_offsets i 3).trans (State.evaluate_offsets _) i).trans h0
    · split
      · split
        · exact (s2.phiArrives_offsets i phi i).trans h2
        · exact (s2.evaluate_offsets i).trans h2
      · split
        · exact ((s2.steerWith_offsets i phi at_).trans (State.evaluate_offsets _) i).trans h2
        · exact (s2.evaluate_offsets i).trans h2

/-! ### Frames of a slot -/

/-- A slot after a bad frame, with `lost` as the loss of its frames. -/
def Slot.badWith (lost : Bool) (x : Slot) : Slot := { x with badRun := x.badRun + 1, goodRun := 0, lastFrame := none, frameLost := lost }

/-- A slot after a bad frame. -/
def Slot.afterBad (x : Slot) : Slot := x.badWith (decide (x.cfg.nat Ix.slotEmptyLimit ≤ x.badRun + 1))

/-- The slot's bad frame and, when IRIG_FRAME is due, its fault. -/
def State.badNoted : State :=
  let s1 := s.mapSlot i Slot.afterBad
  if s.spaced s.wv.slots[i].frameFault (10 * secCyc) then (s1.mapSlot i fun y => { y with frameFault := some s.sys.cyc }).raise Flt.irigFrame i.val
  else s1

theorem State.badFrame_eq : s.badFrame i =
    if s.wv.slots[i].cfg.nat Ix.slotEmptyLimit ≤ s.wv.slots[i].badRun + 1 then ((s.badNoted i).alarm i 1).evaluate else s.badNoted i := by
  have same : s.mapSlot i (Slot.badWith (decide (s.wv.slots[i].cfg.nat Ix.slotEmptyLimit ≤ s.wv.slots[i].badRun + 1))) =
      s.mapSlot i Slot.afterBad := congrArg (fun v => { s with wv.slots := v }) (upd_congr _ _ rfl)
  unfold State.badFrame State.badNoted
  rw [← same]
  dsimp only
  simp only [decide_eq_true_eq]
  rfl

/-- What the fault of a bad frame leaves of the slot. -/
theorem State.badNoted_slot : ∃ f, (s.badNoted i).wv.slots[i] = { s.wv.slots[i].afterBad with frameFault := f } := by
  by_cases h : s.spaced s.wv.slots[i].frameFault (10 * secCyc)
  · have e : s.badNoted i = ((s.mapSlot i Slot.afterBad).mapSlot i fun y => { y with frameFault := some s.sys.cyc }).raise Flt.irigFrame i.val :=
      if_pos h
    rw [e, State.raise_wv, State.mapSlot_at, State.mapSlot_at]
    exact ⟨_, rfl⟩
  · have e : s.badNoted i = s.mapSlot i Slot.afterBad := if_neg h
    rw [e, State.mapSlot_at]
    exact ⟨s.wv.slots[i].frameFault, rfl⟩

theorem State.badNoted_only : s.badNoted i = { s with wv.slots := (s.badNoted i).wv.slots, flt := (s.badNoted i).flt } := by
  have w : Within (partsOf [.slots, .flt]) s (s.badNoted i) :=
    (Within.ite (((Within.start.mapSlot).mapSlot).raise) (Within.start.mapSlot)).mono (by decide)
  exact w.eq

/-- What a bad frame leaves of its slot, whatever its loss brings. -/
theorem State.badFrame_keeps {β : Type} (g : Slot → β) (hs : ∀ x y : Slot, x.SameInputs y → g y = g x)
    (hf : ∀ (x : Slot) f, g { x with frameFault := f } = g x) : g (s.badFrame i).wv.slots[i] = g s.wv.slots[i].afterBad := by
  obtain ⟨f, hn⟩ := s.badNoted_slot i
  have noted : g (s.badNoted i).wv.slots[i] = g s.wv.slots[i].afterBad := by rw [hn, hf]
  rw [s.badFrame_eq i]
  split
  · obtain ⟨b, hb⟩ := ((s.badNoted i).alarm i 1).evaluate_kept.slot i
    rw [hb, ← noted, ← hs _ _ ((s.badNoted i).alarm_slot i 1).2.1]
    exact hs _ _ rfl
  · exact noted

/-- A good frame of R124's quality in its place, taken by its slot. -/
def State.irigTaken (g : IrigTime) : State :=
  (s.mapSlot i fun y =>
    { y with badRun := 0, goodRun := y.goodRun + 1, lastFrame := some (s.irigTai g), frameLost := false, kindBad := decide (12 ≤ g.quality) }).checkLeapBits i g

theorem State.checkLeapBits_slots (g : IrigTime) : (s.checkLeapBits i g).wv.slots = s.wv.slots :=
  (Within.start.checkLeapBits : Within _ s (s.checkLeapBits i g)) .slots (by decide)

theorem State.irigTaken_slots (g : IrigTime) (hq : g.quality < 12) : (s.irigTaken i g).wv.slots = upd s.wv.slots i fun y =>
    { y with badRun := 0, goodRun := y.goodRun + 1, lastFrame := some (s.irigTai g), frameLost := false, kindBad := false } := by
  rw [State.irigTaken, State.checkLeapBits_slots]
  have quality : decide (12 ≤ g.quality) = false := decide_eq_false (by omega)
  rw [quality]
  rfl

/-- The channel of an IRIG-B slot. -/
def Slot.irigChannel (x : Slot) : Fin 88 := Fin.ofNat 88 (x.cfg.nat Ix.slotSource)

/-- The offset that the edge of a good frame's Pr gives. -/
def State.irigOffset (pr : Stamp) (g : IrigTime) : Meas :=
  let t := s.irigTaken i g
  let td := Stamp.ofSteps (t.tdc[s.wv.slots[i].irigChannel].delayed pr).toNat
  .offset (s.irigTai g * secFrac - t.convert td) td.cyc (qualityLimit g.quality)

theorem State.goodIrig_follows {pr : Stamp} {g : IrigTime} (hq : g.quality < 12)
    (hf : s.wv.slots[i].goodRun = 0 ∨ s.wv.slots[i].lastFrame = some (s.irigTai g - 1)) :
    s.goodIrig i pr g = if s.wv.slots[i].goodRun = 0 ∨ s.wv.slots[i].edge ≠ some pr then s.irigTaken i g else
      ((s.irigTaken i g).noteLate (Stamp.ofSteps ((s.irigTaken i g).tdc[s.wv.slots[i].irigChannel].delayed pr).toNat)
        s.wv.slots[i].irigChannel.val).deliverMeas i (s.irigOffset i pr g) := by
  unfold State.goodIrig
  extract_lets x tai follows s1 ch td
  have hfol : follows = true := by
    simp only [follows, x, tai, Bool.or_eq_true, beq_iff_eq]
    exact hf
  have hrun : s1.wv.slots[i].goodRun = x.goodRun + 1 := by
    have e : s1.wv.slots = _ := s.irigTaken_slots i g hq
    rw [e, upd_same]
  rw [if_neg (by rw [hfol]; decide), if_neg (by omega)]
  refine ite_congr ?_ (fun _ => rfl) fun _ => rfl
  rw [hrun]
  simp only [Bool.or_eq_true, decide_eq_true_eq, bne_iff_ne, eq_iff_iff]
  exact or_congr (by simp only [x]; omega) Iff.rfl

/-- A slot whose frame names a second, or none. -/
def State.named (en : Nat) (v : Option Int) : State := s.mapSlot i fun y => { y with frames := ((en, v) :: y.frames).take 4 }

/-- A slot that takes a good time-of-day frame. -/
def State.todTaken (b : List Byte) (en : Nat) (unlocked : Bool) : State :=
  (s.named i en (some (octetsNat ((b.drop 4).take 6)))).mapSlot i fun y =>
    { y with badRun := 0, goodRun := y.goodRun + 1, frameLost := false, kindBad := unlocked, extra := (octetsNat ((b.drop 20).take 4) : Rat) / 256 }

theorem todGood_iff (b : List Byte) : todGood b = true ↔ b.length = 32 ∧ (b.map BitVec.toNat).take 4 = [0x51, 0x54, 1, 32] ∧
    octetsNat (b.drop 28) = (crc32 ((b.map BitVec.toNat).take 28)).toNat := by
  simp [todGood, and_assoc]

theorem execTodFrameDecode_enabled (b : List Byte) (fr : Bool) (en : Stamp) (he : s.wv.slots[i].cfg.flag Ix.slotEnable = true)
    (hk : s.wv.slots[i].cfg.nat Ix.slotKind = 7) : exec (.todFrameDecode i b fr en) s =
    let x := s.wv.slots[i]
    let good := fr && todGood b && s.frameInTime (Fin.ofNat 88 (x.cfg.nat Ix.slotSource)) en.steps
    let unlocked := bitAt ((b.map BitVec.toNat).getD 12 0) 2
    let s1 := s.todTaken i b en.steps unlocked
    .next (if !good then (s.named i en.steps none).badFrame i else if unlocked then (s1.alarm i 4).evaluate else s1) := by
  change execTodFrameDecode i b fr en s = _
  unfold execTodFrameDecode
  extract_lets x good nm unlocked bound s1
  rw [if_neg (by simp only [x, he]; rw [show s.wv.slots[i].kind = 7 from hk]; decide)]
  exact (apply_ite Host.Outcome.next _ _ _).symm

/-! ### PTP messages -/

theorem execPtpSlotMessage_of {o : List Byte} {m : PtpMsg} (a : Stamp) (h : ptpOf o = some m) :
    exec (.ptpSlotMessage o a) s = .next (s.ptpSlotMsg m a) := by
  change execPtpSlotMessage o a s = _
  rw [execPtpSlotMessage, h]

theorem State.ptpSlotMsg_at {m : PtpMsg} (a : Stamp) (h : s.ptpSlotIx = some i) : s.ptpSlotMsg m a =
    if m.domain != s.wv.slots[i].ptpDomain || !verifiedKind m.kind then s
    else if s.verifyPtp s.wv.slots[i].ptpSpp (bitAt (s.wv.slots[i].source 5) 8) m = 0 then s.ptpMessage i m a
    else s.authFailed (s.verifyPtp s.wv.slots[i].ptpSpp (bitAt (s.wv.slots[i].source 5) 8) m) 15 := by
  simp only [State.ptpSlotMsg, h]

/-- A Sync of the master, in one step, fixes t1 and t2. -/
theorem State.ptpMessage_sync {m : PtpMsg} {a : Stamp} {origin : Int} (hk : m.kind = .sync false origin)
    (hm : s.wv.ptp.master = some (m.sourceId, m.sourcePort)) : (s.ptpMessage i m a).wv.ptp.t1 = some (origin + m.corr) ∧
    (s.ptpMessage i m a).wv.ptp.t2 = some (s.convert a) ∧ (s.ptpMessage i m a).wv.ptp.lastSync = s.sys.cyc := by
  unfold State.ptpMessage
  simp only [hk, hm, beq_self_eq_true, Bool.not_true, Bool.false_eq_true, if_false, and_self]

/-- The frame of a Delay_Req. -/
def State.delayReqFrame (d : Stamp) : TxFrame := ⟨some d.steps, Kind.delayReq, padded (s.delayReqOctets i), false, none, false, none⟩

/-- The PTP slot's exchange once its Delay_Req has left. -/
def State.requested (t3 : Int) (seq : BitVec 16) : State := { s with wv.ptp.t3 := some t3, wv.ptp.t4 := none, wv.ptp.seq := seq }

theorem execDelayReqSend_linked {m : Nat × Nat} (d : Stamp) (hi : s.ptpSlotIx = some i) (hm : s.wv.ptp.master = some m)
    (hl : s.ports[s.wv.slots[i].ptpPort].linkUp = true) (hf : s.follower = false) :
    ∃ u : State, u = (s.drawn.drawn.countTx s.wv.slots[i].ptpPort (s.delayReqFrame i d)).emit
      (.frame s.wv.slots[i].ptpPort d.steps (padded (s.delayReqOctets i) ++ fcsOf (padded (s.delayReqOctets i))) false) ∧
    exec (.delayReqSend d) s = .next (u.requested (s.convert d) (s.wv.ptp.seq + 1)) := by
  refine ⟨_, rfl, ?_⟩
  change execDelayReqSend d s = _
  unfold execDelayReqSend
  simp only [hi, hm]
  rw [if_neg (by simp [-Fin.getElem_fin, hl, hf])]
  rfl

theorem execRefMeasurement_recovered (y : List Nat) (hm : s.wv.slots[i].meas = []) (he : s.wv.slots[i].cfg.flag Ix.slotEnable = true)
    (hk : s.wv.slots[i].kind = 6) : exec (.refMeasurement i y) s = .next (s.recoveredGate i y) := by
  change execRefMeasurement i y s = _
  simp only [execRefMeasurement, hm]
  exact if_pos (by rw [he, hk]; decide)

theorem State.recoveredGate_nil : s.recoveredGate i [] = s := rfl

theorem execIrigbFrameDecode_enabled (f : IrigPulses) (he : s.wv.slots[i].cfg.flag Ix.slotEnable = true) (hk : s.wv.slots[i].cfg.nat Ix.slotKind = 4) :
    exec (.irigbFrameDecode i f) s = .next (match (irigSymbols f.highUs).bind (s.decodeIrig i) with
      | some t => s.goodIrig i f.pr t
      | none => s.badFrame i) := by
  change execIrigbFrameDecode i f s = _
  unfold execIrigbFrameDecode
  extract_lets x
  rw [if_neg (by simp only [x, he]; rw [show s.wv.slots[i].kind = 4 from hk]; decide)]
  cases (irigSymbols f.highUs).bind (s.decodeIrig i) <;> rfl

/-- A good IRIG-B frame in its place changes its slot alone, which gets an offset where the frame's edge was accepted. -/
theorem State.goodIrig_out {pr : Stamp} {g : IrigTime} (hq : g.quality < 12)
    (hf : s.wv.slots[i].goodRun = 0 ∨ s.wv.slots[i].lastFrame = some (s.irigTai g - 1)) :
    ∃ l, (s.goodIrig i pr g).wv.slots = upd s.wv.slots i (fun y =>
      { y with badRun := 0, goodRun := y.goodRun + 1, lastFrame := some (s.irigTai g), frameLost := false, kindBad := false, meas := y.meas ++ l }) ∧
      (s.wv.slots[i].goodRun = 0 ∨ s.wv.slots[i].edge ≠ some pr → l = []) ∧
      (s.wv.slots[i].goodRun ≠ 0 → s.wv.slots[i].edge = some pr → ∃ phi a e, l = [.offset phi a e]) := by
  have taken := s.irigTaken_slots i g hq
  rw [s.goodIrig_follows i hq hf]
  split
  · next h =>
    refine ⟨[], ?_, fun _ => rfl, fun h0 h1 => absurd h (by simp [-Fin.getElem_fin, h0, h1])⟩
    rw [taken]
    exact upd_congr _ _ (by rw [List.append_nil])
  · next h =>
    refine ⟨[s.irigOffset i pr g], ?_, fun h1 => absurd h1 h, fun _ _ => ⟨_, _, _, rfl⟩⟩
    have late : ∀ (t : Stamp) (n : Nat), ((s.irigTaken i g).noteLate t n).wv.slots = (s.irigTaken i g).wv.slots := fun t n =>
      (Within.start.noteLate : Within _ (s.irigTaken i g) _) .slots (by decide)
    rw [State.deliverMeas, State.mapSlot]
    dsimp only
    rw [late, taken, upd_upd]

theorem State.goodIrig_only {pr : Stamp} {g : IrigTime} (hq : g.quality < 12)
    (hf : s.wv.slots[i].goodRun = 0 ∨ s.wv.slots[i].lastFrame = some (s.irigTai g - 1)) :
    s.goodIrig i pr g = { s with wv := (s.goodIrig i pr g).wv, flt := (s.goodIrig i pr g).flt } := by
  have taken : Within (partsOf [.slots, .wv, .flt]) s (s.irigTaken i g) := (Within.start.mapSlot.checkLeapBits).mono (by decide)
  have w : Within (partsOf [.slots, .wv, .flt]) s (s.goodIrig i pr g) := by
    rw [s.goodIrig_follows i hq hf]
    exact (Within.ite taken (taken.noteLate.deliverMeas)).mono (by decide)
  exact w.eq

/-- Settles O19: the oldest measurement, the tests of each kind of frame, and the messages of the slot's domain. -/
theorem framesAndMessagesReachTheirSlots : Obligations.FramesAndMessagesReachTheirSlots := by
  unfold Obligations.FramesAndMessagesReachTheirSlots
  refine ⟨fun s i y m l h => ?_, fun s i y hm he hk => ?_, fun s i f he hk => ⟨fun h => ?_, fun g hg hq hf => ?_⟩,
    fun s i b fr en he hk h => ?_, fun s i b en he hk hlen hhead hcrc hlock htime => ?_, fun s i => ?_, fun s o a h => ?_,
    fun s i o m a h hi hd => ?_, fun s i o m a h hi hd hv hc => ?_, fun s i m d hi hm hl hf => ?_⟩
  · refine ⟨_, by change execRefMeasurement i y s = _; simp only [execRefMeasurement, h]; rfl, rfl, ?_⟩
    rintro phi a e rfl he hk hl
    have hat : (s.mapSlot i fun x => { x with meas := l }).wv.slots[i] = { s.wv.slots[i] with meas := l } := s.mapSlot_at i _
    have taken := (s.mapSlot i fun x => { x with meas := l }).takeOffset_last i phi a e (by rw [hat]; exact he) (by rw [hat]; exact hk)
      (by rw [hat]; exact hl)
    exact ((State.followTwin_offsets _).trans (State.followCalibration_offsets _) i).trans taken
  · exact ⟨_, execRefMeasurement_recovered s i y hm he hk, rfl, by rintro rfl; exact s.recoveredGate_nil i⟩
  · rw [execIrigbFrameDecode_enabled s i f he hk, h]
  · obtain ⟨l, hsl, hnone, hsome⟩ := s.goodIrig_out i (pr := f.pr) hq hf
    refine ⟨s.goodIrig i f.pr g, by rw [execIrigbFrameDecode_enabled s i f he hk, hg], ?_⟩
    rw [hsl, upd_same]
    refine ⟨rfl, rfl, rfl, rfl, rfl, fun j hj => upd_other _ _ _ _ hj.symm, s.goodIrig_only i hq hf, fun h => ?_, fun h0 h1 => ?_⟩
    · rw [hnone h, List.append_nil]
    · obtain ⟨phi, a, e, rfl⟩ := hsome h0 h1
      exact ⟨phi, a, e, rfl⟩
  · have hat : (s.named i en.steps none).wv.slots[i] = { s.wv.slots[i] with frames := ((en.steps, none) :: s.wv.slots[i].frames).take 4 } :=
      s.mapSlot_at i _
    have hbad : (fr && todGood b && s.frameInTime (Fin.ofNat 88 (s.wv.slots[i].cfg.nat Ix.slotSource)) en.steps) = false := by
      obtain rfl | h | h := h
      · rfl
      · have : todGood b = false := Bool.eq_false_iff.mpr fun hg => h ((todGood_iff b).mp hg).1
        rw [this, Bool.and_false, Bool.false_and]
      · rw [h, Bool.and_false]
    refine ⟨(s.named i en.steps none).badFrame i, ?_, ?_, ?_, ?_⟩
    · rw [execTodFrameDecode_enabled s i b fr en he hk]
      dsimp only
      rw [hbad]
      rfl
    · exact ((s.named i en.steps none).badFrame_keeps i Slot.badRun (fun x y h => by rw [show y = _ from h]) fun _ _ => rfl).trans (by rw [hat]; rfl)
    · exact ((s.named i en.steps none).badFrame_keeps i Slot.goodRun (fun x y h => by rw [show y = _ from h]) fun _ _ => rfl).trans (by rw [hat]; rfl)
    · exact ((s.named i en.steps none).badFrame_keeps i Slot.frames (fun x y h => by rw [show y = _ from h]) fun _ _ => rfl).trans (by rw [hat]; rfl)
  · have hgood : (true && todGood b && s.frameInTime (Fin.ofNat 88 (s.wv.slots[i].cfg.nat Ix.slotSource)) en.steps) = true := by
      rw [(todGood_iff b).mpr ⟨hlen, hhead, hcrc⟩, htime]; rfl
    refine ⟨s.todTaken i b en.steps false, ?_, ?_⟩
    · rw [execTodFrameDecode_enabled s i b true en he hk]
      dsimp only
      rw [hgood, hlock]
      exact congrArg _ ((if_neg (by decide)).trans (if_neg (by decide)))
    · rw [State.todTaken, State.mapSlot_at, State.named, State.mapSlot_at]
      exact ⟨rfl, rfl, rfl, rfl, rfl, fun j hj => (State.mapSlot_others _ i _ j hj).trans (s.mapSlot_others i _ j hj)⟩
  · have keeps := fun {β : Type} => s.badFrame_keeps i (β := β)
    refine ⟨keeps Slot.badRun (fun x y h => by rw [show y = _ from h]) fun _ _ => rfl, keeps Slot.goodRun (fun x y h => by rw [show y = _ from h]) fun _ _ => rfl,
      keeps Slot.lastFrame (fun x y h => by rw [show y = _ from h]) fun _ _ => rfl,
      keeps Slot.frameLost (fun x y h => by rw [show y = _ from h]) fun _ _ => rfl, fun h => ?_⟩
    rw [s.badFrame_eq i, if_neg (by omega)]
    exact s.badNoted_only i
  · change execPtpSlotMessage o a s = _
    rw [execPtpSlotMessage, h]
  · rw [execPtpSlotMessage_of s a h, s.ptpSlotMsg_at i a hi, if_pos (by simp [-Fin.getElem_fin, hd])]
  · refine ⟨s.ptpMessage i m a, ?_, rfl, fun origin hk hm => s.ptpMessage_sync i hk hm⟩
    rw [execPtpSlotMessage_of s a h, s.ptpSlotMsg_at i a hi, if_neg (by simp [-Fin.getElem_fin, hd, hv]), if_pos hc]
  · obtain ⟨u, hu, he⟩ := execDelayReqSend_linked s i d hi hm hl hf
    have w : Within (partsOf [.emits, .ports, .perf, .hosts]) s.drawn.drawn u := by
      rw [hu]
      exact Within.start.countTx.emit.mono (by decide)
    have hslots : u.wv.slots = s.wv.slots := w .slots (by decide)
    have wt : Within (partsOf [.emits, .ports, .perf, .hosts, .slots, .wv]) s.drawn.drawn (u.requested (s.convert d) (s.wv.ptp.seq + 1)) :=
      (w.set (partsOf [.wv])).mono (by decide)
    exact ⟨_, he, rfl, rfl, rfl, hslots, by rw [hu]; rfl, wt.eq⟩

end Sys2Proof.Machine

/-! PROOFS of family 'other', feed-forward, learning and stale models: O22. -/

namespace Sys2Proof.Machine

variable (s : State) (f : Fin 3)

/-! ### Steps of one flywheel -/

@[simp] theorem State.mapFw_at (g : Flywheel → Flywheel) : (s.mapFw f g).fc.fw[f] = g s.fc.fw[f] := upd_same ..

theorem State.mapFw_others (g : Flywheel → Flywheel) : ∀ h, h ≠ f → (s.mapFw f g).fc.fw[h] = s.fc.fw[h] := fun _ hh => upd_other _ _ _ _ hh.symm

/-- Of Forecast, only this flywheel may have changed. -/
structure FwStep (f : Fin 3) (s t : State) : Prop where
  rest : t.fc = { s.fc with fw := t.fc.fw }
  others : ∀ g, g ≠ f → t.fc.fw[g] = s.fc.fw[g]

variable {s f} in
theorem FwStep.of_eq {t : State} (h : t.fc = s.fc) : FwStep f s t := ⟨by rw [h], fun g _ => by rw [h]⟩

theorem FwStep.refl : FwStep f s s := .of_eq rfl

variable {f} in
theorem FwStep.trans {s t u : State} (h : FwStep f s t) (g : FwStep f t u) : FwStep f s u :=
  ⟨g.rest.trans (by rw [h.rest]), fun x hx => (g.others x hx).trans (h.others x hx)⟩

theorem State.mapFw_step (g : Flywheel → Flywheel) : FwStep f s (s.mapFw f g) := ⟨rfl, s.mapFw_others f g⟩

/-- Free draws, and one change of a flywheel. -/
theorem State.drawnN_mapFw (n : Nat) (g : Flywheel → Flywheel) : FwStep f s ((s.drawnN n).mapFw f g) ∧
    ∀ {β : Type} (p : Flywheel → β), (∀ x, p (g x) = p x) → p ((s.drawnN n).mapFw f g).fc.fw[f] = p s.fc.fw[f] :=
  ⟨⟨rfl, (s.drawnN n).mapFw_others f g⟩, fun p hp => by rw [State.mapFw_at, hp]; rfl⟩

@[simp] theorem State.raise_fc (k : FaultKind) (d : Nat) : (s.raise k d).fc = s.fc :=
  (Within.start.raise : Within _ s (s.raise k d)) .fc (by decide)

@[simp] theorem State.noteStale_fc : (s.noteStale f).fc = s.fc := (Within.start.noteStale : Within _ s (s.noteStale f)) .fc (by decide)

theorem State.firstFit_step : FwStep f s (s.firstFit f) ∧ (s.firstFit f).fc.fw[f].hour = s.fc.fw[f].hour ∧
    (s.firstFit f).fc.fw[f].day = s.fc.fw[f].day := by
  unfold State.firstFit
  extract_lets w m resid sq
  obtain ⟨h, hk⟩ := s.drawnN_mapFw f 30 fun w =>
    { w with obsN := resid.length, obsSq := sq, model := some (w.noise { m with eT := rootRat (sq / (resid.length : Rat)) }) }
  exact ⟨h, hk Flywheel.hour fun _ => rfl, hk Flywheel.day fun _ => rfl⟩

/-- An accepted observation enters its flywheel's hour and day. -/
theorem State.acceptObservation_step (y : Rat) : FwStep f s (s.acceptObservation f y) ∧
    (s.acceptObservation f y).fc.fw[f].hour = s.fc.fw[f].hour ++ [⟨y, s.fc.fw[f].tempC, s.fc.fw[f].tempSign, s.nowSec⟩] ∧
    (s.acceptObservation f y).fc.fw[f].day = s.fc.fw[f].day ++ [y] := by
  unfold State.acceptObservation
  extract_lets r s1 s2
  have h1 : FwStep f s s1 := s.mapFw_step f _
  have hh1 : s1.fc.fw[f].hour = _ := congrArg Flywheel.hour (s.mapFw_at f _)
  have hd1 : s1.fc.fw[f].day = _ := congrArg Flywheel.day (s.mapFw_at f _)
  have h2 : s2.fc = s1.fc := s1.noteStale_fc f
  clear_value s1 s2
  have h12 : FwStep f s s2 := h1.trans (.of_eq h2)
  have hour : s2.fc.fw[f].hour = s1.fc.fw[f].hour := by rw [h2]
  have day : s2.fc.fw[f].day = s1.fc.fw[f].day := by rw [h2]
  split
  · obtain ⟨hs, hh, hd⟩ := s2.firstFit_step f
    exact ⟨h12.trans hs, hh.trans (hour.trans hh1), hd.trans (day.trans hd1)⟩
  · exact ⟨h12, hour.trans hh1, day.trans hd1⟩

theorem State.rejectObservation_step (y : Rat) : FwStep f s (s.rejectObservation f y) := by
  unfold State.rejectObservation
  extract_lets w l s1
  have h1 : FwStep f s s1 := s.mapFw_step f _
  clear_value s1
  split
  · exact h1
  · exact (h1.trans (s1.mapFw_step f _)).trans (.of_eq (State.raise_fc _ _ _))

theorem State.takeObservation_step (y : Rat) : FwStep f s (s.takeObservation f y) := by
  unfold State.takeObservation
  extract_lets w
  split
  · exact (s.acceptObservation_step f y).1
  · split
    · exact s.rejectObservation_step f y
    · exact (s.acceptObservation_step f y).1

theorem State.takeObservation_first {y : Rat} (h : s.fc.fw[f].model = none) : s.takeObservation f y = s.acceptObservation f y := by
  simp only [State.takeObservation, h]

/-! ### Hours and days -/

theorem State.refitTemp_step : FwStep f s (s.refitTemp f) ∧ (s.refitTemp f).fc.fw[f].hour = s.fc.fw[f].hour := by
  unfold State.refitTemp
  split
  · exact ⟨.refl s f, rfl⟩
  · exact ⟨(s.drawnN_mapFw f 30 _).1, (s.drawnN_mapFw f 30 _).2 Flywheel.hour (by exact fun _ => rfl)⟩

theorem State.refitAge_step : FwStep f s (s.refitAge f) ∧ (s.refitAge f).fc.fw[f].day = s.fc.fw[f].day := by
  unfold State.refitAge
  extract_lets w
  split
  · exact ⟨.refl s f, rfl⟩
  · extract_lets pts c
    split
    · exact ⟨.refl s f, rfl⟩
    · exact ⟨(s.drawnN_mapFw f 15 _).1, (s.drawnN_mapFw f 15 _).2 Flywheel.day (by exact fun _ => rfl)⟩

/-- One flywheel's hour as it ended: its bin, the hour empty, the model kept in holdover. -/
theorem State.endHour_step : FwStep f s (s.endHour f) ∧ (s.endHour f).fc.fw[f].hour = [] ∧
    (s.fc.holding = true → (s.endHour f).fc.fw[f].model = s.fc.fw[f].model) ∧
    (s.fc.fw[f].hour = [] → (s.endHour f).mram = s.mram) ∧
    (s.fc.fw[f].hour ≠ [] → ∃ b, (s.endHour f).mram = { s.mram with hourly := upd s.mram.hourly f fun l => (b :: l).take 8760 }) := by
  unfold State.endHour
  extract_lets _ t
  have ht : FwStep f s t ∧ t.fc.fw[f].hour = [] ∧ t.fc.fw[f].model = s.fc.fw[f].model ∧ (s.fc.fw[f].hour = [] → t.mram = s.mram) ∧
      (s.fc.fw[f].hour ≠ [] → ∃ b, t.mram = { s.mram with hourly := upd s.mram.hourly f fun l => (b :: l).take 8760 }) := by
    cases hb : s.hourBin f with
    | none =>
      have empty : s.fc.fw[f].hour = [] := by
        unfold State.hourBin at hb
        dsimp only at hb
        split at hb
        · next h => exact List.getLast?_eq_none_iff.mp h
        · cases hb
      simp only [t, hb]
      exact ⟨.refl s f, empty, trivial, fun _ => trivial, fun h => absurd empty h⟩
    | some b =>
      have full : s.fc.fw[f].hour ≠ [] := fun h => by simp [-Fin.getElem_fin, State.hourBin, h] at hb
      simp only [t, hb]
      let u : State := { s with mram.hourly := upd s.mram.hourly f fun l => (b :: l).take 8760 }
      have step := u.mapFw_step f fun w => { w with hour := [] }
      have at_ := u.mapFw_at f fun w => { w with hour := [] }
      have hempty := congrArg Flywheel.hour at_
      have hmodel := congrArg Flywheel.model at_
      exact ⟨(FwStep.of_eq rfl : FwStep f s u).trans step, hempty, hmodel, fun h => absurd h full, fun _ => ⟨b, rfl⟩⟩
  obtain ⟨hs, hh, hm, he, hn⟩ := ht
  clear_value t
  split
  · exact ⟨hs, hh, fun _ => hm, he, hn⟩
  · next hold =>
    obtain ⟨hr, hrh⟩ := t.refitTemp_step f
    have hmram : (t.refitTemp f).mram = t.mram := (Within.start.refitTemp : Within _ t (t.refitTemp f)) .mram (by decide)
    rw [hrh, hmram]
    exact ⟨hs.trans hr, hh, fun h => absurd h hold, he, hn⟩

/-- One flywheel's day as it ended: its bin, the day empty, the model kept in holdover. -/
theorem State.endDay_step : FwStep f s (s.endDay f) ∧ (s.endDay f).fc.fw[f].day = [] ∧
    (s.fc.holding = true → (s.endDay f).fc.fw[f].model = s.fc.fw[f].model) ∧
    (s.fc.fw[f].day = [] → (s.endDay f).mram = s.mram) ∧
    (s.fc.fw[f].day ≠ [] → ∃ b, (s.endDay f).mram = { s.mram with daily := upd s.mram.daily f fun l => (b :: l).take 7320 }) := by
  unfold State.endDay
  extract_lets w b _ t
  have ht : FwStep f s t ∧ t.fc.fw[f].day = [] ∧ t.fc.fw[f].model = s.fc.fw[f].model ∧ (s.fc.fw[f].day = [] → t.mram = s.mram) ∧
      (s.fc.fw[f].day ≠ [] → ∃ b, t.mram = { s.mram with daily := upd s.mram.daily f fun l => (b :: l).take 7320 }) := by
    by_cases h : s.fc.fw[f].day = []
    · rw [show t = s from if_pos (by simpa [-Fin.getElem_fin, w] using h)]
      exact ⟨.refl s f, h, rfl, fun _ => rfl, fun hn => absurd h hn⟩
    · let u : State := { s with mram.daily := upd s.mram.daily f fun l => (b :: l).take 7320 }
      rw [show t = u.mapFw f (fun w => { w with day := [] }) from if_neg (by simpa [-Fin.getElem_fin, w] using h)]
      have step := u.mapFw_step f fun w => { w with day := [] }
      have at_ := u.mapFw_at f fun w => { w with day := [] }
      have hempty := congrArg Flywheel.day at_
      have hmodel := congrArg Flywheel.model at_
      exact ⟨(FwStep.of_eq rfl : FwStep f s u).trans step, hempty, hmodel, fun he => absurd he h, fun _ => ⟨b, rfl⟩⟩
  obtain ⟨hs, hh, hm, he, hn⟩ := ht
  clear_value t
  split
  · exact ⟨hs, hh, fun _ => hm, he, hn⟩
  · next hold =>
    obtain ⟨hr, hrh⟩ := t.refitAge_step f
    have hmram : (t.refitAge f).mram = t.mram := (Within.start.refitAge : Within _ t (t.refitAge f)) .mram (by decide)
    rw [hrh, hmram]
    exact ⟨hs.trans hr, hh, fun h => absurd h hold, he, hn⟩

/-! ### Walks over the flywheels -/

/-- Of Forecast, only flywheels may have changed. -/
def FwOnly (s t : State) : Prop := t.fc = { s.fc with fw := t.fc.fw }

theorem FwOnly.trans {s t u : State} (h : FwOnly s t) (g : FwOnly t u) : FwOnly s u := Eq.trans g (by rw [show t.fc = _ from h])

theorem FwOnly.each {α : Type} (l : List α) (g : State → α → State) (h : ∀ t a, FwOnly t (g t a)) : ∀ s, FwOnly s (s.each l g) := by
  induction l with
  | nil => exact fun _ => rfl
  | cons a l ih => exact fun s => (h s a).trans (ih (g s a))

theorem FwOnly.get {s t : State} (h : FwOnly s t) {β : Type} (p : Forecast → β) (hp : ∀ x v, p { x with fw := v } = p x) : p t.fc = p s.fc := by
  rw [show t.fc = _ from h, hp]

/-- What a flywheel makes of the window that ends, in which it was observed or not. -/
def State.lookedAt (o : Option Rat) : State :=
  match o with
  | some y => s.takeObservation f y
  | none => s.mapFw f Flywheel.breakAdev

theorem State.lookedAt_only (o : Option Rat) : FwOnly s (s.lookedAt f o) := by
  cases o with
  | none => exact (s.mapFw_step f _).rest
  | some y => exact (s.takeObservation_step f y).rest

theorem State.lookedAt_within (o : Option Rat) : Within (partsOf [.freeCtr, .fc, .flt]) s (s.lookedAt f o) := by
  cases o with
  | none => exact Within.start.mapFw.mono (by decide)
  | some y => exact Within.start.takeObservation.mono (by decide)

/-- The point of R169 and R174 taken: the instants of Forecast before its flywheels learn. -/
def State.pointTaken : State :=
  { s with fc.obsDue := s.fc.obsDue + 16 * secCyc, fc.predictions := ((s.sys.cyc, s.ofUse s.predict) :: s.fc.predictions).take 626,
           fc.obsStart := s.obsPoint }

theorem execForecastObservation_due (h : s.fc.obsDue ≤ s.sys.cyc) : ∃ look : Fin 3 → Option Rat,
    exec .forecastObservation s = .next (s.pointTaken.each (List.finRange 3) fun t f => t.lookedAt f (look f)) ∧
    (s.fc.obsStart = none ∨ s.obsPoint = none → ∀ f, look f = none) := by
  change ∃ look, execForecastObservation s = _ ∧ _
  unfold execForecastObservation
  rw [if_neg (by omega)]
  extract_lets b _ s0 start look
  refine ⟨look, ?_, ?_⟩
  · refine congrArg (fun g => Host.Outcome.next (State.each s.pointTaken (List.finRange 3) g)) (funext fun t => funext fun f => ?_)
    cases look f <;> rfl
  · rintro (h | h) f
    · have hs : start = none := by simp only [start, h, Option.filter_none]
      simp only [look, hs]
    · have hb : b = none := h
      simp only [look, hb]
      cases start <;> rfl

/-- A flywheel that was not observed keeps its hour and its model. -/
theorem State.each_unobserved (l : List (Fin 3)) : ∀ (s : State) (f : Fin 3),
    (s.each l fun t f => t.lookedAt f none).fc.fw[f].hour = s.fc.fw[f].hour ∧
    (s.each l fun t f => t.lookedAt f none).fc.fw[f].model = s.fc.fw[f].model := by
  induction l with
  | nil => exact fun _ _ => ⟨rfl, rfl⟩
  | cons a l ih =>
    intro s f
    obtain ⟨hh, hm⟩ := ih (s.lookedAt a none) f
    change (State.each (s.lookedAt a none) l fun t f => t.lookedAt f none).fc.fw[f].hour = _ ∧
      (State.each (s.lookedAt a none) l fun t f => t.lookedAt f none).fc.fw[f].model = _
    rw [hh, hm]
    obtain rfl | hf := eq_or_ne f a
    · have at_ : (s.lookedAt f none).fc.fw[f] = s.fc.fw[f].breakAdev := s.mapFw_at f _
      rw [at_]
      exact ⟨rfl, rfl⟩
    · have other : (s.lookedAt a none).fc.fw[f] = s.fc.fw[f] := s.mapFw_others a _ f hf
      rw [other]
      exact ⟨rfl, rfl⟩

theorem State.obsPoint_locked {i : Fin 16} {b : Nat × Int × Int} (he : s.sys.engine = .locked) (hw : s.wv.switch = none) (hd : s.disputeOpen = false)
    (hi : s.wv.selected = some i) (hb : s.fc.history.head? = some b) (ho : s.fc.obsBreak ≤ b.1) : s.obsPoint = some (i, b) := by
  simp [State.obsPoint, he, hw, hd, hi, hb, ho]

theorem State.obsPoint_elsewhere (hl : s.sys.engine ≠ .locked) (hw : s.sys.engine ≠ .warmup) : s.obsPoint = none := by
  unfold State.obsPoint
  cases he : s.sys.engine with
  | locked => exact absurd he hl
  | warmup => exact absurd he hw
  | _ => simp

/-! ### The conditions that the collector holds -/

theorem State.pushMsg_present (m : FaultMsg) : (s.pushMsg m).flt.present = s.flt.present := by
  unfold State.pushMsg
  extract_lets i
  split <;> rfl

theorem State.raiseDropped_present (i : Fin 16) : (s.raiseDropped i).flt.present = s.flt.present := by
  unfold State.raiseDropped
  split
  · exact State.pushMsg_present _ _
  · rfl

/-- A condition raised joins those present, once. -/
theorem State.raise_present (k : FaultKind) (d : Nat) : (s.raise k d).flt.present =
    if k.cond && !s.flt.present.contains (k.msg d) then s.flt.present ++ [k.msg d] else s.flt.present := by
  unfold State.raise
  extract_lets m full s1 s2
  have h2 : s2.flt.present = s.flt.present := by
    simp only [s2]
    split
    · exact (s1.raiseDropped_present _).trans (s.pushMsg_present m)
    · exact s.pushMsg_present m
  rw [apply_ite (fun t : State => t.flt.present)]
  exact ite_congr rfl (fun _ => congrArg (· ++ [m]) h2) fun _ => h2

theorem State.condition_present (k : FaultKind) (d : Nat) (hk : k.cond = true) : k.msg d ∈ (s.condition k d).flt.present := by
  unfold State.condition
  split
  · next h => exact List.contains_iff_mem.mp h
  · next h =>
    rw [State.raise_present, if_pos (by rw [hk, Bool.eq_false_iff.mpr h]; rfl)]
    exact List.mem_append_right _ List.mem_cons_self

theorem State.condition_hasCause {k : FaultKind} (d : Nat) (hk : k.cond = true) : (s.condition k d).hasCause k = true :=
  List.any_eq_true.mpr ⟨k.msg d, s.condition_present k d hk, by simp [FaultKind.msg]⟩

/-! ### Stale models -/

theorem execModelAgeExpiry_due {c : Nat} (hm : s.fc.fw[f].model.isSome = true) (hc : s.fc.fw[f].lastAccept = some c)
    (h : c + s.fc.fw[f].cfg.nat Ix.fwMaxAge * 54000000000000 < s.sys.cyc) :
    exec (.modelAgeExpiry f) s = .next ((s.mapFw f fun w => { w with ageStale := true, ageRun := 0 }).noteStale f) := by
  change execModelAgeExpiry f s = _
  have due : (s.fc.fw[f].lastAccept.getD 0) + s.fc.fw[f].cfg.nat Ix.fwMaxAge * 86400 * secCyc < s.sys.cyc := by
    rw [hc, Option.getD_some, Nat.mul_assoc]
    exact h
  exact if_pos (by rw [hm, decide_eq_true due]; rfl)

theorem execTempGapExpiry_due (hm : s.fc.fw[f].model.isSome = true) (hs : s.fc.fw[f].cfg.nat Ix.fwTempSrc ≤ 3)
    (h : s.fc.fw[f].lastGood + 2250000000000 < s.sys.cyc) :
    exec (.tempGapExpiry f) s = .next ((s.mapFw f fun w => { w with gapStale := true, gapRun := 0 }).noteStale f) := by
  change execTempGapExpiry f s = _
  have due : s.fc.fw[f].lastGood + 3600 * secCyc < s.sys.cyc := h
  exact if_pos (by rw [hm, decide_eq_true hs, decide_eq_true due]; rfl)

/-- A flywheel that became stale, with what the collector hears of it. -/
theorem State.mapFw_noteStale (g : Flywheel → Flywheel) : ((s.mapFw f g).noteStale f).fc.fw[f] = g s.fc.fw[f] ∧
    (∀ h, h ≠ f → ((s.mapFw f g).noteStale f).fc.fw[h] = s.fc.fw[h]) ∧
    (s.mapFw f g).noteStale f = { s with fc.fw := ((s.mapFw f g).noteStale f).fc.fw, flt := ((s.mapFw f g).noteStale f).flt } := by
  have w : Within _ (s.mapFw f g) ((s.mapFw f g).noteStale f) := Within.start.noteStale
  have e := w.eq
  have hfc : ((s.mapFw f g).noteStale f).fc = (s.mapFw f g).fc := State.noteStale_fc _ f
  generalize (s.mapFw f g).noteStale f = t at e hfc
  refine ⟨?_, fun h hh => ?_, ?_⟩
  · rw [hfc, State.mapFw_at]
  · rw [hfc, s.mapFw_others f g h hh]
  · rw [hfc]
    exact e

/-! ### Feed-forward -/

theorem execFeedforwardUpdate_due (h : s.loop.ffDue ≤ s.sys.cyc) : exec .feedforwardUpdate s = .next (
    let u := (State.applied { s with loop.ffDue := s.sys.cyc + 62500000 } 6 1).retuneAll
    if !s.afterInit then u
    else if u.fc.holding then u.followAid.loopRequest (if u.followAid.loop.aided then u.followAid.loop.aidRate else u.followAid.forecastRate)
    else
      let v := u.useFlywheel u.chooseFlywheel
      if v.loop.phase = .off || v.wv.selected.isNone || v.wv.switch.isSome then v
      else State.loopRequest { v with loop.ff := v.forecastRate } (v.forecastRate + v.loop.corr)) := by
  change execFeedforwardUpdate s = _
  unfold execFeedforwardUpdate
  rw [if_neg (by omega)]
  dsimp only
  rw [apply_ite Host.Outcome.next, apply_ite Host.Outcome.next, apply_ite Host.Outcome.next]

/-! ### The ends of an hour and of a day -/

/-- A flywheel, its hourly bins and the hold as they are in another state. -/
def SameHour (f : Fin 3) (s t : State) : Prop :=
  t.fc.fw[f] = s.fc.fw[f] ∧ t.mram.hourly[f] = s.mram.hourly[f] ∧ t.fc.holding = s.fc.holding

/-- A flywheel's hour as it ended between two states. -/
def EndedHour (f : Fin 3) (s t : State) : Prop :=
  t.fc.fw[f].hour = [] ∧ (s.fc.fw[f].hour ≠ [] → ∃ b, t.mram.hourly[f] = (b :: s.mram.hourly[f]).take 8760) ∧
  (s.fc.fw[f].hour = [] → t.mram.hourly[f] = s.mram.hourly[f]) ∧ (s.fc.holding = true → t.fc.fw[f].model = s.fc.fw[f].model)

theorem State.endHour_same (g : Fin 3) (h : f ≠ g) : SameHour f s (s.endHour g) := by
  obtain ⟨hs, -, -, he, hn⟩ := s.endHour_step g
  refine ⟨hs.others f h, ?_, by rw [hs.rest]⟩
  by_cases hg : s.fc.fw[g].hour = []
  · rw [he hg]
  · obtain ⟨b, hb⟩ := hn hg
    rw [hb]
    exact upd_other _ _ _ _ h.symm

theorem EndedHour.of_same {s t : State} (h : SameHour f s t) : EndedHour f s (t.endHour f) := by
  obtain ⟨hfw, hbins, hhold⟩ := h
  obtain ⟨-, hh, hm, he, hn⟩ := t.endHour_step f
  rw [hfw] at hm he hn
  rw [hhold] at hm
  refine ⟨hh, fun hne => ?_, fun h0 => by rw [he h0, hbins], hm⟩
  obtain ⟨b, hb⟩ := hn hne
  exact ⟨b, by rw [hb, ← hbins]; exact upd_same ..⟩

theorem EndedHour.keep {s t u : State} (h : EndedHour f s t) (g : SameHour f t u) : EndedHour f s u := by
  obtain ⟨hfw, hbins, -⟩ := g
  rw [EndedHour, hfw, hbins]
  exact h

/-- All three hours end. -/
theorem State.endHour_each : EndedHour f s (s.each (List.finRange 3) State.endHour) ∧ FwOnly s (s.each (List.finRange 3) State.endHour) :=
  ⟨State.each_reaches (Q := SameHour f s) (P := EndedHour f s)
    (fun t g hg h => ⟨(t.endHour_same f g hg.symm).1.trans h.1, (t.endHour_same f g hg.symm).2.1.trans h.2.1, (t.endHour_same f g hg.symm).2.2.trans h.2.2⟩)
    (fun _ h => .of_same f h) (fun t g hg h => h.keep f (t.endHour_same f g hg.symm)) (List.nodup_finRange 3) (List.mem_finRange f) s ⟨rfl, rfl, rfl⟩,
  FwOnly.each _ _ (fun t g => (t.endHour_step g).1.rest) s⟩

/-- A flywheel, its daily bins and the hold as they are in another state. -/
def SameDay (f : Fin 3) (s t : State) : Prop :=
  t.fc.fw[f] = s.fc.fw[f] ∧ t.mram.daily[f] = s.mram.daily[f] ∧ t.fc.holding = s.fc.holding

/-- A flywheel's day as it ended between two states. -/
def EndedDay (f : Fin 3) (s t : State) : Prop :=
  t.fc.fw[f].day = [] ∧ (s.fc.fw[f].day ≠ [] → ∃ b, t.mram.daily[f] = (b :: s.mram.daily[f]).take 7320) ∧
  (s.fc.fw[f].day = [] → t.mram.daily[f] = s.mram.daily[f]) ∧ (s.fc.holding = true → t.fc.fw[f].model = s.fc.fw[f].model)

theorem State.endDay_same (g : Fin 3) (h : f ≠ g) : SameDay f s (s.endDay g) := by
  obtain ⟨hs, -, -, he, hn⟩ := s.endDay_step g
  refine ⟨hs.others f h, ?_, by rw [hs.rest]⟩
  by_cases hg : s.fc.fw[g].day = []
  · rw [he hg]
  · obtain ⟨b, hb⟩ := hn hg
    rw [hb]
    exact upd_other _ _ _ _ h.symm

theorem EndedDay.of_same {s t : State} (h : SameDay f s t) : EndedDay f s (t.endDay f) := by
  obtain ⟨hfw, hbins, hhold⟩ := h
  obtain ⟨-, hh, hm, he, hn⟩ := t.endDay_step f
  rw [hfw] at hm he hn
  rw [hhold] at hm
  refine ⟨hh, fun hne => ?_, fun h0 => by rw [he h0, hbins], hm⟩
  obtain ⟨b, hb⟩ := hn hne
  exact ⟨b, by rw [hb, ← hbins]; exact upd_same ..⟩

theorem EndedDay.keep {s t u : State} (h : EndedDay f s t) (g : SameDay f t u) : EndedDay f s u := by
  obtain ⟨hfw, hbins, -⟩ := g
  rw [EndedDay, hfw, hbins]
  exact h

/-- All three days end. -/
theorem State.endDay_each : EndedDay f s (s.each (List.finRange 3) State.endDay) ∧ FwOnly s (s.each (List.finRange 3) State.endDay) :=
  ⟨State.each_reaches (Q := SameDay f s) (P := EndedDay f s)
    (fun t g hg h => ⟨(t.endDay_same f g hg.symm).1.trans h.1, (t.endDay_same f g hg.symm).2.1.trans h.2.1, (t.endDay_same f g hg.symm).2.2.trans h.2.2⟩)
    (fun _ h => .of_same f h) (fun t g hg h => h.keep f (t.endDay_same f g hg.symm)) (List.nodup_finRange 3) (List.mem_finRange f) s ⟨rfl, rfl, rfl⟩,
  FwOnly.each _ _ (fun t g => (t.endDay_step g).1.rest) s⟩

/-- Settles O22: what RATE follows in each mode, the window of an observation, and the refits and ages of the flywheels. -/
theorem feedforwardLearningAndStaleModels : Obligations.FeedforwardLearningAndStaleModels := by
  unfold Obligations.FeedforwardLearningAndStaleModels
  refine ⟨⟨fun s h => if_pos h, fun s u h hu => ⟨fun ha => ?_, fun ha hh => ?_, fun ha hh hp hs hw => ?_⟩, fun s hl hd hc => ?_⟩,
    fun s i b hd he hw hdis hi hb ho => ?_, fun s hd hl hw => ?_, fun s f y hm => ?_, fun s hd => ?_, fun s hd => ?_, fun s f c hm hc h => ?_,
    fun s f hm hs h => ?_⟩
  · subst hu
    rw [execFeedforwardUpdate_due s h]
    exact congrArg _ (if_pos (by rw [ha]; rfl))
  · subst hu
    rw [execFeedforwardUpdate_due s h]
    exact congrArg _ ((if_neg (by rw [ha]; decide)).trans (if_pos hh))
  · have w : Within _ u (u.useFlywheel u.chooseFlywheel) := Within.start.useFlywheel
    have hl : (u.useFlywheel u.chooseFlywheel).loop = u.loop := w .loop (by decide)
    have hwv : (u.useFlywheel u.chooseFlywheel).wv = u.wv := w.wv_eq (by decide) (by decide)
    rw [execFeedforwardUpdate_due s h, ← hu]
    refine congrArg _ ((if_neg (by rw [ha]; decide)).trans ((if_neg (by rw [hh]; decide)).trans ?_))
    dsimp only
    rw [hl, hwv, if_neg (by simp [hp, hw, hs])]
  · have hex : exec .loopSlewPersist s = .next (s.condition Flt.loopSlew s.loop.phase.code) := by
      change execLoopSlewPersist s = _
      exact if_pos (by rw [hl, hc, decide_eq_true (show s.loop.slewSince + 60 * secCyc ≤ s.sys.cyc from hd)]; rfl)
    exact ⟨_, hex, s.condition_hasCause _ rfl, (Within.start.condition : Within _ s (s.condition Flt.loopSlew s.loop.phase.code)).eq⟩
  · obtain ⟨look, hex, hnone⟩ := execForecastObservation_due s hd
    have only : FwOnly s.pointTaken (s.pointTaken.each (List.finRange 3) fun t f => t.lookedAt f (look f)) :=
      FwOnly.each _ _ (fun t f => t.lookedAt_only f (look f)) _
    have w : Within (partsOf [.freeCtr, .fc, .flt]) s (s.pointTaken.each (List.finRange 3) fun t f => t.lookedAt f (look f)) :=
      ((Within.start.set (partsOf [.fc]) : Within _ s s.pointTaken).each fun t f => t.lookedAt_within f (look f)).mono (by decide)
    refine ⟨_, hex, ?_, only.get Forecast.obsDue fun _ _ => rfl, only.get Forecast.predictions fun _ _ => rfl, fun f hs => ?_,
      w.ts_eq (by decide), w.wv_eq (by decide) (by decide), w.sys_eq (by decide) (by decide), w.outs_eq (by decide) (by decide) (by decide), w .loop (by decide)⟩
    · exact (only.get Forecast.obsStart fun _ _ => rfl).trans (s.obsPoint_locked he hw hdis hi hb ho)
    · have none : (fun (t : State) f => t.lookedAt f (look f)) = fun t f => t.lookedAt f none := by
        funext t f
        rw [hnone (.inl hs) f]
      rw [none]
      exact (s.pointTaken.each_unobserved _ f).1
  · obtain ⟨look, hex, hnone⟩ := execForecastObservation_due s hd
    have idle : (fun (t : State) f => t.lookedAt f (look f)) = fun t f => t.lookedAt f none := by
      funext t f
      rw [hnone (.inr (s.obsPoint_elsewhere hl hw)) f]
    rw [idle] at hex
    have only : FwOnly s.pointTaken (s.pointTaken.each (List.finRange 3) fun t f => t.lookedAt f none) :=
      FwOnly.each _ _ (fun t f => t.lookedAt_only f none) _
    have w : Within (partsOf [.fc]) s (s.pointTaken.each (List.finRange 3) fun t f => t.lookedAt f none) :=
      ((Within.start.set (partsOf [.fc]) : Within _ s s.pointTaken).each fun t f =>
        (Within.start.mapFw : Within _ t (t.mapFw f Flywheel.breakAdev))).mono (by decide)
    exact ⟨_, hex, (only.get Forecast.obsStart fun _ _ => rfl).trans (s.obsPoint_elsewhere hl hw), only.get Forecast.obsDue fun _ _ => rfl,
      s.pointTaken.each_unobserved _, w.eq⟩
  · rw [s.takeObservation_first f hm]
    obtain ⟨hs, hh, hday⟩ := s.acceptObservation_step f y
    exact ⟨hh, hday, hs.others⟩
  · let u : State := { s with fc.hourDue := s.fc.hourDue + 3600 * secCyc }
    have w : Within (partsOf [.freeCtr, .mram, .fc]) s (u.each (List.finRange 3) State.endHour) :=
      ((Within.start.set (partsOf [.fc]) : Within _ s u).each fun _ _ => Within.start.endHour).mono (by decide)
    exact ⟨_, if_neg (by omega), (u.endHour_each 0).2.get Forecast.hourDue fun _ _ => rfl, fun f => (u.endHour_each f).1, w.eq⟩
  · let u : State := { s with fc.dayDue := s.fc.dayDue + 86400 * secCyc }
    have w : Within (partsOf [.freeCtr, .mram, .fc]) s (u.each (List.finRange 3) State.endDay) :=
      ((Within.start.set (partsOf [.fc]) : Within _ s u).each fun _ _ => Within.start.endDay).mono (by decide)
    exact ⟨_, if_neg (by omega), (u.endDay_each 0).2.get Forecast.dayDue fun _ _ => rfl, fun f => (u.endDay_each f).1, w.eq⟩
  · rw [execModelAgeExpiry_due s f hm hc h]
    obtain ⟨ht, ho, ho2⟩ := s.mapFw_noteStale f fun w => { w with ageStale := true, ageRun := 0 }
    exact ⟨_, rfl, ht, ho, ho2⟩
  · rw [execTempGapExpiry_due s f hm hs h]
    obtain ⟨ht, ho, ho2⟩ := s.mapFw_noteStale f fun w => { w with gapStale := true, gapRun := 0 }
    exact ⟨_, rfl, ht, ho, ho2⟩

end Sys2Proof.Machine

/-! PROOFS of family 'other', the SENSE bus: O23. -/

namespace Sys2Proof.Machine

variable (s : State)

theorem State.raise_sys (k : FaultKind) (d : Nat) : (s.raise k d).sys = s.sys :=
  (Within.start.raise : Within _ s (s.raise k d)).sys_eq (by decide) (by decide)

theorem State.causeGone_sys (k : FaultKind) (p : Nat → Bool) : (s.causeGone k p).sys = s.sys :=
  (Within.start.causeGone : Within _ s (s.causeGone k p)).sys_eq (by decide) (by decide)

/-! ### Temperatures reach flywheels alone -/

theorem State.followExtrapolation_only (f : Fin 3) : FwOnly s (s.followExtrapolation f) := by
  unfold State.followExtrapolation
  extract_lets out s1
  have h1 : FwOnly s s1 := (s.mapFw_step f _).rest
  split
  · exact h1.trans (FwStep.of_eq (f := f) (State.raise_fc _ _ _)).rest
  · exact h1

theorem State.feedTemp_only (f : Fin 3) (t : Rat) : FwOnly s (s.feedTemp f t) := by
  unfold State.feedTemp
  split
  · exact FwOnly.trans (s.mapFw_step f _).rest (State.followExtrapolation_only _ f)
  · exact rfl

theorem State.feedIdle_only (f : Fin 3) : FwOnly s (s.feedIdle f) := by
  unfold State.feedIdle
  extract_lets w
  split
  · exact FwOnly.trans (s.feedTemp_only f _) (State.mapFw_step _ f _).rest
  · split
    · dsimp only
      split
      · exact s.feedTemp_only f _
      · exact rfl
    · exact rfl

/-- An overheated or cooled die changes its mark and the collector. -/
theorem State.followOvertemp_out : s.followOvertemp.sys.onDie = s.sys.onDie ∧ s.followOvertemp.fc = s.fc := by
  refine ⟨?_, (Within.start.followOvertemp : Within _ s s.followOvertemp) .fc (by decide)⟩
  unfold State.followOvertemp
  split
  · split
    · rfl
    · rw [State.raise_sys]
  · split
    · rw [State.causeGone_sys]
    · rfl

/-! ### Reads start -/

theorem State.startSense_sensors (i : Fin 4) : (s.startSense i).fc.sensors = upd s.fc.sensors i fun x => { x with reading := true } := rfl

theorem State.each_startSense (k : Fin 4) (l : List (Fin 4)) : ∀ s : State, (s.each l State.startSense).fc.sensors[k] =
    { s.fc.sensors[k] with reading := s.fc.sensors[k].reading || decide (k ∈ l) } := by
  induction l with
  | nil => exact fun s => by simp [State.each]
  | cons a l ih =>
    intro s
    rw [show s.each (a :: l) State.startSense = (s.startSense a).each l State.startSense from rfl, ih, State.startSense_sensors]
    obtain rfl | h := eq_or_ne k a
    · rw [upd_same]; simp
    · rw [upd_other _ _ _ _ h.symm]; simp [h]

/-- A walk over flywheels alone keeps the sensors. -/
theorem FwOnly.sensors {s t : State} (h : FwOnly s t) : t.fc.sensors = s.fc.sensors := h.get Forecast.sensors fun _ _ => rfl

theorem State.each_feedTemp_only (l : List (Fin 3)) (v : Rat) : FwOnly s (s.each l fun u f => u.feedTemp f v) :=
  FwOnly.each _ _ (fun u f => u.feedTemp_only f v) s

/-! ### Results of reads -/

/-- A sensor after a failed read. -/
def Sensor.failed (x : Sensor) : Sensor :=
  if x.fallback then { x with reading := false, goods := 0 }
  else if x.fails < 2 then { x with reading := false, fails := x.fails + 1 }
  else
    { x with reading := false, fails := 3, goods := 0, fallback := true,
             offset := if x.diffs.isEmpty then x.offset else meanOf (x.diffs.map Prod.snd) }

/-- The state with one sensor changed. -/
def State.mapSensor (i : Fin 4) (g : Sensor → Sensor) : State := { s with fc.sensors := upd s.fc.sensors i g }

theorem State.mapSensor_sensors (i : Fin 4) {g h : Sensor → Sensor} (e : g s.fc.sensors[i] = h s.fc.sensors[i]) :
    (s.mapSensor i g).fc.sensors = upd s.fc.sensors i h := upd_congr _ _ e

/-- The flywheels that take their temperature from a sensor. -/
def State.users (i : Fin 4) : List (Fin 3) := (List.finRange 3).filter fun f => s.fc.fw[f].usesSensor i

/-- The offset that the fallback of a sensor starts with. -/
def Sensor.nextOffset (x : Sensor) : Rat := if x.diffs.isEmpty then x.offset else meanOf (x.diffs.map Prod.snd)

theorem State.senseBad_eq (i : Fin 4) : s.senseBad i =
    if s.fc.sensors[i].fallback then s.mapSensor i fun x => { x with reading := false, goods := 0 }
    else if s.fc.sensors[i].fails < 2 then
      match s.fc.sensors[i].lastGood with
      | some v => (s.mapSensor i fun x => { x with reading := false, fails := x.fails + 1 }).each (s.users i) fun u f => u.feedTemp f v
      | none => s.mapSensor i fun x => { x with reading := false, fails := x.fails + 1 }
    else
      ((s.mapSensor i fun x => { x with reading := false, fails := 3, goods := 0, fallback := true, offset := s.fc.sensors[i].nextOffset }).raise
        Flt.senseFail i.val).each (s.users i) fun u f => u.feedTemp f (s.onDieMean + s.fc.sensors[i].nextOffset) := rfl

theorem State.senseBad_sensors (i : Fin 4) : (s.senseBad i).fc.sensors = upd s.fc.sensors i Sensor.failed := by
  rw [s.senseBad_eq i]
  split
  · next h => exact s.mapSensor_sensors i (by rw [Sensor.failed, if_pos h])
  · next h =>
    split
    · next hf =>
      have missed := s.mapSensor_sensors i (g := fun x => { x with reading := false, fails := x.fails + 1 }) (h := Sensor.failed)
        (by rw [Sensor.failed, if_neg h, if_pos hf])
      split
      · exact (State.each_feedTemp_only _ _ _).sensors.trans missed
      · exact missed
    · next hf =>
      rw [(State.each_feedTemp_only _ _ _).sensors, State.raise_fc]
      exact s.mapSensor_sensors i (by rw [Sensor.failed, if_neg h, if_neg hf]; rfl)

/-- A sensor that takes a good read: in fallback the tenth in a row ends it. -/
def Sensor.returns (x : Sensor) (v : Rat) : Sensor :=
  let back := 10 ≤ x.goods + 1
  { x with reading := false, goods := if back then 0 else x.goods + 1, fails := 0, fallback := !back, lastGood := if back then some v else x.lastGood }

/-- A sensor outside fallback that takes a good read, with its difference from the die. -/
def Sensor.reads (x : Sensor) (v d : Rat) (cyc : Nat) : Sensor :=
  { x with reading := false, fails := 0, lastGood := some v, diffs := (cyc, d) :: x.diffs.filter (fun e => cyc ≤ e.1 + 3600 * secCyc) }

/-- The flywheels that use a sensor, marked with a good reading of now. -/
def State.marked (i : Fin 4) : State := s.each (s.users i) fun t f => t.mapFw f fun w => { w with lastGood := s.sys.cyc }

theorem State.marked_sensors (i : Fin 4) : (s.marked i).fc.sensors = s.fc.sensors :=
  FwOnly.sensors (FwOnly.each _ _ (fun t f => (t.mapFw_step f _).rest) s)

theorem State.senseGood_eq (i : Fin 4) (v : Rat) : s.senseGood i v =
    if s.fc.sensors[i].fallback then
      let t := (s.marked i).mapSensor i fun x =>
        { x with reading := false, goods := if 10 ≤ s.fc.sensors[i].goods + 1 then 0 else x.goods + 1, fails := 0,
                 fallback := !decide (10 ≤ s.fc.sensors[i].goods + 1), lastGood := if 10 ≤ s.fc.sensors[i].goods + 1 then some v else x.lastGood }
      if 10 ≤ s.fc.sensors[i].goods + 1 then (t.causeEnds Flt.senseFail i.val).each (s.users i) fun u f => u.feedTemp f v else t
    else
      ((s.marked i).mapSensor i fun x => x.reads v (v - s.onDieMean) s.sys.cyc).each (s.users i) fun u f => u.feedTemp f v := rfl

/-- A sensor after a good read: in fallback the tenth in a row ends it, otherwise it is the last good one. -/
def Sensor.took (x : Sensor) (v d : Rat) (cyc : Nat) : Sensor := if x.fallback then x.returns v else x.reads v d cyc

theorem State.senseGood_sensors (i : Fin 4) (v : Rat) :
    (s.senseGood i v).fc.sensors = upd s.fc.sensors i fun x => x.took v (v - s.onDieMean) s.sys.cyc := by
  rw [s.senseGood_eq i v, ← s.marked_sensors i]
  split
  · next h =>
    extract_lets t
    have ht : t.fc.sensors = upd (s.marked i).fc.sensors i fun x => x.took v (v - s.onDieMean) s.sys.cyc :=
      State.mapSensor_sensors _ i (by rw [Sensor.took, if_pos h]; rfl)
    clear_value t
    split
    · have ended : (t.causeEnds Flt.senseFail i.val).fc = t.fc := (Within.start.causeEnds : Within _ t _) .fc (by decide)
      rw [(State.each_feedTemp_only _ _ _).sensors, ended, ht]
    · exact ht
  · next h =>
    rw [(State.each_feedTemp_only _ _ _).sensors]
    exact State.mapSensor_sensors _ i (by rw [Sensor.took, if_neg h])

theorem Sensor.took_out (x : Sensor) (v d : Rat) (cyc : Nat) : (x.took v d cyc).reading = false ∧
    (x.fallback = false → (x.took v d cyc).lastGood = some v ∧ (x.took v d cyc).fallback = false) ∧
    (x.fallback = true → ((x.took v d cyc).fallback = false ↔ 10 ≤ x.goods + 1)) := by
  unfold Sensor.took
  split
  · next h =>
    refine ⟨rfl, fun hn => absurd h (by rw [hn]; decide), fun _ => ?_⟩
    simp only [Sensor.returns, Bool.not_eq_false', decide_eq_true_eq]
  · next h => exact ⟨rfl, fun hn => ⟨rfl, hn⟩, fun hy => absurd hy h⟩

theorem execSenseReadResult_good {i : Fin 4} {r : SenseRead} {v : Rat} (hr : s.fc.sensors[i].reading = true)
    (hg : s.goodRead s.fc.sensors[i] r = some v) : exec (.senseReadResult i r) s = .next (s.senseGood i v) := by
  change execSenseReadResult i r s = _
  unfold execSenseReadResult
  rw [if_neg (by rw [hr]; decide), hg]

theorem execSenseReadResult_bad {i : Fin 4} {r : SenseRead} (hr : s.fc.sensors[i].reading = true)
    (hg : s.goodRead s.fc.sensors[i] r = none) : exec (.senseReadResult i r) s = .next (s.senseBad i) := by
  change execSenseReadResult i r s = _
  unfold execSenseReadResult
  rw [if_neg (by rw [hr]; decide), hg]

/-- The on-die sensors read, with the feeds of the flywheels that need no SENSE read. -/
def State.dieRead (l : List Int) : State :=
  (State.followOvertemp { s with sys.onDie := Vector.ofFn fun i => l.getD i.val (s.sys.onDie[i]), sys.onDieRead := true }).each
    (List.finRange 3) State.feedIdle

theorem State.dieRead_out (l : List Int) : (s.dieRead l).fc.sensors = s.fc.sensors ∧
    (s.dieRead l).sys.onDie = Vector.ofFn fun i : Fin 4 => l.getD i.val (s.sys.onDie[i]) := by
  let u : State := { s with sys.onDie := Vector.ofFn fun i => l.getD i.val (s.sys.onDie[i]), sys.onDieRead := true }
  have w : Within (partsOf [.fc, .flt]) u.followOvertemp (s.dieRead l) :=
    (Within.start.each fun _ _ => Within.start.feedIdle).mono (by decide)
  have only : FwOnly u.followOvertemp (s.dieRead l) := FwOnly.each _ _ (fun t f => t.feedIdle_only f) _
  exact ⟨only.sensors.trans (congrArg Forecast.sensors u.followOvertemp_out.2),
    (congrArg Sys.onDie (w.sys_eq (by decide) (by decide))).trans u.followOvertemp_out.1⟩

/-- The sensors whose read starts in a cycle. -/
def State.toRead : List (Fin 4) := (List.finRange 4).filter fun i => !(s.fc.sensors[i]).absent && !(s.fc.sensors[i]).fallback

/-- A read cycle, its reads started. -/
def State.readStarted (l : List Int) : State := (s.dieRead l).each s.toRead State.startSense

theorem State.readStarted_within (l : List Int) : Within (partsOf [.engine, .sys, .fc, .flt, .emits]) s (s.readStarted l) :=
  (((Within.start.set (partsOf [.sys])).followOvertemp.each fun _ _ => Within.start.feedIdle).each fun _ _ => Within.start.startSense).mono (by decide)

theorem State.readStarted_sys (l : List Int) : (s.readStarted l).sys = (s.dieRead l).sys :=
  ((Within.start.each fun _ _ => Within.start.startSense).mono (by decide) : Within (partsOf [.fc, .emits]) (s.dieRead l) (s.readStarted l)).sys_eq
    (by decide) (by decide)

theorem State.readStarted_sensors (l : List Int) (k : Fin 4) : (s.readStarted l).fc.sensors[k] =
    { s.fc.sensors[k] with reading := s.fc.sensors[k].reading || (!s.fc.sensors[k].absent && !s.fc.sensors[k].fallback) } := by
  have hsens := (s.dieRead_out l).1
  have read : decide (k ∈ s.toRead) = (!s.fc.sensors[k].absent && !s.fc.sensors[k].fallback) := by
    simp [-Fin.getElem_fin, State.toRead]
  rw [State.readStarted, State.each_startSense, read, hsens]

/-- Settles O23: the reads that a cycle starts, and the runs of failed and of good ones. -/
theorem senseReadsFallBackAndReturn : Obligations.SenseReadsFallBackAndReturn := by
  unfold Obligations.SenseReadsFallBackAndReturn
  refine ⟨fun s l hl => ?_, fun s i hf ha => ?_, fun s i r h => ?_, fun s i r hr hg hf => ?_, fun s i r v hr hg => ?_⟩
  · obtain ⟨hsens, hdie⟩ := s.dieRead_out l
    have w := s.readStarted_within l
    have hsys := s.readStarted_sys l
    have hs := s.readStarted_sensors l
    have hex : exec (.senseReadCycle l) s = .next (s.readStarted l) := by
      change execSenseReadCycle l s = _
      rfl
    generalize s.readStarted l = t at w hsys hs hex
    refine ⟨t, hex, fun k => ?_, fun k => ?_, w.eq⟩
    · rw [hsys, hdie]
      simp [List.getD_eq_getElem?_getD, hl]
    · rw [hs k]
  · refine ⟨s.startSense i, if_pos (by rw [hf, ha]; rfl), ?_, fun j hj => ?_, rfl, rfl⟩
    · rw [State.startSense_sensors, upd_same]
    · rw [State.startSense_sensors, upd_other _ _ _ _ hj.symm]
  · exact if_pos (by rw [h]; rfl)
  · have w : Within _ s (s.senseBad i) := Within.start.senseBad
    refine ⟨_, execSenseReadResult_bad s hr hg, ?_⟩
    rw [State.senseBad_sensors, upd_same]
    refine ⟨?_, fun h => ?_, fun h => ?_, fun j hj => upd_other _ _ _ _ hj.symm, w.eq⟩
    · unfold Sensor.failed
      split
      · rfl
      · split <;> rfl
    · rw [Sensor.failed, if_neg (by rw [hf]; decide), if_pos h]
      exact ⟨hf, rfl⟩
    · rw [Sensor.failed, if_neg (by rw [hf]; decide), if_neg (by omega)]
      exact ⟨rfl, rfl⟩
  · have w : Within _ s (s.senseGood i v) := Within.start.senseGood
    obtain ⟨h1, h2, h3⟩ := s.fc.sensors[i].took_out v (v - s.onDieMean) s.sys.cyc
    refine ⟨_, execSenseReadResult_good s hr hg, ?_⟩
    rw [s.senseGood_sensors i v, upd_same]
    exact ⟨h1, h2, h3, fun j hj => upd_other _ _ _ _ hj.symm, w.eq⟩

end Sys2Proof.Machine

/-! PROOFS of family 'other', locks of the synthesizers: O24. -/

namespace Sys2Proof.Machine

variable (s : State) (o : Fin 4)

/-! ### Synthesizers and pins -/

@[simp] theorem State.mapOs_at (f : Synth → Synth) : (s.mapOs o f).outs.os[o] = f s.outs.os[o] := upd_same ..

theorem State.mapOs_others (f : Synth → Synth) : ∀ q, q ≠ o → (s.mapOs o f).outs.os[q] = s.outs.os[q] := fun _ hq => upd_other _ _ _ _ hq.symm

@[simp] theorem State.mapPin_at (n : Fin 80) (f : OutPin → OutPin) : (s.mapPin n f).outs.pins[n] = f s.outs.pins[n] := upd_same ..

theorem State.mapPin_others (n : Fin 80) (f : OutPin → OutPin) : ∀ m, m ≠ n → (s.mapPin n f).outs.pins[m] = s.outs.pins[m] :=
  fun _ hm => upd_other _ _ _ _ hm.symm

/-- A walk over pins in which each step changes its own: the pins in the list once, the others not at all. -/
theorem State.each_pins {g : State → Fin 80 → State} {f : OutPin → OutPin} (hg : ∀ t n, (g t n).outs.pins[n] = f t.outs.pins[n])
    (ho : ∀ t n m, m ≠ n → (g t n).outs.pins[m] = t.outs.pins[m]) {l : List (Fin 80)} (hl : l.Nodup) :
    (∀ n ∈ l, (s.each l g).outs.pins[n] = f s.outs.pins[n]) ∧ ∀ n, n ∉ l → (s.each l g).outs.pins[n] = s.outs.pins[n] := by
  refine ⟨fun n hn => State.each_reaches (Q := fun t => t.outs.pins[n] = s.outs.pins[n]) (P := fun t => t.outs.pins[n] = f s.outs.pins[n])
    (fun t m hm h => (ho t m n hm.symm).trans h) (fun t h => by rw [hg, h]) (fun t m hm h => (ho t m n hm.symm).trans h) hl hn s rfl, ?_⟩
  clear hl
  intro n hn
  induction l generalizing s with
  | nil => rfl
  | cons a l ih =>
    obtain ⟨ha, hl⟩ := not_or.mp fun h => hn (List.mem_cons.mpr h)
    exact (ih (g s a) hl).trans (ho s a n ha)

theorem State.pinsOf_nodup : (s.pinsOf o).Nodup := (List.nodup_finRange 80).filter _

/-- The pins of a synthesizer are named by their settings alone. -/
theorem State.pinsOf_congr {s t : State} (h : ∀ n : Fin 80, t.outs.pins[n].cfg = s.outs.pins[n].cfg) : t.pinsOf o = s.pinsOf o := by
  simp only [State.pinsOf, sourceOs, h]

/-- What the mute of a synthesizer makes of its pins. -/
def OutPin.follow (locked : Bool) (cyc : Nat) (p : OutPin) : OutPin :=
  if locked then { p with muted := false } else { p.cut with muted := true, mutedAt := if p.muted then p.mutedAt else cyc }

theorem State.followMute_pins : (∀ n ∈ s.pinsOf o, (s.followMute o).outs.pins[n] = s.outs.pins[n].follow (s.outs.os[o].lock == .locked) s.sys.cyc) ∧
    ∀ n, n ∉ s.pinsOf o → (s.followMute o).outs.pins[n] = s.outs.pins[n] := by
  have same : s.followMute o = s.each (s.pinsOf o) fun t n => t.mapPin n (OutPin.follow (s.outs.os[o].lock == .locked) s.sys.cyc) := by
    unfold State.followMute OutPin.follow
    dsimp only
    cases h : (s.outs.os[o].lock == .locked) <;> simp [-Fin.getElem_fin, bne, h]
  rw [same]
  exact s.each_pins (fun t n => t.mapPin_at n _) (fun t n => t.mapPin_others n _) (s.pinsOf_nodup o)

theorem OutPin.follow_cfg (p : OutPin) (b : Bool) (cyc : Nat) : (p.follow b cyc).cfg = p.cfg := by
  unfold OutPin.follow OutPin.cut
  split
  · rfl
  · split <;> rfl

theorem State.retune_os : (∃ n f fx r, (s.retune o).outs.os[o] = { s.outs.os[o] with n := n, f := f, fx := fx, remainder := r }) ∧
    ∀ q, q ≠ o → (s.retune o).outs.os[q] = s.outs.os[q] := by
  refine ⟨?_, s.mapOs_others o _⟩
  rw [State.retune, State.mapOs_at]
  split
  · exact ⟨_, _, _, _, rfl⟩
  · exact ⟨s.outs.os[o].n, s.outs.os[o].f, s.outs.os[o].fx, s.outs.os[o].remainder, rfl⟩

/-- A synthesizer locked in a band. -/
structure LockedIn (o : Fin 4) (b : Fin 64) (s t : State) : Prop where
  lock : t.outs.os[o].lock = .locked
  band : t.outs.os[o].band = b
  mis : t.outs.os[o].mis = s.outs.os[o].mis
  attempts : t.outs.os[o].attempts = 0
  relocks : t.outs.os[o].relocks = s.outs.os[o].relocks
  synths : ∀ q, q ≠ o → t.outs.os[q] = s.outs.os[q]
  unmuted : ∀ n ∈ s.pinsOf o, t.outs.pins[n].muted = false
  pins : ∀ n, n ∉ s.pinsOf o → t.outs.pins[n] = s.outs.pins[n]

theorem State.synthLocked_out (b : Fin 64) : LockedIn o b s (s.synthLocked o b) := by
  unfold State.synthLocked
  extract_lets s1 s2
  let v := s1.endLockFaults o
  have hv : v.outs = s1.outs := (Within.start.endLockFaults : Within _ s1 v).outs_eq (by decide) (by decide) (by decide)
  let w := v.retune o
  have hw : w.outs.pins = s.outs.pins := by
    rw [show w.outs.pins = v.outs.pins from rfl, hv]
    rfl
  have hos : ∀ q : Fin 4, v.outs.os[q] = s1.outs.os[q] := fun q => by rw [hv]
  obtain ⟨⟨n, f, fx, r, hat⟩, hother⟩ := v.retune_os o
  have hs1 : s1.outs.os[o] = { s.outs.os[o] with lock := .locked, band := b, attempts := 0 } := s.mapOs_at o _
  have hw_at : w.outs.os[o] = { { s.outs.os[o] with lock := .locked, band := b, attempts := 0 } with n := n, f := f, fx := fx, remainder := r } := by
    rw [← hs1, ← hos o]
    exact hat
  have hpins : w.pinsOf o = s.pinsOf o := State.pinsOf_congr o fun n => by rw [hw]
  obtain ⟨hm, hn⟩ := w.followMute_pins o
  rw [hpins] at hm hn
  have hlock : (w.outs.os[o].lock == .locked) = true := by rw [hw_at]; rfl
  rw [hlock] at hm
  have h2 : s2.outs.os = w.outs.os := (Within.start.followMute : Within _ w s2) .os (by decide)
  have out2 : LockedIn o b s s2 := by
    refine ⟨?_, ?_, ?_, ?_, ?_, fun q hq => ?_, fun n hn' => ?_, fun n hn' => ?_⟩
    · rw [h2, hw_at]
    · rw [h2, hw_at]
    · rw [h2, hw_at]
    · rw [h2, hw_at]
    · rw [h2, hw_at]
    · rw [h2, hother q hq, hos q, s.mapOs_others o _ q hq]
    · rw [hm n hn']; rfl
    · rw [hn n hn', hw]
  split
  · have h3 : s2.os3Back.outs = s2.outs := (Within.start.os3Back : Within _ s2 _).outs_eq (by decide) (by decide) (by decide)
    obtain ⟨h_1, h_2, h_3, h_4, h_5, h_6, h_7, h_8⟩ := out2
    constructor <;> rw [h3] <;> assumption
  · exact out2

/-! ### Losses of lock -/

/-- A pin whose Bound is unknown. -/
def OutPin.lostBound (p : OutPin) : OutPin := { p with unknown := true, goods := 0 }

theorem State.pinUnknown_pins (n : Fin 80) : (s.pinUnknown n).outs.pins[n] = s.outs.pins[n].lostBound ∧
    ∀ m, m ≠ n → (s.pinUnknown n).outs.pins[m] = s.outs.pins[m] := by
  have h : (s.pinUnknown n).outs.pins = (s.mapPin n OutPin.lostBound).outs.pins := by
    unfold State.pinUnknown
    extract_lets s1
    split
    · have w : ∀ u : State, Within _ u ((u.hwEventAll 13).checkThreshold ⟨n.val + 1, by omega⟩) := fun u => Within.start.hwEventAll.checkThreshold
      exact (w _) .pins (by decide)
    · rfl
  rw [h]
  exact ⟨s.mapPin_at n _, s.mapPin_others n _⟩

/-- A synthesizer that has lost its lock, its pins muted with their Bound unknown. -/
def State.lockLost : State :=
  let s1 := (s.mapOs o fun x => { x with lock := .lost, attempts := 0, tryAt := s.sys.cyc }).followMute o
  (s1.each (s1.pinsOf o) State.pinUnknown).condition Flt.osUnlock o.val

theorem execSynthLossOfLock_locked (h : s.outs.os[o].lock = .locked) : exec (.synthLossOfLock o) s =
    .next ((if o = 3 then (s.lockLost o).os3Lost.settle 2 else if o = 2 then (s.lockLost o).stopConverters.settle 4 else s.lockLost o).settle 1) := by
  change execSynthLossOfLock o s = _
  exact if_neg (by rw [h]; decide)

theorem OutPin.lost_out (p : OutPin) (cyc : Nat) : (p.follow false cyc).lostBound.muted = true ∧ (p.follow false cyc).lostBound.unknown = true ∧
    (p.cfg.nat Ix.outMode ≠ 3 → (p.follow false cyc).lostBound.pulse = none) := by
  refine ⟨rfl, rfl, fun h => ?_⟩
  have cut : p.cut.pulse = none := by rw [OutPin.cut, if_neg h]
  exact cut

theorem State.lockLost_out : (s.lockLost o).outs.os[o].lock = .lost ∧ (s.lockLost o).outs.os[o].attempts = 0 ∧
    (∀ n ∈ s.pinsOf o, (s.lockLost o).outs.pins[n] = (s.outs.pins[n].follow false s.sys.cyc).lostBound) ∧
    (∀ n, n ∉ s.pinsOf o → (s.lockLost o).outs.pins[n] = s.outs.pins[n]) ∧
    (s.lockLost o).flt.present.contains (Flt.osUnlock.msg o.val) = true ∧ (s.lockLost o).ts = s.ts := by
  let v := s.mapOs o fun x => { x with lock := .lost, attempts := 0, tryAt := s.sys.cyc }
  let s1 := v.followMute o
  let s2 := s1.each (s1.pinsOf o) State.pinUnknown
  have hv : v.outs.os[o] = _ := s.mapOs_at o _
  have hvp : v.pinsOf o = s.pinsOf o := rfl
  obtain ⟨hm, hn⟩ := v.followMute_pins o
  have hlock : (v.outs.os[o].lock == .locked) = false := by rw [hv]; rfl
  rw [hlock, hvp] at hm
  rw [hvp] at hn
  have hcfg : ∀ n : Fin 80, s1.outs.pins[n].cfg = s.outs.pins[n].cfg := fun n => by
    by_cases h : n ∈ s.pinsOf o
    · rw [hm n h]; exact OutPin.follow_cfg _ _ _
    · rw [hn n h]; rfl
  have hp1 : s1.pinsOf o = s.pinsOf o := State.pinsOf_congr o hcfg
  obtain ⟨hu, hu'⟩ := s1.each_pins (g := State.pinUnknown) (f := OutPin.lostBound) (fun t n => (t.pinUnknown_pins n).1)
    (fun t n => (t.pinUnknown_pins n).2) (s1.pinsOf_nodup o)
  rw [hp1] at hu hu'
  have h2 : Within (partsOf [.emits, .bound, .pins, .hosts, .flt]) v s2 :=
    (Within.start.followMute.each fun _ _ => Within.start.pinUnknown).mono (by decide)
  have hos : (s.lockLost o).outs.os = v.outs.os :=
    ((Within.start.condition : Within _ s2 (s2.condition Flt.osUnlock o.val)) .os (by decide)).trans (h2 .os (by decide))
  have hpins : (s.lockLost o).outs.pins = s2.outs.pins := (Within.start.condition : Within _ s2 (s2.condition Flt.osUnlock o.val)) .pins (by decide)
  have hs2 : s2 = s1.each (s.pinsOf o) State.pinUnknown := by rw [← hp1]
  refine ⟨by rw [hos, hv], by rw [hos, hv], fun n h => ?_, fun n h => ?_, ?_, ?_⟩
  · rw [hpins, hs2, hu n h, hm n h]
    rfl
  · rw [hpins, hs2, hu' n h, hn n h]
    rfl
  · exact List.contains_iff_mem.mpr (s2.condition_present _ _ rfl)
  · exact (h2.condition (k := Flt.osUnlock) (d := o.val)).ts_eq (by decide)

/-! ### Relocks and markers -/

/-- A synthesizer that has its settings and nothing pending. -/
def State.TookSynth (c : Cfg) : Prop := s.outs.os[o].cfg = c ∧ s.outs.os[o].pending = none

theorem State.TookSynth.of_within {s t : State} {o : Fin 4} {c : Cfg} {m : Nat} (h : s.TookSynth o c) (w : Within m s t) (hm : holds m .os = false) :
    t.TookSynth o c := by
  have e : t.outs.os = s.outs.os := w .os hm
  rw [State.TookSynth, e]
  exact h

theorem State.TookSynth.mapOs {s : State} {o : Fin 4} {c : Cfg} (h : s.TookSynth o c) {f : Synth → Synth} (hf : ∀ x, (f x).cfg = x.cfg)
    (hp : ∀ x, (f x).pending = x.pending) : (s.mapOs o f).TookSynth o c := by
  rw [State.TookSynth, State.mapOs_at, hf, hp]
  exact h

theorem State.TookSynth.startSearch {s : State} {o : Fin 4} {c : Cfg} (h : s.TookSynth o c) : (s.startSearch o).TookSynth o c :=
  (h.mapOs (f := fun x => { x with lock := .searching }) (fun _ => rfl) fun _ => rfl).of_within (Within.start.followMute : Within _ _ (State.followMute _ o)) (by decide)

theorem State.TookSynth.retune {s : State} {o : Fin 4} {c : Cfg} (h : s.TookSynth o c) : (s.retune o).TookSynth o c := by
  obtain ⟨⟨n, f, fx, r, e⟩, -⟩ := s.retune_os o
  rw [State.TookSynth, e]
  exact h

theorem State.applySynth_took {c : Cfg} (h : s.outs.os[o].pending = some c) : (s.applySynth o).TookSynth o c := by
  unfold State.applySynth
  split
  · next hn => exact absurd (h.symm.trans hn) (by simp)
  next d hd =>
  obtain rfl : d = c := Option.some.inj (hd.symm.trans h)
  extract_lets x re s0 changed wasOn s1 targets s2 s3 clocks
  have h1 : s1.TookSynth o d := by
    rw [State.TookSynth, State.mapOs_at]
    exact ⟨rfl, rfl⟩
  clear_value s1
  have h2 : s2.TookSynth o d := by
    simp only [s2]
    split
    · exact (h1.mapOs (f := fun x => { x with lock := .off }) (fun _ => rfl) fun _ => rfl).of_within
        (Within.start.endLockFaults.followMute : Within _ _ (State.followMute (State.endLockFaults _ o) o)) (by decide)
    · split
      · exact ((h1.mapOs (f := fun x => { x with relocks := x.relocks + 1, relocked := true }) (fun _ => rfl) fun _ => rfl).startSearch).of_within
          (Within.start.raise : Within _ _ (State.raise _ Flt.osRelock o.val)) (by decide)
      · split
        · exact h1
        · split
          · exact ((h1.mapOs (f := fun x => { x with attempts := 0 }) (fun _ => rfl) fun _ => rfl).of_within
              (Within.start.endLockFaults : Within _ _ (State.endLockFaults _ o)) (by decide)).startSearch
          · exact h1
  clear_value s2
  have w : Within (partsOf [.freeCtr, .tdc, .fc, .pins, .flt, .emits, .bound]) s2 (s3.each clocks fun t n => t.configChannel (verifyChannel n) (t.heldConfig n)) :=
    ((Within.start.each fun _ _ => Within.start.applyPin).each fun _ _ => Within.start.configChannel).mono (by decide)
  exact (h2.of_within w (by decide)).retune

theorem State.applySynthNow_took {c : Cfg} (h : s.outs.os[o].pending = some c) : (s.applySynthNow o).TookSynth o c := by
  unfold State.applySynthNow
  extract_lets out s1 s2 lost
  have h1 : s1.TookSynth o c := s.applySynth_took o h
  have h2 : s2.TookSynth o c := by
    simp only [s2]
    split
    · exact h1.of_within ((Within.start.each fun _ _ => Within.start.pinUnknown).mono (by decide) :
        Within (partsOf [.emits, .bound, .pins, .hosts, .flt]) s1 _) (by decide)
    · exact h1
  clear_value s1 s2
  split
  · exact h2.of_within (Within.start.os3Lost : Within _ s2 _) (by decide)
  · split
    · exact h2.of_within (Within.start.stopConverters : Within _ s2 _) (by decide)
    · exact h2

theorem Fin.ofNat_val {n : Nat} [NeZero n] (i : Fin n) : Fin.ofNat n i.val = i := Fin.ext (Nat.mod_eq_of_lt i.isLt)

theorem State.applied_has (g : Fin 8) (m : Nat) (hm : m < 16) (hg : groupMembers[g].getLsbD m = true) : (s.applied g m).hasApplied g m = true := by
  have at_ : (s.applied g m).groups[g].applied = s.groups[g].applied ||| (BitVec.ofNat 16 (2 ^ m) &&& groupMembers[g]) :=
    congrArg UpdateGroup.applied (upd_same ..)
  have bit : (BitVec.ofNat 16 (2 ^ m)).getLsbD m = true := by rw [BitVec.getLsbD_ofNat, Nat.testBit_two_pow_self, decide_eq_true hm, Bool.and_self]
  rw [State.hasApplied, at_, BitVec.getLsbD_or, BitVec.getLsbD_and, bit, hg, Bool.and_self, Bool.or_true]

theorem State.applyMember_synth_eq (q : Fin 4) (h : Fin.ofNat 4 o.val = q) : s.applyMember 1 o.val =
    State.applied (State.setFlag (s.applySynthNow q) 1 o.val fun _ => b2n (s.applySynthNow q).outs.os[q].relocked) 1 o.val := by
  subst h
  rfl

/-- A synthesizer's settings applied, and its member marked. -/
theorem State.applyMember_synth : (s.applyMember 1 o.val).hasApplied 1 o.val = true ∧
    ∀ c, s.outs.os[o].pending = some c → (s.applyMember 1 o.val).TookSynth o c := by
  have members : groupMembers[(1 : Fin 8)].getLsbD o.val = true := by revert o; decide
  refine ⟨State.applied_has _ 1 o.val (by omega) members, fun c h => ?_⟩
  have took := s.applySynthNow_took o h
  rw [s.applyMember_synth_eq o o (Fin.ofNat_val o)]
  exact took.of_within ((Within.start.set (partsOf [.handled])).applied : Within _ (s.applySynthNow o) (State.applied (State.setFlag _ 1 o.val _) 1 o.val))
    (by decide)

theorem State.boundary_applies (g : Fin 8) (m : Nat) (h : s.hasApplied g m = false) : s.boundary g m = (s.applyMember g m).settle g :=
  if_neg (by rw [h]; decide)

/-- An attempt that found no band. -/
def State.attemptFailed : State :=
  (s.mapOs o fun x => { x with attempts := x.attempts + 1, tryAt := s.sys.cyc + 10 * msCyc }).condition Flt.osBandFail o.val

theorem execSynthRelockAttempt_due (b : Option (Fin 64)) (hl : s.outs.os[o].lock = .lost) (ha : s.outs.os[o].attempts < 3)
    (ht : s.outs.os[o].tryAt ≤ s.sys.cyc) : exec (.synthRelockAttempt o b) s = .next (match b with
      | some b => ((s.mapOs o fun x => { x with relocks := x.relocks + 1 }).synthLocked o b).settle 1
      | none => if s.outs.os[o].attempts + 1 = 3 then (s.attemptFailed o).condition Flt.osUnlock (o.val + 16) else s.attemptFailed o) := by
  change execSynthRelockAttempt o b s = _
  unfold execSynthRelockAttempt
  extract_lets x
  rw [if_neg (by simp [-Fin.getElem_fin, x, hl]; omega)]
  cases b <;> rfl

theorem State.condition_outs (k : FaultKind) (d : Nat) : (s.condition k d).outs = s.outs :=
  (Within.start.condition : Within _ s (s.condition k d)).outs_eq (by decide) (by decide) (by decide)

/-- What a condition keeps among those present. -/
theorem State.condition_keeps {m : FaultMsg} (k : FaultKind) (d : Nat) (h : m ∈ s.flt.present) : m ∈ (s.condition k d).flt.present := by
  unfold State.condition
  split
  · exact h
  · rw [State.raise_present]
    split
    · exact List.mem_append_left _ h
    · exact h

theorem State.attemptFailed_out : (s.attemptFailed o).outs = (s.mapOs o fun x => { x with attempts := x.attempts + 1, tryAt := s.sys.cyc + 6250000 }).outs ∧
    Flt.osBandFail.msg o.val ∈ (s.attemptFailed o).flt.present ∧
    s.attemptFailed o = { s with outs := (s.attemptFailed o).outs, flt := (s.attemptFailed o).flt } := by
  have w : Within (partsOf [.os, .pins, .outs, .flt]) s (s.attemptFailed o) := (Within.start.mapOs.condition).mono (by decide)
  exact ⟨State.condition_outs _ _ _, State.condition_present _ _ _ rfl, w.eq⟩

/-- The band search of a synthesizer has failed. -/
def State.searchFailed : State := ((s.reportLost o).mapOs o fun x => { x with lock := .off }).condition Flt.osBandFail o.val

/-- The commands waiting for a synthesizer's strobe, told that its search failed. -/
def searchNotes (l : List Handled) : List Handled :=
  l.map fun h => if h.strobed && h.group == some 1 && h.target == o.val then { h with data := h.data.set 3 1 } else h

theorem execSynthLockDone_none (ho : o ≠ 2) (hl : s.outs.os[o].lock = .searching) :
    exec (.synthLockDone o none) s = .next (State.settle { s.searchFailed o with handled := searchNotes o (s.searchFailed o).handled } 1) := by
  change execSynthLockDone o none s = _
  unfold execSynthLockDone
  rw [if_neg (by rw [hl]; decide)]
  dsimp only
  rw [if_neg ho]
  rfl

theorem execSynthLockDone_failed (ho : o ≠ 2) (hl : s.outs.os[o].lock = .searching) (hh : s.handled = []) :
    exec (.synthLockDone o none) s = .next ((s.searchFailed o).settle 1) := by
  have handled : (s.searchFailed o).handled = [] :=
    ((Within.start.reportLost.mapOs.condition : Within _ s (s.searchFailed o)) .handled (by decide)).trans hh
  rw [execSynthLockDone_none s o ho hl]
  generalize s.searchFailed o = t at handled
  obtain ⟨⟩ := t
  obtain rfl : _ = [] := handled
  rfl

theorem execSynthLockDone_some (b : Fin 64) (h : s.outs.os[o].lock = .searching) :
    exec (.synthLockDone o (some b)) s = .next (((s.reportLost o).synthLocked o b).settle 1) := by
  change execSynthLockDone o (some b) s = _
  exact if_neg (by rw [h]; decide)

/-- What a failed attempt leaves: the last one of three is reported. -/
theorem State.attemptFailed_only (b : Prop) [Decidable b] (t : State)
    (ht : t = if b then (s.attemptFailed o).condition Flt.osUnlock (o.val + 16) else s.attemptFailed o) :
    t.outs = (s.attemptFailed o).outs ∧ Flt.osBandFail.msg o.val ∈ t.flt.present ∧ (b → Flt.osUnlock.msg (o.val + 16) ∈ t.flt.present) ∧
    t = { s with outs := t.outs, flt := t.flt } := by
  have w : Within (partsOf [.os, .pins, .outs, .flt]) s (s.attemptFailed o) := (Within.start.mapOs.condition).mono (by decide)
  obtain ⟨-, hband, -⟩ := s.attemptFailed_out o
  subst ht
  split
  · next h => exact ⟨State.condition_outs _ _ _, State.condition_keeps _ _ _ hband, fun _ => State.condition_present _ _ _ rfl,
        ((w.condition).mono (by decide) : Within (partsOf [.os, .pins, .outs, .flt]) s _).eq⟩
  · next h => exact ⟨rfl, hband, fun hb => absurd hb h, w.eq⟩

/-- Settles O24: each change of a lock is one change of its synthesizer and pins, and the settling of group 1. -/
theorem synthesizersLockLoseLockAndRelock : Obligations.SynthesizersLockLoseLockAndRelock := by
  unfold Obligations.SynthesizersLockLoseLockAndRelock
  refine ⟨⟨fun s o b h => ?_, fun s o ho h hh => ?_, fun s o h2 h3 h => ?_, fun s h => ?_, fun s h => ?_, fun s o b h => ?_, fun s o h => ?_⟩,
    fun s o hl ha ht' => ⟨?_, fun b => ?_⟩, fun s o b h => ?_, fun s o hl hn => ⟨fun hm => ?_, fun hm => ?_⟩⟩
  · have hr : (s.reportLost o).outs = s.outs := (Within.start.reportLost : Within _ s (s.reportLost o)).outs_eq (by decide) (by decide) (by decide)
    have hp : (s.reportLost o).pinsOf o = s.pinsOf o := State.pinsOf_congr o fun n => by rw [hr]
    obtain ⟨h1, h2, h3, h4, -, h6, h7, h8⟩ := (s.reportLost o).synthLocked_out o b
    rw [hr] at h3 h6 h8
    rw [hp] at h7 h8
    exact ⟨(s.reportLost o).synthLocked o b, execSynthLockDone_some s o b h, h1, h2, h3, h4, h7, h6, h8⟩
  · have hr : (s.reportLost o).outs = s.outs := (Within.start.reportLost : Within _ s (s.reportLost o)).outs_eq (by decide) (by decide) (by decide)
    have houts : (s.searchFailed o).outs = ((s.reportLost o).mapOs o fun x => { x with lock := .off }).outs := State.condition_outs _ _ _
    have w : Within (partsOf [.os, .pins, .outs, .flt]) s (s.searchFailed o) := (Within.start.reportLost.mapOs.condition).mono (by decide)
    refine ⟨s.searchFailed o, execSynthLockDone_failed s o ho h hh, ?_, List.contains_iff_mem.mpr (State.condition_present _ _ _ rfl), fun q hq => ?_, w.eq⟩
    · rw [houts, State.mapOs_at]
    · rw [houts, State.mapOs_others _ o _ q hq, hr]
  · obtain ⟨hlock, hatt, hin, hout, hflt, hts⟩ := s.lockLost_out o
    refine ⟨s.lockLost o, ?_, hlock, hatt, fun n hn => ?_, hout, hflt, hts⟩
    · rw [execSynthLossOfLock_locked s o h, if_neg h3, if_neg h2]
    · rw [hin n hn]
      exact OutPin.lost_out _ _
  · exact ⟨s.lockLost 3, by rw [execSynthLossOfLock_locked s 3 h, if_pos (by rfl)], (s.lockLost_out 3).1⟩
  · exact ⟨s.lockLost 2, by rw [execSynthLossOfLock_locked s 2 h, if_neg (by decide), if_pos (by rfl)], (s.lockLost_out 2).1⟩
  · exact if_pos (by simpa [-Fin.getElem_fin] using h)
  · exact if_pos (by simpa [-Fin.getElem_fin] using h)
  · obtain ⟨attempt, -, -⟩ := s.attemptFailed_out o
    obtain ⟨t, ht⟩ : ∃ t, t = if s.outs.os[o].attempts + 1 = 3 then (s.attemptFailed o).condition Flt.osUnlock (o.val + 16) else s.attemptFailed o := ⟨_, rfl⟩
    obtain ⟨outs, band, third, only⟩ := s.attemptFailed_only o _ t ht
    rw [attempt] at outs
    have at_ : t.outs.os[o] = { s.outs.os[o] with attempts := s.outs.os[o].attempts + 1, tryAt := s.sys.cyc + 6250000 } := by rw [outs, State.mapOs_at]
    refine ⟨t, (execSynthRelockAttempt_due s o none hl ha ht').trans (congrArg _ ht.symm), by rw [at_], by rw [at_], by rw [at_]; exact hl,
      List.contains_iff_mem.mpr band, fun h2 => List.contains_iff_mem.mpr (third (by omega)), fun q hq => ?_, only⟩
    rw [outs, State.mapOs_others _ o _ q hq]
  · obtain ⟨h1, h2, h3, -, h5, h6, h7, -⟩ := (s.mapOs o fun x => { x with relocks := x.relocks + 1 }).synthLocked_out o b
    rw [State.mapOs_at] at h3 h5
    exact ⟨(s.mapOs o fun x => { x with relocks := x.relocks + 1 }).synthLocked o b, execSynthRelockAttempt_due s o (some b) hl ha ht', h1, h2, h5, h3, h7,
        fun q hq => (h6 q hq).trans (s.mapOs_others o _ q hq)⟩
  · exact if_pos (by simp [-Fin.getElem_fin]; tauto)
  · obtain ⟨hhas, htook⟩ := s.applyMember_synth o
    refine ⟨s.applyMember 1 o.val, ?_, rfl, hhas, htook⟩
    rw [← s.boundary_applies 1 o.val hn]
    exact if_neg (by simp [-Fin.getElem_fin, hn, hl]; exact hm)
  · exact if_pos (by simp [-Fin.getElem_fin]; tauto)

end Sys2Proof.Machine

/-! PROOFS of family 'other', IRIG-B and time-of-day frames: O26. -/

namespace Sys2Proof.Machine

@[simp] theorem netOctets_length (n v : Nat) : (netOctets n v).length = n := by simp [netOctets]

@[simp] theorem bitsLsb_length (n w : Nat) : (bitsLsb n w).length = w := by simp [bitsLsb]

theorem bitsLsb_getElem (n w i : Nat) (h : i < (bitsLsb n w).length) : (bitsLsb n w)[i] = bitAt n i := by simp [bitsLsb]

/-! ### IRIG-B frames -/

theorem State.irigFrame_elements (s : State) (n : Fin 80) (p : Int) :
    ∃ l : List Bool, s.irigFrame n p = (List.range 100).map fun i => if i = 0 || i % 10 = 9 then 2 else b2n (l.getD i false) := ⟨_, rfl⟩

theorem State.irigFrame_marks (s : State) (n : Fin 80) (p : Int) {i : Nat} (hi : i < 100) : (s.irigFrame n p).getD i 0 = 2 ↔ i = 0 ∨ i % 10 = 9 := by
  obtain ⟨l, hl⟩ := s.irigFrame_elements n p
  have bit : ∀ b : Bool, (b2n b : Nat) ≠ 2 := by decide
  rw [hl, List.getD_eq_getElem?_getD, List.getElem?_map, List.getElem?_range hi, Option.map_some, Option.getD_some]
  split
  · next h => simpa using h
  · next h => exact iff_of_false (bit _) (by simpa using h)

/-! ### Time-of-day frames -/

/-- The octets of a time-of-day frame before its CRC, up to what stands after the second that it names. -/
theorem State.todFrame_octets (s : State) (n : Fin 80) (sec : Nat) (q : BitVec 16) : ∃ l : List Nat, l.length = 18 ∧
    s.todFrame n sec q = [0x51, 0x54, 1, 32] ++ netOctets 6 sec ++ l ++ netOctets 4 (crc32 ([0x51, 0x54, 1, 32] ++ netOctets 6 sec ++ l)).toNat := by
  refine ⟨netOctets 2 (twos 16 (s.utcOffsetAt ((sec : Int) * secFrac))) ++
    ([s.todFlags (s.pinBound s.bound.exact n) (s.mis (sourceOs s n)), s.sys.engine.code] ++
    (netOctets 6 (if s.ts.leapPending = 0 then 0 else s.ts.leapAt) ++
    (netOctets 4 (s.pinBound s.bound.exact n).toNat ++ (netOctets 2 q.toNat ++ [0, 0])))), by simp, ?_⟩
  simp only [State.todFrame, List.append_assoc]

theorem netOctets_six {v : Nat} (h : v < 2 ^ 48) :
    netOctets 6 v = [v / 2 ^ 40, v / 2 ^ 32 % 256, v / 2 ^ 24 % 256, v / 2 ^ 16 % 256, v / 2 ^ 8 % 256, v % 256] := by
  have top : v / 2 ^ 40 % 256 = v / 2 ^ 40 := Nat.mod_eq_of_lt (by omega)
  simp [netOctets, List.range_succ]
  omega

/-- A frame that nothing holds back is sent. -/
theorem execTodFrameSend_due (s : State) (k : Fin 64) {p : Int} (h5 : s.outs.pins[tioPin k].cfg.nat Ix.outMode = 5)
    (h4 : s.outs.pins[s.outs.pins[tioPin k].pulsePin].cfg.nat Ix.outMode = 4) (he : s.outs.pins[s.outs.pins[tioPin k].pulsePin].emitted = some p)
    (hl : s.outs.pins[tioPin k].lastPulse ≠ some p) (hs : s.frameStart s.outs.pins[tioPin k] p ≤ (s.now : Rat))
    (hv : s.frameValid s.outs.pins[tioPin k] p s.now = true) (hst : s.outs.startupMute = false) (hsafe : s.outs.safe = false)
    (hm : s.pinMuted (tioPin k) = false) :
    exec (.todFrameSend k) s = .next (((s.mapPin (tioPin k) fun x => { x with lastPulse := some p }).mapPin (tioPin k) fun x => { x with
        todSeq := x.todSeq + 1
        serial := (s.todFrame s.outs.pins[tioPin k].pulsePin ((p / secFrac).toNat + 1) s.outs.pins[tioPin k].todSeq).flatMap serialChar
        serialAt := s.frameStart x p }).emit
      (.serial k (s.frameStart s.outs.pins[tioPin k] p) (baudOf s.outs.pins[tioPin k].cfg)
        ((s.todFrame s.outs.pins[tioPin k].pulsePin ((p / secFrac).toNat + 1) s.outs.pins[tioPin k].todSeq).flatMap serialChar))) := by
  change execTodFrameSend k s = _
  have late : decide ((s.now : Rat) < s.frameStart s.outs.pins[tioPin k] p) = false := decide_eq_false (not_lt.mpr hs)
  have new : (s.outs.pins[tioPin k].lastPulse == some p) = false := beq_eq_false_iff_ne.mpr hl
  unfold execTodFrameSend
  dsimp only
  rw [he]
  dsimp only
  rw [h5, h4, new, late, hst, hsafe, hv, if_neg (by decide), if_neg (by decide), hm]
  exact if_neg (by decide)

/-- Settles O26: the elements of a frame by their index, and a time-of-day frame's octets and bits. -/
theorem timeFramesHaveTheirForm : Obligations.TimeFramesHaveTheirForm := by
  unfold Obligations.TimeFramesHaveTheirForm
  refine ⟨fun s n p => ⟨?_, fun i hi => s.irigFrame_marks n p hi⟩, ⟨rfl, rfl, rfl⟩, fun s n sec q hsec => ?_, fun b => ⟨rfl, rfl, rfl, fun i hi => ?_⟩,
    fun s k n pulse p hn hp h5 h4 he hl hs hv hst hsafe hm => ?_⟩
  · obtain ⟨l, hl⟩ := s.irigFrame_elements n p
    rw [hl, List.length_map, List.length_range]
  · obtain ⟨l, hl, e⟩ := s.todFrame_octets n sec q
    have body : ([0x51, 0x54, 1, 32] ++ netOctets 6 sec ++ l).length = 28 := by simp [hl]
    rw [e, List.take_left' body, List.drop_left' body]
    refine ⟨by simp [hl], rfl, ?_, rfl⟩
    rw [← netOctets_six hsec]
    simp
  · rw [List.getD_eq_getElem?_getD]
    simp [serialChar, List.getElem?_append, hi, bitsLsb_getElem]
  · subst hn hp
    refine ⟨_, _, execTodFrameSend_due s k h5 h4 he hl hs hv hst hsafe hm, rfl, ?_, rfl, fun m hm => ?_, rfl⟩
    · exact (State.mapPin_at _ _ _).trans (by rw [State.mapPin_at]; rfl)
    · exact (State.mapPin_others _ _ _ _ hm).trans (State.mapPin_others _ _ _ _ hm)

end Sys2Proof.Machine

/-! PROOFS of family 'other', alignments and update groups: O27. -/

namespace Sys2Proof.Machine

variable (s : State)

/-! ### Alignments -/

/-- A synthesizer whose walk does not wait for a recomputation. -/
def Synth.NoWait (x : Synth) : Prop := ∀ r c, x.align ≠ some (.walkWait r c)

theorem State.closeAlign_os (o : Fin 4) (walk : Bool) (cmd : Nat) (removed : Rat) (renew : State → State) (q : Fin 4) :
    (s.closeAlign o walk cmd removed renew).outs.os[q] = (renew (((s.mapOs o fun x => { x with mis := 0, walk := 0, align := none }).retune o).alignRecord o walk
      removed)).outs.os[q] := by
  unfold State.closeAlign
  extract_lets s1 s2
  have keep : ∀ t : State, (t.alignDone cmd).outs.os = t.outs.os := fun t => (Within.start.alignDone : Within _ t (t.alignDone cmd)) .os (by decide)
  rw [keep]

/-- A synthesizer whose alignment has just ended, before anything is computed anew. -/
theorem State.aligned_os (o : Fin 4) (walk : Bool) (removed : Rat) (t : State)
    (ht : t = ((s.mapOs o fun x => { x with mis := 0, walk := 0, align := none }).retune o).alignRecord o walk removed) :
    (t.outs.os[o].mis = 0 ∧ t.outs.os[o].walk = 0 ∧ t.outs.os[o].align = none) ∧ ∀ q, q ≠ o → t.outs.os[q] = s.outs.os[q] := by
  let u := s.mapOs o fun x => { x with mis := 0, walk := 0, align := none }
  have w : Within (partsOf [.emits, .hosts, .flt, .log]) (u.retune o) t := by
    rw [ht]
    exact Within.start.alignRecord.mono (by decide)
  obtain ⟨⟨n, f, fx, r, hat⟩, hother⟩ := u.retune_os o
  have hu : u.outs.os[o] = { s.outs.os[o] with mis := 0, walk := 0, align := none } := s.mapOs_at o _
  rw [w .os (by decide), hat, hu]
  exact ⟨⟨rfl, rfl, rfl⟩, fun q hq => (hother q hq).trans (s.mapOs_others o _ q hq)⟩

theorem State.startWalk_others (o q : Fin 4) (hq : q ≠ o) : (s.startWalk o).outs.os[q] = s.outs.os[q] := by
  unfold State.startWalk
  split
  · dsimp only
    split
    · rw [State.closeAlign_os]
      exact (s.aligned_os o true 0 _ rfl).2 q hq
    · exact ((State.retune_os _ o).2 q hq).trans (s.mapOs_others o _ q hq)
  · rfl

theorem State.startWalk_waits (q : Fin 4) (h : s.outs.os[q].NoWait) (o : Fin 4) : (s.startWalk o).outs.os[q] = s.outs.os[q] := by
  by_cases hq : q = o
  · subst hq
    rw [State.startWalk]
    split
    · next e => exact absurd e (h _ _)
    · rfl
  · exact s.startWalk_others o q hq

theorem State.recompute_os (q : Fin 4) (h : s.outs.os[q].NoWait) : s.recompute.outs.os[q] = s.outs.os[q] := by
  have hr : s.renewBounds.outs.os = s.outs.os := (Within.start.renewBounds : Within _ s s.renewBounds) .os (by decide)
  have walk : ∀ (l : List (Fin 4)) (t : State), t.outs.os[q] = s.outs.os[q] → (t.each l State.startWalk).outs.os[q] = s.outs.os[q] := by
    intro l
    induction l with
    | nil => exact fun _ ht => ht
    | cons o l ih => exact fun t ht => ih _ ((t.startWalk_waits q (by rw [ht]; exact h) o).trans ht)
  rw [State.recompute]
  exact walk (List.finRange 4) s.renewBounds (by rw [hr])

/-- An alignment that ends leaves its synthesizer aligned, and the others as they were but for walks that waited. -/
theorem State.finishAlign_out (o : Fin 4) (walk : Bool) (cmd : Nat) (removed : Rat) :
    let t := s.finishAlign o walk cmd removed
    t.outs.os[o].mis = 0 ∧ t.outs.os[o].walk = 0 ∧ t.outs.os[o].align = none ∧ (∀ q, q ≠ o → s.outs.os[q].NoWait → t.outs.os[q] = s.outs.os[q]) ∧
      t.ts.sets = s.ts.sets := by
  obtain ⟨u, hu⟩ : ∃ u, u = ((s.mapOs o fun x => { x with mis := 0, walk := 0, align := none }).retune o).alignRecord o walk removed := ⟨_, rfl⟩
  obtain ⟨⟨mis, run, align⟩, others⟩ := s.aligned_os o walk removed u hu
  have os : ∀ q : Fin 4, (s.finishAlign o walk cmd removed).outs.os[q] = u.recompute.outs.os[q] := fun q => by
    rw [hu, State.finishAlign]
    exact s.closeAlign_os o walk cmd removed State.recompute q
  have done : u.outs.os[o].NoWait := fun r c => by rw [align]; simp
  have ts : (s.finishAlign o walk cmd removed).ts.sets = s.ts.sets := by
    rw [(Within.start.finishAlign : Within _ s (s.finishAlign o walk cmd removed)).ts_eq (by decide)]
  refine ⟨?_, ?_, ?_, fun q hq h => ?_, ts⟩
  · rw [os, u.recompute_os o done, mis]
  · rw [os, u.recompute_os o done, run]
  · rw [os, u.recompute_os o done, align]
  · rw [os, u.recompute_os q (by rw [others q hq]; exact h), others q hq]

/-! ### Update groups -/

/-- The groups that a strobe names. -/
def askedGroups (v : Word) : List (Fin 8) := (List.finRange 8).filter fun g => v.getLsbD g.val

theorem askedGroups_eq (v : Word) : askedGroups v = (List.finRange 8).filter fun g => (v.toNat % 256).testBit g.val := by
  refine List.filter_congr fun g _ => ?_
  rw [show 256 = 2 ^ 8 from rfl, Nat.testBit_mod_two_pow, decide_eq_true g.isLt, Bool.true_and]
  rfl

theorem askedGroups_one {v : Word} {g : Fin 8} (h : v.toNat % 256 = 2 ^ g.val) : askedGroups v = [g] := by
  rw [askedGroups_eq, h]
  clear h v
  decide +revert

theorem mem_askedGroups {v : Word} {g : Fin 8} : g ∈ askedGroups v ↔ v.getLsbD g.val = true := by simp [askedGroups]

theorem askedGroups_nil {v : Word} : askedGroups v = [] ↔ v.toNat % 256 = 0 := by
  refine ⟨fun h => Nat.eq_of_testBit_eq fun i => ?_, fun h => by rw [askedGroups_eq, h]; decide⟩
  rw [Nat.zero_testBit, show 256 = 2 ^ 8 from rfl, Nat.testBit_mod_two_pow]
  by_cases hi : i < 8
  · have absent : (⟨i, hi⟩ : Fin 8) ∉ askedGroups v := by rw [h]; exact List.not_mem_nil
    have bit : v.toNat.testBit i = false := Bool.eq_false_of_not_eq_true fun e => absent (mem_askedGroups.mpr e)
    rw [bit, Bool.and_false]
  · rw [decide_eq_false hi, Bool.false_and]

/-- A strobe of groups that its writer may not strobe. -/
theorem State.writeStrobe_denied (hp : Fin 4) (v : Word) (h : ∀ g : Fin 8, v.getLsbD g.val = true → s.mayStrobe hp g = false) :
    s.writeStrobe hp v = if v.toNat % 256 = 0 then s else s.denied 0x0010 := by
  have none_ : ((askedGroups v).filter fun g => s.mayStrobe hp g) = [] :=
    List.filter_eq_nil_iff.mpr fun g hg => by rw [h g (mem_askedGroups.mp hg)]; decide
  unfold State.writeStrobe
  extract_lets asked s1
  have hs1 : s1 = s := congrArg (fun l => s.each l fun t g => (t.strobe g hp.val).settle g) none_
  rw [hs1]
  change (if (askedGroups v).all fun g => s.mayStrobe hp g then s else _) = _
  by_cases hv : v.toNat % 256 = 0
  · rw [askedGroups_nil.mpr hv, if_pos hv]
    rfl
  · rw [if_neg hv]
    refine if_neg fun all => hv (askedGroups_nil.mp (List.eq_nil_iff_forall_not_mem.mpr fun g hg => ?_))
    have may := List.all_eq_true.mp all g hg
    rw [h g (mem_askedGroups.mp hg)] at may
    cases may

/-- Settles O27: the alignment that ends leaves one synthesizer free, and a strobe is what its mask lets it be. -/
theorem alignmentsEndAndStrobesNeedACompleteMask : Obligations.AlignmentsEndAndStrobesNeedACompleteMask := by
  unfold Obligations.AlignmentsEndAndStrobesNeedACompleteMask
  refine ⟨⟨fun s o a c h hd => ?_, fun s o a c h hd => ?_, fun s o r c m h hw => ?_, fun s o r c m h hw => ?_⟩, fun s g hp h => ?_, fun s g hp h => ?_,
    fun s hp v hb h => ?_, fun s hp v g hb h hv => ?_, fun s hp g v hb h => ?_, fun s hp g v hb h hv => ?_, fun s g m h => if_pos h⟩
  · have w : Within (partsOf [.pins, .flt]) s (s.each (s.pinsOf o) fun t n => t.pinAtStep (s.mis o) n) :=
      (Within.start.each fun _ _ => Within.start.pinAtStep).mono (by decide)
    have hex : exec (.alignStepExecute o) s = .next ((s.each (s.pinsOf o) fun t n => t.pinAtStep (s.mis o) n).finishAlign o false c (s.mis o)) := by
      change execAlignStepExecute o s = _
      unfold execAlignStepExecute
      rw [h]
      exact if_neg (not_lt.mpr hd)
    have os : (s.each (s.pinsOf o) fun t n => t.pinAtStep (s.mis o) n).outs.os = s.outs.os := w .os (by decide)
    have sets : (s.each (s.pinsOf o) fun t n => t.pinAtStep (s.mis o) n).ts.sets = s.ts.sets := by rw [w.ts_eq (by decide)]
    generalize (s.each (s.pinsOf o) fun t n => t.pinAtStep (s.mis o) n) = u at hex os sets
    obtain ⟨h1, h2, h3, h4, h5⟩ := u.finishAlign_out o false c (s.mis o)
    rw [os] at h4
    exact ⟨_, hex, h1, h2, h3, h4, h5.trans sets⟩
  · change execAlignStepExecute o s = _
    unfold execAlignStepExecute
    rw [h]
    exact if_pos hd
  · change execWalkComplete o s = _
    unfold execWalkComplete
    rw [h]
    exact if_pos (by simpa [-Fin.getElem_fin] using hw)
  · have hex : exec (.walkComplete o) s = .next (s.finishAlign o true c m) := by
      change execWalkComplete o s = _
      unfold execWalkComplete
      rw [h]
      exact if_neg (by simpa [-Fin.getElem_fin] using hw)
    obtain ⟨h1, h2, h3, h4, h5⟩ := s.finishAlign_out o true c m
    exact ⟨_, hex, h1, h2, h3, h4, h5⟩
  · exact if_neg (by rw [h]; decide)
  · exact if_pos h
  · exact (s.opened_up (fun t => t.writeStrobe hp v) hb).trans (congrArg _ (s.writeStrobe_denied hp v h))
  · refine (s.opened_up (fun t => t.writeStrobe hp v) hb).trans (congrArg _ ?_)
    unfold State.writeStrobe
    extract_lets asked s1
    have named : asked = [g] := askedGroups_one hv
    simp only [s1, named]
    rw [List.filter_cons_of_pos h, if_pos (by simp [h])]
    rfl
  · exact (s.opened_up (fun t => t.writeGroupCtrl hp g v) hb).trans (congrArg _ (if_pos (by rw [h]; rfl)))
  · refine (s.opened_up (fun t => t.writeGroupCtrl hp g v) hb).trans (congrArg _ ?_)
    have none_ : v.extractLsb' 16 16 = 0 := BitVec.eq_of_toNat_eq (by simp [Nat.shiftRight_eq_div_pow, hv])
    unfold State.writeGroupCtrl
    rw [if_neg (by rw [h]; decide), none_]
    extract_lets new fresh s1 s2
    have hn : new = 0 := BitVec.zero_and
    have hf : ((membersOf g).filter fun m => fresh.getLsbD m) = [] := by simp [fresh, hn]
    have h2 : s2 = s1 := by simp only [s2, hf, State.each, List.foldl_nil]
    rw [h2]
    simp only [s1, hn]
    rfl

end Sys2Proof.Machine

/-! PROOFS of family 'other', GNSS searches, epochs and solutions: O28. -/

namespace Sys2Proof.Machine

variable (s : State)

/-! ### Searches and channels -/

theorem State.startDwell_only : ∃ d w, s.startDwell = { s with gnss := { s.gnss with dwell := d, swept := w } } := by
  unfold State.startDwell
  split
  · exact ⟨s.gnss.dwell, s.gnss.swept, rfl⟩
  · split
    · exact ⟨_, s.gnss.swept, rfl⟩
    · dsimp only
      split
      · exact ⟨s.gnss.dwell, s.gnss.swept, rfl⟩
      · exact ⟨_, _, rfl⟩

/-- What a start of a dwell, after a change of the receiver alone, leaves. -/
theorem State.startDwell_gnss {g : Gnss} {t : State} (ht : t = State.startDwell { s with gnss := g }) :
    t.gnss.toVerify = g.toVerify ∧ t.gnss.chans = g.chans ∧ t = { s with gnss := t.gnss } := by
  obtain ⟨d, w, e⟩ := State.startDwell_only { s with gnss := g }
  rw [ht, e]
  exact ⟨rfl, rfl, rfl⟩

/-- A dwell's end, with the detections that go to verification. -/
theorem execAcqDwellComplete_due {d : Dwell} (n : Nat) (l : List (Nat × Nat)) (hd : s.gnss.dwell = some d) (hv : d.verify = false) (he : d.ends ≤ s.sys.cyc) :
    ∃ w, exec (.acqDwellComplete n l) s = .next (State.startDwell (State.each { s with gnss := { s.gnss with dwell := none, swept := w } }
      ((l.filter fun e => s.gnss.detects n e.2).filterMap fun e => hypothesisAt d.block e.1) State.noteDetection)) := by
  change ∃ w, execAcqDwellComplete n l s = .next (State.startDwell (State.each { s with gnss := { s.gnss with dwell := none, swept := w } } _ _))
  unfold execAcqDwellComplete
  rw [hd]
  exact ⟨_, if_neg (by simp [hv, he])⟩

theorem execAcqVerifyComplete_due {d : Dwell} (n : Nat) (l : List Nat) (hd : s.gnss.dwell = some d) (hv : d.verify = true) (he : d.ends ≤ s.sys.cyc) :
    exec (.acqVerifyComplete n l) s = .next (State.startDwell (if l.any (s.gnss.detects n) then
      State.each { s with gnss.dwell := none, gnss.toVerify := s.gnss.toVerify.drop 1 } d.block State.assignChan
      else { s with gnss.dwell := none, gnss.toVerify := s.gnss.toVerify.drop 1 })) := by
  change execAcqVerifyComplete n l s = _
  unfold execAcqVerifyComplete
  rw [hd]
  exact if_neg (by simp [hv, he])

/-- A detection whose search goes on and that does not wait yet is queued. -/
theorem State.noteDetection_new {x : Search} (hx : (s.searchHyps x.sat x.signal x.antB).isSome = true)
    (hn : (s.gnss.toVerify.any fun y => y.sat == x.sat && y.signal == x.signal && y.antB == x.antB) = false) :
    s.noteDetection x = { s with gnss := { s.gnss with toVerify := s.gnss.toVerify ++ [x] } } :=
  if_neg (by rw [hn, Bool.or_false, Option.isNone_eq_false_iff.mpr hx]; decide)

/-- A search does not look at the dwell and what has been swept. -/
theorem State.searchHyps_dwell (d : Option Dwell) (w : List (Sat × Fin 13 × Bool × Nat)) (sat : Sat) (n : Fin 13) (antB : Bool) :
    State.searchHyps { s with gnss := { s.gnss with dwell := d, swept := w } } sat n antB = s.searchHyps sat n antB := rfl

/-- A confirmed signal for which there is a channel gets it. -/
theorem State.assignChan_some {v : Search} {k : Fin 128} (hs : (s.searchHyps v.sat v.signal v.antB).isSome = true)
    (hk : s.pickChan (s.gnss.class v.sat v.signal v.antB, -s.predicted v.sat) = some k) :
    ∃ e p d, s.assignChan v = s.mapChan k fun _ =>
      { sat := some v.sat, signal := v.signal, antB := v.antB, state := .pullIn, elevation := e, pseudorange := p, doppler := d } := by
  unfold State.assignChan
  rw [if_neg (by rw [Option.isNone_eq_false_iff.mpr hs]; decide), hk]
  exact ⟨_, _, _, rfl⟩

@[simp] theorem State.mapChan_at (k : Fin 128) (f : GnssChan → GnssChan) : (s.mapChan k f).gnss.chans[k] = f s.gnss.chans[k] := upd_same ..

theorem State.mapChan_others (k : Fin 128) (f : GnssChan → GnssChan) : ∀ j, j ≠ k → (s.mapChan k f).gnss.chans[j] = s.gnss.chans[j] :=
  fun _ hj => upd_other _ _ _ _ hj.symm

/-! ### Epochs -/

theorem keepSets_keeps {x : Sat × Int} : ∀ (new old : List (Sat × Int)), x ∈ old → x.1 ∉ new.map Prod.fst → x ∈ keepSets old new
  | [], _, h, _ => h
  | e :: l, old, h, hn => by
    obtain ⟨he, hl⟩ := not_or.mp fun h => hn (List.mem_cons.mpr h)
    refine keepSets_keeps l _ ?_ hl
    dsimp only
    split
    · exact h
    · exact List.mem_cons_of_mem _ (List.mem_filter.mpr ⟨h, by simpa using he⟩)

/-- Each new set is in the ring, where no satellite has two. -/
theorem mem_keepSets {x : Sat × Int} : ∀ (new old : List (Sat × Int)), (new.map Prod.fst).Nodup → x ∈ new → x ∈ keepSets old new
  | e :: l, old, hd, hx => by
    obtain ⟨he, hl⟩ := List.nodup_cons.mp hd
    rcases List.mem_cons.mp hx with rfl | h
    · refine keepSets_keeps l _ ?_ he
      dsimp only
      split
      · next hc => exact List.contains_iff_mem.mp hc
      · exact List.mem_cons_self
    · exact mem_keepSets l _ hl h

/-- One receiver has the epoch, the settings, the solution and the next snapshot of another. -/
def SameEpoch (s t : State) : Prop := t.gnss.epochSec = s.gnss.epochSec ∧ t.gnss.epochAt = s.gnss.epochAt ∧ t.gnss.cfg = s.gnss.cfg ∧
  t.gnss.solution = s.gnss.solution ∧ t.gnss.snapDue = s.gnss.snapDue

theorem SameEpoch.refl : SameEpoch s s := ⟨rfl, rfl, rfl, rfl, rfl⟩

theorem SameEpoch.trans {s t u : State} (h : SameEpoch s t) (k : SameEpoch t u) : SameEpoch s u := by
  obtain ⟨h1, h2, h3, h4, h5⟩ := h
  obtain ⟨k1, k2, k3, k4, k5⟩ := k
  exact ⟨k1.trans h1, k2.trans h2, k3.trans h3, k4.trans h4, k5.trans h5⟩

theorem SameEpoch.of_within {s t : State} {m : Nat} (w : Within m s t) (hm : holds m .gnss = false) : SameEpoch s t := by
  rw [SameEpoch, w .gnss hm]
  exact ⟨rfl, rfl, rfl, rfl, rfl⟩

theorem SameEpoch.each {α : Type} {f : State → α → State} (hf : ∀ t a, SameEpoch t (f t a)) : ∀ (l : List α) (s : State), SameEpoch s (s.each l f)
  | [], s => .refl s
  | a :: l, s => (hf s a).trans (SameEpoch.each hf l (f s a))

theorem SameEpoch.raise {s t : State} {k : FaultKind} {d : Nat} (h : SameEpoch s t) : SameEpoch s (t.raise k d) :=
  h.trans (.of_within Within.start.raise (by decide))

theorem SameEpoch.condition {s t : State} {k : FaultKind} {d : Nat} (h : SameEpoch s t) : SameEpoch s (t.condition k d) :=
  h.trans (.of_within Within.start.condition (by decide))

theorem SameEpoch.causeEnds {s t : State} {k : FaultKind} {d : Nat} (h : SameEpoch s t) : SameEpoch s (t.causeEnds k d) :=
  h.trans (.of_within Within.start.causeEnds (by decide))

theorem SameEpoch.causeGone {s t : State} {k : FaultKind} {p : Nat → Bool} (h : SameEpoch s t) : SameEpoch s (t.causeGone k p) :=
  h.trans (.of_within Within.start.causeGone (by decide))

theorem State.latch_epoch (m : ChanMeas) : SameEpoch s (s.latch m) := by
  unfold State.latch
  extract_lets x
  split
  · exact .refl s
  · split
    · exact .refl s
    · split <;> exact ⟨rfl, rfl, rfl, rfl, rfl⟩

theorem State.startDwell_epoch : SameEpoch s s.startDwell := by
  obtain ⟨d, w, e⟩ := s.startDwell_only
  rw [e]
  exact ⟨rfl, rfl, rfl, rfl, rfl⟩

theorem State.followSurvey_epoch : SameEpoch s s.followSurvey := by
  unfold State.followSurvey
  split
  · exact ⟨rfl, rfl, rfl, rfl, rfl⟩
  · split <;> exact ⟨rfl, rfl, rfl, rfl, rfl⟩

/-- An epoch's state before its channels are looked at: its navigation sets are kept. -/
def State.epochStart (e a v : List (Sat × Int)) : State :=
  State.applied { s with
    gnss.epochSec := s.nowSec, gnss.next := none, gnss.view := v,
    mram.ephemerides := keepSets s.mram.ephemerides e, mram.almanacs := keepSets s.mram.almanacs a } 5 0

/-- The channels' measurements of an epoch, and what follows them. -/
def State.epochLatch (m : List ChanMeas) : State :=
  let t := (s.each m State.latch).releaseLow
  ({ t with gnss.epochAt := some (t.toRaw (t.nowSec * secFrac) / 1024).toNat } : State).followSurvey.followRefresh.startDwell

theorem execGnssEpoch_new (m : List ChanMeas) (e a v : List (Sat × Int)) (hb : s.afterBoot = true) (h : s.gnss.epochSec ≠ s.nowSec) (hn : s.gnss.next = none) :
    exec (.gnssEpoch m e a v) s = .next (if (s.epochStart e a v).gnssTracks then (s.epochStart e a v).epochLatch m else s.epochStart e a v) := by
  change execGnssEpoch m e a v s = _
  unfold execGnssEpoch
  rw [if_neg (by simp [hb, h]), hn]
  dsimp only
  change (if !(s.epochStart e a v).gnssTracks then Host.Outcome.next (s.epochStart e a v) else .next ((s.epochStart e a v).epochLatch m)) = _
  cases (s.epochStart e a v).gnssTracks <;> rfl

theorem State.epochLatch_out (m : List ChanMeas) : (s.epochLatch m).gnss.epochSec = s.gnss.epochSec ∧ (∃ n, (s.epochLatch m).gnss.epochAt = some n) ∧
    Within (partsOf [.gnss]) s (s.epochLatch m) := by
  let t := (s.each m State.latch).releaseLow
  let u : State := { t with gnss.epochAt := some (t.toRaw (t.nowSec * secFrac) / 1024).toNat }
  have w : Within (partsOf [.gnss]) s t := ((Within.start.each fun _ _ => Within.start.latch).releaseLow).mono (by decide)
  have ht : SameEpoch s t := (SameEpoch.each (fun t m => t.latch_epoch m) m s).trans ⟨rfl, rfl, rfl, rfl, rfl⟩
  have hu : SameEpoch u (s.epochLatch m) := (u.followSurvey_epoch.trans ⟨rfl, rfl, rfl, rfl, rfl⟩).trans (State.startDwell_epoch _)
  obtain ⟨hsec, hat, -⟩ := hu
  exact ⟨hsec.trans ht.1, ⟨_, hat⟩, ((w.set (partsOf [.gnss])).followSurvey.followRefresh.startDwell).mono (by decide)⟩

/-! ### Solutions -/

theorem State.followSpoof_epoch (i : Fin 3) (b : Bool) : SameEpoch s (s.followSpoof i b) := by
  unfold State.followSpoof
  dsimp only
  split
  · split
    · exact ⟨rfl, rfl, rfl, rfl, rfl⟩
    · exact SameEpoch.raise ⟨rfl, rfl, rfl, rfl, rfl⟩
  · split
    · split
      · exact SameEpoch.causeEnds ⟨rfl, rfl, rfl, rfl, rfl⟩
      · exact ⟨rfl, rfl, rfl, rfl, rfl⟩
    · exact .refl s

theorem State.spoofChecks_epoch (nav : NavData) : SameEpoch s (s.spoofChecks nav).1 := by
  unfold State.spoofChecks
  extract_lets a hit run f p _ s1
  have h1 : SameEpoch s s1 := ⟨rfl, rfl, rfl, rfl, rfl⟩
  exact ((h1.trans (s1.followSpoof_epoch 0 _)).trans (State.followSpoof_epoch _ 1 _)).trans (State.followSpoof_epoch _ 2 _)

theorem State.noteExcluded_epoch (l : List Sat) : SameEpoch s (s.noteExcluded l) := by
  unfold State.noteExcluded
  extract_lets s1 runs
  have h1 : SameEpoch s s1 := SameEpoch.each (fun t x => .of_within Within.start.raise (by decide)) l s
  exact h1.trans ⟨rfl, rfl, rfl, rfl, rfl⟩

theorem State.deliverGnss_epoch (phi : Int) (at_ : Nat) (hard : Rat) : SameEpoch s (s.deliverGnss phi at_ hard) := by
  unfold State.deliverGnss
  extract_lets fe
  have h1 : SameEpoch s (s.keepFrequency phi at_) := by
    unfold State.keepFrequency
    split
    · exact .refl s
    · split
      · exact .refl s
      · exact ⟨rfl, rfl, rfl, rfl, rfl⟩
  exact h1.trans (SameEpoch.each (fun t i => .of_within Within.start.mapSlot.deliverMeas (by decide)) _ _)

/-- What a solution leaves of the epoch, and that one without a position shows none. -/
theorem State.settleSolution_out (r : Solved) (nav : NavData) (survey : Bool) (n : Nat) :
    (s.settleSolution r nav survey n).gnss.epochAt = s.gnss.epochAt ∧ (r.code = 0 → (s.settleSolution r nav survey n).gnss.solution = .none) ∧
      (s.settleSolution r nav survey n).gnss.snapDue = s.gnss.snapDue := by
  unfold State.settleSolution
  extract_lets spoofed sol hard used ok wasOk shown _ s1 s2 s3 s4
  have h2 : SameEpoch s1 s2 := s1.noteExcluded_epoch r.excluded
  have h3 : SameEpoch s1 s3 := by
    simp only [s3]
    split
    · exact h2.condition
    · exact h2.causeGone
  have h4 : SameEpoch s1 s4 := by
    simp only [s4]
    split
    · exact h3.causeEnds
    · split
      · exact h3.condition
      · exact h3
  have hs : r.code = 0 → sol = .none := fun h => if_pos h
  have h5 : SameEpoch s1 (if ok then (if survey then s4.noteSurvey r else s4).deliverGnss (s4.gnssOffset r nav s.nowSec) n hard
      else if sol == .integrity then (s4.each s4.gnssSlots fun t i => t.alarm i 4).evaluate else s4.signalLost s4.gnssSlots) := by
    split
    · refine SameEpoch.trans ?_ (State.deliverGnss_epoch _ _ _ _)
      split
      · exact h4.trans ⟨rfl, rfl, rfl, rfl, rfl⟩
      · exact h4
    · split
      · exact (h4.trans (SameEpoch.each (fun t i => .of_within Within.start.alarm (by decide)) _ _)).trans (.of_within Within.start.evaluate (by decide))
      · exact h4.trans (.of_within Within.start.signalLost (by decide))
  obtain ⟨-, hat, -, hsol, hdue⟩ := h5
  exact ⟨hat, fun h => hsol.trans (hs h), hdue⟩

/-- One state shows the broadcast leap counts beside the epoch of another. -/
def ShowsLeap (nav : NavData) (s t : State) : Prop :=
  SameEpoch s t ∧ t.gnss.leapNow = nav.leapNow ∧ t.gnss.leapNext = nav.leapNext ∧ t.gnss.leapAnnounced = nav.leapDay.isSome

theorem ShowsLeap.raise {nav : NavData} {s t : State} {k : FaultKind} {d : Nat} (h : ShowsLeap nav s t) : ShowsLeap nav s (t.raise k d) := by
  obtain ⟨same, counts⟩ := h
  have e : (t.raise k d).gnss = t.gnss := (Within.start.raise : Within _ t (t.raise k d)) .gnss (by decide)
  exact ⟨same.raise, by rw [e]; exact counts⟩

theorem ShowsLeap.ite {nav : NavData} {s t u : State} {c : Prop} [Decidable c] (ht : ShowsLeap nav s t) (hu : ShowsLeap nav s u) :
    ShowsLeap nav s (if c then t else u) := by
  split
  · exact ht
  · exact hu

theorem State.noteLeap_shows (nav : NavData) : ShowsLeap nav s (s.noteLeap nav) := by
  unfold State.noteLeap
  extract_lets _ s1 _ s2
  have h2 : ShowsLeap nav s s2 := by
    simp only [s2]
    split
    · exact ShowsLeap.raise ⟨⟨rfl, rfl, rfl, rfl, rfl⟩, rfl, rfl, rfl⟩
    · exact ⟨⟨rfl, rfl, rfl, rfl, rfl⟩, rfl, rfl, rfl⟩
  split
  · exact h2
  · refine ShowsLeap.ite (ShowsLeap.raise ?_) h2
    exact h2

/-- What a solution answers of a latched epoch. -/
theorem execGnssSolutionComplete_some (nav : NavData) {n : Nat} (h : s.gnss.epochAt = some n) :
    exec (.gnssSolutionComplete nav) s = .next (((State.spoofChecks { s with gnss.epochAt := none } nav).1.settleSolution
      ((State.spoofChecks { s with gnss.epochAt := none } nav).1.gnssSolve (State.spoofChecks { s with gnss.epochAt := none } nav).1.codeObs nav
        (State.spoofChecks { s with gnss.epochAt := none } nav).2 s.gnss.surveys) nav s.gnss.surveys n).noteLeap nav) := by
  change execGnssSolutionComplete nav s = _
  rw [execGnssSolutionComplete, h]

theorem State.gnssSolve_none (obs : List CodeObs) (nav : NavData) (out : List Sat) (h : s.gnss.posInvalid = true) :
    (s.gnssSolve obs nav out false).code = 0 := by
  unfold State.gnssSolve
  dsimp only
  rw [if_pos (by simp [h])]

/-- Settles O28: the search's queue, the channel lists, and an epoch's solution step by step. -/
theorem gnssSearchesEpochsAndSolutions : Obligations.GnssSearchesEpochsAndSolutions := by
  unfold Obligations.GnssSearchesEpochsAndSolutions
  refine ⟨⟨fun s d n l hd hv he => ⟨fun hl => ?_, fun h p x hl hp hx hs hw => ?_⟩, fun s d n l m hd he => ?_, 
    fun s d n l hd hv he => ⟨fun hl => ?_, fun u v k hu hl hb hs hk => ?_⟩, fun s k hst hr => ?_, fun s k h => ?_, fun s sat => ?_⟩, 
    fun s m e a v h => ?_, fun s m e a v hb h h' hn he ha => ?_, fun s m e a v hb h hn => ?_, fun s nav h => ?_, fun s nav n h => ?_, fun s nav n c h hc => ?_,
    fun s hb hm hv ht => ?_, fun s h => ?_, fun s hr hl => ?_⟩
  · obtain ⟨w, hex⟩ := execAcqDwellComplete_due s n l hd hv he
    have none_ : (l.filter fun e => s.gnss.detects n e.2) = [] := List.filter_eq_nil_iff.mpr fun e he => by rw [hl e he]; decide
    rw [none_] at hex
    obtain ⟨h1, h2, h3⟩ := s.startDwell_gnss (g := { s.gnss with dwell := none, swept := w }) rfl
    exact ⟨_, hex, h1, h2, h3⟩
  · obtain ⟨w, hex⟩ := execAcqDwellComplete_due s n l hd hv he
    have one : ((l.filter fun e => s.gnss.detects n e.2).filterMap fun e => hypothesisAt d.block e.1) = [x] := by simp [hl, hp, hx]
    rw [one] at hex
    have note := State.noteDetection_new { s with gnss := { s.gnss with dwell := none, swept := w } } hs hw
    change exec _ s = .next (State.startDwell (State.noteDetection _ x)) at hex
    rw [note] at hex
    obtain ⟨h1, h2, h3⟩ := s.startDwell_gnss (g := { s.gnss with dwell := none, swept := w, toVerify := s.gnss.toVerify ++ [x] }) rfl
    exact ⟨_, hex, h1, h2, h3⟩
  · constructor
    · change execAcqDwellComplete n l s = _
      unfold execAcqDwellComplete
      rw [hd]
      exact if_pos (by simp [he])
    · change execAcqVerifyComplete n m s = _
      unfold execAcqVerifyComplete
      rw [hd]
      exact if_pos (by simp [he])
  · have hex := execAcqVerifyComplete_due s n l hd hv he
    rw [if_neg (by simpa using hl)] at hex
    obtain ⟨h1, h2, h3⟩ := s.startDwell_gnss (g := { s.gnss with dwell := none, toVerify := s.gnss.toVerify.drop 1 }) rfl
    exact ⟨_, hex, h1, h2, h3⟩
  · have hex := execAcqVerifyComplete_due s n l hd hv he
    rw [if_pos hl, ← hu, hb] at hex
    obtain ⟨e, p, c, ha⟩ := u.assignChan_some hs hk
    change exec _ s = .next (State.startDwell (u.assignChan v)) at hex
    rw [ha] at hex
    obtain ⟨x, hx⟩ : ∃ x : GnssChan, x = { sat := some v.sat, signal := v.signal, antB := v.antB, state := .pullIn, elevation := e, pseudorange := p, doppler := c } :=
      ⟨_, rfl⟩
    rw [← hx] at hex
    obtain ⟨t, ht⟩ : ∃ t, t = (u.mapChan k fun _ => x).startDwell := ⟨_, rfl⟩
    obtain ⟨-, h2, h3⟩ := u.startDwell_gnss (g := (u.mapChan k fun _ => x).gnss) ht
    have at_ := u.mapChan_at k fun _ => x
    rw [← h2, hx] at at_
    refine ⟨t, hex.trans (congrArg _ ht.symm), by rw [at_], by rw [at_], by rw [at_], by rw [at_], fun j hj => ?_, h3.trans (by rw [hu])⟩
    rw [h2]
    exact (u.mapChan_others k _ j hj).trans (by rw [hu])
  · let x := { s.gnss.chans[k] with state := ChanState.lost, used := false, excluded := false, lowRun := 0 }
    have hex : exec (.trackChannelLost k) s = .next (State.startDwell { s with gnss := { (s.mapChan k fun x => { x with
        state := .lost, used := false, excluded := false, lowRun := 0 }).gnss with swept := s.gnss.swept.filter fun e => some e.1 != s.gnss.chans[k].sat } }) :=
      if_pos (by simp [-Fin.getElem_fin, hst, hr])
    obtain ⟨-, h2, h3⟩ := s.startDwell_gnss (g := { (s.mapChan k fun x => { x with
        state := .lost, used := false, excluded := false, lowRun := 0 }).gnss with swept := s.gnss.swept.filter fun e => some e.1 != s.gnss.chans[k].sat }) rfl
    refine ⟨_, hex, ?_, fun j hj => ?_, h3⟩
    · rw [h2]
      exact s.mapChan_at k _
    · rw [h2]
      exact s.mapChan_others k _ j hj
  · exact if_neg (by simp [-Fin.getElem_fin, h])
  · refine ⟨_, rfl, fun e he => ?_, rfl⟩
    simp only [List.mem_filter, he, true_and]
    by_cases hs : e.1 = sat <;> simp [hs, State.lapsed]
  · exact if_pos (by simp [h])
  · have idle : (s.epochStart e a v).gnssTracks = false := by
      change ((s.epochStart e a v).afterBoot && (s.gnss.mode == 1 || s.gnss.mode == 2)) = false
      rw [h']
      exact Bool.and_false _
    refine ⟨s.epochStart e a v, ?_, rfl, fun x hx => mem_keepSets _ _ he hx, fun x hx => mem_keepSets _ _ ha hx, rfl, rfl, rfl, rfl, rfl⟩
    rw [execGnssEpoch_new s m e a v hb h hn, idle]
    rfl
  · have tracks : (s.epochStart e a v).gnssTracks = true := hb
    have boot : s.afterBoot = true := (Bool.and_eq_true_iff.mp hb).1
    obtain ⟨hsec, ⟨n, hat⟩, w⟩ := (s.epochStart e a v).epochLatch_out m
    refine ⟨(s.epochStart e a v).epochLatch m, n, ?_, hsec, hat, w.ts_eq (by decide), w.wv_eq (by decide) (by decide)⟩
    rw [execGnssEpoch_new s m e a v boot h hn, tracks]
    rfl
  · change execGnssSolutionComplete nav s = _
    rw [execGnssSolutionComplete, h]
  · have hex := execGnssSolutionComplete_some s nav h
    have hc : SameEpoch { s with gnss.epochAt := none } (State.spoofChecks { s with gnss.epochAt := none } nav).1 := State.spoofChecks_epoch _ nav
    generalize State.spoofChecks { s with gnss.epochAt := none } nav = c at hex hc
    generalize hr : c.1.gnssSolve c.1.codeObs nav c.2 s.gnss.surveys = r at hex
    obtain ⟨-, hat, hcfg, -⟩ := hc
    obtain ⟨settled, nothing, -⟩ := c.1.settleSolution_out r nav s.gnss.surveys n
    obtain ⟨⟨-, shownAt, -, shown, -⟩, now, next, announced⟩ := (c.1.settleSolution r nav s.gnss.surveys n).noteLeap_shows nav
    refine ⟨_, hex, shownAt.trans (settled.trans hat), now, next, announced, fun hs hp => shown.trans (nothing ?_)⟩
    rw [← hr, hs]
    refine c.1.gnssSolve_none _ _ _ ?_
    rw [Gnss.posInvalid, hcfg]
    exact hp
  · subst hc
    exact execGnssSolutionComplete_some s nav h
  · refine ⟨s.condition Flt.gnssNoSolution 0, if_neg ?_, List.contains_iff_mem.mpr (State.condition_present _ _ _ rfl), (Within.start.condition : Within _ s _).eq⟩
    simp [hb, hm, hv, State.lapsed]
    exact ht
  · refine if_pos ?_
    rcases h with h | h
    · simp [h]
    · have early : s.lapsed (s.gnss.modeStart + 300 * secCyc) = false := decide_eq_false (not_lt.mpr h)
      rw [early, Bool.not_false, Bool.or_true]
  · let u : State := { s with gnss.refresh := false }
    have hex : exec .ephRefreshLimit s = .next (if s.ephCount (s.nowSec + 600) < s.gnss.cfg.nat Ix.rxMinSats then u.raise Flt.gnssEphStale
        (s.ephCount (s.nowSec + 600)) else u) := if_neg (by simp [hr]; exact hl)
    obtain ⟨c, hc⟩ := u.raise_only Flt.gnssEphStale (s.ephCount (s.nowSec + 600))
    rw [hc] at hex
    split at hex <;> exact ⟨_, hex, rfl, rfl⟩

end Sys2Proof.Machine

/-! PROOFS of family 'other', GNSS streams, surveys and snapshots: O29. -/

namespace Sys2Proof.Machine

variable (s : State)

/-! ### Messages that last through an evaluation of the selection -/

/-- The conditions of the GNSS baseband (source 7) and of the twin (source 12) that are present stay present. -/
def Lasts (s t : State) : Prop := ∀ m ∈ s.flt.present, (m.source = 7 ∨ m.source = 12) → m ∈ t.flt.present

section
variable {s₀ s t : State} (h : Lasts s₀ s)
include h

theorem Lasts.trans (g : Lasts s t) : Lasts s₀ t := fun m hm h7 => g m (h m hm h7) h7

theorem Lasts.within {m : Nat} (w : Within m s t) (hm : holds m .flt = false) : Lasts s₀ t := by
  rw [Lasts, w .flt hm]
  exact h

theorem Lasts.each {α : Type} {f : State → α → State} (hf : ∀ t a, Lasts t (f t a)) (l : List α) : Lasts s₀ (s.each l f) := by
  induction l generalizing s with
  | nil => exact h
  | cons a l ih => exact ih (h.trans (hf s a))

theorem Lasts.raise {k : FaultKind} {d : Nat} : Lasts s₀ (s.raise k d) := by
  intro m hm h7
  rw [State.raise_present]
  split
  · exact List.mem_append_left _ (h m hm h7)
  · exact h m hm h7

theorem Lasts.condition {k : FaultKind} {d : Nat} : Lasts s₀ (s.condition k d) := h.trans fun _ hm _ => State.condition_keeps _ k d hm

theorem Lasts.causeGone {k : FaultKind} {p : Nat → Bool} (hk : k.source ≠ 7 ∧ k.source ≠ 12) : Lasts s₀ (s.causeGone k p) := fun m hm h7 =>
  List.mem_filter.mpr ⟨h m hm h7, by rcases h7 with h7 | h7 <;> simp [h7, Ne.symm hk.1, Ne.symm hk.2]⟩

end

theorem Lasts.start : Lasts s s := fun _ hm _ => hm

theorem Lasts.ite {s₀ s t : State} {c : Prop} [Decidable c] (hs : Lasts s₀ s) (ht : Lasts s₀ t) : Lasts s₀ (if c then s else t) := by
  split
  exacts [hs, ht]

theorem State.notice_lasts (code : Nat) (a0 a1 : Word) : Lasts s (s.notice code a0 a1) := by
  refine Lasts.start s |>.each (fun t p => ?_) _
  unfold State.noticePort
  split
  · exact .start t
  · dsimp only
    split
    · exact Lasts.raise ((Lasts.start t).within Within.start.mapHost.ring (by decide))
    · exact (Lasts.start t).within Within.start.parcelWrite.mapHost.ring (by decide)

theorem State.checkpoint_lasts : Lasts s s.checkpoint := by
  intro m hm h7
  change m ∈ (s.checkpointAt (Config.mramFails s.freeCtr)).flt.present
  unfold State.checkpointAt
  dsimp only
  split
  · exact hm
  · exact (Lasts.start s).raise m hm h7

theorem State.setEngine_lasts (e : EngineState) : Lasts s (s.setEngine e) := by
  unfold State.setEngine
  split
  · exact .start s
  · extract_lets a0 _ _ s1 s2 s3
    have h1 : Lasts s s1 := .start s
    clear_value s1
    have h2 : Lasts s s2 := (h1.within Within.start.logAt (by decide)).trans (State.notice_lasts _ 1 a0 0)
    have h3 : Lasts s s3 := h2.ite (h2.trans s2.checkpoint_lasts)
    clear_value s3
    exact h3.within Within.start.print.promptAgain (by decide)

theorem State.startHolding_lasts (loss : Nat) (measured : Bool) : Lasts s (s.startHolding loss measured) := by
  unfold State.startHolding
  extract_lets s1 s2 _ s3
  have h2 : Within (partsOf [.fc]) s s2 := (Within.start.useFlywheel.each fun _ _ => Within.start.anchorOne).mono (by decide)
  have l2 : Lasts s s2 := (Lasts.start s).within h2 (by decide)
  clear_value s2
  have h3 : Lasts s s3 := l2
  clear_value s3
  exact (Lasts.start s).ite (h3.each (fun t f => (Lasts.start t).raise) _)

theorem State.checkThreshold_lasts (i : Fin 26) : Lasts s (s.checkThreshold i) := by
  unfold State.checkThreshold
  extract_lets _ _ s1
  have h1 : Lasts s s1 := Lasts.start s
  exact (h1.ite h1.raise).ite (h1.causeGone (by decide))

theorem State.followUnknown_lasts (old : Word) : Lasts s (s.followUnknown old) := by
  have h : Lasts s s := .start s
  exact (h.ite h.raise).ite (h.causeGone (by decide))

theorem State.renewBounds_lasts : Lasts s s.renewBounds := by
  unfold State.renewBounds
  extract_lets old s1 _ s2 s3 s4 s5
  have h1 : Lasts s s1 := (Lasts.start s).within Within.start.renewWeights.followComponents.computeBounds (by decide)
  clear_value s1
  have h2 : Lasts s s2 := h1
  clear_value s2
  have h3 : Lasts s s3 := (h2.within Within.start.hwEventAll (by decide)).trans (State.followUnknown_lasts _ old)
  clear_value s3
  have h4 : Lasts s s4 := h3.each State.checkThreshold_lasts (List.finRange 26)
  clear_value s4
  have w : Within (partsOf [.tdc, .slots, .svc]) s4 s5 := ((Within.start.each fun _ _ => Within.start.stepClass).renewWidths.unblock).mono (by decide)
  clear_value s5
  have h5 : Lasts s s5 := h4.within w (by decide)
  exact h5

theorem State.startWalk_lasts (o : Fin 4) : Lasts s (s.startWalk o) := by
  unfold State.startWalk
  split
  · refine Lasts.ite ?_ ((Lasts.start s).within Within.start.mapOs.retune (by decide))
    unfold State.closeAlign
    extract_lets s1 s2
    have h1 : Lasts s s1 := (Lasts.start s).within Within.start.mapOs.retune (by decide)
    have h2 : Lasts s s2 := (h1.within Within.start.logAt (by decide)).trans (State.notice_lasts _ _ _ _)
    exact h2.within ((Within.start.set (partsOf [.outs])).alignDone) (by decide)
  · exact .start s

theorem State.recompute_lasts : Lasts s s.recompute := s.renewBounds_lasts.each State.startWalk_lasts _

theorem State.followPhase_lasts : Lasts s s.followPhase := by
  have move : ∀ e, Lasts s (s.moveEngine e) := fun e => (Lasts.start s).ite ((s.setEngine_lasts e).within Within.start.classesNow (by decide))
  unfold State.followPhase
  split
  exacts [move _, move _, move _, move _, .start s]

theorem State.slewFlag_lasts (b : Bool) : Lasts s (s.slewFlag b) := by
  unfold State.slewFlag
  split
  · exact .start s
  · have h : Lasts s { s with loop.slewLimited := false } := .start s
    exact h.causeGone (by decide)

theorem State.enterHoldover_lasts (measured : Bool) : Lasts s (s.enterHoldover measured) := by
  unfold State.enterHoldover
  extract_lets _ s1 s2
  have h1 : Lasts s s1 := .start s
  clear_value s1
  have h1 : Lasts s (s1.slewFlag false) := h1.trans (s1.slewFlag_lasts false)
  exact ((h1.trans (State.startHolding_lasts _ _ _)).trans (State.recompute_lasts _)).trans (State.followPhase_lasts _)

theorem State.setSlot_lasts (i : Fin 16) (new : SlotState) (cause : Nat) : Lasts s (s.setSlot i new cause) := by
  unfold State.setSlot
  extract_lets old s1 a0
  have h1 : Lasts s s1 := .start s
  exact h1.ite (((h1.within Within.start.logAt (by decide)).trans (State.notice_lasts _ _ _ _)).within Within.start.replSlot (by decide))

theorem State.alarm_lasts (i : Fin 16) (cause : Nat) : Lasts s (s.alarm i cause) := by
  have drop : ∀ t : State, Lasts t (t.dropSlot i) := fun t => (Lasts.start t).within Within.start.dropSlot (by decide)
  have out : ∀ fl, Lasts s ((((s.dropSlot i).setSlot i .disqualified cause).mapSlot i fun y => { y with flaps := fl }).raise Flt.refDisqualified
      (i.val + cause * 16)) := fun fl =>
    Lasts.raise (((drop s).trans (State.setSlot_lasts _ i _ _)).within Within.start.mapSlot (by decide))
  have lock : ∀ t : State, Lasts t (t.lockOut i 7) := fun t => Lasts.condition ((drop t).trans (State.setSlot_lasts _ i _ _))
  unfold State.alarm
  dsimp only
  split
  exacts [((out _).trans (lock _)).ite (out _), ((out _).trans (lock _)).ite (out _), ((out _).trans (lock _)).ite (out _), .start s]

theorem State.letGo_lasts : Lasts s s.letGo := by
  unfold State.letGo
  split
  · exact .start s
  · extract_lets _ s1
    have h1 : Lasts s s1 := .start s
    exact (Lasts.start s).ite ((h1.trans (s1.startHolding_lasts _ _)).ite h1)

theorem State.startSwitch_lasts (i : Fin 16) : Lasts s (s.startSwitch i) := by
  unfold State.startSwitch
  extract_lets _ _ _ s1
  have h1 : Lasts s s1 := .start s
  exact Lasts.ite (h1.trans (State.startHolding_lasts _ _ _)) h1

theorem State.evaluate_lasts : Lasts s s.evaluate := by
  unfold State.evaluate
  have h1 : Lasts s s.nameAid.letGo := ((Lasts.start s).within Within.start.nameAid (by decide)).trans (State.letGo_lasts _)
  split
  · exact .start s
  · extract_lets s1 w _ s2
    have h2 : Lasts s s2 := h1
    clear_value s2
    refine h1.ite ?_
    split
    · exact h2.ite (h2.trans (s2.startSwitch_lasts _))
    · exact Lasts.ite (h2.condition.trans (State.enterHoldover_lasts _ _)) h2

/-! ### Streams -/

@[simp] theorem State.mapStream_at (i : Fin 4) (f : Stream → Stream) : (s.mapStream i f).gnss.streams[i] = f s.gnss.streams[i] := upd_same ..

theorem State.mapStream_others (i : Fin 4) (f : Stream → Stream) : ∀ k, k ≠ i → (s.mapStream i f).gnss.streams[k] = s.gnss.streams[k] :=
  fun _ hk => upd_other _ _ _ _ hk.symm

theorem vector_any {α : Type} {n : Nat} {v : Vector α n} {p : α → Bool} : v.toList.any p = true ↔ ∃ k : Fin n, p v[k] = true := by
  rw [List.any_eq_true]
  constructor
  · rintro ⟨x, hx, hp⟩
    obtain ⟨k, hk, rfl⟩ := Vector.mem_iff_getElem.mp (Vector.mem_toList_iff.mp hx)
    exact ⟨⟨k, hk⟩, hp⟩
  · rintro ⟨k, hp⟩
    exact ⟨_, Vector.mem_toList_iff.mpr (Vector.getElem_mem k.isLt), hp⟩

theorem vector_all {α : Type} {n : Nat} {v : Vector α n} {p : α → Bool} : v.toList.all p = true ↔ ∀ k : Fin n, p v[k] = true := by
  rw [List.all_eq_true]
  refine ⟨fun h k => h _ (Vector.mem_toList_iff.mpr (Vector.getElem_mem k.isLt)), fun h x hx => ?_⟩
  obtain ⟨k, hk, rfl⟩ := Vector.mem_iff_getElem.mp (Vector.mem_toList_iff.mp hx)
  exact h ⟨k, hk⟩

/-- The tests' values of a stream. -/
def State.streamTested (i : Fin 4) (x : List (Nat × Int × Int)) : State :=
  s.mapStream i fun y => { y with rms := rmsCode (sampleSquare x), clip := tooClipped x }

/-- A stream turned unhealthy, its channels dropped. -/
def State.streamFailed (i : Fin 4) (x : List (Nat × Int × Int)) : State :=
  ((s.streamTested i x).mapStream i fun y => { y with healthy := false, goodSince := none }).dropChans fun z => decide (streamOf z.signal z.antB = i)

theorem streamCause_some {x : List (Nat × Int × Int)} (h : 62500 ≤ longestRun x ∨ sampleSquare x < 1 / 4 ∨ tooClipped x = true) :
    ∃ c, streamCause x = some c := by
  unfold streamCause
  split
  · exact ⟨_, rfl⟩
  · split
    · exact ⟨_, rfl⟩
    · split
      · exact ⟨_, rfl⟩
      · next h1 h2 h3 => exact absurd h (by tauto)

theorem streamCause_none {x : List (Nat × Int × Int)} (h1 : longestRun x < 62500) (h2 : 1 / 4 ≤ sampleSquare x) (h3 : tooClipped x = false) :
    streamCause x = none := by
  rw [streamCause, if_neg (not_le.mpr h1), if_neg (not_lt.mpr h2), if_neg (by rw [h3]; decide)]

/-- A stream that failed, reported where it is not known. -/
def State.streamReported (i : Fin 4) (x : List (Nat × Int × Int)) (c : Nat) : State :=
  if s.flt.present.any fun m => m.source == Flt.feStream.source && m.kind == Flt.feStream.kind && m.detail % 4 == i.val then s.streamFailed i x
  else (s.streamFailed i x).raise Flt.feStream (i.val + c * 4)

theorem State.streamReported_only (i : Fin 4) (x : List (Nat × Int × Int)) (c : Nat) :
    ∃ f, s.streamReported i x c = { s with gnss := (s.streamFailed i x).gnss, flt := f } := by
  obtain ⟨f, hf⟩ := (s.streamFailed i x).raise_only Flt.feStream (i.val + c * 4)
  unfold State.streamReported
  split
  · exact ⟨s.flt, rfl⟩
  · exact ⟨f, hf⟩

theorem execStreamHealthCheck_failed (i : Fin 4) (x : List (Nat × Int × Int)) (hb : s.afterBoot = true)
    (he : s.gnss.streams[i].cfg.flag Ix.streamEnable = true) {c : Nat} (hc : streamCause x = some c) {u : State} (hu : u = s.streamReported i x c) :
    exec (.streamHealthCheck i x) s =
      .next (if s.gnss.streams[i].healthy && u.gnss.streams.toList.all (fun y => !y.healthy) then u.signalLost u.gnssSlots else u) := by
  subst hu
  change execStreamHealthCheck i x s = _
  unfold execStreamHealthCheck
  rw [if_neg (by simp [-Fin.getElem_fin, hb, he]), hc]
  rfl

/-- A stream that fails while another is healthy: the slots keep their signal. -/
theorem execStreamHealthCheck_other (i j : Fin 4) (x : List (Nat × Int × Int)) (hb : s.afterBoot = true)
    (he : s.gnss.streams[i].cfg.flag Ix.streamEnable = true) (hj : j ≠ i) (hh : s.gnss.streams[j].healthy = true) {c : Nat} (hc : streamCause x = some c) :
    ∃ f, exec (.streamHealthCheck i x) s = .next { s with gnss := (s.streamFailed i x).gnss, flt := f } := by
  obtain ⟨f, hf⟩ := s.streamReported_only i x c
  have other : (s.streamFailed i x).gnss.streams[j].healthy = true :=
    (congrArg Stream.healthy ((State.mapStream_others _ i _ j hj).trans (State.mapStream_others _ i _ j hj))).trans hh
  have some_ : ((s.streamFailed i x).gnss.streams.toList.all fun y => !y.healthy) = false :=
    Bool.eq_false_of_not_eq_true fun h => by simpa [-Fin.getElem_fin, other] using vector_all.mp h j
  refine ⟨f, (execStreamHealthCheck_failed s i x hb he hc hf.symm).trans (congrArg _ (if_neg ?_))⟩
  rw [some_, Bool.and_false]
  decide

theorem State.dropChans_idle (p : GnssChan → Bool) (c : Fin 128) (h : p s.gnss.chans[c] = true) : (s.dropChans p).gnss.chans[c].state = .idle := by
  have at_ : (s.dropChans p).gnss.chans[c] = if s.gnss.chans[c].state != .idle && p s.gnss.chans[c] then {} else s.gnss.chans[c] :=
    Vector.getElem_map _ c.isLt
  rw [at_, h, Bool.and_true]
  split
  · rfl
  · next hi => simpa [-Fin.getElem_fin] using hi

/-! ### Jamming -/

/-- A J/N report's values: the stream's code, and whether any stream is above the limit. -/
def State.jnNoted (i : Fin 4) (p : Nat) : State :=
  let u := s.notePower i p
  let v := u.mapStream i fun x => { x with jn := jnCode (u.jnDepression i), jamOver := u.gnss.jamOver (jnCode (u.jnDepression i)) }
  { v with gnss.jamming := v.gnss.streams.toList.any (·.jamOver) }

theorem execJnReport_below (i : Fin 4) (p : Nat) (hb : s.afterBoot = true) (he : s.gnss.streams[i].cfg.flag Ix.streamEnable = true)
    (h : (s.notePower i p).gnss.jamOver (jnCode ((s.notePower i p).jnDepression i)) = false) :
    exec (.jnReport i p) s = .next ((s.jnNoted i p).causeEnds Flt.gnssJamming i.val) := by
  change execJnReport i p s = _
  unfold execJnReport
  rw [if_neg (by simp [-Fin.getElem_fin, hb, he])]
  exact if_neg (by rw [h]; decide)

theorem execJnReport_above (i : Fin 4) (p : Nat) (hb : s.afterBoot = true) (he : s.gnss.streams[i].cfg.flag Ix.streamEnable = true)
    (h : (s.notePower i p).gnss.jamOver (jnCode ((s.notePower i p).jnDepression i)) = true) {t : State} (ht : t = (s.jnNoted i p).condition Flt.gnssJamming i.val) :
    exec (.jnReport i p) s = .next (if t.gnss.cfg.flag Ix.rxJamAlarm then (t.each t.gnssSlots fun t i => t.alarm i 4).evaluate else t) := by
  subst ht
  change execJnReport i p s = _
  unfold execJnReport
  rw [if_neg (by simp [-Fin.getElem_fin, hb, he])]
  exact if_pos h

theorem State.jnNoted_out (i : Fin 4) (p : Nat) : (s.jnNoted i p).gnss.streams[i].jn = jnCode ((s.notePower i p).jnDepression i) ∧
    (s.jnNoted i p).gnss.streams[i].jamOver = (s.notePower i p).gnss.jamOver (jnCode ((s.notePower i p).jnDepression i)) ∧
    (s.jnNoted i p).gnss.streams[i].powers.head? = some (s.sys.cyc, p) ∧
    ((s.jnNoted i p).gnss.jamming = true ↔ (s.jnNoted i p).gnss.streams[i].jamOver = true ∨ ∃ k : Fin 4, k ≠ i ∧ s.gnss.streams[k].jamOver = true) := by
  let u := s.notePower i p
  let v := u.mapStream i fun x => { x with jn := jnCode (u.jnDepression i), jamOver := u.gnss.jamOver (jnCode (u.jnDepression i)) }
  have at_ : v.gnss.streams[i] = { u.gnss.streams[i] with jn := jnCode (u.jnDepression i), jamOver := u.gnss.jamOver (jnCode (u.jnDepression i)) } :=
    u.mapStream_at i _
  have others : ∀ k, k ≠ i → v.gnss.streams[k] = s.gnss.streams[k] := fun k hk => (u.mapStream_others i _ k hk).trans (s.mapStream_others i _ k hk)
  have powers : u.gnss.streams[i].powers = keepWeek s.sys.cyc ((s.sys.cyc, p) :: s.gnss.streams[i].powers) := congrArg Stream.powers (s.mapStream_at i _)
  refine ⟨congrArg Stream.jn at_, congrArg Stream.jamOver at_, ?_, ?_⟩
  · refine (congrArg (fun x : Stream => x.powers.head?) at_).trans ?_
    rw [powers, keepWeek, List.filter_cons_of_pos (by simp [secCyc])]
    rfl
  · change v.gnss.streams.toList.any (·.jamOver) = true ↔ v.gnss.streams[i].jamOver = true ∨ _
    rw [vector_any]
    refine ⟨fun ⟨k, hk⟩ => ?_, fun h => h.elim (fun h => ⟨i, h⟩) fun ⟨k, hk, h⟩ => ⟨k, by rw [others k hk]; exact h⟩⟩
    by_cases e : k = i
    · exact .inl (e ▸ hk)
    · exact .inr ⟨k, e, by rw [← others k e]; exact hk⟩

/-- The signal of slots ends with an alarm of cause `c`. -/
theorem State.alarms_out {l : List (Fin 16)} (hl : l.Nodup) {i : Fin 16} (hi : i ∈ l) (c : Nat) :
    ((s.each l fun t i => t.alarm i c).evaluate).wv.slots[i].isOut := by
  have hu : (s.each l fun t i => t.alarm i c).wv.slots[i].isOut :=
    State.each_reaches (f := fun t i => t.alarm i c) (Q := fun _ => True) (P := fun t => t.wv.slots[i].isOut) (fun _ _ _ _ => trivial) (fun t _ => (t.alarm_slot i c).1)
      (fun t (j : Fin 16) hj h => by rw [(t.alarm_slot j c).2.2 i hj.symm]; exact h) hl hi s trivial
  obtain ⟨b, hb⟩ := (s.each l fun t i => t.alarm i c).evaluate_kept.slot i
  rw [hb]
  exact hu

/-! ### Notches -/

theorem State.setNotch_streams (i j : Fin 4) (b : Option Int) : (∀ k, k ≠ i → (s.setNotch i j b).gnss.streams[k] = s.gnss.streams[k]) ∧
    (s.setNotch i j b).gnss.chans = s.gnss.chans ∧ (s.setNotch i j b).gnss.streams[i].notches = s.gnss.streams[i].notches.set j b := by
  have e : (s.setNotch i j b).gnss = (s.mapStream i fun x => { x with notches := x.notches.set j b, notchLow := x.notchLow.set j 0 }).gnss :=
    (Within.start.raise : Within _ _ (State.raise _ Flt.gnssNotch (i.val + j.val * 4 + b2n b.isSome * 16))) .gnss (by decide)
  rw [e, State.mapStream_at]
  exact ⟨s.mapStream_others i _, rfl, rfl⟩

/-- What the notches of stream `i` may change: that stream alone. -/
def OtherStreams (i : Fin 4) (s t : State) : Prop := (∀ k, k ≠ i → t.gnss.streams[k] = s.gnss.streams[k]) ∧ t.gnss.chans = s.gnss.chans

theorem OtherStreams.trans {i : Fin 4} {s t u : State} (h : OtherStreams i s t) (g : OtherStreams i t u) : OtherStreams i s u := by
  obtain ⟨hs, hc⟩ := h
  obtain ⟨gs, gc⟩ := g
  exact ⟨fun k hk => (gs k hk).trans (hs k hk), gc.trans hc⟩

theorem OtherStreams.each {i : Fin 4} {α : Type} {f : State → α → State} (hf : ∀ t a, OtherStreams i t (f t a)) :
    ∀ (l : List α) (s : State), OtherStreams i s (s.each l f)
  | [], _ => ⟨fun _ _ => rfl, rfl⟩
  | a :: l, s => (hf s a).trans (OtherStreams.each hf l (f s a))

theorem State.setNotch_other (i j : Fin 4) (b : Option Int) : OtherStreams i s (s.setNotch i j b) := by
  obtain ⟨h, c, -⟩ := s.setNotch_streams i j b
  exact ⟨h, c⟩

theorem State.placeNotch_other (i : Fin 4) (top all : List Int) (b : Int) : OtherStreams i s (s.placeNotch i top all b) := by
  unfold State.placeNotch
  extract_lets x
  split
  · exact ⟨fun _ _ => rfl, rfl⟩
  · split
    · exact s.setNotch_other i _ _
    · split
      · exact (s.setNotch_other i _ _).trans (State.setNotch_other _ i _ _)
      · exact ⟨fun _ _ => rfl, rfl⟩

/-- A notch whose bin stayed low for 100 spectra goes; any other counts. -/
def State.ageNotch (i : Fin 4) (bins : List Int) (limit : Int) (s : State) (j : Fin 4) : State :=
  match s.gnss.streams[i].notches[j] with
  | none => s
  | some b =>
    let low := 2 * bins.getD (b + 128).toNat 0 < limit - 2 * 768
    let n := if low then s.gnss.streams[i].notchLow[j] + 1 else 0
    if 100 ≤ n then s.setNotch i j none else s.mapStream i fun y => { y with notchLow := y.notchLow.set j n }

theorem execNotchSpectrum_on (i : Fin 4) (b : List Int) (hb : s.afterBoot = true) (he : s.gnss.streams[i].cfg.flag Ix.streamEnable = true)
    (hm : s.gnss.mode ≠ 0) {l : Int} (hl : l = doubleMedian b + 2 * (s.gnss.cfg.at Ix.rxNotchThresh * 128)) {all : List Int}
    (ha : all = (interferers b l).map Prod.fst) :
    exec (.notchSpectrum i b) s = .next ((s.each (List.finRange 4) (State.ageNotch i b l)).each (all.take 4) fun t x => t.placeNotch i (all.take 4) all x) := by
  subst ha hl
  change execNotchSpectrum i b s = _
  unfold execNotchSpectrum
  exact if_neg (by simp [-Fin.getElem_fin, hb, he, hm])

theorem State.ageNotch_other (i j : Fin 4) (b : List Int) (l : Int) : OtherStreams i s (State.ageNotch i b l s j) := by
  unfold State.ageNotch
  split
  · exact ⟨fun _ _ => rfl, rfl⟩
  · extract_lets low n
    split
    · exact s.setNotch_other i j none
    · exact ⟨s.mapStream_others i _, rfl⟩

theorem State.each_ageNotch_none (i : Fin 4) (b : List Int) (l : Int) (h : ∀ j : Fin 4, s.gnss.streams[i].notches[j] = none) :
    ∀ js : List (Fin 4), s.each js (State.ageNotch i b l) = s
  | [] => rfl
  | j :: js => by
    have e : State.ageNotch i b l s j = s := by
      unfold State.ageNotch
      rw [h j]
    change State.each (State.ageNotch i b l s j) js _ = s
    rw [e]
    exact State.each_ageNotch_none i b l h js

theorem State.placeNotch_first (i : Fin 4) (top all : List Int) (b : Int) (h : ∀ j : Fin 4, s.gnss.streams[i].notches[j] = none) :
    s.placeNotch i top all b = s.setNotch i 0 (some b) := by
  unfold State.placeNotch
  have absent : s.gnss.streams[i].notches.toList.contains (some b) = false := Bool.eq_false_of_not_eq_true fun hc => by
    obtain ⟨k, hk, he⟩ := Vector.mem_iff_getElem.mp (Vector.mem_toList_iff.mp (List.contains_iff_mem.mp hc))
    exact absurd (he.symm.trans (h ⟨k, hk⟩)) (by simp)
  have free : ((List.finRange 4).find? fun j => s.gnss.streams[i].notches[j].isNone) = some 0 := by
    have all : (fun j : Fin 4 => s.gnss.streams[i].notches[j].isNone) = fun _ => true := funext fun j => by rw [h j]; rfl
    rw [all]
    rfl
  dsimp only
  rw [absent, free]
  rfl

theorem State.causeEnds_absent (k : FaultKind) (d : Nat) : (s.causeEnds k d).flt.present.contains (k.msg d) = false := by
  refine Bool.eq_false_of_not_eq_true fun h => ?_
  obtain ⟨-, h⟩ := List.mem_filter.mp (List.contains_iff_mem.mp h)
  simp [FaultKind.msg] at h

/-! ### Snapshots -/

/-- Whether the time is known to 100 µs. -/
def State.nearTime : Bool :=
  match s.timeUncertainty with
  | some u => decide (u ≤ 1 / 10000)
  | none => false

theorem execSnapshotModeCapture_due (o : List CodeObs) (nav : NavData) (hb : s.afterBoot = true) (hm : s.gnss.mode = 3) (hd : s.gnss.snapDue ≤ s.sys.cyc)
    {u : State} (hu : u = { s with gnss.snapDue := s.sys.cyc + s.gnss.cfg.nat Ix.rxSnapInterval * secCyc }) :
    exec (.snapshotModeCapture o nav) s = if !s.nearTime || decide (s.ephCount s.nowSec < s.gnss.cfg.nat Ix.rxMinSats) then .next u
      else .next ((u.settleSolution (u.gnssSolve (u.captured o) nav [] u.gnss.surveys) nav u.gnss.surveys u.nextSample).noteLeap nav) := by
  subst hu
  change execSnapshotModeCapture o nav s = _
  unfold execSnapshotModeCapture
  rw [if_neg (by simp [hb, hm, hd])]
  rfl

/-- A capture due moves the next one, whatever it gives. -/
theorem snapshotModeCapture_due (o : List CodeObs) (nav : NavData) (hb : s.afterBoot = true) (hm : s.gnss.mode = 3) (hd : s.gnss.snapDue ≤ s.sys.cyc) :
    ∃ t, exec (.snapshotModeCapture o nav) s = .next t ∧ t.gnss.snapDue = s.sys.cyc + s.gnss.cfg.nat Ix.rxSnapInterval * secCyc := by
  obtain ⟨u, hu⟩ : ∃ u : State, u = { s with gnss.snapDue := s.sys.cyc + s.gnss.cfg.nat Ix.rxSnapInterval * secCyc } := ⟨_, rfl⟩
  have due : u.gnss.snapDue = s.sys.cyc + s.gnss.cfg.nat Ix.rxSnapInterval * secCyc := by rw [hu]
  have hex := execSnapshotModeCapture_due s o nav hb hm hd hu
  split at hex
  · exact ⟨u, hex, due⟩
  · generalize u.gnssSolve (u.captured o) nav [] u.gnss.surveys = r at hex
    obtain ⟨-, -, settled⟩ := u.settleSolution_out r nav u.gnss.surveys u.nextSample
    obtain ⟨⟨-, -, -, -, noted⟩, -⟩ := (u.settleSolution r nav u.gnss.surveys u.nextSample).noteLeap_shows nav
    exact ⟨_, hex, noted.trans (settled.trans due)⟩

/-- A survey that starts over. -/
def State.surveyAgain : State :=
  { s with gnss := { s.gnss with
      surveyStart := some s.sys.cyc, surveyRound := false, surveyInfo := [], surveySum := [], surveySigma := unknownWord } }

/-- A survey whose time has come. -/
theorem execSurveyTimeEnd_due {c : Nat} (hc : s.gnss.surveyStart = some c)
    (ht : c + (if s.gnss.surveyRound then 2 * (s.gnss.cfg.nat Ix.rxSurveyTime * 2250000000000) else s.gnss.cfg.nat Ix.rxSurveyTime * 2250000000000) ≤ s.sys.cyc) :
    exec .surveyTimeEnd s = if s.gnss.surveyMet then .next s.acceptSurvey
      else if s.gnss.surveyRound then .next (s.surveyAgain.raise Flt.gnssSurvey 1)
      else .next { s with gnss := { s.gnss with surveyRound := true } } := by
  have len : s.gnss.cfg.nat Ix.rxSurveyTime * 3600 * secCyc = s.gnss.cfg.nat Ix.rxSurveyTime * 2250000000000 := Nat.mul_assoc ..
  change execSurveyTimeEnd s = _
  unfold execSurveyTimeEnd
  rw [hc]
  dsimp only
  rw [len]
  exact if_neg (not_lt.mpr ht)

/-- A snapshot whose capture starts, with its header as far as it is known then. -/
def State.capturing : State :=
  let p := s.gnss.snap
  let t := s.convert ⟨s.nextSample, 0⟩
  let head : List Word :=
    [0x534E4150, loWord (p.streams + 256 + p.length * 2 ^ 16), loWord s.nextSample, hiWord s.nextSample, loWord (tsSec t),
      loWord (tsSec t / 2 ^ 32 % 2 ^ 16), loWord (tsNs t), loWord (tsFrac t), s.bound.ts, intLo s.setNow.rate, intHi s.setNow.rate]
  { s with gnss := { s.gnss with snap := { p with state := .capturing, first := s.nextSample, header := head } } }

theorem execSnapshotCaptureStart_due (hp : s.gnss.snap.state = .pending) (ht : ∀ t, s.gnss.snap.startAt = some t → t ≤ s.now) :
    exec .snapshotCaptureStart s = .next s.capturing := by
  change execSnapshotCaptureStart s = _
  unfold execSnapshotCaptureStart
  dsimp only
  rw [hp]
  refine if_neg ?_
  cases hs : s.gnss.snap.startAt with
  | none => simp
  | some t => simp [ht t hs]

/-- A held snapshot, with its header whole. -/
def State.snapHeld (header : List Word) (data : List Byte) : State :=
  { s with gnss := { s.gnss with snap := { s.gnss.snap with
      state := .held, header := header, data := data, captures := s.gnss.snap.captures + 1, cmd := none, startAt := none } } }

theorem execSnapshotCaptureComplete_due (b l : List (List (Int × Int))) (hc : s.gnss.snap.state = .capturing)
    (ht : s.gnss.snap.first + s.gnss.snap.length * 625000 ≤ s.sys.cyc) :
    ∃ (per : Fin 4 → Word) (crc : Word) (data : List Byte) (w : List Word), exec (.snapshotCaptureComplete b l) s =
      .next ((s.snapHeld (s.gnss.snap.header.take 9 ++ (List.finRange 4).map per ++ s.gnss.snap.header.drop 9 ++ [crc]) data).completeOpt s.gnss.snap.cmd 0 w) := by
  change ∃ per crc data w, execSnapshotCaptureComplete b l s = .next (State.completeOpt (State.snapHeld s (_ ++ (List.finRange 4).map per ++ _ ++ [crc]) data) _ _ w)
  unfold execSnapshotCaptureComplete
  dsimp only
  rw [hc]
  have due : decide (s.sys.cyc < s.gnss.snap.first + s.gnss.snap.length * msCyc) = false := decide_eq_false (not_lt.mpr ht)
  rw [due]
  exact ⟨_, _, _, _, rfl⟩

theorem execSnapshotProcessComplete_due (o : List CodeObs) (nav : NavData) (hp : s.gnss.snap.state = .processing) :
    ∃ w, exec (.snapshotProcessComplete o nav) s =
      .next (State.completeOpt { s with gnss := { s.gnss with snap := { s.gnss.snap with state := .held, cmd := none } } } s.gnss.snap.cmd 0 w) := by
  change ∃ w, execSnapshotProcessComplete o nav s = .next (State.completeOpt _ _ _ w)
  unfold execSnapshotProcessComplete
  dsimp only
  rw [hp]
  exact ⟨_, rfl⟩

theorem State.completeOpt_within (id : Option Nat) (status : Nat) (ws : List Word) :
    Within (partsOf [.emits, .hosts, .handled]) s (s.completeOpt id status ws) := Within.start.completeOpt.mono (by decide)

theorem Within.ageNotch (i j : Fin 4) (b : List Int) (l : Int) : Within (partsOf [.gnss, .flt]) s (State.ageNotch i b l s j) := by
  unfold State.ageNotch
  split
  · exact Within.start.mono (by decide)
  · exact (Within.ite Within.start.setNotch Within.start.mapStream).mono (by decide)

theorem execStreamHealthCheck_good (i : Fin 4) (x : List (Nat × Int × Int)) (hb : s.afterBoot = true)
    (he : s.gnss.streams[i].cfg.flag Ix.streamEnable = true) (hh : s.gnss.streams[i].healthy = true) (hc : streamCause x = none) :
    exec (.streamHealthCheck i x) s =
      .next ((s.streamTested i x).mapStream i fun y => { y with goodSince := some (s.gnss.streams[i].goodSince.getD s.sys.cyc) }) := by
  change execStreamHealthCheck i x s = _
  unfold execStreamHealthCheck
  rw [if_neg (by simp [-Fin.getElem_fin, hb, he]), hc]
  exact if_neg (by rw [hh, Bool.not_true, Bool.false_and]; decide)

/-- Settles O29: the tests of a stream in their order, the survey's end, and a capture from its request to its result. -/
theorem gnssStreamsSurveysAndSnapshots : Obligations.GnssStreamsSurveysAndSnapshots := by
  unfold Obligations.GnssStreamsSurveysAndSnapshots
  refine ⟨⟨fun s i j x hb he hj hh hx => ?_, fun s i x hb he hh h1 h2 h3 => ?_, fun s u i p hb he hu hp => ?_, fun s u i p hb he hu hp => ?_,
    fun s i b hb he hm => ⟨?_, fun hn => ⟨fun h0 => ?_, fun x hx => ?_⟩⟩⟩, fun s c hc hr ht => ⟨fun hm => ?_, fun hm => ?_⟩, fun s c hc hr ht hm => ?_,
    fun s o nav hb hm hd => ⟨?_, fun h => ?_⟩, fun s hp ht => ?_, fun s b l hc ht => ?_, fun s o nav hp => ?_⟩
  · obtain ⟨c, hc⟩ := streamCause_some hx
    obtain ⟨f, hex⟩ := execStreamHealthCheck_other s i j x hb he hj hh hc
    have at_ := (s.streamTested i x).mapStream_at i fun y => { y with healthy := false, goodSince := none }
    refine ⟨_, hex, congrArg Stream.healthy at_, (congrArg Stream.rms at_).trans ?_, fun k hk => ?_, fun c hc => ?_, rfl⟩
    · exact congrArg Stream.rms (s.mapStream_at i _)
    · exact (State.mapStream_others _ i _ k hk).trans (State.mapStream_others _ i _ k hk)
    · exact State.dropChans_idle _ _ c (decide_eq_true hc)
  · have hex := execStreamHealthCheck_good s i x hb he hh (streamCause_none h1 h2 h3)
    have at_ := (s.streamTested i x).mapStream_at i fun y => { y with goodSince := some (s.gnss.streams[i].goodSince.getD s.sys.cyc) }
    have tested := s.mapStream_at i fun y => { y with rms := rmsCode (sampleSquare x), clip := tooClipped x }
    refine ⟨_, hex, ?_, ?_, ?_, rfl, fun k hk => (State.mapStream_others _ i _ k hk).trans (s.mapStream_others i _ k hk)⟩
    · exact (congrArg Stream.healthy at_).trans ((congrArg Stream.healthy tested).trans hh)
    · exact (congrArg Stream.rms at_).trans (congrArg Stream.rms tested)
    · exact (congrArg Stream.clip at_).trans ((congrArg Stream.clip tested).trans h3)
  · subst hu
    obtain ⟨jn, limit, power, jamming⟩ := s.jnNoted_out i p
    rw [limit, hp] at jamming
    refine ⟨_, execJnReport_below s i p hb he hp, jn, limit.trans hp, power, jamming.trans (by simp), State.causeEnds_absent _ _ _, rfl⟩
  · subst hu
    obtain ⟨jn, limit, -, jamming⟩ := s.jnNoted_out i p
    obtain ⟨t, ht⟩ : ∃ t, t = (s.jnNoted i p).condition Flt.gnssJamming i.val := ⟨_, rfl⟩
    have w : Within (partsOf [.flt]) (s.jnNoted i p) t := by
      rw [ht]
      exact Within.start.condition.mono (by decide)
    have hg : t.gnss = (s.jnNoted i p).gnss := w .gnss (by decide)
    have present : Flt.gnssJamming.msg i.val ∈ t.flt.present := by
      rw [ht]
      exact State.condition_present _ _ _ rfl
    have slots : t.gnssSlots = s.gnssSlots := State.slotsWith_congr (w.wv_eq (by decide) (by decide)) _
    rw [limit, hp, ← hg] at jamming
    rw [← hg] at jn
    have hex := execJnReport_above s i p hb he hp ht
    have cfg : t.gnss.cfg = s.gnss.cfg := by rw [hg]; rfl
    rw [cfg] at hex
    cases alarms : s.gnss.cfg.flag Ix.rxJamAlarm
    · rw [alarms] at hex
      refine ⟨t, hex, jn, jamming.mpr (.inl rfl), List.contains_iff_mem.mpr present, fun _ => ?_, fun h => absurd h (by decide)⟩
      have ws : Within (partsOf [.gnss, .flt]) s ((s.jnNoted i p).condition Flt.gnssJamming i.val) :=
        ((Within.start.set (partsOf [.gnss])).condition : Within _ s (State.condition (s.jnNoted i p) Flt.gnssJamming i.val))
      rw [← ht] at ws
      exact ws.eq
    · rw [alarms] at hex
      have wg : Within _ t (t.each t.gnssSlots fun t i => t.alarm i 4).evaluate := (Within.start.each fun _ _ => Within.start.alarm).evaluate
      have lasts : Lasts t (t.each t.gnssSlots fun t i => t.alarm i 4).evaluate :=
        ((Lasts.start t).each (fun u i => u.alarm_lasts i 4) _).trans (State.evaluate_lasts _)
      have keeps : (t.each t.gnssSlots fun t i => t.alarm i 4).evaluate.gnss = t.gnss := wg .gnss (by decide)
      refine ⟨_, hex, keeps ▸ jn, keeps ▸ jamming.mpr (.inl rfl), List.contains_iff_mem.mpr (lasts _ present (.inl rfl)), fun h => absurd h (by decide), fun _ k hk => ?_⟩
      rw [slots]
      exact t.alarms_out (s.slotsWith_nodup _) hk 4
  · have hex := execNotchSpectrum_on s i b hb he hm rfl rfl
    obtain ⟨u, hu⟩ : ∃ u, exec (.notchSpectrum i b) s = .next u ∧ OtherStreams i s u ∧ Within (partsOf [.gnss, .flt]) s u :=
      ⟨_, hex, (OtherStreams.each (fun t j => t.ageNotch_other i j b _) _ s).trans (OtherStreams.each (fun t x => t.placeNotch_other i _ _ x) _ _),
        ((Within.start.each fun t j => Within.ageNotch t i j b _).each fun _ _ => Within.start.placeNotch).mono (by decide)⟩
    obtain ⟨ex, ⟨streams, chans⟩, w⟩ := hu
    exact ⟨u, ex, streams, chans, w.ts_eq (by decide), w.wv_eq (by decide) (by decide), w.sys_eq (by decide) (by decide)⟩
  · have hex := execNotchSpectrum_on s i b hb he hm rfl rfl
    rw [h0, State.each_ageNotch_none s i b _ hn] at hex
    exact hex
  · have hex := execNotchSpectrum_on s i b hb he hm rfl rfl
    rw [hx, State.each_ageNotch_none s i b _ hn] at hex
    change exec _ s = .next (s.placeNotch i [x.1] [x.1] x.1) at hex
    rw [s.placeNotch_first i _ _ _ hn] at hex
    obtain ⟨-, -, e⟩ := s.setNotch_streams i 0 (some x.1)
    refine ⟨_, hex, ?_, fun j hj => ?_⟩
    · rw [e]
      exact Vector.getElem_set_self _
    · rw [e]
      exact (Vector.getElem_set_ne _ _ (by simpa [Fin.ext_iff] using hj.symm)).trans (hn j)
  · have hex := execSurveyTimeEnd_due s hc (by rw [if_neg (by rw [hr]; decide)]; exact ht)
    rw [if_pos hm] at hex
    obtain ⟨f, hf⟩ : ∃ f, s.acceptSurvey = { s with gnss := _, mram := _, flt := f } := State.raise_only _ Flt.gnssSurvey 0
    exact ⟨_, hex, by rw [hf]; rfl, by rw [hf], by rw [hf]⟩
  · have hex := execSurveyTimeEnd_due s hc (by rw [if_neg (by rw [hr]; decide)]; exact ht)
    rw [if_neg (by rw [hm]; decide), if_neg (by rw [hr]; decide)] at hex
    exact hex
  · have hex := execSurveyTimeEnd_due s hc (by rw [if_pos hr]; exact ht)
    rw [if_neg (by rw [hm]; decide), if_pos hr] at hex
    obtain ⟨f, hf⟩ := s.surveyAgain.raise_only Flt.gnssSurvey 1
    rw [hf] at hex
    exact ⟨_, hex, rfl, rfl, rfl, rfl⟩
  · obtain ⟨t, hex, due⟩ := snapshotModeCapture_due s o nav hb hm hd
    exact ⟨t, hex, due⟩
  · refine (execSnapshotModeCapture_due s o nav hb hm hd rfl).trans (if_pos ?_)
    rcases h with h | h | ⟨u, hu, hlt⟩
    · rw [decide_eq_true h, Bool.or_true]
    · rw [State.nearTime, h]
      rfl
    · rw [State.nearTime, hu]
      dsimp only
      rw [decide_eq_false (not_le.mpr hlt)]
      rfl
  · refine ⟨s.capturing, execSnapshotCaptureStart_due s hp ht, rfl, Nat.mul_mod_left _ _, ?_, ?_, rfl, rfl, rfl, rfl⟩
    · change s.sys.cyc ≤ (s.sys.cyc + 9) / 10 * 10
      omega
    · change (s.sys.cyc + 9) / 10 * 10 < s.sys.cyc + 10
      omega
  · obtain ⟨per, crc, data, w, hex⟩ := execSnapshotCaptureComplete_due s b l hc ht
    obtain ⟨header, hh⟩ : ∃ header, header = s.gnss.snap.header.take 9 ++ (List.finRange 4).map per ++ s.gnss.snap.header.drop 9 ++ [crc] := ⟨_, rfl⟩
    rw [← hh] at hex
    have wt := (s.snapHeld header data).completeOpt_within s.gnss.snap.cmd 0 w
    have hg := wt .gnss (by decide)
    refine ⟨_, hex, by rw [hg]; rfl, by rw [hg]; rfl, fun h11 => ?_, by rw [hg]; rfl, wt.ts_eq (by decide), wt.wv_eq (by decide) (by decide), by rw [hg]; rfl⟩
    rw [hg]
    change header.length = 16
    rw [hh]
    simp [h11]
  · obtain ⟨w, hex⟩ := execSnapshotProcessComplete_due s o nav hp
    have wt := State.completeOpt_within { s with gnss := { s.gnss with snap := { s.gnss.snap with state := .held, cmd := none } } } s.gnss.snap.cmd 0 w
    have hg := wt .gnss (by decide)
    exact ⟨_, hex, by rw [hg], by rw [hg], by rw [hg], wt.ts_eq (by decide), wt.wv_eq (by decide) (by decide)⟩

end Sys2Proof.Machine

/-! PROOFS of family 'other', received frames and PRP duplicates: O30. -/

namespace Sys2Proof.Machine

variable (s : State) (p : Fin 8)

/-! ### What counting does to ports -/

@[simp] theorem State.mapPort_at (f : Port → Port) : (s.mapPort p f).ports[p] = f s.ports[p] := upd_same ..

theorem State.mapPort_others (f : Port → Port) : ∀ q, q ≠ p → (s.mapPort p f).ports[q] = s.ports[q] := fun _ hq => upd_other _ _ _ _ hq.symm

/-- A port's counters and the instants of its faults may differ, its settings and its buffer not; other ports do not differ. -/
structure PortCounts (p : Fin 8) (s t : State) : Prop where
  others : ∀ q, q ≠ p → t.ports[q] = s.ports[q]
  cfg : t.ports[p].cfg = s.ports[p].cfg
  buf : t.ports[p].rxBuf = s.ports[p].rxBuf

theorem PortCounts.refl : PortCounts p s s := ⟨fun _ _ => rfl, rfl, rfl⟩

theorem PortCounts.trans {p : Fin 8} {s t u : State} (h : PortCounts p s t) (g : PortCounts p t u) : PortCounts p s u :=
  ⟨fun q hq => (g.others q hq).trans (h.others q hq), g.cfg.trans h.cfg, g.buf.trans h.buf⟩

theorem PortCounts.of_within {p : Fin 8} {s t : State} {m : Nat} (w : Within m s t) (hm : holds m .ports = false) : PortCounts p s t := by
  have e : t.ports = s.ports := w .ports hm
  exact ⟨fun _ _ => by rw [e], by rw [e], by rw [e]⟩

theorem PortCounts.mapPort {f : Port → Port} (hc : ∀ x, (f x).cfg = x.cfg) (hb : ∀ x, (f x).rxBuf = x.rxBuf) : PortCounts p s (s.mapPort p f) :=
  ⟨s.mapPort_others p f, by rw [State.mapPort_at, hc], by rw [State.mapPort_at, hb]⟩

theorem PortCounts.all_cfg {p : Fin 8} {s t : State} (h : PortCounts p s t) (q : Fin 8) : t.ports[q].cfg = s.ports[q].cfg := by
  by_cases hq : q = p
  · subst hq
    exact h.cfg
  · rw [h.others q hq]

/-- A count changes the counters of its port, and beside them what the hosts see of a half reached. -/
theorem State.portCount_ports (i : Fin 45) (n : Nat) :
    (s.portCount p i n).ports = (s.mapPort p fun x => { x with counters := x.counters.set i (s.ports[p].counters[i] + BitVec.ofNat 48 n) }).ports := by
  unfold State.portCount
  extract_lets old new s1
  split
  · rfl
  · have w : Within (partsOf [.emits, .hosts]) s1 (s1.each allHosts fun t h =>
        if t.hosts[h].half.toList.any (· != 0) then t.mapHost h fun y => { y with half := y.half.set p (y.half[p] ||| BitVec.ofNat 45 (2 ^ i.val)) }
        else (t.mapHost h fun y => { y with half := y.half.set p (y.half[p] ||| BitVec.ofNat 45 (2 ^ i.val)) }).hwLevelRise h 4) :=
      (Within.start.each fun _ _ => Within.ite Within.start.mapHost Within.start.mapHost.hwLevelRise).mono (by decide)
    exact w .ports (by decide)

theorem State.portCount_at (i : Fin 45) (n : Nat) : (s.portCount p i n).ports[p].counters =
    s.ports[p].counters.set i (s.ports[p].counters[i] + BitVec.ofNat 48 n) := by
  rw [State.portCount_ports, State.mapPort_at]

theorem State.portCount_same (i : Fin 45) (n : Nat) : (s.portCount p i n).ports[p].counters[i] = s.ports[p].counters[i] + BitVec.ofNat 48 n := by
  rw [State.portCount_at]
  exact Vector.getElem_set_self _

theorem State.portCount_other (i : Fin 45) (n : Nat) (j : Fin 45) (h : i ≠ j) : (s.portCount p i n).ports[p].counters[j] = s.ports[p].counters[j] := by
  rw [State.portCount_at]
  exact Vector.getElem_set_ne _ _ fun e => h (Fin.ext e)

theorem castOf_counter (da : Nat) : Fin.ofNat 45 (2 + castOf da) ≠ 0 ∧ Fin.ofNat 45 (2 + castOf da) ≠ 1 := by
  unfold castOf
  split
  · decide
  · split <;> decide

theorem sizeBin_counter (len : Nat) : Fin.ofNat 45 (6 + sizeBin len) ≠ 0 ∧ Fin.ofNat 45 (6 + sizeBin len) ≠ 1 := by
  have small : sizeBin len ≤ 6 := by
    unfold sizeBin
    split_ifs <;> omega
  generalize sizeBin len = k at small
  interval_cases k <;> decide

theorem State.portCount_counts (i : Fin 45) (n : Nat) : PortCounts p s (s.portCount p i n) := by
  obtain ⟨h1, h2, h3⟩ := PortCounts.mapPort s p (f := fun x => { x with counters := x.counters.set i (s.ports[p].counters[i] + BitVec.ofNat 48 n) })
    (fun _ => rfl) fun _ => rfl
  constructor <;> rw [State.portCount_ports] <;> assumption

/-- What a port's fault leaves of the port. -/
theorem State.portFault_field (last : Option Nat) (k : FaultKind) {keep : Port → Option Nat → Port} {β : Type} (g : Port → β)
    (hg : ∀ x c, g (keep x c) = g x) : g (s.portFault p last k keep).ports[p] = g s.ports[p] := by
  unfold State.portFault
  split
  · have e : (State.raise (s.mapPort p fun x => keep x (some s.sys.cyc)) k p.val).ports = (s.mapPort p fun x => keep x (some s.sys.cyc)).ports :=
      (Within.start.raise : Within _ _ (State.raise (s.mapPort p fun x => keep x (some s.sys.cyc)) k p.val)) .ports (by decide)
    refine (congrArg (fun v : Vector Port 8 => g v[p]) e).trans ((congrArg g (s.mapPort_at p _)).trans ?_)
    exact hg _ _
  · rfl

theorem State.portFault_counts (last : Option Nat) (k : FaultKind) {keep : Port → Option Nat → Port} (hc : ∀ x c, (keep x c).cfg = x.cfg)
    (hb : ∀ x c, (keep x c).rxBuf = x.rxBuf) : PortCounts p s (s.portFault p last k keep) := by
  unfold State.portFault
  split
  · exact (PortCounts.mapPort s p (fun x => hc x _) fun x => hb x _).trans (.of_within (Within.start.raise : Within _ _ (State.raise _ k p.val)) (by decide))
  · exact .refl s p

theorem State.lineCounts_counts (f : RxFrame) : PortCounts p s (s.lineCounts p f) := by
  unfold State.lineCounts
  extract_lets s1 s2
  have h1 : PortCounts p s s1 := by
    simp only [s1]
    split
    · exact .refl s p
    · exact s.portCount_counts p _ _
  have h2 : PortCounts p s s2 := by
    simp only [s2]
    split
    · exact h1
    · exact (h1.trans (s1.portCount_counts p _ _)).trans (State.portFault_counts _ p _ _ (fun _ _ => rfl) fun _ _ => rfl)
  split
  · exact h2
  · exact h2.trans (s2.portCount_counts p _ _)

theorem State.lineCounts_none {f : RxFrame} (h1 : f.fecCorrected = 0) (h2 : f.fecLost = 0) (h3 : f.blockErr = 0) : s.lineCounts p f = s := by
  simp only [State.lineCounts, h1, h2, h3, if_true]

/-- Why a frame is dropped does not depend on the counters. -/
theorem State.dropReason_congr {s t : State} {p : Fin 8} (h : PortCounts p s t) (f : RxFrame) {m : Nat} (w : Within m s t) (hp : holds m .pairs = false)
    (ht : holds m .twin = false) (hs : holds m .svc = false) (he : holds m .engine = false) (hy : holds m .sys = false) :
    t.dropReason p f = s.dropReason p f := by
  have on : ∀ q, t.prpOn q = s.prpOn q := fun q => by rw [State.prpOn, w .pairs hp]; rfl
  have mac : ∀ q, t.portMac q = s.portMac q := fun q => by rw [State.portMac, on, h.all_cfg, h.all_cfg]; rfl
  have da : t.acceptsDa p f.da = s.acceptsDa p f.da := by
    have tw : t.twin = s.twin := w .twin ht
    have sv : t.svc = s.svc := w .svc hs
    simp only [State.acceptsDa, mac, h.cfg, tw, sv, w.sys_eq he hy]
  simp only [State.dropReason, on, da, h.cfg, Port.rxFill, h.buf]
  rfl

/-! ### Reception -/

/-- A frame received last in its port's buffer. -/
def State.putFrame (x : RxFrame) : State := s.mapPort p fun y => { y with rxBuf := y.rxBuf ++ [x] }

theorem State.countRx_counts (f : RxFrame) : PortCounts p s (s.countRx p f) ∧
    (s.countRx p f).ports[p].counters[(0 : Fin 45)] = s.ports[p].counters[(0 : Fin 45)] + 1 ∧
    (s.countRx p f).ports[p].counters[(1 : Fin 45)] = s.ports[p].counters[(1 : Fin 45)] + BitVec.ofNat 48 f.len := by
  unfold State.countRx
  extract_lets s1 s2 s3 s4 _
  have c1 : PortCounts p s s1 := (s.portCount_counts p 0 1).trans (State.portCount_counts _ p 1 f.len)
  have n1 : s1.ports[p].counters[(0 : Fin 45)] = s.ports[p].counters[(0 : Fin 45)] + 1 ∧
      s1.ports[p].counters[(1 : Fin 45)] = s.ports[p].counters[(1 : Fin 45)] + BitVec.ofNat 48 f.len := by
    constructor
    · rw [State.portCount_other _ p 1 f.len 0 (by decide), State.portCount_same]
      rfl
    · rw [State.portCount_same, State.portCount_other _ p 0 1 1 (by decide)]
  have c3 : PortCounts p s s3 ∧ s3.ports[p].counters[(0 : Fin 45)] = s1.ports[p].counters[(0 : Fin 45)] ∧
      s3.ports[p].counters[(1 : Fin 45)] = s1.ports[p].counters[(1 : Fin 45)] := by
    have c2 : PortCounts p s s2 ∧ s2.ports[p].counters[(0 : Fin 45)] = s1.ports[p].counters[(0 : Fin 45)] ∧
        s2.ports[p].counters[(1 : Fin 45)] = s1.ports[p].counters[(1 : Fin 45)] :=
      ⟨c1.trans (s1.portCount_counts p _ _), s1.portCount_other p _ 1 0 (castOf_counter f.da).1, s1.portCount_other p _ 1 1 (castOf_counter f.da).2⟩
    obtain ⟨k, k0, k1⟩ := c2
    simp only [s3]
    split
    · exact ⟨k.trans (s2.portCount_counts p _ _), (s2.portCount_other p 5 1 0 (by decide)).trans k0, (s2.portCount_other p 5 1 1 (by decide)).trans k1⟩
    · exact ⟨k, k0, k1⟩
  obtain ⟨k, k0, k1⟩ := c3
  obtain ⟨b0, b1⟩ := sizeBin_counter f.len
  have last : PortCounts p s s4 := k.trans (s3.portCount_counts p _ _)
  exact ⟨⟨last.others, last.cfg, last.buf⟩, ((s3.portCount_other p _ 1 0 b0).trans k0).trans n1.1, ((s3.portCount_other p _ 1 1 b1).trans k1).trans n1.2⟩

theorem execFrameReceive_dropped (f : RxFrame) {i : Fin 45} (hl : s.ports[p].linkUp = true) (h : (s.lineCounts p f).dropReason p f = some i) :
    exec (.frameReceive p f) s = .next (if i = 20 then ((s.lineCounts p f).portCount p i 1).portFault p ((s.lineCounts p f).portCount p i 1).ports[p].overloadAt
      Flt.rxOverload (fun x c => { x with overloadAt := c }) else (s.lineCounts p f).portCount p i 1) := by
  change execFrameReceive p f s = _
  unfold execFrameReceive
  rw [if_neg (by rw [hl]; decide)]
  dsimp only
  rw [h]

theorem execFrameReceive_kept (f : RxFrame) (hl : s.ports[p].linkUp = true) (h : (s.lineCounts p f).dropReason p f = none)
    (hr : f.rct = none ∨ ((s.lineCounts p f).countRx p f).prpOn p = false ∨ isPtp f.bare = true) :
    exec (.frameReceive p f) s = .next (((s.lineCounts p f).countRx p f).putFrame p (s.atPlane p f)) := by
  change execFrameReceive p f s = _
  unfold execFrameReceive
  rw [if_neg (by rw [hl]; decide)]
  dsimp only
  rw [h]
  dsimp only
  cases hf : f.rct with
  | none => rfl
  | some r =>
    refine if_pos ?_
    rcases hr with hr | hr | hr
    · rw [hf] at hr
      cases hr
    · rw [hr]
      rfl
    · rw [hr, Bool.or_true]

/-! ### PRP duplicates -/

theorem PrpEntry.take_new {e : PrpEntry} {q : Nat} (n : Nat) (h : (e.top + 65536 - q) % 65536 < 2048) (hn : e.seen.contains q = false) :
    e.take q n = ({ e with seen := q :: e.seen, last := n }, true, none) := by
  unfold PrpEntry.take
  dsimp only
  rw [if_pos h, if_neg (by rw [hn]; decide)]

theorem PrpEntry.take_seen {e : PrpEntry} {q : Nat} (n : Nat) (h : (e.top + 65536 - q) % 65536 < 2048) (hs : e.seen.contains q = true) :
    e.take q n = ({ e with last := n }, false, some 21) := by
  unfold PrpEntry.take
  dsimp only
  rw [if_pos h, if_pos hs]

/-- Settles O30: a frame that passes the receiver's tests joins its buffer, and a PRP sequence number is placed by the window. -/
theorem framesAreFilteredAndDuplicatesDiscarded : Obligations.FramesAreFilteredAndDuplicatesDiscarded := by
  unfold Obligations.FramesAreFilteredAndDuplicatesDiscarded
  refine ⟨⟨fun s p f h => if_pos (by rw [h]; rfl), fun s p f i hl hd => ?_, fun s p f hl hd hr => ?_, fun s p f h => if_pos h, fun s p f h1 h2 h3 => ?_⟩,
    fun e q n h hn => ?_, fun e q n h => ?_, fun e q n h1 h2 => ?_, fun s q a => ?_⟩
  · have lw : Within (partsOf [.emits, .ports, .hosts, .flt]) s (s.lineCounts p f) := Within.start.lineCounts
    have lc := s.lineCounts_counts p f
    have hex := execFrameReceive_dropped s p f hl
      ((State.dropReason_congr lc f lw (by decide) (by decide) (by decide) (by decide) (by decide)).trans hd)
    generalize hu : s.lineCounts p f = u at hex lw lc
    have wp : Within (partsOf [.emits, .ports, .hosts, .flt]) s (u.portCount p i 1) := (lw.portCount).mono (by decide)
    have cp := lc.trans (u.portCount_counts p i 1)
    have counted : f.fecCorrected = 0 → f.fecLost = 0 → f.blockErr = 0 → (u.portCount p i 1).ports[p].counters[i] = s.ports[p].counters[i] + 1 :=
      fun h1 h2 h3 => by
        rw [State.portCount_same, ← hu, s.lineCounts_none p h1 h2 h3]
        rfl
    split at hex
    · have field := fun {β : Type} (g : Port → β) hg => (u.portCount p i 1).portFault_field p (u.portCount p i 1).ports[p].overloadAt Flt.rxOverload
        (keep := fun x c => { x with overloadAt := c }) g hg
      have wf : Within (partsOf [.emits, .ports, .hosts, .flt]) s ((u.portCount p i 1).portFault p (u.portCount p i 1).ports[p].overloadAt Flt.rxOverload
        fun x c => { x with overloadAt := c }) := (wp.portFault).mono (by decide)
      have cf := cp.trans ((u.portCount p i 1).portFault_counts p (u.portCount p i 1).ports[p].overloadAt Flt.rxOverload
        (keep := fun x c => { x with overloadAt := c }) (fun _ _ => rfl) fun _ _ => rfl)
      exact ⟨_, hex, cf.buf, fun h1 h2 h3 => (field (fun x => x.counters[i]) fun _ _ => rfl).trans (counted h1 h2 h3), cf.others, wf.eq⟩
    · exact ⟨_, hex, cp.buf, counted, cp.others, wp.eq⟩
  · have lw : Within (partsOf [.emits, .ports, .hosts, .flt]) s (s.lineCounts p f) := Within.start.lineCounts
    have lc := s.lineCounts_counts p f
    have wc : Within (partsOf [.emits, .ports, .hosts, .flt, .perf]) s ((s.lineCounts p f).countRx p f) := (lw.countRx).mono (by decide)
    have hex := execFrameReceive_kept s p f hl ((State.dropReason_congr lc f lw (by decide) (by decide) (by decide) (by decide) (by decide)).trans hd)
      (by rw [State.prpOn, wc .pairs (by decide)]; exact hr)
    obtain ⟨cc, zero, one⟩ := (s.lineCounts p f).countRx_counts p f
    generalize (s.lineCounts p f).countRx p f = v at hex wc cc zero one
    have cv := lc.trans cc
    refine ⟨_, hex, ?_, fun h1 h2 h3 => ?_, fun q hq => (v.mapPort_others p _ q hq).trans (cv.others q hq),
        (wc.mapPort : Within (partsOf [.emits, .ports, .hosts, .flt, .perf]) s (v.mapPort p _)).eq⟩
    · refine (congrArg Port.rxBuf (v.mapPort_at p _)).trans ?_
      rw [cv.buf]
    · rw [s.lineCounts_none p h1 h2 h3] at zero one
      exact ⟨(congrArg (fun x : Port => x.counters[(0 : Fin 45)]) (v.mapPort_at p _)).trans zero,
          (congrArg (fun x : Port => x.counters[(1 : Fin 45)]) (v.mapPort_at p _)).trans one⟩
  · rw [State.dropReason, if_neg (by rw [h1]; decide), if_neg (by rw [h2]; decide), if_pos h3]
  · rw [e.take_new n h hn]
    exact ⟨rfl, congrArg Prod.snd (PrpEntry.take_seen (e := { e with seen := q :: e.seen, last := n }) n h (by simp))⟩
  · unfold PrpEntry.take
    dsimp only
    rw [if_neg (by omega), if_pos h]
    exact ⟨rfl, rfl⟩
  · unfold PrpEntry.take
    dsimp only
    rw [if_neg (by omega), if_neg (by omega)]
    exact ⟨rfl, rfl, rfl⟩
  · refine ⟨_, rfl, fun e he => ?_, fun r hr => upd_other _ _ _ _ hr.symm, rfl⟩
    have at_ : (s.mapPair q fun y => { y with entries := y.entries.filter fun e => !(e.source == a && s.lapsed (e.last + s.pairs[q].cfg.nat Ix.prpEntryForget * msCyc)) }).pairs[q]
        = _ := upd_same ..
    rw [at_]
    simp only [List.mem_filter, he, true_and]
    have stays : s.lapsed (e.last + s.pairs[q].cfg.nat Ix.prpEntryForget * msCyc) = false ↔
        s.sys.cyc ≤ e.last + s.pairs[q].cfg.nat Ix.prpEntryForget * 625000 := decide_eq_false_iff_not.trans not_lt
    by_cases hs : e.source = a <;> simp [-Fin.getElem_fin, hs, stays]

end Sys2Proof.Machine

/-! PROOFS of family 'other', links, launches and stamp indices: O31. -/

namespace Sys2Proof.Machine

variable (s : State) (p : Fin 8)

/-! ### Conditions of other kinds -/

/-- A message that is not of a kind stays absent when that kind becomes a condition. -/
theorem State.condition_absent {m : FaultMsg} (k : FaultKind) (d : Nat) (h : m ∉ s.flt.present) (hk : m ≠ k.msg d) : m ∉ (s.condition k d).flt.present := by
  unfold State.condition
  split
  · exact h
  · rw [State.raise_present]
    split
    · exact fun hm => (List.mem_append.mp hm).elim h fun he => hk (List.mem_singleton.mp he)
    · exact h

theorem State.causeGone_mem {m : FaultMsg} (k : FaultKind) (f : Nat → Bool) (hk : m.source ≠ k.source ∨ m.kind ≠ k.kind) :
    m ∈ (s.causeGone k f).flt.present ↔ m ∈ s.flt.present := by
  refine ⟨fun h => (List.mem_filter.mp h).1, fun h => List.mem_filter.mpr ⟨h, ?_⟩⟩
  rcases hk with hk | hk <;> simp [hk]

theorem Flt.linkDown_ne_single (a b : Nat) : Flt.linkDown.msg a ≠ Flt.prpSingleLan.msg b := fun h =>
    absurd (congrArg FaultMsg.kind h) (by decide : Flt.linkDown.kind ≠ Flt.prpSingleLan.kind)

/-- A pair that follows its links leaves LINK_DOWN as it is, and the ports. -/
theorem State.followPair_linkDown (q : Fin 4) (n : Nat) : Flt.linkDown.msg n ∈ (s.followPair q).flt.present ↔ Flt.linkDown.msg n ∈ s.flt.present := by
  unfold State.followPair
  extract_lets a b on single s1 d s2
  have h2 : Flt.linkDown.msg n ∈ s2.flt.present ↔ Flt.linkDown.msg n ∈ s.flt.present :=
      s1.causeGone_mem _ _ (.inr (by decide : Flt.linkDown.kind ≠ Flt.prpSingleLan.kind))
  split
  · refine ⟨fun h => ?_, fun h => s2.condition_keeps _ _ (h2.mpr h)⟩
    by_contra hn
    exact s2.condition_absent _ _ (fun h' => hn (h2.mp h')) (Flt.linkDown_ne_single n d) h
  · exact h2

theorem State.causeEnds_msg (k : FaultKind) (d : Nat) : k.msg d ∉ (s.causeEnds k d).flt.present := fun h => by
  have := s.causeEnds_absent k d
  rw [List.contains_iff_mem.mpr h] at this
  cases this

/-! ### Links -/

/-- What sending frames leaves of ports: only the transmit buffers of one pair change. -/
structure SendsOn (p : Fin 8) (s t : State) : Prop where
  port : ∀ q : Fin 8, ∃ l, t.ports[q] = { s.ports[q] with txBuf := l }
  others : ∀ q : Fin 8, pairOf q ≠ pairOf p → t.ports[q] = s.ports[q]
  within : Within (partsOf [.ports, .pairs]) s t

theorem SendsOn.refl : SendsOn p s s := ⟨fun _ => ⟨_, rfl⟩, fun _ _ => rfl, Within.start.mono (by decide)⟩

theorem SendsOn.trans {p : Fin 8} {s t u : State} (h : SendsOn p s t) (g : SendsOn p t u) : SendsOn p s u := by
  refine ⟨fun q => ?_, fun q hq => (g.others q hq).trans (h.others q hq), (h.within.trans g.within).mono (by decide)⟩
  obtain ⟨l, hl⟩ := h.port q
  obtain ⟨k, hk⟩ := g.port q
  exact ⟨k, by rw [hk, hl]⟩

theorem SendsOn.each {p : Fin 8} {α : Type} {f : State → α → State} (hf : ∀ t a, SendsOn p t (f t a)) : ∀ (l : List α) (s : State), SendsOn p s (s.each l f)
  | [], s => .refl s p
  | a :: l, s => (hf s a).trans (SendsOn.each hf l (f s a))

theorem State.queueFrame_sends (q : Fin 8) (hq : pairOf q = pairOf p) (f : TxFrame) : SendsOn p s (s.queueFrame q f) := by
  unfold State.queueFrame
  split
  · refine ⟨fun r => ?_, fun r hr => s.mapPort_others q _ r fun e => hr (e ▸ hq), Within.start.mapPort.mono (by decide)⟩
    by_cases h : r = q
    · subst h
      exact ⟨_, s.mapPort_at r _⟩
    · exact ⟨s.ports[r].txBuf, s.mapPort_others q _ r h⟩
  · exact .refl s p

theorem pairOf_lanA (q : Fin 4) : pairOf (lanA q) = q := by revert q; decide

theorem pairOf_lanB (q : Fin 4) : pairOf (lanB q) = q := by revert q; decide

theorem State.sendFrame_sends (f : TxFrame) : SendsOn p s (s.sendFrame p f) := by
  unfold State.sendFrame
  split
  · exact s.queueFrame_sends p p rfl _
  · exact ((s.queueFrame_sends p _ (pairOf_lanA _) _).trans (State.queueFrame_sends _ p _ (pairOf_lanB _) _)).trans
      ⟨fun q => ⟨_, rfl⟩, fun _ _ => rfl, Within.start.mapPair.mono (by decide)⟩

theorem State.announceAddresses_sends (i : Fin 16) : SendsOn p s (s.announceAddresses i p) := by
  unfold State.announceAddresses
  extract_lets x
  split
  · exact .refl s p
  · exact .each (fun t f => t.sendFrame_sends p f) _ s

theorem State.linkIsUp_ports : (s.linkIsUp p).ports = (s.mapPort p fun x => { x with linkUp := true, hiBer := false, fault := 0 }).ports := by
  have w : Within (partsOf [.pairs, .flt]) (s.mapPort p fun x => { x with linkUp := true, hiBer := false, fault := 0 }) (s.linkIsUp p) :=
    (Within.start.causeEnds.causeEnds.followPair).mono (by decide)
  exact w .ports (by decide)

theorem State.linkIsUp_absent : Flt.linkDown.msg p.val ∉ (s.linkIsUp p).flt.present := fun h => by
  have h := (State.followPair_linkDown _ _ _).mp h
  exact State.causeEnds_msg _ _ _ ((State.causeGone_mem _ Flt.hiBer _ (.inr (by decide : Flt.linkDown.kind ≠ Flt.hiBer.kind))).mp h)

/-- A link lost: the port down, LINK_DOWN reported. -/
def State.linkLost (b : Bool) (x : Fin 3) : State :=
  let s2 := (s.linkDown p false).mapPort p fun y => { y with hiBer := b, fault := x }
  if b then s2.condition Flt.hiBer p.val else s2.causeEnds Flt.hiBer p.val

theorem execLinkLoss_up (b : Bool) (x : Fin 3) (hb : s.afterBoot = true) (he : s.ports[p].cfg.flag Ix.portEnable = true) (hl : s.ports[p].linkUp = true) :
    exec (.linkLoss p b x) s = .next ((s.linkLost p b x).settle 2) := by
  change execLinkLoss p b x s = _
  unfold execLinkLoss
  rw [if_neg (by simp [-Fin.getElem_fin, hb, he]), hl]
  rfl

theorem State.linkDown_ports (hl : s.ports[p].linkUp = true) :
    (s.linkDown p false).ports = (s.mapPort p fun x => { x with linkUp := false, txBuf := [], linkDowns := x.linkDowns + 1 }).ports ∧
    Flt.linkDown.msg p.val ∈ (s.linkDown p false).flt.present := by
  have hd : s.linkDown p false = ((s.mapPort p fun x => { x with linkUp := false, txBuf := [], linkDowns := x.linkDowns + 1 }).condition Flt.linkDown
      p.val).followPair (pairOf p) := by
    unfold State.linkDown
    rw [hl]
    rfl
  rw [hd]
  have w : Within (partsOf [.pairs, .flt]) (s.mapPort p fun x => { x with linkUp := false, txBuf := [], linkDowns := x.linkDowns + 1 })
      (((s.mapPort p fun x => { x with linkUp := false, txBuf := [], linkDowns := x.linkDowns + 1 }).condition Flt.linkDown p.val).followPair (pairOf p)) :=
    Within.start.condition.followPair.mono (by decide)
  exact ⟨w .ports (by decide), (State.followPair_linkDown _ _ _).mpr (State.condition_present _ _ _ rfl)⟩

/-! ### Launches -/

theorem State.portCount_port (i : Fin 45) (n : Nat) : (s.portCount p i n).ports[p] =
    { s.ports[p] with counters := s.ports[p].counters.set i (s.ports[p].counters[i] + BitVec.ofNat 48 n) } := by
  rw [State.portCount_ports, State.mapPort_at]

/-- One state has the ports of another but for the counters of port `p`. -/
def CountsOnly (p : Fin 8) (s t : State) : Prop := (∃ c, t.ports[p] = { s.ports[p] with counters := c }) ∧ ∀ q, q ≠ p → t.ports[q] = s.ports[q]

theorem CountsOnly.portCount {p : Fin 8} {s t : State} (h : CountsOnly p s t) (i : Fin 45) (n : Nat) : CountsOnly p s (t.portCount p i n) := by
  obtain ⟨⟨c, hc⟩, ho⟩ := h
  exact ⟨⟨_, (t.portCount_port p i n).trans (by rw [hc])⟩, fun q hq => ((t.portCount_counts p i n).others q hq).trans (ho q hq)⟩

theorem State.countTx_only (f : TxFrame) : CountsOnly p s (s.countTx p f) := by
  unfold State.countTx
  extract_lets s1 s2 s3 s4 s5 _
  have h0 : CountsOnly p s s := ⟨⟨s.ports[p].counters, rfl⟩, fun _ _ => rfl⟩
  have h3 : CountsOnly p s s3 := (((h0.portCount _ _).portCount _ _).portCount _ _).portCount _ _
  clear_value s3
  have h4 : CountsOnly p s s4 := by
    simp only [s4]
    split
    exacts [h3.portCount _ _, h3]
  clear_value s4
  have h5 : CountsOnly p s s5 := by
    simp only [s5]
    split
    exacts [h4.portCount _ _, h4]
  exact h5

/-- A frame launched at `n` from its port's buffer. -/
def State.launchAt (f : TxFrame) (n : Nat) (u : State) : State :=
  ((u.mapPort p fun x => { x with txBuf := x.txBuf.erase f, busyTo := n + x.span f.len }).countTx p f).emit
    (.frame p n (s.launched p f ++ fcsOf (s.launched p f)) f.late)

theorem State.launchAt_out (f : TxFrame) (n : Nat) (u : State) :
    (∃ c, (s.launchAt p f n u).ports[p] = { u.ports[p] with txBuf := u.ports[p].txBuf.erase f, busyTo := n + u.ports[p].span f.len, counters := c }) ∧
    (∀ q, q ≠ p → (s.launchAt p f n u).ports[q] = u.ports[q]) ∧
    (s.launchAt p f n u).emits.head? = some (.frame p n (s.launched p f ++ fcsOf (s.launched p f)) f.late) ∧
    Within (partsOf [.emits, .ports, .hosts, .perf]) u (s.launchAt p f n u) := by
  let v := u.mapPort p fun x => { x with txBuf := x.txBuf.erase f, busyTo := n + x.span f.len }
  obtain ⟨⟨c, hc⟩, ho⟩ := v.countTx_only p f
  have hv : v.ports[p] = _ := u.mapPort_at p _
  refine ⟨⟨c, hc.trans (by rw [hv])⟩, fun q hq => (ho q hq).trans (u.mapPort_others p _ q hq), rfl, ?_⟩
  exact (Within.start.mapPort.countTx.emit).mono (by decide)

theorem execFrameLaunch_next (f : TxFrame) (hl : s.ports[p].linkUp = true) (hf : s.nextFrame p = some f) (hi : f.stampId = none) :
    exec (.frameLaunch p) s = .next (s.launchAt p f (f.slot.getD (s.hostLaunch p)) (if f.slot.isNone then s.drawn else s)) := by
  change execFrameLaunch p s = _
  unfold execFrameLaunch
  rw [if_neg (by rw [hl]; decide), hf]
  dsimp only
  rw [hi]
  rfl

/-- Settles O31: a link's two changes, the boundary of its settings, and the frame that is due first. -/
theorem linksLaunchesAndStampIndices : Obligations.LinksLaunchesAndStampIndices := by
  unfold Obligations.LinksLaunchesAndStampIndices
  refine ⟨fun s p hb he hl => ?_, fun s p b x hb he hl => ?_, fun s p => rfl, fun s p f n hl hf hn hi => ?_, fun s p f hl hf hn hi => ?_, fun s p h => ?_,
    fun s hp p v hb hm => ?_⟩
  · have hex : exec (.linkUp p) s = .next ((s.linkIsUp p).each (List.finRange 16) fun t i => t.announceAddresses i p) :=
      if_neg (by simp [-Fin.getElem_fin, hb, he, hl])
    refine ⟨hex, _, hex, ?_⟩
    have sends : SendsOn p (s.linkIsUp p) ((s.linkIsUp p).each (List.finRange 16) fun t i => t.announceAddresses i p) :=
      .each (fun t i => t.announceAddresses_sends p i) _ _
    have at_ : (s.linkIsUp p).ports[p] = { s.ports[p] with linkUp := true, hiBer := false, fault := 0 } :=
      (congrArg (fun v : Vector Port 8 => v[p]) (s.linkIsUp_ports p)).trans (s.mapPort_at p _)
    obtain ⟨l, hport⟩ := sends.port p
    rw [at_] at hport
    have wl : Within (partsOf [.ports, .pairs, .flt]) s (s.linkIsUp p) := Within.start.linkIsUp
    have flt := sends.within .flt (by decide)
    refine ⟨by rw [hport], by rw [hport], by rw [hport], ?_, fun q hq => ?_, ((wl.trans sends.within).mono (by decide) : Within (partsOf [.ports, .pairs, .flt]) s _).eq⟩
    · rw [flt]
      exact Bool.eq_false_of_not_eq_true fun h => s.linkIsUp_absent p (List.contains_iff_mem.mp h)
    · rw [sends.others q hq, State.linkIsUp_ports]
      exact s.mapPort_others p _ q fun e => hq (e ▸ rfl)
  · obtain ⟨down, reported⟩ := s.linkDown_ports p hl
    let d := s.linkDown p false
    let v := d.mapPort p fun y => { y with hiBer := b, fault := x }
    have w : Within (partsOf [.flt]) v (s.linkLost p b x) := (Within.ite Within.start.condition Within.start.causeEnds).mono (by decide)
    have wd : Within (partsOf [.ports, .pairs, .flt]) s (s.linkLost p b x) :=
      ((Within.start.linkDown.mapPort : Within _ s v).trans w).mono (by decide)
    have hd : d.ports[p] = { s.ports[p] with linkUp := false, txBuf := [], linkDowns := s.ports[p].linkDowns + 1 } :=
      (congrArg (fun v : Vector Port 8 => v[p]) down).trans (s.mapPort_at p _)
    have ports : (s.linkLost p b x).ports = v.ports := w .ports (by decide)
    have at_ : (s.linkLost p b x).ports[p] = { d.ports[p] with hiBer := b, fault := x } := (congrArg (fun v : Vector Port 8 => v[p]) ports).trans (d.mapPort_at p _)
    rw [hd] at at_
    refine ⟨s.linkLost p b x, execLinkLoss_up s p b x hb he hl, by rw [at_], by rw [at_], by rw [at_], by rw [at_], by rw [at_],
      List.contains_iff_mem.mpr ?_, fun q hq => ?_, wd.eq⟩
    · change Flt.linkDown.msg p.val ∈ (if b then v.condition Flt.hiBer p.val else v.causeEnds Flt.hiBer p.val).flt.present
      split
      · exact v.condition_keeps _ _ reported
      · exact (v.causeGone_mem Flt.hiBer _ (.inr (by decide : Flt.linkDown.kind ≠ Flt.hiBer.kind))).mpr reported
    · exact (congrArg (fun v : Vector Port 8 => v[q]) ports).trans ((d.mapPort_others p _ q hq).trans
        ((congrArg (fun v : Vector Port 8 => v[q]) down).trans (s.mapPort_others p _ q hq)))
  · have hex := execFrameLaunch_next s p f hl hf hi
    rw [hn] at hex
    obtain ⟨⟨c, at_⟩, others, head, w⟩ := s.launchAt_out p f n s
    refine ⟨s.launchAt p f n s, hex, by rw [at_], by rw [at_], head, fun hfr => by rw [State.launched, hfr], others, w.eq⟩
  · have hex := execFrameLaunch_next s p f hl hf hi
    rw [hn] at hex
    obtain ⟨⟨c, at_⟩, others, head, w⟩ := s.launchAt_out p f (s.hostLaunch p) s.drawn
    have wd : Within (partsOf [.emits, .ports, .hosts, .perf, .freeCtr]) s (s.launchAt p f (s.hostLaunch p) s.drawn) :=
      ((Within.start.drawn : Within _ s s.drawn).trans w).mono (by decide)
    exact ⟨s.launchAt p f (s.hostLaunch p) s.drawn, hex, by rw [at_]; rfl, by rw [at_]; rfl, le_max_left _ _, w .freeCtr (by decide), head, others, wd.eq⟩
  · change execFrameLaunch p s = _
    unfold execFrameLaunch
    split
    · rfl
    · rw [h]
  · refine (s.opened_up (fun t => t.writeTsqRd hp p v) hb).trans (congrArg _ ?_)
    unfold State.writeTsqRd
    rw [if_neg (by rw [hm]; decide)]
    dsimp only
    rw [indexFits]
    by_cases fits : (s.ports[p].tsq.wr - v.truncate 16).toNat ≤ 64
    · rw [if_pos fits, if_pos (decide_eq_true fits)]
      rfl
    · rw [if_neg fits, if_neg (by rw [decide_eq_false fits]; decide)]

end Sys2Proof.Machine

/-! PROOFS of family 'other', Squall engines and the engine's own frames: O32. -/

namespace Sys2Proof.Machine

variable (s : State)

/-! ### Engines -/

theorem State.mapSquall_others (e : Fin 16) (f : Squall → Squall) : ∀ g, g ≠ e → (s.mapSquall e f).svc.squall[g] = s.svc.squall[g] :=
  fun g hg => Vector.getElem_set_ne e.isLt g.isLt fun h => hg (Fin.ext h.symm)

theorem State.mapSquall_at (e : Fin 16) (f : Squall → Squall) : (s.mapSquall e f).svc.squall[e].work = (f s.svc.squall[e]).work ∧
    (s.mapSquall e f).svc.squall[e].inDispatch = (f s.svc.squall[e]).inDispatch := by
  have at_ : (s.mapSquall e f).svc.squall[e] = match (f s.svc.squall[e]).work.isEmpty, (f s.svc.squall[e]).busySince with
    | false, none => { f s.svc.squall[e] with busySince := some s.sys.cyc }
    | true, some c => { f s.svc.squall[e] with busySince := none, busy := (f s.svc.squall[e]).busy + (s.sys.cyc - c) }
    | _, _ => f s.svc.squall[e] := (Vector.getElem_set_self _).trans rfl
  rw [at_]
  split <;> exact ⟨rfl, rfl⟩

theorem State.mapSquall_svc (e : Fin 16) (f : Squall → Squall) : s.mapSquall e f = { s with svc.squall := (s.mapSquall e f).svc.squall } := rfl

/-- An engine removed from dispatch, its work dropped. -/
theorem State.removeEngine_out (e : Fin 16) (b : Bool) : (s.removeEngine e b).svc.squall[e].inDispatch = false ∧ (s.removeEngine e b).svc.squall[e].work = [] ∧
    Flt.squallHang.msg (e.val + b2n b * 16) ∈ (s.removeEngine e b).flt.present ∧ (∀ g, g ≠ e → (s.removeEngine e b).svc.squall[g] = s.svc.squall[g]) ∧
    s.removeEngine e b = { s with svc := (s.removeEngine e b).svc, flt := (s.removeEngine e b).flt } := by
  have svc : (s.removeEngine e b).svc = (s.mapSquall e fun x => { x with inDispatch := false, work := [] }).svc :=
    (Within.start.condition : Within _ _ (State.condition (s.mapSquall e fun x => { x with inDispatch := false, work := [] }) Flt.squallHang (e.val + b2n b * 16)))
      .svc (by decide)
  obtain ⟨work, out⟩ := s.mapSquall_at e fun x => { x with inDispatch := false, work := [] }
  rw [svc]
  exact ⟨out, work, State.condition_present _ _ _ rfl, s.mapSquall_others e _, by rw [← svc]; exact (Within.start.removeEngine : Within (partsOf [.svc, .flt]) s _).eq⟩

/-! ### Launches of work -/

/-- What taking a launch in engine `e` leaves: the work there with its frame, or the launch counted as dropped. -/
structure TookLaunch (e : Fin 16) (p : Fin 8) (inst : Option (Fin 16)) (mk : Nat → TxFrame) (s t : State) : Prop where
  work : (∃ w l, t.svc.squall[e].work = s.svc.squall[e].work ++ [w] ∧ w.port = p ∧ w.instance_ = inst ∧ w.start = s.sys.cyc ∧ w.slot = some l ∧
      w.ready = [mk l] ∧ t.svc.launchDrop = s.svc.launchDrop) ∨
    (t.svc.squall[e].work = s.svc.squall[e].work ∧ t.svc.launchDrop = s.svc.launchDrop + 1)
  others : ∀ g, g ≠ e → t.svc.squall[g] = s.svc.squall[g]
  svc : t.svc = { s.svc with squall := t.svc.squall, launchDrop := t.svc.launchDrop, dropAt := t.svc.dropAt, deferred := t.svc.deferred }
  within : Within (partsOf [.freeCtr, .svc, .flt]) s t

theorem State.launchDropped_svc (p : Fin 8) : ∃ d, (s.launchDropped p).svc = { s.svc with launchDrop := s.svc.launchDrop + 1, dropAt := d } := by
  unfold State.launchDropped
  extract_lets _ s1
  split
  · have w : ∀ u : State, (u.raise Flt.launchDrop p.val).svc = u.svc := fun u => (Within.start.raise : Within _ u (u.raise Flt.launchDrop p.val)) .svc (by decide)
    exact ⟨_, w _⟩
  · exact ⟨_, rfl⟩

/-- A launch reserved, or none and the drop counted. -/
theorem State.reserveAt_out (ps : List (Fin 8)) (p : Fin 8) (target work len : Nat) :
    ((s.reserveAt ps p target work len).2 = none ∧ ∃ d, (s.reserveAt ps p target work len).1.svc = { s.svc with launchDrop := s.svc.launchDrop + 1, dropAt := d }) ∨
    ((∃ l, (s.reserveAt ps p target work len).2 = some l) ∧ ∃ n, (s.reserveAt ps p target work len).1.svc = { s.svc with deferred := n }) := by
  unfold State.reserveAt
  extract_lets early r s1
  split
  · exact .inl ⟨rfl, s1.launchDropped_svc p⟩
  · split
    · exact .inr ⟨⟨_, rfl⟩, _, rfl⟩
    · exact .inr ⟨⟨_, rfl⟩, s.svc.deferred, rfl⟩

/-- The reservation is abstracted first, since to unfold it is to compute with the launch's limit. -/
theorem State.respond_took (e : Fin 16) (p : Fin 8) (inst : Option (Fin 16)) (target work : Nat) (keys : List (Bool × Fin 64)) (mk : Nat → TxFrame) :
    TookLaunch e p inst mk s (s.respond e p inst target work keys mk).1 := by
  obtain ⟨F, hF⟩ : ∃ F, F = State.respond := ⟨_, rfl⟩
  rw [← hF]
  delta State.respond at hF
  have out := State.reserveAt_out
  have within : ∀ (s : State) ps p target work len, Within (partsOf [.freeCtr, .svc, .flt]) s (s.reserveAt ps p target work len).1 :=
    fun _ _ _ _ _ _ => Within.start.reserveAt.mono (by decide)
  generalize State.reserveAt = R at hF out within
  revert R
  refine id fun R hF out within => ?_
  subst hF
  beta_reduce
  extract_lets l0 r
  have out : (r.2 = none ∧ ∃ d, r.1.svc = { s.svc with launchDrop := s.svc.launchDrop + 1, dropAt := d }) ∨
    ((∃ l, r.2 = some l) ∧ ∃ n, r.1.svc = { s.svc with deferred := n }) := out s _ _ _ _ _
  have w : Within (partsOf [.freeCtr, .svc, .flt]) s r.1 := within s _ _ _ _ _
  clear_value r
  obtain ⟨u, o⟩ := r
  dsimp only at w out
  rcases out with ⟨rfl, d, svc⟩ | ⟨⟨l, rfl⟩, n, svc⟩
  · change TookLaunch e p inst mk s u
    exact ⟨.inr ⟨by rw [svc], by rw [svc]⟩, fun g _ => by rw [svc], by rw [svc], w⟩
  · let f : Squall → Squall := fun x => { x with work := x.work ++ [⟨p, inst, s.sys.cyc, some l, [mk l], keys⟩] }
    change TookLaunch e p inst mk s (u.mapSquall e f)
    obtain ⟨wk, -⟩ := u.mapSquall_at e f
    have svc' : (u.mapSquall e f).svc = { u.svc with squall := (u.mapSquall e f).svc.squall } := rfl
    refine ⟨.inl ⟨⟨p, inst, s.sys.cyc, some l, [mk l], keys⟩, l, ?_, rfl, rfl, rfl, rfl, rfl, ?_⟩, fun g hg => ?_, ?_, (w.mapSquall).mono (by decide)⟩
    · refine wk.trans ?_
      simp only [f, svc]
    · rw [svc', svc]
    · rw [u.mapSquall_others e _ g hg, svc]
    · rw [svc', svc]

/-- A plain answer to an NTP request takes a launch, and else moves the generator's counter and the late block's message. -/
theorem State.ntpAnswer_took (e i : Fin 16) (p : Fin 8) (f : RxFrame) (q : NtpReq) (keys : List (Bool × Fin 64)) :
    ∃ mk, TookLaunch e p (some i) mk s (s.ntpAnswer e i p f q .plain keys) := by
  obtain ⟨F, hF⟩ : ∃ F, F = State.ntpAnswer := ⟨_, rfl⟩
  rw [← hF]
  delta State.ntpAnswer at hF
  have took := @State.respond_took
  generalize State.respond = R at hF took
  revert R
  refine id fun R hF took => ?_
  subst hF
  beta_reduce
  extract_lets env extra t w r _ s1
  obtain ⟨mk, launch⟩ : ∃ mk, TookLaunch e p (some i) mk s r.1 := ⟨_, took s e p _ _ _ _ _⟩
  have late : Within (partsOf [.freeCtr, .flt]) r.1 s1 :=
    (Within.noteLateBlock (Within.start.set (partsOf [.freeCtr]))).mono (by decide)
  have svc : s1.svc = r.1.svc := late .svc (by decide)
  refine ⟨mk, ?_⟩
  show TookLaunch e p (some i) mk s s1
  exact ⟨by rw [svc]; exact launch.work, by rw [svc]; exact launch.others, by rw [svc]; exact launch.svc, (launch.within.trans late).mono (by decide)⟩

theorem State.rateCheck_unlimited {i : Fin 16} (f : RxFrame) (hsrc : s.svc.inst[i].cfg.nat Ix.instSrcRate = 0) (hinst : s.svc.inst[i].cfg.nat Ix.instInstRate = 0) :
    s.rateCheck i f = (s, false) := by
  unfold State.rateCheck
  extract_lets x r1
  have free : r1 = (s, false) := by
    dsimp only [r1, x]
    rw [hsrc]
    cases sourceOf f <;> rfl
  rw [free]
  exact (if_neg Bool.false_ne_true).trans (if_pos hinst)

/-- A client's request to one of the instances without NTS and without limits is answered plainly. -/
theorem State.ntpRequest_plain {i : Fin 16} (e : Fin 16) (p : Fin 8) (f : RxFrame) {q : NtpReq} (hinit : s.afterInit = true) (hmode : q.mode = 3)
    (hvn : q.vn = 3 ∨ q.vn = 4) (hlen : 48 ≤ q.data.length) (hnts : s.svc.inst[i].cfg.nat Ix.instNts = 0)
    (hsrc : s.svc.inst[i].cfg.nat Ix.instSrcRate = 0) (hinst : s.svc.inst[i].cfg.nat Ix.instInstRate = 0) :
    s.ntpRequest e i p f q = s.ntpAnswer e i p f q .plain [] := by
  unfold State.ntpRequest
  extract_lets x mode _ _ nts r
  have hm : mode = 0 := hnts
  have hn : nts = false := by simp [nts, hm]
  have hr : r = (s, false) := s.rateCheck_unlimited f hsrc hinst
  refine (if_neg (by simp [hmode])).trans ((if_neg (by simp [hinit])).trans ((if_neg ?_).trans ((if_neg (by simp [hmode])).trans ((if_neg (by simp [hm])).trans
    ((if_neg (by simp [hn])).trans ((if_neg (by simp [hr])).trans ((if_neg (by simp [hn])).trans (by rw [hr]; rfl))))))))
  rcases hvn with h | h <;> simp [h, hlen]

/-! ### Dispatch -/

theorem eclkCyc_4096 : eclkCyc 4096 = 2048 := rfl

theorem secCyc_val : secCyc = 625000000 := rfl

theorem State.boundary_applied {g : Fin 8} {m : Nat} (h : s.hasApplied g m = true) : s.boundary g m = s := if_pos h

theorem State.dispatch_nothing {p : Fin 8} (h : s.ports[p].rxBuf = []) : s.dispatch p = s := by
  unfold State.dispatch
  rw [h]

/-- A frame that is for nobody and that no host-lane rule takes. -/
theorem State.dispatch_unmatched {p : Fin 8} {f : RxFrame} {l : List RxFrame} (h : s.ports[p].rxBuf = f :: l) (hdata : payloadIn f = .data)
    (hrules : ∀ r : Fin 16, ruleMatches s.svc.rules[r] p f = false) :
    s.dispatch p = { s.mapPort p (fun x => { x with rxBuf := l }) with svc.unmatched := s.svc.unmatched + 1 } := by
  have none_ : ((List.finRange 16).find? fun r => ruleMatches (s.mapPort p fun x => { x with rxBuf := l }).svc.rules[r] p f) = none :=
    List.find?_eq_none.mpr fun r _ => by simp [-Fin.getElem_fin, hrules r]
  have rules : (s.mapPort p fun x => { x with rxBuf := l }).hostRules p f =
      { s.mapPort p (fun x => { x with rxBuf := l }) with svc.unmatched := s.svc.unmatched + 1 } := by
    unfold State.hostRules
    rw [none_]
    rfl
  rw [← rules]
  unfold State.dispatch
  rw [h]
  dsimp only
  rw [hdata]
  dsimp only
  cases s.instanceFor p f <;> rfl

theorem State.dispatch_ntp {p : Fin 8} {f : RxFrame} {l : List RxFrame} {q : NtpReq} {i e : Fin 16} (h : s.ports[p].rxBuf = f :: l) (hntp : payloadIn f = .ntp q)
    (hi : s.instanceFor p f = some i) (hactive : s.follower = false) (he : s.freeEngine = some e) :
    s.dispatch p = (s.mapPort p fun x => { x with rxBuf := l }).ntpRequest e i p f q := by
  unfold State.dispatch
  rw [h]
  dsimp only
  rw [hntp, hi]
  dsimp only
  rw [he]
  exact if_neg (by simp [hactive])

/-! ### Periodic messages -/

theorem exec_periodicMessage_follower (n : Nat) (h : s.follower = true) : exec (.periodicMessage n) s = .next s := by
  change execPeriodicMessage n s = _
  unfold execPeriodicMessage
  exact if_pos h

theorem exec_periodicMessage_multicast {n : Nat} (h : s.follower = false) (hn : n < 256) : exec (.periodicMessage n) s =
    .next (s.periodicMulticast n (Fin.ofNat 16 (n / 16)) (Fin.ofNat 8 (n / 2 % 8)) (n % 2 == 1)) := by
  change execPeriodicMessage n s = _
  unfold execPeriodicMessage
  exact (if_neg (by simp [h])).trans (if_pos hn)

/-- Source 256 + p, where it may send: the port's ESMC information PDU, and the code it carries. -/
theorem exec_periodicMessage_esmc {n : Nat} {p : Fin 8} (hn : 256 ≤ n) (hn' : n < 264) (hp : Fin.ofNat 8 (n - 256) = p) (h : s.follower = false)
    (hon : s.svc.esmc[p].cfg.flag Ix.esmcEnable = true) (hup : s.ports[p].linkUp = true) (hinit : s.afterInit = true) :
    exec (.periodicMessage n) s = .next (if (s.periodicPlain n secFrac p Kind.esmc (s.esmcFrame p false)).2 then
      { (s.periodicPlain n secFrac p Kind.esmc (s.esmcFrame p false)).1 with
        svc.esmc := upd (s.periodicPlain n secFrac p Kind.esmc (s.esmcFrame p false)).1.svc.esmc p fun x => { x with lastCode := s.esmcCode p } }
      else (s.periodicPlain n secFrac p Kind.esmc (s.esmcFrame p false)).1) := by
  have cond : (s.svc.esmc[p].cfg.flag Ix.esmcEnable && s.ports[p].linkUp && s.afterInit) = true := by rw [hon, hup, hinit]; rfl
  subst hp
  change execPeriodicMessage n s = _
  unfold execPeriodicMessage
  rw [if_neg (by simp [h]), if_neg (by omega), if_pos (by omega)]
  exact if_pos cond

/-- Source 256 + p, where it may not send. -/
theorem exec_periodicMessage_esmcOff {n : Nat} {p : Fin 8} (hn : 256 ≤ n) (hn' : n < 264) (hp : Fin.ofNat 8 (n - 256) = p) (h : s.follower = false)
    (hoff : ¬ (s.svc.esmc[p].cfg.flag Ix.esmcEnable && s.ports[p].linkUp && s.afterInit) = true) : exec (.periodicMessage n) s = .next s := by
  subst hp
  change execPeriodicMessage n s = _
  unfold execPeriodicMessage
  rw [if_neg (by simp [h]), if_neg (by omega), if_pos (by omega)]
  exact if_neg hoff

theorem esmcSource_port (p : Fin 8) : Fin.ofNat 8 (256 + p.val - 256) = p := Fin.ext (by simp)

theorem State.lastNominal_setNominal (src : Nat) (t : Int) : (s.setNominal src t).lastNominal src = some t := by
  unfold State.lastNominal State.setNominal
  simp

/-- The first periodic frame of a source leaves 1 µs from now, in a launch of the free engine. -/
theorem State.periodicPlain_first {src : Nat} (per : Int) (p : Fin 8) (kind : Nat) (octets : List Byte) {e : Fin 16} (h : s.lastNominal src = none)
    (he : s.freeEngine = some e) : (s.periodicPlain src per p kind octets).2 = true ∧
      TookLaunch e p none (fun l => { slot := some l, kind := kind, octets := octets }) (s.setNominal src (s.now + 65536000))
        (s.periodicPlain src per p kind octets).1 := by
  obtain ⟨F, hF⟩ : ∃ F, F = State.periodicPlain := ⟨_, rfl⟩
  rw [← hF]
  delta State.periodicPlain at hF
  have took := @State.respond_took
  generalize State.respond = R at hF took
  revert R
  refine id fun R hF took => ?_
  subst hF
  beta_reduce
  rw [h, he]
  extract_lets soonest t
  have ht : t = s.now + 65536000 := max_self _
  rw [if_neg (by rw [ht]; simp only [lookAhead]; omega), ht]
  exact ⟨rfl, took _ e p _ _ _ _ _⟩

theorem exec_periodicMessage_esmcLater {n : Nat} {p : Fin 8} {u : Int} (hn : 256 ≤ n) (hn' : n < 264) (hp : Fin.ofNat 8 (n - 256) = p)
    (hu : s.lastNominal n = some u) (hlate : s.now + lookAhead < u + secFrac) : exec (.periodicMessage n) s = .next s := by
  cases h : s.follower with
  | true => exact exec_periodicMessage_follower s _ h
  | false =>
    by_cases hc : s.svc.esmc[p].cfg.flag Ix.esmcEnable = true ∧ s.ports[p].linkUp = true ∧ s.afterInit = true
    · obtain ⟨hon, hup, hinit⟩ := hc
      have later : s.periodicPlain n secFrac p Kind.esmc (s.esmcFrame p false) = (s, false) := by
        unfold State.periodicPlain
        rw [hu]
        exact if_pos (by dsimp only; omega)
      rw [exec_periodicMessage_esmc s hn hn' hp h hon hup hinit, later]
      rfl
    · refine exec_periodicMessage_esmcOff s hn hn' hp h ?_
      rw [Bool.and_eq_true, Bool.and_eq_true]
      exact fun ⟨⟨a, b⟩, c⟩ => hc ⟨a, b, c⟩

theorem exec_periodicMessage_notMaster {i : Fin 16} {p : Fin 8} (b : Bool) (h : s.ptpMaster i p = false) :
    exec (.periodicMessage (16 * i.val + 2 * p.val + b2n b)) s = .next s := by
  cases hf : s.follower with
  | true => exact exec_periodicMessage_follower s _ hf
  | false =>
    have hb : b2n b < 2 := by cases b <;> decide
    have hi : Fin.ofNat 16 ((16 * i.val + 2 * p.val + b2n b) / 16) = i := Fin.ext (by simp; omega)
    have hp : Fin.ofNat 8 ((16 * i.val + 2 * p.val + b2n b) / 2 % 8) = p := Fin.ext (by simp; omega)
    rw [exec_periodicMessage_multicast s hf (by omega), hi, hp]
    exact congrArg Host.Outcome.next (if_pos (by simp [h]))

theorem exec_periodicMessage_grant {n : Nat} {g : Grant} (h : s.follower = false) (hn : 268 ≤ n) (hg : s.svc.grants[n - 268]? = some g) :
    exec (.periodicMessage n) s = .next (s.periodicGrant n g) := by
  change execPeriodicMessage n s = _
  unfold execPeriodicMessage
  refine (if_neg (by simp [h])).trans ((if_neg (by omega)).trans ((if_neg (by omega)).trans ((if_neg (by omega)).trans ?_)))
  rw [hg]

/-! ### The obligation's commands -/

/-- Settles O32: the queue of requests, an engine's removal, and the sources of the engine's own frames one by one. -/
theorem squallEnginesServeAndMessagesLeave : Obligations.SquallEnginesServeAndMessagesLeave := by
  refine ⟨⟨fun _ _ => rfl, fun s p happ h => ?_, fun s p f l happ h hdata hrules => ?_,
      fun s p f l q i e happ h hntp hi hactive he hinit hmode hvn hlen hnts hsrc hinst => ?_,
    fun s e => ?_, fun s e w hw hlate => ?_, fun s e h => ?_, fun s e w l n hw hslot hlate hready => ?_, fun s e w l hw hslot => ?_⟩,
    fun s n h => exec_periodicMessage_follower s n h, fun s n h hn => exec_periodicMessage_multicast s h hn, fun s i p b h => exec_periodicMessage_notMaster s b h,
    fun s p e h hon hup hinit hlast he => ?_, fun s p u hu hlate => exec_periodicMessage_esmcLater s (Nat.le_add_right _ _) (Nat.add_lt_add_left p.isLt 256) (esmcSource_port p) hu hlate, fun s n g h hn hg => exec_periodicMessage_grant s h hn hg,
    fun s p hon hup h hcode hprp hfield => ?_, fun s p hcode => ?_, fun s n g hg hlate => ?_, fun s n g hg hnot => ?_, fun s c hc hdue => ?_⟩
  · show Host.Outcome.next ((s.boundary 3 0).dispatch p) = _
    rw [s.boundary_applied happ, s.dispatch_nothing h]
  · show Host.Outcome.next ((s.boundary 3 0).dispatch p) = _
    rw [s.boundary_applied happ, s.dispatch_unmatched h hdata hrules]
  · let s1 := s.mapPort p fun x => { x with rxBuf := l }
    have run : exec (.requestDispatch p) s = .next (s1.ntpAnswer e i p f q .plain []) := by
      show Host.Outcome.next ((s.boundary 3 0).dispatch p) = _
      rw [s.boundary_applied happ, s.dispatch_ntp h hntp hi hactive he, s1.ntpRequest_plain e p f hinit hmode hvn hlen hnts hsrc hinst]
    obtain ⟨mk, took⟩ := s1.ntpAnswer_took e i p f q []
    obtain ⟨t, ht⟩ : ∃ t, t = s1.ntpAnswer e i p f q .plain [] := ⟨_, rfl⟩
    rw [← ht] at run took
    have ports : t.ports = s1.ports := took.within .ports (by decide)
    have w1 : Within (partsOf [.ports]) s s1 := Within.start.mapPort.mono (by decide)
    refine ⟨t, run, ?_, ?_, took.others, ((w1.trans took.within).mono (by decide) : Within (partsOf [.ports, .freeCtr, .svc, .flt]) s _).eq⟩
    · rw [ports]
      exact (congrArg Port.rxBuf (s.mapPort_at p _)).trans rfl
    · rcases took.work with ⟨w, n, work, port, inst, start, slot, -, drop⟩ | ⟨work, drop⟩
      · exact .inl ⟨w, work, port, inst, start, by rw [slot]; rfl, drop⟩
      · exact .inr ⟨work, drop⟩
  · obtain ⟨out, work, present, others, only⟩ := s.removeEngine_out e true
    exact ⟨s.removeEngine e true, rfl, out, work, List.contains_iff_mem.mpr present, others, only⟩
  · obtain ⟨out, work, -, others, only⟩ := s.removeEngine_out e false
    exact ⟨s.removeEngine e false, if_pos (List.any_eq_true.mpr ⟨w, hw, decide_eq_true (by rw [eclkCyc_4096]; exact hlate)⟩), out, work, others, only⟩
  · exact if_neg fun hany => by
      obtain ⟨w, hw, hlate⟩ := List.any_eq_true.mp hany
      exact absurd (of_decide_eq_true hlate) (by rw [eclkCyc_4096]; exact Nat.not_lt.mpr (h w hw))
  · let s1 := s.mapSquall e fun x => { x with work := l }
    have run : exec (.squallWorkComplete e) s = .next { s1 with svc.launchDrop := s1.svc.launchDrop + 1 } := by
      change execSquallWorkComplete e s = _
      unfold execSquallWorkComplete
      rw [hw]
      dsimp only
      rw [hslot]
      exact if_pos (by simp [hlate, hready])
    exact ⟨_, run, (s.mapSquall_at e fun x => { x with work := l }).1, rfl, rfl⟩
  · let s1 := s.mapSquall e fun x => { x with work := l }
    let s2 := s1.each w.ready fun t f => t.sendFrame w.port f
    have run : exec (.squallWorkComplete e) s = .next (match w.instance_ with
        | some i => s2.mapInst i fun x => { x with sent := x.sent + w.ready.length }
        | none => s2) := by
      change execSquallWorkComplete e s = _
      unfold execSquallWorkComplete
      rw [hw]
      dsimp only
      rw [hslot]
      exact if_neg Bool.false_ne_true
    have sends : SendsOn w.port s1 s2 := .each (fun t f => t.sendFrame_sends w.port f) _ _
    have svc : s2.svc = s1.svc := sends.within .svc (by decide)
    have w1 : Within (partsOf [.svc]) s s1 := Within.start.mapSquall.mono (by decide)
    have w2 : Within (partsOf [.svc, .ports, .pairs]) s s2 := (w1.trans sends.within).mono (by decide)
    obtain ⟨work, -⟩ := s.mapSquall_at e fun x => { x with work := l }
    cases hi : w.instance_ with
    | none =>
      rw [hi] at run
      refine ⟨s2, run, ?_, fun i h => absurd h (by simp), ?_, w2.eq⟩
      · rw [svc]; exact work
      · rw [svc]; rfl
    | some i =>
      rw [hi] at run
      refine ⟨s2.mapInst i fun x => { x with sent := x.sent + w.ready.length }, run, ?_, fun j h => ?_, ?_,
          (w2.mapInst.mono (by decide) : Within (partsOf [.svc, .ports, .pairs]) s _).eq⟩
      · show s2.svc.squall[e].work = l
        rw [svc]; exact work
      · obtain rfl : i = j := Option.some.inj h
        refine (congrArg Inst.sent (Vector.getElem_set_self _)).trans ?_
        show s2.svc.inst[i].sent + _ = _
        rw [svc]
        rfl
      · show s2.svc.launchDrop = _
        rw [svc]; rfl
  · obtain ⟨sent, took⟩ := s.periodicPlain_first secFrac p Kind.esmc (s.esmcFrame p false) hlast he
    obtain ⟨u, hu⟩ : ∃ u, u = (s.periodicPlain (256 + p.val) secFrac p Kind.esmc (s.esmcFrame p false)).1 := ⟨_, rfl⟩
    rw [← hu] at took
    have run : exec (.periodicMessage (256 + p.val)) s = .next { u with svc.esmc := upd u.svc.esmc p fun x => { x with lastCode := s.esmcCode p } } := by
      rw [exec_periodicMessage_esmc s (Nat.le_add_right _ _) (Nat.add_lt_add_left p.isLt 256) (esmcSource_port p) h hon hup hinit, if_pos sent, ← hu]
    have w : Within (partsOf [.svc, .flt, .freeCtr]) s u := ((Within.start.setNominal).trans took.within).mono (by decide)
    refine ⟨_, run, congrArg _ (Vector.getElem_set_self _), ?_, ?_, ((w.set (partsOf [.svc])).mono (by decide) : Within (partsOf [.svc, .flt, .freeCtr]) s _).eq⟩
    · show u.lastNominal (256 + p.val) = _
      refine Eq.trans ?_ (s.lastNominal_setNominal (256 + p.val) (s.now + 65536000))
      unfold State.lastNominal
      rw [took.svc]
    · rcases took.work with ⟨v, n, work, port, inst, -, -, ready, drop⟩ | ⟨work, drop⟩
      · exact .inl ⟨v, work, port, inst, by rw [ready]; rfl, drop⟩
      · exact .inr ⟨work, drop⟩
  · let s1 : State := { s with svc.esmc := upd s.svc.esmc p fun x => { x with lastCode := s.esmcCode p } }
    let f : TxFrame := { slot := none, kind := Kind.esmc, octets := padded (s.esmcFrame p true) }
    have queued : s1.sendFrame p { slot := none, kind := Kind.esmc, octets := s.esmcFrame p true } = s1.mapPort p fun x => { x with txBuf := x.txBuf ++ [f] } :=
      (if_pos (by show (!s.prpOn p || _) = true; simp [hprp])).trans (if_pos (by show (s.ports[p].linkUp && _) = true; simp [-Fin.getElem_fin, hup, hfield]))
    have run : exec (.esmcEventPdu p) s = .next (s1.mapPort p fun x => { x with txBuf := x.txBuf ++ [f] }) := by
      rw [← queued]
      exact if_neg (by simp [-Fin.getElem_fin, hon, hup, h, hcode])
    exact ⟨_, f, run, congrArg _ (Vector.getElem_set_self _), congrArg Port.txBuf (s1.mapPort_at p _), rfl, rfl, rfl, s1.mapPort_others p _, rfl⟩
  · exact if_pos (by simp [-Fin.getElem_fin, hcode])
  · have run : exec (.grantExpiry n) s = .next (({ s with svc.grants := s.svc.grants.eraseIdx n } : State).replDrop g) := by
      change execGrantExpiry n s = _
      unfold execGrantExpiry
      rw [hg]
      have late : s.lapsed (g.start + g.duration * secCyc) = true := decide_eq_true (by rw [secCyc_val]; exact hlate)
      exact if_neg (by rw [late]; exact Bool.false_ne_true)
    have w : Within (partsOf [.emits]) { s with svc.grants := s.svc.grants.eraseIdx n } (({ s with svc.grants := s.svc.grants.eraseIdx n } : State).replDrop g) :=
      Within.start.replDrop.mono (by decide)
    have svc := w .svc (by decide)
    exact ⟨_, run, congrArg Service.grants svc, by rw [congrArg Service.grants svc]; exact w.eq⟩
  · change execGrantExpiry n s = _
    unfold execGrantExpiry
    rw [hg]
    have not_ : s.lapsed (g.start + g.duration * secCyc) = false := decide_eq_false (by rw [secCyc_val]; exact Nat.not_lt.mpr hnot)
    exact if_pos (by rw [not_]; rfl)
  · let s1 : State := { s with svc.garpDue := none }
    have run : exec .garpRepeat s = .next (s1.each (List.finRange 16) fun t i => t.each (List.finRange 8) fun u p => u.announceAddresses i p) := by
      change execGarpRepeat s = _
      unfold execGarpRepeat
      rw [hc]
      exact if_neg (by omega)
    have w : Within (partsOf [.ports, .pairs]) s1 (s1.each (List.finRange 16) fun t i => t.each (List.finRange 8) fun u p => u.announceAddresses i p) :=
      (Within.start.each fun _ _ => Within.start.each fun _ _ => Within.start.announceAddresses).mono (by decide)
    refine ⟨_, run, congrArg Service.garpDue (w .svc (by decide)), (((Within.start.set (partsOf [.svc])).trans w).mono (by decide) : Within (partsOf [.svc, .ports, .pairs]) s _).eq⟩

end Sys2Proof.Machine

/-! PROOFS of family 'other', host lanes: O33. -/

namespace Sys2Proof.Machine

variable (s : State)

/-! ### A lane's registers -/

theorem laneOf_some {hp : Fin 4} {l : Fin 2} (h : hp.val = l.val) : laneOf hp = some l := by
  unfold laneOf
  rw [dif_pos (h ▸ l.isLt)]
  exact congrArg some (Fin.ext h)

theorem laneOf_none {hp : Fin 4} (h : 2 ≤ hp.val) : laneOf hp = none := dif_neg (by omega)

theorem State.mapLane_others (l : Fin 2) (f : Lane → Lane) : ∀ k, k ≠ l → (s.mapLane l f).svc.lanes[k] = s.svc.lanes[k] :=
  fun k hk => Vector.getElem_set_ne l.isLt k.isLt fun h => hk (Fin.ext h.symm)

theorem State.mapLane_at (l : Fin 2) (f : Lane → Lane) : (s.mapLane l f).svc.lanes[l] = f s.svc.lanes[l] := Vector.getElem_set_self _

/-- A state that differs from a lane's update in its messages alone. -/
theorem lanes_only {l : Fin 2} {f : Lane → Lane} {t : State} (w : Within (partsOf [.emits]) (s.mapLane l f) t) :
    t = { s with svc.lanes := t.svc.lanes, emits := t.emits } ∧ t.svc.lanes = (s.mapLane l f).svc.lanes := by
  have svc : t.svc = (s.mapLane l f).svc := w .svc (by decide)
  exact ⟨by rw [svc]; exact w.eq, congrArg Service.lanes svc⟩

theorem State.mapLane_mapLane (l : Fin 2) (f g : Lane → Lane) : (s.mapLane l f).mapLane l g = s.mapLane l fun x => g (f x) := by
  have at_ : (s.mapLane l f).svc.lanes[l] = f s.svc.lanes[l] := s.mapLane_at l f
  show { s with svc.lanes := (s.svc.lanes.set l (f s.svc.lanes[l])).set l (g (s.mapLane l f).svc.lanes[l]) } = s.mapLane l fun x => g (f x)
  rw [Vector.set_set, at_]
  rfl

/-- A lane's error: the lane's update, and the level's message. -/
theorem State.laneError_within (l : Fin 2) (f : Lane → Lane) : Within (partsOf [.emits]) (s.mapLane l f) (s.laneError l f) := by
  unfold State.laneError
  extract_lets x s1
  split
  · exact Within.start.mono (by decide)
  · exact Within.start.hwLevelRise.mono (by decide)

theorem State.writeProd_rx (l : Fin 2) (v : Word) : s.writeProd l false v = if (v.truncate 16 - s.svc.lanes[l].rxCons).toNat ≤ 2 ^ s.svc.lanes[l].rxSize
    then { s with svc.lanes := upd s.svc.lanes l fun x => { x with rxProd := v.truncate 16 } } else s.raise Flt.hostLaneIndex l.val := by
  unfold State.writeProd prodFits ringSize
  dsimp only
  rw [if_neg Bool.false_ne_true]
  simp only [decide_eq_true_eq]
  rfl

theorem State.writeProd_tx (l : Fin 2) (v : Word) : s.writeProd l true v = if (v.truncate 16 - s.svc.lanes[l].txCons).toNat ≤ 2 ^ s.svc.lanes[l].txSize
    then { s with svc.lanes := upd s.svc.lanes l fun x => { x with txProd := v.truncate 16 } } else s.raise Flt.hostLaneIndex (l.val + 16) := by
  unfold State.writeProd prodFits ringSize
  dsimp only
  rw [if_pos rfl]
  simp only [decide_eq_true_eq]
  rfl

/-- Whether HL_CTRL's ring sizes are in range (R305). -/
def goodSizes (v : Word) : Bool := 6 ≤ bitsOf v.toNat 11 8 && bitsOf v.toNat 11 8 ≤ 12 && 6 ≤ bitsOf v.toNat 15 12 && bitsOf v.toNat 15 12 ≤ 12

/-- The lane's ring sizes as HL_CTRL sets them. -/
def withSizes (v : Word) (x : Lane) : Lane := { x with rxSize := bitsOf v.toNat 11 8, txSize := bitsOf v.toNat 15 12 }

theorem State.writeHlCtrl_off {l : Fin 2} {v : Word} (hoff : s.svc.lanes[l].enabled = false) (hon : v.getLsbD 0 = true) : s.writeHlCtrl l v =
    if goodSizes v then (s.mapLane l (withSizes v)).mapLane l fun x => { x with enabled := true }
    else (s.mapLane l (withSizes v)).laneError l fun x => { x with cfgErr := true } := by
  unfold State.writeHlCtrl
  extract_lets x on rx tx s1 s2
  exact (if_neg (by rw [show x.enabled = false from hoff]; exact Bool.false_ne_true)).trans (if_neg (by rw [show on = true from hon]; decide))

/-- HL_CTRL with ENABLE on a lane that is off changes the lane, and what the level's rise sends. -/
theorem State.writeHlCtrl_enables {l : Fin 2} {v : Word} (hoff : s.svc.lanes[l].enabled = false) (hon : v.getLsbD 0 = true) :
    ∃ f, Within (partsOf [.emits]) (s.mapLane l f) (s.writeHlCtrl l v) ∧
      (if goodSizes v then (f s.svc.lanes[l]).enabled = true else (f s.svc.lanes[l]).enabled = false ∧ (f s.svc.lanes[l]).cfgErr = true) := by
  rw [s.writeHlCtrl_off hoff hon]
  cases goodSizes v with
  | true =>
    refine ⟨fun x => { withSizes v x with enabled := true }, ?_, rfl⟩
    rw [if_pos rfl, s.mapLane_mapLane]
    exact Within.start.mono (by decide)
  | false =>
    refine ⟨fun x => { withSizes v x with cfgErr := true }, ?_, hoff, rfl⟩
    rw [if_neg Bool.false_ne_true, ← s.mapLane_mapLane l (withSizes v) fun x => { x with cfgErr := true }]
    exact State.laneError_within _ l _

theorem goodSizes_iff (v : Word) : goodSizes v = true ↔
    6 ≤ bitsOf v.toNat 11 8 ∧ bitsOf v.toNat 11 8 ≤ 12 ∧ 6 ≤ bitsOf v.toNat 15 12 ∧ bitsOf v.toNat 15 12 ≤ 12 := by
  unfold goodSizes
  simp only [Bool.and_eq_true, decide_eq_true_eq, and_assoc]

/-! ### Transfers and sends -/

theorem exec_hlTxFetch {l : Fin 2} (d : SendDesc) (hon : s.svc.lanes[l].enabled = true) (hwait : s.svc.lanes[l].txProd ≠ s.svc.lanes[l].txCons) :
    ∃ u e, exec (.hlTxFetch l d) s = .next ((u.mapLane l fun y => { y with txCons := y.txCons + 1 }).emit e) ∧
      Within (partsOf [.ports, .pairs, .hosts, .emits]) s u ∧
      (s.sendRefused d = true → d.stamp = false → u = s.portCount d.port 43 1) ∧
      (s.sendRefused d = false → d.seg = false → d.stamp = false →
        u = s.sendFrame d.port { slot := none, kind := Kind.host, octets := d.octets }) := by
  change ∃ u e, execHlTxFetch l d s = _ ∧ _
  unfold execHlTxFetch
  extract_lets x hp id refused s1 frame _ s2 w4 at_
  have w1 : Within (partsOf [.ports, .pairs, .hosts, .emits]) s s1 := Within.ite (Within.start.takeId.mono (by decide)) (Within.start.mono (by decide))
  refine ⟨s2, _, if_neg (by show ¬ ((!x.enabled) || decide (x.txProd = x.txCons)) = true; rw [show x.enabled = true from hon, decide_eq_false hwait]; decide), ?_, ?_, ?_⟩
  · exact (Within.ite w1.portCount (Within.ite (w1.each fun _ _ => Within.start.sendFrame).portCount w1.sendFrame)).mono (by decide)
  · intro hr hs
    have h1 : s1 = s := if_neg (by rw [hs]; exact Bool.false_ne_true)
    exact (if_pos hr).trans (by rw [h1])
  · intro hr hg hs
    have h1 : s1 = s := if_neg (by rw [hs]; exact Bool.false_ne_true)
    refine (if_neg (by rw [show refused = false from hr]; exact Bool.false_ne_true)).trans ((if_neg (by rw [hg]; exact Bool.false_ne_true)).trans ?_)
    rw [h1]
    simp only [frame]
    rw [if_neg (by rw [hs]; exact Bool.false_ne_true)]

theorem State.sendFrame_host {p : Fin 8} (f : TxFrame) (hprp : s.prpOn p = false) (hup : s.ports[p].linkUp = true) (hkind : f.kind = Kind.host) :
    (s.sendFrame p f).ports[p].txBuf = s.ports[p].txBuf ++ [{ f with octets := padded f.octets }] := by
  have queued : s.sendFrame p f = s.mapPort p fun x => { x with txBuf := x.txBuf ++ [{ f with octets := padded f.octets }] } :=
    (if_pos (by rw [hprp]; rfl)).trans (if_pos (by rw [hup, show ({ f with octets := padded f.octets } : TxFrame).kind = Kind.host from hkind]; rfl))
  rw [queued, s.mapPort_at]

/-- Settles O33: the lane's rings, its oldest frame in flight, and a descriptor's frame. -/
theorem hostLaneRingsMoveWithinTheirSizes : Obligations.HostLaneRingsMoveWithinTheirSizes := by
  refine ⟨fun s hp l v hb hl => ⟨?_, ?_⟩, fun s hp v hb hl => ⟨?_, ?_, ?_⟩, fun s hp l v hb hl hoff hon => ?_, fun s l a n hon => ?_,
    fun s l hp a n f r p fs hl hon hfl => ?_, fun s l d hon hwait => ?_⟩
  · refine (s.opened_up (fun t => t.hostRxProd hp v) hb).trans (congrArg _ ?_)
    rw [State.hostRxProd, laneOf_some hl]
    exact s.writeProd_rx l v
  · refine (s.opened_up (fun t => t.hostTxProd hp v) hb).trans (congrArg _ ?_)
    rw [State.hostTxProd, laneOf_some hl]
    exact s.writeProd_tx l v
  · exact (s.opened_up (fun t => t.hostRxProd hp v) hb).trans (congrArg _ (by rw [State.hostRxProd, laneOf_none hl]))
  · exact (s.opened_up (fun t => t.hostTxProd hp v) hb).trans (congrArg _ (by rw [State.hostTxProd, laneOf_none hl]))
  · exact (s.opened_up (fun t => t.hostHlCtrl hp v) hb).trans (congrArg _ (by rw [State.hostHlCtrl, laneOf_none hl]))
  · have run : exec (.hlCtrlWrite hp v) s = .next (s.writeHlCtrl l v) :=
      (s.opened_up (fun t => t.hostHlCtrl hp v) hb).trans (congrArg _ (by rw [State.hostHlCtrl, laneOf_some hl]))
    obtain ⟨f, w, enables⟩ := s.writeHlCtrl_enables hoff hon
    obtain ⟨only, lanes⟩ := lanes_only s w
    refine ⟨_, run, ?_, ?_, fun k hk => ?_, only⟩
    · rw [lanes, s.mapLane_at, ← goodSizes_iff]
      cases hg : goodSizes v <;> simp [hg] at enables ⊢
      · exact enables.1
      · exact enables
    · rw [lanes, s.mapLane_at]
      cases hg : goodSizes v <;> simp [hg] at enables ⊢
      · exact fun _ => enables.2
      · exact fun h => absurd (h.symm.trans enables) (by decide)
    · rw [lanes]
      exact s.mapLane_others l f k hk
  · let f : Lane → Lane := fun y => { y with enabled := false, dmaErr := true, inFlight := [] }
    have run : exec (.hlDmaComplete l false a n) s = .next ((s.laneError l f).condition Flt.hostLaneDma l.val) :=
      (if_neg (by rw [hon]; decide)).trans (if_pos rfl)
    have w : Within (partsOf [.emits, .flt]) (s.mapLane l f) ((s.laneError l f).condition Flt.hostLaneDma l.val) :=
      ((s.laneError_within l f).condition).mono (by decide)
    obtain ⟨t, ht⟩ : ∃ t, t = (s.laneError l f).condition Flt.hostLaneDma l.val := ⟨_, rfl⟩
    rw [← ht] at w run
    have svc : t.svc = (s.mapLane l f).svc := w .svc (by decide)
    have at_ : t.svc.lanes[l] = f s.svc.lanes[l] := by rw [svc]; exact s.mapLane_at l f
    refine ⟨t, run, by rw [at_], by rw [at_], by rw [at_], fun k hk => ?_, ?_⟩
    · rw [svc]; exact s.mapLane_others l f k hk
    · rw [svc]; exact w.eq
  · have run : exec (.hlDmaComplete l true a n) s = .next (((s.mapLane l fun y => { y with inFlight := fs, rxCons := y.rxCons + 1 }).emit
        (.hostOctets hp a (f.bare.take n))).emit (.hostMem hp (s.svc.lanes[l].rxBase.toNat + 32 * (s.svc.lanes[l].rxCons.toNat % ringSize s.svc.lanes[l].rxSize) + 8)
          (rxWriteBack f r p n))) := by
      refine (if_neg (by rw [hon]; decide)).trans ((if_neg (by decide)).trans ?_)
      obtain rfl : hp = ⟨l.val, Nat.lt_of_lt_of_le l.isLt (by decide)⟩ := Fin.ext hl
      rw [hfl]
    refine ⟨_, run, ?_, ?_, rfl, fun k hk => s.mapLane_others l _ k hk, rfl⟩
    · exact congrArg Lane.inFlight (s.mapLane_at l _)
    · exact congrArg Lane.rxCons (s.mapLane_at l _)
  · obtain ⟨u, e, run, w, refused, sent⟩ := exec_hlTxFetch s d hon hwait
    have svc : u.svc = s.svc := w .svc (by decide)
    refine ⟨_, run, ?_, fun hr hs => ?_, fun hr hg hs hprp hup => ?_, ?_⟩
    · refine (congrArg Lane.txCons (u.mapLane_at l _)).trans ?_
      show u.svc.lanes[l].txCons + 1 = _
      rw [svc]
    · show u.ports[d.port].txBuf = _ ∧ u.ports[d.port].counters[(43 : Fin 45)] = _
      rw [refused hr hs]
      refine ⟨?_, s.portCount_same d.port 43 1⟩
      rw [State.portCount_ports, State.mapPort_at]
    · show u.ports[d.port].txBuf = _
      rw [sent hr hg hs]
      exact s.sendFrame_host _ hprp hup rfl
    · obtain ⟨ports, pairs, hosts, emits, rfl⟩ : ∃ ports pairs hosts emits, u = { s with ports := ports, pairs := pairs, hosts := hosts, emits := emits } :=
        ⟨_, _, _, _, w.eq⟩
      rfl

end Sys2Proof.Machine

/-! PROOFS of family 'other', the key store's clock and the random generator: O34. -/

namespace Sys2Proof.Machine

variable (s : State)

/-! ### Key slots -/

/-- What follows a change of the key store sets HAD_CURRENT, and leaves the slots. -/
theorem State.followAuth_out : s.followAuth.auth = { s.auth with hadCurrent := s.followAuth.auth.hadCurrent } ∧ Within (partsOf [.svc, .auth, .flt]) s s.followAuth := by
  refine ⟨?_, Within.start.followAuth.mono (by decide)⟩
  unfold State.followAuth
  extract_lets cur _ s1 s2
  have w2 : Within (partsOf [.flt]) s1 s2 := (Within.ite Within.start.causeGone Within.start).mono (by decide)
  have w : Within (partsOf [.svc, .flt]) s1 (s2.each (List.finRange 16) State.followInstAuth) :=
    (w2.each fun _ _ => Within.start.followInstAuth).mono (by decide)
  have auth : (s2.each (List.finRange 16) State.followInstAuth).auth = s1.auth := w .auth (by decide)
  rw [auth]

/-- A slot's key entering DRAINING. -/
def KeySlot.drained (k : KeySlot) : KeySlot := { k with state := .draining }

/-- The key store with a slot changed by `f`. -/
def Auth.mapKey (a : Auth) (sa : Bool) (n : Fin 64) (f : KeySlot → KeySlot) : Auth :=
  if sa then { a with sa := upd a.sa n f } else { a with nts := upd a.nts (Fin.ofNat 4 n.val) f }

theorem State.mapKey_auth (b : Bool) (n : Fin 64) (f : KeySlot → KeySlot) : s.mapKey b n f = { s with auth := s.auth.mapKey b n f } := by
  cases b <;> rfl

/-- A key drained: the slot's state, and beside it HAD_CURRENT. -/
theorem State.drainKey_out (b : Bool) (n : Fin 64) : (s.drainKey b n).auth.sa = (s.auth.mapKey b n KeySlot.drained).sa ∧
    (s.drainKey b n).auth.nts = (s.auth.mapKey b n KeySlot.drained).nts := by
  obtain ⟨auth, -⟩ := (s.mapKey b n KeySlot.drained).followAuth_out
  have store : (s.mapKey b n KeySlot.drained).auth = s.auth.mapKey b n KeySlot.drained := by rw [s.mapKey_auth]
  have drained : s.drainKey b n = (s.mapKey b n KeySlot.drained).followAuth := rfl
  rw [← store, drained, auth]
  exact ⟨rfl, rfl⟩

theorem State.replState_within (b : Bool) (n : Fin 64) : Within (partsOf [.emits]) s (s.replState b n) := Within.start.replState.mono (by decide)

/-- KEY_EXPIRY of a usable key whose time has come. -/
theorem exec_keyExpiry {b : Bool} {n : Fin 64} (hu : (s.key b n).usable = true) (he : (s.key b n).expiry ≠ 0) (hdue : ((s.key b n).expiry : Int) ≤ s.nowSec) :
    ∃ t, exec (.keyExpiry b n) s = .next t ∧ t.auth.sa = (s.auth.mapKey b n KeySlot.drained).sa ∧ t.auth.nts = (s.auth.mapKey b n KeySlot.drained).nts ∧ t.ts = s.ts := by
  let s1 := s.raise Flt.keyExpired (n.val + b2n b * 64)
  have run : exec (.keyExpiry b n) s = .next ((s1.drainKey b n).replState b n) := if_pos (by rw [hu, decide_eq_true hdue]; simp [he])
  have w1 : Within (partsOf [.flt]) s s1 := Within.start.raise.mono (by decide)
  have auth1 : s1.auth = s.auth := w1 .auth (by decide)
  have w : Within (partsOf [.svc, .auth, .flt, .emits]) s ((s1.drainKey b n).replState b n) := ((w1.drainKey).replState).mono (by decide)
  have auth : ((s1.drainKey b n).replState b n).auth = (s1.drainKey b n).auth := (s1.drainKey b n).replState_within b n .auth (by decide)
  obtain ⟨sa, nts⟩ := s1.drainKey_out b n
  exact ⟨_, run, by rw [auth, sa, auth1], by rw [auth, nts, auth1], w.ts_eq (by decide)⟩

/-- Settles O34: the key's slot in the store, and the generator's clocks. -/
theorem keysExpireAndTheGeneratorReseeds : Obligations.KeysExpireAndTheGeneratorReseeds := by
  refine ⟨fun s n hu he hdue => ?_, fun s n hu he hdue => ?_, fun s b n h => ?_, fun s n hd hfree => ?_, fun s h => ?_, fun s b => ?_, fun s c hc hdue => ?_,
    fun s c hc hnot => ?_, fun s h => ?_⟩
  · obtain ⟨t, run, sa, nts, ts⟩ := exec_keyExpiry s (b := true) (n := n) hu he hdue
    have at_ : t.auth.sa[n] = KeySlot.drained s.auth.sa[n] := by rw [sa]; exact Vector.getElem_set_self _
    refine ⟨t, run, by rw [at_]; rfl, by rw [at_]; rfl, fun k hk => ?_, nts, ts⟩
    rw [sa]
    exact Vector.getElem_set_ne n.isLt k.isLt fun h => hk (Fin.ext h.symm)
  · obtain ⟨t, run, sa, nts, -⟩ := exec_keyExpiry s (b := false) (n := n) hu he hdue
    refine ⟨t, run, ?_, sa⟩
    rw [nts]
    exact congrArg KeySlot.state (Vector.getElem_set_self _)
  · refine if_neg fun hc => ?_
    simp only [Bool.and_eq_true, bne_iff_ne, ne_eq, decide_eq_true_eq] at hc
    obtain ⟨⟨-, he⟩, hdue⟩ := hc
    rcases h with h | h
    · exact he h
    · exact absurd hdue (not_le.mpr h)
  · have run : exec (.keyDrainComplete true n) s = .next ((s.mapKey true n KeySlot.emptied).replState true n) :=
      if_pos (by show (s.auth.sa[n].state == _ && _) = true; rw [hd, hfree]; rfl)
    have w := (s.mapKey true n KeySlot.emptied).replState_within true n
    have auth : ((s.mapKey true n KeySlot.emptied).replState true n).auth = (s.mapKey true n KeySlot.emptied).auth := w .auth (by decide)
    rw [s.mapKey_auth] at run w auth
    have at_ : (s.auth.mapKey true n KeySlot.emptied).sa[n] = KeySlot.emptied s.auth.sa[n] := Vector.getElem_set_self _
    refine ⟨_, run, ?_, ?_, fun k hk => ?_, ?_, ?_⟩
    · rw [auth]; exact (congrArg KeySlot.state at_)
    · rw [auth]; exact (congrArg KeySlot.key at_)
    · rw [auth]; exact Vector.getElem_set_ne n.isLt k.isLt fun h => hk (Fin.ext h.symm)
    · rw [auth]; exact w.eq
    · rw [auth]; rfl
  · exact if_neg (by rw [secCyc_val, Bool.and_eq_true, decide_eq_true_eq, decide_eq_true_eq]; omega)
  · have w : Within (partsOf [.flt]) { s with auth.drbgOk := false, auth.testsFrom := some s.sys.cyc }
        (({ s with auth.drbgOk := false, auth.testsFrom := some s.sys.cyc } : State).raise Flt.drbgFail (b2n b)) := Within.start.raise.mono (by decide)
    have auth := w .auth (by decide)
    exact ⟨_, rfl, congrArg Auth.drbgOk auth, congrArg Auth.testsFrom auth, w.eq⟩
  · have run : exec .drbgResume s = .next (({ s.reseed with auth.drbgOk := true, auth.testsFrom := none } : State).causeGone Flt.drbgFail fun _ => true) := by
      change execDrbgResume s = _
      unfold execDrbgResume
      rw [hc]
      exact if_neg (by rw [secCyc_val]; exact Nat.not_lt.mpr hdue)
    refine ⟨_, run, rfl, rfl, rfl, rfl, ?_⟩
    refine Bool.eq_false_of_not_eq_true fun h => ?_
    have := List.mem_filter.mp (List.contains_iff_mem.mp h)
    exact absurd this.2 (by decide)
  · change execDrbgResume s = _
    unfold execDrbgResume
    rw [hc]
    exact if_pos (by rw [secCyc_val]; exact hnot)
  · change execSketchRollover s = _
    unfold execSketchRollover
    rw [secCyc_val]
    dsimp only
    rw [if_neg (by omega), if_pos h]

end Sys2Proof.Machine

/-! PROOFS of family 'other', grid feeds and converter ports: O35. -/

namespace Sys2Proof.Machine

variable (s : State)

theorem tenSecCyc : 10 * secCyc = 6250000000 := rfl

theorem secFrac_ms : secFrac / 1000 = 65536000000 := by decide

/-! ### Grid feeds -/

theorem State.mapFeed_others (f : Fin 6) (g : Feed → Feed) : ∀ k, k ≠ f → (s.mapFeed f g).feeds[k] = s.feeds[k] :=
  fun k hk => Vector.getElem_set_ne f.isLt k.isLt fun h => hk (Fin.ext h.symm)

theorem State.mapFeed_at (f : Fin 6) (g : Feed → Feed) : (s.mapFeed f g).feeds[f] = g s.feeds[f] := Vector.getElem_set_self _

/-- Nothing but the feed `f` changes among the feeds. -/
def OnlyFeed (f : Fin 6) (s t : State) : Prop := ∀ g, g ≠ f → t.feeds[g] = s.feeds[g]

theorem OnlyFeed.trans {f : Fin 6} {s t u : State} (h : OnlyFeed f s t) (k : OnlyFeed f t u) : OnlyFeed f s u := fun g hg => (k g hg).trans (h g hg)

theorem OnlyFeed.of_within {f : Fin 6} {s t : State} {m : Nat} (w : Within m s t) (hm : holds m .feeds = false) : OnlyFeed f s t := fun g _ => by
  have e : t.feeds = s.feeds := w .feeds hm
  rw [e]

theorem OnlyFeed.mapFeed {f : Fin 6} {s t : State} (g : Feed → Feed) (h : OnlyFeed f s t) : OnlyFeed f s (t.mapFeed f g) := h.trans (t.mapFeed_others f g)

theorem OnlyFeed.each {f : Fin 6} {α : Type} {k : State → α → State} (hk : ∀ t a, OnlyFeed f t (k t a)) : ∀ (l : List α) (s : State), OnlyFeed f s (s.each l k)
  | [], _ => fun _ _ => rfl
  | a :: l, s => (hk s a).trans (OnlyFeed.each hk l (k s a))

theorem State.pushGq_only (p : Fin 4) (f : Fin 6) (w : List Word) : OnlyFeed f s (s.pushGq p f w) := by
  unfold State.pushGq
  extract_lets q s1 slot s2 s3
  have h1 : OnlyFeed f s s1 := (OnlyFeed.of_within (Within.start.mapHost : Within _ s _) (by decide)).mapFeed _
  have h3 : OnlyFeed f s s3 := (OnlyFeed.of_within (Within.start.mapHost : Within _ s s2) (by decide)).mapFeed _
  split
  · exact h1.trans (.of_within (Within.start.hwEvent.raise : Within _ s1 _) (by decide))
  · split
    · exact h3.trans (.of_within (Within.start.hwLevelRise : Within _ s3 _) (by decide))
    · exact h3

theorem State.gridRecord_only (f : Fin 6) (kind : Nat) (b : Bool) (t : Stamp) (v : Word) : OnlyFeed f s (s.gridRecord f kind b t v) := by
  unfold State.gridRecord
  extract_lets x late ports words s0 s1
  have h0 : OnlyFeed f s s0 := .of_within ((Within.ite Within.start.noteLateBlock Within.start.noteLate).mono (by decide) : Within (partsOf [.freeCtr, .tdc, .flt]) s s0) (by decide)
  exact (h0.trans (.each (fun u p => u.pushGq_only p f (words p)) ports s0)).mapFeed _

/-- A feed that has lost its mains. -/
theorem State.mainsTimeout_lost {f : Fin 6} (hon : s.feeds[f].cfg.flag Ix.feedEnable = true) (hm : s.feeds[f].mainsLoss = false) (hd : s.feeds[f].dataLost = false)
    (hlate : 3 / s.feeds[f].nominal + s.feeds[f].lostTime < cycSeconds ((s.sys.cyc : Int) - s.feeds[f].lossAt)) :
    (s.mainsTimeout f).feeds[f].mainsLoss = true ∧ (s.mainsTimeout f).feeds[f].crossings = [] ∧ OnlyFeed f s (s.mainsTimeout f) ∧
      (s.feeds[f].cfg.flag Ix.feedSupply = true → Flt.mainsLoss.msg f.val ∈ (s.mainsTimeout f).flt.present) := by
  unfold State.mainsTimeout
  extract_lets x s1 s2
  have cond : ¬ (!x.cfg.flag Ix.feedEnable || x.mainsLoss || x.dataLost || decide (cycSeconds ((s.sys.cyc : Int) - x.lossAt) ≤ 3 / x.nominal + x.lostTime)) = true := by
    simp only [x, hon, hm, hd, decide_eq_false (not_le.mpr hlate)]
    decide
  rw [if_neg cond]
  have h2 : OnlyFeed f s s2 := ((s.gridRecord_only f 5 true ⟨s.sys.cyc, 0⟩ 0).mapFeed _).mapFeed _
  have at_ : s2.feeds[f].mainsLoss = true ∧ s2.feeds[f].crossings = [] := by
    have e := (s1.restartFeed f).mapFeed_at f fun y => { y with mainsLoss := true }
    have e1 : (s1.restartFeed f).feeds[f].crossings = [] := congrArg Feed.crossings (s1.mapFeed_at f _)
    exact ⟨congrArg Feed.mainsLoss e, (congrArg Feed.crossings e).trans e1⟩
  split
  · have w : Within (partsOf [.emits, .hosts, .flt]) s2 ((s2.notice 6 (BitVec.ofNat 32 f.val) 0).condition Flt.mainsLoss f.val) :=
        Within.start.notice.condition.mono (by decide)
    have feeds : ((s2.notice 6 (BitVec.ofNat 32 f.val) 0).condition Flt.mainsLoss f.val).feeds = s2.feeds := w .feeds (by decide)
    have same : ((s2.notice 6 (BitVec.ofNat 32 f.val) 0).condition Flt.mainsLoss f.val).feeds[f] = s2.feeds[f] := congrArg (fun v : Vector Feed 6 => v[f]) feeds
    exact ⟨(congrArg Feed.mainsLoss same).trans at_.1, (congrArg Feed.crossings same).trans at_.2, h2.trans (.of_within w (by decide)), fun _ =>
        State.condition_present _ _ _ rfl⟩
  · exact ⟨at_.1, at_.2, h2, fun h => absurd h (by assumption)⟩

/-! ### Frames of converter ports -/

theorem State.mapCp_others (n : Fin 8) (f : ConvPort → ConvPort) : ∀ k, k ≠ n → (s.mapCp n f).cps[k] = s.cps[k] :=
  fun k hk => Vector.getElem_set_ne n.isLt k.isLt fun h => hk (Fin.ext h.symm)

theorem State.mapCp_at (n : Fin 8) (f : ConvPort → ConvPort) : (s.mapCp n f).cps[n] = f s.cps[n] := Vector.getElem_set_self _

/-- The port `n` keeps its place in its blocks and its configuration, and every other port all of its own. -/
structure SamePlace (n : Fin 8) (s t : State) : Prop where
  frame : t.cps[n].frame = s.cps[n].frame
  block : t.cps[n].blockSeq = s.cps[n].blockSeq
  cfg : t.cps[n].cfg = s.cps[n].cfg
  others : ∀ m, m ≠ n → t.cps[m] = s.cps[m]

theorem SamePlace.refl {n : Fin 8} {s : State} : SamePlace n s s := ⟨rfl, rfl, rfl, fun _ _ => rfl⟩

theorem SamePlace.trans {n : Fin 8} {s t u : State} (h : SamePlace n s t) (g : SamePlace n t u) : SamePlace n s u :=
  ⟨g.frame.trans h.frame, g.block.trans h.block, g.cfg.trans h.cfg, fun m hm => (g.others m hm).trans (h.others m hm)⟩

theorem SamePlace.of_within {n : Fin 8} {s t : State} {m : Nat} (w : Within m s t) (hm : holds m .cps = false) : SamePlace n s t := by
  have e : t.cps = s.cps := w .cps hm
  constructor <;> intros <;> rw [e]

theorem SamePlace.mapCp {n : Fin 8} {s t : State} {f : ConvPort → ConvPort} (h : SamePlace n s t)
    (hf : ∀ x, (f x).frame = x.frame ∧ (f x).blockSeq = x.blockSeq ∧ (f x).cfg = x.cfg) : SamePlace n s (t.mapCp n f) := by
  obtain ⟨frame, block, cfg⟩ := hf t.cps[n]
  exact h.trans ⟨by rw [t.mapCp_at, frame], by rw [t.mapCp_at, block], by rw [t.mapCp_at, cfg], t.mapCp_others n f⟩

theorem SamePlace.ite {n : Fin 8} {s a b : State} {c : Prop} [Decidable c] (ha : SamePlace n s a) (hb : SamePlace n s b) : SamePlace n s (if c then a else b) := by
  split <;> assumption

theorem SamePlace.raise {n : Fin 8} {s t : State} {k : FaultKind} {d : Nat} (h : SamePlace n s t) : SamePlace n s (t.raise k d) :=
  h.trans (.of_within (Within.start.raise : Within _ t _) (by decide))

theorem SamePlace.underrun {n : Fin 8} {s t : State} (h : SamePlace n s t) : SamePlace n s (t.underrun n) := by
  unfold State.underrun
  extract_lets s1
  have h1 : SamePlace n s s1 := h.mapCp fun _ => ⟨rfl, rfl, rfl⟩
  exact .ite (.raise (.mapCp h1 fun _ => ⟨rfl, rfl, rfl⟩)) h1

theorem SamePlace.pickTx {n : Fin 8} {s : State} : ∀ (k : Nat) {t : State}, SamePlace n s t → SamePlace n s (State.pickTx k t n)
  | 0, _, h => h.underrun
  | k + 1, t, h => by
    unfold State.pickTx
    extract_lets x d
    refine .ite (.underrun (.mapCp h fun _ => ⟨rfl, rfl, rfl⟩)) (.ite (h.mapCp fun _ => ⟨rfl, rfl, rfl⟩)
      (.ite (.underrun (.mapCp h fun _ => ⟨rfl, rfl, rfl⟩)) (SamePlace.pickTx k (.underrun (.mapCp h fun _ => ⟨rfl, rfl, rfl⟩)))))

theorem SamePlace.loseBlock {n : Fin 8} {s t : State} (h : SamePlace n s t) : SamePlace n s (t.loseBlock n) := by
  unfold State.loseBlock
  extract_lets x k s1
  have h1 : SamePlace n s s1 := h.mapCp fun _ => ⟨rfl, rfl, rfl⟩
  exact .ite (.raise (.mapCp h1 fun _ => ⟨rfl, rfl, rfl⟩)) h1

theorem State.blockStart_place (n : Fin 8) (st : Stamp) (smp : BitVec 16) : SamePlace n s (s.blockStart n st smp) := by
  unfold State.blockStart
  extract_lets c s1 x
  have h1 : SamePlace n s s1 := .ite (SamePlace.pickTx _ .refl) .refl
  refine .ite (.ite ?_ h1.loseBlock) (h1.mapCp fun _ => ⟨rfl, rfl, rfl⟩)
  exact (h1.mapCp (f := fun y => { y with writing := true, lostRun := false, lostFlag := false }) fun _ => ⟨rfl, rfl, rfl⟩).trans
    ⟨rfl, rfl, rfl, fun _ _ => rfl⟩

theorem Within.blockStart {n : Fin 8} {st : Stamp} {smp : BitVec 16} : Within (partsOf [.cps, .cpBuf, .flt]) s (s.blockStart n st smp) := by
  unfold State.blockStart
  extract_lets c s1 x
  have w1 : Within (partsOf [.cps, .flt]) s s1 := (Within.ite Within.start.pickTx Within.start).mono (by decide)
  clear_value s1
  split
  · split
    · have w : Within (partsOf [.cps, .flt]) s (s1.mapCp n fun y => { y with writing := true, lostRun := false, lostFlag := false }) := w1.mapCp.mono (by decide)
      exact (w.set (partsOf [.cpBuf])).mono (by decide)
    · exact w1.loseBlock.mono (by decide)
  · exact w1.mapCp.mono (by decide)

/-- The frame before its place moves on. -/
structure FrameRead (n : Fin 8) (s t : State) : Prop where
  place : SamePlace n s t
  within : Within (partsOf [.freeCtr, .emits, .feeds, .hosts, .flt, .cps, .cpBuf]) s t

/-- A frame moves the port's place by one, within its block or into the next. -/
theorem State.frameBody_read (n : Fin 8) (st : Stamp) (l : List Word) : ∃ (v : State) (f g : ConvPort → ConvPort), FrameRead n s v ∧
    s.frameBody n st l = (if s.cps[n].frame + 1 < s.cps[n].cfg.nat Ix.cpBlockFrames then v.mapCp n f else v.mapCp n g) ∧
    (∀ x, (f x).frame = x.frame + 1 ∧ (f x).blockSeq = x.blockSeq) ∧ (∀ x, (g x).frame = 0 ∧ (g x).blockSeq = x.blockSeq + 1) := by
  unfold State.frameBody
  extract_lets x0 t smp s1 s2 x c picked s3 s4 s5
  have p2 : SamePlace n s s2 := (SamePlace.ite (s.blockStart_place n st smp) .refl).mapCp fun _ => ⟨rfl, rfl, rfl⟩
  have w2 : Within (partsOf [.cps, .cpBuf, .flt]) s s2 := ((Within.ite (Within.blockStart s) Within.start).mapCp).mono (by decide)
  have p3 : SamePlace n s s3 := .ite (p2.trans ⟨rfl, rfl, rfl, fun _ _ => rfl⟩) p2
  have w3 : Within (partsOf [.cps, .cpBuf, .flt]) s s3 := (Within.ite (w2.set (partsOf [.cpBuf])) w2).mono (by decide)
  have w4 : Within (partsOf [.emits]) s3 s4 := Within.start.sendBits.mono (by decide)
  have w5 : Within (partsOf [.freeCtr, .emits, .feeds, .hosts, .flt]) s4 s5 := (Within.ite Within.start.feedFrame Within.start).mono (by decide)
  have p5 : SamePlace n s s5 := (p3.trans (.of_within w4 (by decide))).trans (.of_within w5 (by decide))
  have frame : x.frame = s.cps[n].frame := p2.frame
  have cfg : c = s.cps[n].cfg := p2.cfg
  refine ⟨s5, _, _, ⟨p5, ((w3.trans w4).trans w5).mono (by decide)⟩, by rw [← frame, ← cfg], ?_, ?_⟩
  · exact fun _ => ⟨rfl, rfl⟩
  · exact fun _ => ⟨rfl, rfl⟩

/-! ### Rates and common starts -/

/-- A port with no stop command waiting stops. -/
theorem State.stopPort_cps {n : Fin 8} (h : s.cps[n].stopCmds = []) : (s.stopPort n).cps = (s.mapCp n fun c =>
    { c with running := false, waiting := false, writing := false, sending := none, stopCmds := [], frame := 0, rate := {} }).cps ∧ (s.stopPort n).ts = s.ts := by
  unfold State.stopPort
  extract_lets cmds s1 s2
  have w : Within (partsOf [.feeds, .flt]) s1 s2 := (Within.start.each fun _ _ => Within.start.dataLost).mono (by decide)
  rw [show cmds = [] from h]
  exact ⟨w .cps (by decide), w.ts_eq (by decide)⟩

/-- A deviation taken: the port stops as foreign, or has been measured. -/
theorem State.takeRate_out {n : Fin 8} (d : Rat) (h : s.cps[n].stopCmds = []) : (∀ m, m ≠ n → (s.takeRate n d).cps[m] = s.cps[m]) ∧
    (s.takeRate n d).cps[n].rateFrom = s.cps[n].rateFrom ∧ (s.takeRate n d).ts = s.ts ∧
    (50 / 1000000 < |d| → (s.takeRate n d).cps[n].running = false ∧ (s.takeRate n d).cps[n].foreign = true) ∧
    (|d| ≤ 50 / 1000000 → (s.takeRate n d).cps[n].running = s.cps[n].running ∧ (s.takeRate n d).cps[n].measured = true ∧ (s.takeRate n d).cps[n].waiting = false) := by
  unfold State.takeRate
  extract_lets x s1 k
  split
  · obtain ⟨cps, ts⟩ := s.stopPort_cps h
    let v := (s.stopPort n).mapCp n fun c => { c with foreign := true }
    have w : Within (partsOf [.flt]) v (v.condition Flt.cpForeign (n.val + b2n (x.cfg.flag Ix.cpClkMode) * 8)) := Within.start.condition.mono (by decide)
    have cps' : (v.condition Flt.cpForeign (n.val + b2n (x.cfg.flag Ix.cpClkMode) * 8)).cps = v.cps := w .cps (by decide)
    have at_ : v.cps[n] = { s.cps[n] with running := false, waiting := false, writing := false, sending := none, stopCmds := [], frame := 0, rate := {}, foreign := true } := by
      refine ((s.stopPort n).mapCp_at n _).trans ?_
      rw [cps, s.mapCp_at]
    have at' := (congrArg (fun u : Vector ConvPort 8 => u[n]) cps').trans at_
    refine ⟨fun m hm => ?_, (congrArg ConvPort.rateFrom at').trans rfl, (w.ts_eq (by decide)).trans ts, fun _ =>
        ⟨congrArg ConvPort.running at', congrArg ConvPort.foreign at'⟩,
      fun hle => absurd hle (not_le.mpr (by assumption))⟩
    refine (congrArg (fun u : Vector ConvPort 8 => u[m]) cps').trans (((s.stopPort n).mapCp_others n _ m hm).trans ?_)
    rw [cps]
    exact s.mapCp_others n _ m hm
  · let f : ConvPort → ConvPort := fun c => { c with measured := true, waiting := false }
    have taken : ∃ g : ConvPort → ConvPort, (∀ c, (g c).running = c.running ∧ (g c).measured = true ∧ (g c).waiting = false ∧ (g c).rateFrom = c.rateFrom) ∧
        Within (partsOf [.emits, .hosts]) (s.mapCp n g) (if x.cfg.nat Ix.cpFsTol < (k - x.fsDev).natAbs * 2 ^ 24 then (s1.mapCp n fun c =>
            { c with fsDev := k }).hwEventAll 7 else s1) := by
      split
      · refine ⟨fun c => { f c with fsDev := k }, fun _ => ⟨rfl, rfl, rfl, rfl⟩, ?_⟩
        have two : s1.mapCp n (fun c => { c with fsDev := k }) = s.mapCp n fun c => { f c with fsDev := k } := by
          show { s with cps := (s.cps.set n (f s.cps[n])).set n _ } = s.mapCp n fun c => { f c with fsDev := k }
          rw [Vector.set_set, show s1.cps[n] = f s.cps[n] from s.mapCp_at n f]
          rfl
        rw [two]
        exact Within.start.hwEventAll.mono (by decide)
      · exact ⟨f, fun _ => ⟨rfl, rfl, rfl, rfl⟩, Within.start.mono (by decide)⟩
    obtain ⟨g, hg, w⟩ := taken
    obtain ⟨running, measured, waiting, rateFrom⟩ := hg s.cps[n]
    have cps := w .cps (by decide)
    have at_ := (congrArg (fun u : Vector ConvPort 8 => u[n]) cps).trans (s.mapCp_at n g)
    refine ⟨fun m hm => (congrArg (fun u : Vector ConvPort 8 => u[m]) cps).trans (s.mapCp_others n g m hm),
        (congrArg ConvPort.rateFrom at_).trans rateFrom, w.ts_eq (by decide),
      fun hlt => absurd hlt (by assumption), fun _ => ⟨(congrArg ConvPort.running at_).trans running, (congrArg ConvPort.measured at_).trans measured,
        (congrArg ConvPort.waiting at_).trans waiting⟩⟩

/-- A port as a common start leaves it. -/
def ConvPort.Started (c : ConvPort) : Prop := c.running = true ∧ c.startAt = none ∧ c.frame = 0 ∧ c.blockSeq = 0

theorem State.startPort_cps (n : Fin 8) : (∀ m, m ≠ n → (s.startPort n).cps[m] = s.cps[m]) ∧ (s.startPort n).cps[n].Started := by
  unfold State.startPort
  refine ⟨fun m hm => s.mapCp_others n _ m hm, ?_⟩
  have at_ := s.mapCp_at n fun c =>
    { c with running := true, waiting := false, foreign := false, startAt := none, frame := 0, blockSeq := 0, smpCnt := 0,
             writing := false, sending := none, lostRun := false, lostFlag := false, measured := true, rate := {},
             rateFrom := s.sys.cyc }
  exact ⟨congrArg ConvPort.running at_, congrArg ConvPort.startAt at_, congrArg ConvPort.frame at_, congrArg ConvPort.blockSeq at_⟩

theorem State.startPort_each (n : Fin 8) : ∀ (l : List (Fin 8)) (s : State), ((n ∈ l ∨ s.cps[n].Started) → (s.each l State.startPort).cps[n].Started) ∧
    (n ∉ l → (s.each l State.startPort).cps[n] = s.cps[n])
  | [], s => ⟨fun h => h.resolve_left (by simp), fun _ => rfl⟩
  | a :: l, s => by
    obtain ⟨others, started⟩ := s.startPort_cps a
    obtain ⟨on, off⟩ := State.startPort_each n l (s.startPort a)
    refine ⟨fun h => on ?_, fun h => ?_⟩
    · by_cases ha : n = a
      · subst ha; exact .inr started
      · rcases h with h | h
        · exact .inl ((List.mem_cons.mp h).resolve_left ha)
        · exact .inr (by rw [others n ha]; exact h)
    · obtain ⟨ha, hl⟩ := not_or.mp (fun h' => h (List.mem_cons.mpr h'))
      exact (off hl).trans (others n ha)

/-- Whether a port's start is due. -/
def State.startDue (n : Fin 8) : Bool :=
  match s.cps[n].startAt with
  | some (at_, _) => decide ((at_ : Rat) * secFrac + s.mis 2 ≤ s.now)
  | none => false

theorem exec_cpStartExecute : ∃ cmds : List Nat, exec .cpStartExecute s =
    .next ((s.each ((List.finRange 8).filter s.startDue) State.startPort).each cmds fun t id => t.complete id 0 []) := ⟨_, rfl⟩

/-- With every feed as it was, no crossing was taken. -/
theorem State.applyCrossed_same : s.applyCrossed s.feeds = s := by
  have each_same : ∀ l : List (Fin 6), (s.each l fun t f => if t.feeds[f].lastCross != s.feeds[f].lastCross && t.feeds[f].lastCross.isSome then t.boundary 4 f.val else t) = s := by
    intro l
    induction l with
    | nil => rfl
    | cons f l ih =>
      have same : (if s.feeds[f].lastCross != s.feeds[f].lastCross && s.feeds[f].lastCross.isSome then s.boundary 4 f.val else s) = s := if_neg (by simp)
      show State.each (if _ then _ else _) l _ = s
      rw [same]
      exact ih
  exact each_same _

/-- Settles O35: a feed's crossings, a port's frame and block, and the ring indices of the grant's holder. -/
theorem gridFeedsAndConverterPortsRun : Obligations.GridFeedsAndConverterPortsRun := by
  refine ⟨⟨fun s f t t0 k st hm hd hl hsrc hblank => ?_, fun s f hon hm hd hlate => ?_, fun s f h => ?_, fun s f hv hlate => ?_, fun s f h => ?_, fun s hp v hb => ?_⟩,
    fun s n l hp happ => ⟨fun hr => ?_, fun hr hs => ?_⟩, fun s u n st l hu => ?_, fun s n d hr hs hdue hdev => ?_, fun s n h => ?_, fun s => ?_,
    fun s hp n v hb hmay => ⟨?_, ?_⟩, fun s hp n v hb hmay => ⟨?_, ?_⟩⟩
  · unfold State.crossing
    extract_lets x
    rw [if_neg (by rw [show x.mainsLoss = false from hm, show x.dataLost = false from hd]; decide), show x.lastCross = some (k, t0) from hl]
    exact if_pos (by unfold Feed.blanked; rw [show x.cfg.flag Ix.feedSrc = false from hsrc, secFrac_ms, decide_eq_true hblank]; rfl)
  · obtain ⟨lost, none_, only, present⟩ := s.mainsTimeout_lost hon hm hd hlate
    have w : Within (partsOf [.freeCtr, .emits, .feeds, .hosts, .flt, .tdc]) s (s.mainsTimeout f) := Within.start.mainsTimeout.mono (by decide)
    exact ⟨s.mainsTimeout f, rfl, lost, none_, only, fun h => List.contains_iff_mem.mpr (present h), w.ts_eq (by decide), w .cps (by decide)⟩
  · have same : s.mainsTimeout f = s := by
      refine if_pos ?_
      rcases h with h | h | h
      · simp only [h]; rfl
      · simp only [h, Bool.or_true, Bool.true_or]
      · simp only [decide_eq_true h, Bool.or_true]
    exact congrArg (fun u : State => Host.Outcome.next (u.settle 4)) same
  · let v := s.mapFeed f fun y => { y with gteValid := false }
    have run : exec (.gteGapExpiry f) s = .next (v.raise Flt.gteInvalid f.val) := if_pos (by rw [hv, tenSecCyc, decide_eq_true hlate]; rfl)
    have w : Within (partsOf [.flt]) v (v.raise Flt.gteInvalid f.val) := Within.start.raise.mono (by decide)
    have feeds : (v.raise Flt.gteInvalid f.val).feeds = v.feeds := w .feeds (by decide)
    refine ⟨_, run, (congrArg (fun u : Vector Feed 6 => u[f]) feeds).trans (s.mapFeed_at f _), fun g hg =>
        (congrArg (fun u : Vector Feed 6 => u[g]) feeds).trans (s.mapFeed_others f _ g hg), ?_⟩
    rw [feeds]
    exact w.eq
  · exact if_neg (by rw [tenSecCyc, decide_eq_false (Nat.not_lt.mpr h), Bool.and_false]; decide)
  · refine (s.opened_up (fun t => t.writeGqRd hp v) hb).trans (congrArg _ ?_)
    unfold State.writeGqRd indexFits
    simp only [decide_eq_true_eq]
    rfl
  · have same : s.frameSync n l = s := by
      unfold State.frameSync State.applyCp
      rw [hp]
      exact if_pos (by rw [hr]; rfl)
    show Host.Outcome.next (State.settle (State.applyCrossed (if (s.frameSync n l).hasApplied 4 (8 + n.val) then _ else _) s.feeds) 4) = _
    rw [same, if_pos happ, s.applyCrossed_same]
  · have body : s.frameSync n l = s.frameBody n (s.frameStamp s.cps[n].cfg) l := by
      unfold State.frameSync State.applyCp
      rw [hp]
      refine (if_neg (by rw [hr]; decide)).trans (if_neg ?_)
      rcases hs with hs | hs
      · simp [-Fin.getElem_fin, hs]
      · simp [-Fin.getElem_fin, hs]
    obtain ⟨v, f, g, ⟨-, w⟩, moved, -⟩ := s.frameBody_read n (s.frameStamp s.cps[n].cfg) l
    have groups : (s.frameSync n l).groups = s.groups := by
      rw [body, moved]
      have hv : v.groups = s.groups := w .groups (by decide)
      split <;> exact hv
    have applied : (s.frameSync n l).hasApplied 4 (8 + n.val) = true := by
      unfold State.hasApplied
      rw [groups]
      exact happ
    show Host.Outcome.next (State.settle (State.applyCrossed (if (s.frameSync n l).hasApplied 4 (8 + n.val) then _ else _) s.feeds) 4) = _
    rw [if_pos applied, body]
  · obtain ⟨v, f, g, ⟨place, -⟩, moved, hf, hg⟩ := s.frameBody_read n st l
    rw [← hu] at moved
    refine ⟨fun h => ?_, fun h => ?_, fun m hm => ?_⟩
    · rw [moved, if_pos h, v.mapCp_at, (hf _).1, (hf _).2, place.frame, place.block]
      exact ⟨rfl, rfl⟩
    · rw [moved, if_neg (Nat.not_lt.mpr h), v.mapCp_at, (hg _).1, (hg _).2, place.block]
      exact ⟨rfl, rfl⟩
    · rw [moved]
      split
      · exact (v.mapCp_others n f m hm).trans (place.others m hm)
      · exact (v.mapCp_others n g m hm).trans (place.others m hm)
  · let v := s.mapCp n fun c => { c with rate := {}, rateFrom := c.rateFrom + secCyc }
    have run : s.rateMeasured n = v.takeRate n d := by
      unfold State.rateMeasured
      extract_lets x
      rw [if_neg (by rw [show x.running = true from hr, secCyc_val, decide_eq_false (Nat.not_lt.mpr hdue)]; decide), hdev]
    have at_ : v.cps[n] = { s.cps[n] with rate := {}, rateFrom := s.cps[n].rateFrom + secCyc } := s.mapCp_at n _
    obtain ⟨others, rateFrom, ts, out, in_⟩ := v.takeRate_out d ((congrArg ConvPort.stopCmds at_).trans hs)
    refine ⟨v.takeRate n d, congrArg (fun u : State => Host.Outcome.next (u.settle 4)) run, fun m hm => (others m hm).trans (s.mapCp_others n _ m hm),
      rateFrom.trans ?_, out, fun h => ?_, ts⟩
    · rw [at_, secCyc_val]
    · obtain ⟨running, measured, waiting⟩ := in_ h
      exact ⟨running.trans ((congrArg ConvPort.running at_).trans hr), measured, waiting⟩
  · have same : s.rateMeasured n = s := if_pos (by rw [secCyc_val, decide_eq_true h, Bool.or_true])
    exact congrArg (fun u : State => Host.Outcome.next (u.settle 4)) same
  · obtain ⟨cmds, run⟩ := exec_cpStartExecute s
    let v := s.each ((List.finRange 8).filter s.startDue) State.startPort
    have w1 : Within (partsOf [.cps, .flt]) s v := (Within.start.each fun _ _ => Within.start.startPort).mono (by decide)
    have w2 : Within (partsOf [.emits, .hosts, .handled]) v (v.each cmds fun t id => t.complete id 0 []) :=
        (Within.start.each fun _ _ => Within.start.complete).mono (by decide)
    have cps : (v.each cmds fun t id => t.complete id 0 []).cps = v.cps := w2 .cps (by decide)
    refine ⟨_, run, (w2.ts_eq (by decide)).trans (w1.ts_eq (by decide)), fun n => ?_⟩
    obtain ⟨on, off⟩ := State.startPort_each n ((List.finRange 8).filter s.startDue) s
    have at_ : (v.each cmds fun t id => t.complete id 0 []).cps[n] = v.cps[n] := congrArg (fun u : Vector ConvPort 8 => u[n]) cps
    refine ⟨fun ⟨p, hp, hdue⟩ => ?_, fun h => ?_⟩
    · have due : s.startDue n = true := by
        unfold State.startDue
        rw [hp]
        exact decide_eq_true hdue
      obtain ⟨running, start, frame, block⟩ := on (.inl (List.mem_filter.mpr ⟨List.mem_finRange n, due⟩))
      exact ⟨(congrArg ConvPort.running at_).trans running, (congrArg ConvPort.startAt at_).trans start, (congrArg ConvPort.frame at_).trans frame,
        (congrArg ConvPort.blockSeq at_).trans block⟩
    · refine at_.trans (off fun hmem => ?_)
      have due := (List.mem_filter.mp hmem).2
      unfold State.startDue at due
      cases hp : s.cps[n].startAt with
      | none => rw [hp] at due; exact absurd due Bool.false_ne_true
      | some p =>
        rw [hp] at due
        exact absurd (of_decide_eq_true due) (not_le.mpr (h p hp))
  · refine (s.opened_up (fun t => t.writeCpRxRd hp n v) hb).trans (congrArg _ ?_)
    unfold State.writeCpRxRd indexFits
    rw [if_neg (by rw [hmay]; decide)]
    simp only [decide_eq_true_eq]
    rfl
  · refine (s.opened_up (fun t => t.writeCpTxWr hp n v) hb).trans (congrArg _ ?_)
    unfold State.writeCpTxWr
    exact if_neg (by rw [hmay]; decide)
  · exact (s.opened_up (fun t => t.writeCpRxRd hp n v) hb).trans (congrArg _ (if_pos (by rw [hmay]; rfl)))
  · exact (s.opened_up (fun t => t.writeCpTxWr hp n v) hb).trans (congrArg _ (if_pos (by rw [hmay]; rfl)))

end Sys2Proof.Machine

/-! PROOFS of family 'other', heartbeats: O36. -/

namespace Sys2Proof.Machine

variable (s : State)

theorem Within.cyc_eq {m : Nat} {s t : State} (w : Within m s t) (h : holds m .sys = false) : t.sys.cyc = s.sys.cyc := by
  rw [w.eq, State.with, h]
  rfl

/-! ### Roles and the token -/

/-- The parts that taking the token, or losing it, can change. -/
def tokenParts : Nat := partsOf [.freeCtr, .emits, .engine, .mram, .bound, .tdc, .slots, .wv, .loop, .fc, .os, .outs, .ports, .pairs, .svc, .twin, .hosts, .handled, .flt, .log]

/-- What the twin keeps of the token: what a change of role leaves. -/
structure SameToken (s t : State) : Prop where
  epoch : t.twin.epoch = s.twin.epoch
  takeovers : t.twin.takeovers = s.twin.takeovers
  vote : t.twin.vote = s.twin.vote
  release : t.twin.release = s.twin.release
  handover : t.twin.handover = s.twin.handover
  handed : t.twin.handed = s.twin.handed

theorem SameToken.refl : SameToken s s := ⟨rfl, rfl, rfl, rfl, rfl, rfl⟩

theorem SameToken.trans {s t u : State} (h : SameToken s t) (g : SameToken t u) : SameToken s u :=
  ⟨g.epoch.trans h.epoch, g.takeovers.trans h.takeovers, g.vote.trans h.vote, g.release.trans h.release, g.handover.trans h.handover, g.handed.trans h.handed⟩

theorem SameToken.of_twin {s t : State} (h : t.twin = s.twin) : SameToken s t := by constructor <;> rw [h]

/-- A calibration abandoned: the twin keeps its role and its token. -/
theorem State.dropCalibration_keeps : SameToken s s.dropCalibration ∧ s.dropCalibration.twin.role = s.twin.role := by
  unfold State.dropCalibration
  split
  · exact ⟨.refl s, rfl⟩
  · next slot _ _ id _ =>
    let u : State := { s with twin.calibrating := none, twin.calSamples := [] }
    have w : Within (partsOf [.emits, .hosts, .handled, .flt]) u ((u.raise Flt.twinCalFail slot.val).complete id 0x00B []) :=
      Within.start.raise.complete.mono (by decide)
    have twin : ((u.raise Flt.twinCalFail slot.val).complete id 0x00B []).twin = u.twin := w .twin (by decide)
    exact ⟨SameToken.trans (t := u) ⟨rfl, rfl, rfl, rfl, rfl, rfl⟩ (.of_twin twin), (congrArg Twin.role twin).trans rfl⟩

/-- A role taken: what the twin keeps of the token. -/
theorem State.setRole_keeps (r : Role) : SameToken s (s.setRole r) ∧ (s.setRole r).twin.role = r := by
  unfold State.setRole
  split
  · exact ⟨.refl s, by assumption⟩
  · extract_lets _ s0 s1 _ s2
    have twin1 : s1.twin = s0.twin := (Within.start.setTwinSlot : Within _ s0 s1) .twin (by decide)
    have k2 : SameToken s s2 ∧ s2.twin.role = r := by
      have k1 : SameToken s s1 ∧ s1.twin.role = r := ⟨SameToken.trans (t := s0) ⟨rfl, rfl, rfl, rfl, rfl, rfl⟩ (.of_twin twin1), by rw [twin1]⟩
      obtain ⟨k, role⟩ := k1
      dsimp only [s2]
      split
      · split
        · exact ⟨k, role⟩
        · exact ⟨k.trans ⟨rfl, rfl, rfl, rfl, rfl, rfl⟩, role⟩
      · exact ⟨k, role⟩
    obtain ⟨k, role⟩ := k2
    split
    · exact ⟨k, role⟩
    · obtain ⟨k', role'⟩ := s2.dropCalibration_keeps
      exact ⟨k.trans k', role'.trans role⟩

theorem State.stopService_twin : s.stopService.twin = s.twin := (Within.start.stopService : Within _ s _) .twin (by decide)

theorem State.startBulk_keeps : SameToken s s.startBulk ∧ s.startBulk.twin.role = s.twin.role := by
  unfold State.startBulk
  split <;> exact ⟨⟨rfl, rfl, rfl, rfl, rfl, rfl⟩, rfl⟩

theorem State.garpDue_within (c : Option Nat) : Within (partsOf [.svc]) s { s with svc.garpDue := c } := (Within.start.set (partsOf [.svc])).mono (by decide)

/-- The token taken: the role, the epoch, and what starts with it. -/
theorem State.takeToken_out (why : Nat) : ((s.takeToken why).twin.role = .active ∧ (s.takeToken why).twin.epoch = s.twin.epoch + 1 ∧
    (s.takeToken why).twin.takeovers = s.twin.takeovers + 1 ∧ (s.takeToken why).twin.vote = none ∧ (s.takeToken why).twin.release = false) ∧
    (s.takeToken why).svc.garpDue = some (s.sys.cyc + secCyc) ∧ Within tokenParts s (s.takeToken why) := by
  unfold State.takeToken
  extract_lets _ s1 s2 s3 s4 s5 _ s6
  let s0 : State := { s with
    twin.epoch := s.twin.epoch + 1, twin.takeovers := s.twin.takeovers + 1, twin.bulkStart := none, twin.bulkDone := false, twin.release := false }
  have w0 : Within (partsOf [.twin]) s s0 := (Within.start.set (partsOf [.twin])).mono (by decide)
  have w1 : Within (partsOf [.twin]) s s1 := w0.endVote.mono (by decide)
  let s1' := s1.mapSlot 15 fun x => { x with forced := false }
  obtain ⟨k, role⟩ := s1'.setRole_keeps .active
  have w2 : Within tokenParts s s2 := ((w1.mapSlot).setRole.signalLost).mono (by decide)
  have twin2 : s2.twin = (s1'.setRole .active).twin := (Within.start.signalLost : Within _ (s1'.setRole .active) s2) .twin (by decide)
  have w25 : Within (partsOf [.pairs, .svc, .ports]) s2 s5 := by
    have w23 : Within (partsOf [.pairs]) s2 s3 := (Within.start.each fun t q => Within.at (partsOf [.pairs]) (by
      split
      exacts [Within.start.mapPair.mono (by decide), Within.start.mono (by decide)])).mono (by decide)
    exact ((w23.takeSequences).each fun _ _ => Within.start.each fun _ _ => Within.start.announceAddresses).mono (by decide)
  have w56 : Within (partsOf [.svc]) s5 s6 := s5.garpDue_within _
  have w6 : Within (partsOf [.emits, .hosts, .flt]) s6 ((s6.raise Flt.twinTakeover why).notice 7 (BitVec.ofNat 32 s6.twin.epoch) (BitVec.ofNat 32 why)) :=
    Within.start.raise.notice.mono (by decide)
  have twin : ((s6.raise Flt.twinTakeover why).notice 7 (BitVec.ofNat 32 s6.twin.epoch) (BitVec.ofNat 32 why)).twin = (s1'.setRole .active).twin :=
    (w6 .twin (by decide)).trans ((w56 .twin (by decide)).trans ((w25 .twin (by decide)).trans twin2))
  have svc := w6 .svc (by decide)
  have cyc : s5.sys.cyc = s.sys.cyc := (w25.cyc_eq (by decide)).trans (w2.cyc_eq (by decide))
  refine ⟨?_, ?_, (((w2.trans w25).trans w56).trans w6).mono (by decide)⟩
  · rw [twin]
    exact ⟨role, k.epoch, k.takeovers, k.vote, k.release⟩
  · refine (congrArg Service.garpDue svc).trans ?_
    show some (s5.sys.cyc + secCyc) = _
    rw [cyc]

/-! ### Heartbeats -/

theorem msCyc_val : msCyc = 625000 := rfl

theorem exec_heartbeatSend (hen : s.sys.straps.twinEn = true) (hb : s.afterBoot = true) (hdue : s.twin.hbDue ≤ s.sys.cyc) :
    exec .heartbeatSend s = (match s.twin.handover with
    | some id =>
      if s.twin.role = .active then
        .next ((({ ({ s with twin.hbDue := s.sys.cyc + 2 * msCyc } : State).sendHbs true with twin.handover := none, twin.handed := some id } : State).setRole .standby).stopService.startBulk)
      else .next (({ s with twin.hbDue := s.sys.cyc + 2 * msCyc } : State).sendHbs false).followTwin
    | none => .next (({ s with twin.hbDue := s.sys.cyc + 2 * msCyc } : State).sendHbs false).followTwin) := by
  refine (if_neg ?_).trans rfl
  simp only [hen, hb, Bool.not_true, Bool.false_or, decide_eq_true_eq]
  exact Nat.not_lt.mpr hdue

/-- An active unit's heartbeat on the link alone: its sequence counters, then the octets. -/
theorem State.sendHbs_link (hup : s.twin.linkUp = true) (hrole : s.twin.role = .active) (hmac : s.twin.cfg.at Ix.twinUnitMac = 0) :
    s.sendHbs false = { s with emits := .link 1 (s.hbOctets 0 false ++ linkCrc (s.hbOctets 0 false)) :: s.counters :: s.emits,
                               twin.txSeq := s.twin.txSeq.set 0 (s.twin.txSeq[(0 : Fin 2)] + 1) } := by
  have counted : (if s.twin.role = .active && (s.twin.linkUp || s.twin.netSends) then s.emit s.counters else s) = s.emit s.counters :=
    if_pos (by rw [hrole, hup]; rfl)
  have octets : (s.emit s.counters).hbOctets 0 false = s.hbOctets 0 false := rfl
  have first : (s.emit s.counters).sendHb 0 false = { s with
      emits := .link 1 (s.hbOctets 0 false ++ linkCrc (s.hbOctets 0 false)) :: s.counters :: s.emits, twin.txSeq :=
          s.twin.txSeq.set 0 (s.twin.txSeq[(0 : Fin 2)] + 1) } := by
    unfold State.sendHb
    rw [octets, if_pos rfl]
    exact if_pos hup
  unfold State.sendHbs
  rw [counted]
  dsimp only
  rw [first]
  unfold State.sendHb
  rw [if_neg (by decide : ¬ (1 : Fin 2) = 0)]
  refine if_neg ?_
  show ¬ (s.twin.cfg.at Ix.twinUnitMac != 0 && _) = true
  rw [hmac]
  simp

/-- A unit that is neither a follower nor returns from quarantine stays as it is. -/
theorem State.followTwin_active (h : s.twin.role = .active) : s.followTwin = s := by
  unfold State.followTwin
  extract_lets s1 x
  have h1 : s1 = s := if_neg (by rw [h]; simp)
  rw [h1]
  exact if_neg (by rw [show s.follower = false by rw [State.follower, h]; rfl, Bool.false_and, Bool.false_and]; decide)

/-- The checks of a heartbeat on a path that is there. -/
theorem exec_heartbeatReceive {net : Bool} (h : Heartbeat) (hen : s.sys.straps.twinEn = true) (hb : s.afterBoot = true) (hpath : net = false → s.twin.linkUp = true) :
    exec (.heartbeatReceive net h) s =
      if !h.good net || !s.icvOk h then .next { s with twin.hbBad := s.twin.hbBad + 1 }
      else match (if h.unitId = s.twin.unit then some 0 else if h.mode != s.twin.compat then some 1 else none : Option Nat) with
      | some d =>
        if s.twin.configBad = some d then .next s
        else .next ((({ s with twin.configBad := some d } : State).causeGone Flt.twinConfig (· != d)).condition Flt.twinConfig d)
      | none => if s.hbFresh (if net then 1 else 0) h then .next (s.validHeartbeat (if net then 1 else 0) h) else .next { s with twin.hbBad := s.twin.hbBad + 1 } := by
  refine (if_neg ?_).trans rfl
  rw [hen, hb]
  cases net with
  | true => simp
  | false => rw [hpath rfl]; simp

/-- What a follower keeps of the active's heartbeat before it acts on it. -/
structure Heard (h : Heartbeat) (s t : State) : Prop where
  role : t.twin.role = .standby
  epoch : t.twin.epoch = h.epoch
  takeovers : t.twin.takeovers = s.twin.takeovers

theorem State.validHeartbeat_release {h : Heartbeat} (p : Fin 2) (hrole : s.twin.role = .standby) (hactive : h.role = 2) (hrel : h.release = true) :
    ∃ u, Heard h s u ∧ s.validHeartbeat p h = u.takeToken 1 := by
  unfold State.validHeartbeat
  extract_lets keyed _ s1 _ s2 s3 _ s4 _ s5
  have f1 : s1.follower = true := by show (s.twin.role == .standby || _) = true; rw [hrole]; rfl
  have h2 : Heard h s s2 := by
    dsimp only [s2]
    rw [if_pos (by rw [f1, hactive]; rfl)]
    exact ⟨hrole, rfl, rfl⟩
  have twin3 : s3.twin = { s2.twin with vote := none, voteAnswer := none } := by
    have w : Within (partsOf [.flt]) s2 ((s2.causeGone Flt.twinConfig fun _ => true).followPaths.followNoKey) :=
        Within.start.causeGone.followPaths.followNoKey.mono (by decide)
    have e : ((s2.causeGone Flt.twinConfig fun _ => true).followPaths.followNoKey).twin = s2.twin := w .twin (by decide)
    exact congrArg (fun t : Twin => { t with vote := none, voteAnswer := none }) e
  have h3 : Heard h s s3 := by
    constructor <;> rw [twin3]
    exacts [h2.role, h2.epoch, h2.takeovers]
  have h4 : Heard h s s4 := by
    dsimp only [s4]
    split
    exacts [⟨h3.role, h3.epoch, h3.takeovers⟩, h3]
  have h5 : Heard h s s5 := by
    dsimp only [s5]
    split
    · next id _ =>
      split
      · have e : (({ s4 with twin.handed := none } : State).complete id 0 [BitVec.ofNat 32 h.epoch]).twin = { s4.twin with handed := none } :=
          (Within.start.complete : Within _ { s4 with twin.handed := none } _) .twin (by decide)
        constructor <;> rw [e]
        exacts [h4.role, h4.epoch, h4.takeovers]
      · exact h4
    · exact h4
  refine ⟨s5, h5, ?_⟩
  unfold State.roleHeartbeat
  rw [h5.role]
  exact if_pos hrel

/-- Settles O36: what a unit sends, and what a heartbeat that passes or fails its check leaves. -/
theorem heartbeatsCarryTheToken : Obligations.HeartbeatsCarryTheToken := by
  refine ⟨fun s hen hb hdue hup hrole hho hmac => ?_, fun s c hen hb hdue hrole hho => ?_, fun s h => ?_, fun s net h hen hb hpath hbad => ?_,
    fun s net h hen hb hpath hgood hicv hunit hcfg => ?_, fun s net h hen hb hpath hgood hicv hunit hmode => ⟨fun hf => ?_, fun hf hrole hactive hrel => ?_⟩⟩
  · let s1 : State := { s with twin.hbDue := s.sys.cyc + 2 * msCyc }
    have run : exec .heartbeatSend s = .next (s1.sendHbs false) := by
      rw [exec_heartbeatSend s hen hb hdue, hho]
      have sent := s1.sendHbs_link hup hrole hmac
      refine congrArg Host.Outcome.next (State.followTwin_active _ ?_)
      rw [sent]
      exact hrole
    have sent := s1.sendHbs_link hup hrole hmac
    have octets : s1.hbOctets 0 false = s.hbOctets 0 false := rfl
    have counters : s1.counters = s.counters := rfl
    rw [octets, counters] at sent
    rw [sent] at run
    exact ⟨_, run, rfl, rfl, rfl⟩
  · let s1 : State := { s with twin.hbDue := s.sys.cyc + 2 * msCyc }
    let s2 : State := { s1.sendHbs true with twin.handover := none, twin.handed := some c }
    have run : exec .heartbeatSend s = .next ((s2.setRole .standby).stopService.startBulk) := by
      rw [exec_heartbeatSend s hen hb hdue, hho]
      exact if_pos hrole
    obtain ⟨k, role⟩ := s2.setRole_keeps .standby
    obtain ⟨k', role'⟩ := (s2.setRole .standby).stopService.startBulk_keeps
    have twin := (s2.setRole .standby).stopService_twin
    have k2 : SameToken s2 (s2.setRole .standby).stopService.startBulk := (k.trans (.of_twin twin)).trans k'
    have w1 : Within (partsOf [.twin, .emits, .ports, .pairs]) s s2 := by
      have w0 : Within (partsOf [.twin]) s s1 := (Within.start.set (partsOf [.twin])).mono (by decide)
      have w : Within (partsOf [.twin, .emits, .ports, .pairs]) s (s1.sendHbs true) := w0.sendHbs.mono (by decide)
      exact (w.set (partsOf [.twin])).mono (by decide)
    have ts : (s2.setRole .standby).stopService.startBulk.ts = s.ts := (w1.setRole.stopService.startBulk).ts_eq (by decide)
    exact ⟨_, run, role'.trans ((congrArg Twin.role twin).trans role), k2.handover, k2.handed, ts⟩
  · exact if_pos (by rw [decide_eq_true h, Bool.or_true])
  · rw [exec_heartbeatReceive s h hen hb hpath]
    exact if_pos (by rcases hbad with hbad | hbad <;> rw [hbad] <;> simp)
  · rw [exec_heartbeatReceive s h hen hb hpath, if_neg (by rw [hgood, hicv]; decide), if_pos hunit]
    let u : State := { s with twin.configBad := some 0 }
    have w : Within (partsOf [.flt]) u ((u.causeGone Flt.twinConfig (· != 0)).condition Flt.twinConfig 0) := Within.start.causeGone.condition.mono (by decide)
    exact ⟨_, if_neg hcfg, List.contains_iff_mem.mpr (State.condition_present _ _ _ rfl), w.eq⟩
  · rw [exec_heartbeatReceive s h hen hb hpath, if_neg (by rw [hgood, hicv]; decide), if_neg hunit, if_neg (by rw [hmode]; simp)]
    exact if_neg (by rw [hf]; decide)
  · obtain ⟨u, heard, valid⟩ := s.validHeartbeat_release (if net then 1 else 0) hrole hactive hrel
    have run : exec (.heartbeatReceive net h) s = .next (u.takeToken 1) := by
      rw [exec_heartbeatReceive s h hen hb hpath, if_neg (by rw [hgood, hicv]; decide), if_neg hunit, if_neg (by rw [hmode]; simp), ← valid]
      exact if_pos hf
    obtain ⟨⟨role, epoch, takeovers, -, -⟩, -, -⟩ := u.takeToken_out 1
    exact ⟨_, run, role, by rw [epoch, heard.epoch], by rw [takeovers, heard.takeovers]⟩

end Sys2Proof.Machine

/-! PROOFS of family 'other', silence, votes and the token: O37. -/

namespace Sys2Proof.Machine

variable (s : State)

theorem silenceCyc_val : silenceCyc = 12500000 := rfl

theorem fin2_other : ∀ {p q : Fin 2}, q ≠ p → (p = 0 ∧ q = 1) ∨ (p = 1 ∧ q = 0) := by decide

/-- The path of a heartbeat, or of its silence. -/
theorem exec_pathSilence {net : Bool} {p : Fin 2} {c : Nat} (hp : p = if net then 1 else 0) (hlast : s.twin.lastHb[p] = some c) (hs : s.twin.silent[p] = false)
    (hlate : c + 12500000 < s.sys.cyc) :
    ∃ u, Within (partsOf [.flt]) { s with twin.silent := s.twin.silent.set p true, twin.rxSeq := s.twin.rxSeq.set p none } u ∧
      u = ({ s with twin.silent := s.twin.silent.set p true, twin.rxSeq := s.twin.rxSeq.set p none } : State).followPaths ∧
      exec (.pathSilence net) s = .next (if u.twin.silent[(0 : Fin 2)] && u.twin.silent[(1 : Fin 2)] then u.bothSilent (c + silenceCyc) else u) := by
  subst hp
  refine ⟨_, Within.start.followPaths.mono (by decide), rfl, ?_⟩
  change execPathSilence net s = _
  unfold execPathSilence
  dsimp only
  rw [hlast]
  exact if_neg (by rw [hs, show s.lapsed (c + silenceCyc) = true from decide_eq_true (by rw [silenceCyc_val]; exact hlate)]; decide)

/-- One path silent and the other not: TWIN_PATH_SILENT for that path. -/
theorem State.followPaths_one {p q : Fin 2} (hq : q ≠ p) (hp : s.twin.silent[p] = true) (hnot : s.twin.silent[q] = false) :
    Flt.twinPathSilent.msg p.val ∈ s.followPaths.flt.present ∧ (s.twin.silent[(0 : Fin 2)] && s.twin.silent[(1 : Fin 2)]) = false := by
  unfold State.followPaths
  rcases fin2_other hq with ⟨rfl, rfl⟩ | ⟨rfl, rfl⟩
  · rw [hp, hnot]
    exact ⟨State.condition_present _ _ _ rfl, rfl⟩
  · rw [hp, hnot]
    exact ⟨State.condition_present _ _ _ rfl, rfl⟩

theorem two_paths {p q : Fin 2} (h : q ≠ p) (v : Vector Bool 2) (hp : v[p] = true) (hq : v[q] = true) : (v[(0 : Fin 2)] && v[(1 : Fin 2)]) = true := by
  rcases fin2_other h with ⟨rfl, rfl⟩ | ⟨rfl, rfl⟩
  · rw [hp, hq]; rfl
  · rw [hp, hq]; rfl

/-- A unit that becomes a follower takes the role, and the query of its vote is void. -/
theorem State.becomeFollower_out (r : Role) : (s.becomeFollower r).twin.role = r ∧ (s.becomeFollower r).twin.vote = none := by
  unfold State.becomeFollower
  extract_lets s1
  let u : State := { s1 with twin.handover := none }
  obtain ⟨k, role⟩ := u.endVote.setRole_keeps r
  obtain ⟨k', role'⟩ := (u.endVote.setRole r).stopService.startBulk_keeps
  have twin := (u.endVote.setRole r).stopService_twin
  have kept : SameToken u.endVote (u.endVote.setRole r).stopService.startBulk := (k.trans (.of_twin twin)).trans k'
  exact ⟨role'.trans ((congrArg Twin.role twin).trans role), kept.vote⟩

theorem exec_witnessWaitExpiry {e c : Nat} (hv : s.twin.vote = some (e, c)) (ha : s.twin.voteAnswer = none)
    (hlate : c + s.twin.cfg.nat Ix.twinWitnessWait * 625000 < s.sys.cyc) :
    exec .witnessWaitExpiry s = .next (if s.twin.role == .active then (s.endVote.raise Flt.twinWitnessTimeout s.twin.role.code).loseVote
      else s.endVote.raise Flt.twinWitnessTimeout s.twin.role.code) := by
  change execWitnessWaitExpiry s = _
  unfold execWitnessWaitExpiry
  rw [hv]
  exact if_neg (by rw [ha, show s.lapsed (c + s.twin.cfg.nat Ix.twinWitnessWait * msCyc) = true from decide_eq_true (by rw [msCyc_val]; exact hlate)]; decide)

/-- Settles O37: a taker's state once, and each way that leads to it. -/
theorem silenceAndVotesMoveTheToken : Obligations.SilenceAndVotesMoveTheToken := by
  refine ⟨fun s w => ?_, fun s net p q c hp hq hlast hs hlate => ⟨fun hn => ?_, fun hn hrole hsafe hwit => ?_⟩, fun s net p c hp hlast hnot => ?_,
    fun s e c hv ha hlate => ⟨fun hrole => ?_, fun hrole => ?_⟩, fun s e c hv ha hrole hsafe hlate => ?_, fun s hrole hpeer hlate => ?_⟩
  · obtain ⟨⟨role, epoch, takeovers, vote, release⟩, garp, wt⟩ := s.takeToken_out w
    exact ⟨role, epoch, takeovers, vote, release, by rw [garp, secCyc_val], wt .sets (by decide)⟩
  · obtain ⟨u, w, hu, run⟩ := exec_pathSilence s hp hlast hs hlate
    have twin : u.twin = { s.twin with silent := s.twin.silent.set p true, rxSeq := s.twin.rxSeq.set p none } := w .twin (by decide)
    have at_ : (s.twin.silent.set p true)[p] = true := Vector.getElem_set_self _
    have off : (s.twin.silent.set p true)[q] = false := (Vector.getElem_set_ne p.isLt q.isLt fun h => hq (Fin.ext h.symm)).trans hn
    obtain ⟨present, both⟩ := State.followPaths_one { s with twin.silent := s.twin.silent.set p true, twin.rxSeq := s.twin.rxSeq.set p none } hq at_ off
    rw [← hu] at present
    rw [if_neg (by rw [twin]; exact fun h => absurd (both.symm.trans h) (by decide))] at run
    refine ⟨u, run, by rw [twin]; exact at_, by rw [twin]; exact off, by rw [twin]; exact Vector.getElem_set_self _, by rw [twin], List.contains_iff_mem.mpr present, ?_⟩
    rw [twin]
    exact w.eq
  · obtain ⟨u, w, hu, run⟩ := exec_pathSilence s hp hlast hs hlate
    have twin : u.twin = { s.twin with silent := s.twin.silent.set p true, rxSeq := s.twin.rxSeq.set p none } := w .twin (by decide)
    have sys : u.sys = s.sys := w.sys_eq (by decide) (by decide)
    have at_ : (s.twin.silent.set p true)[p] = true := Vector.getElem_set_self _
    have on : (s.twin.silent.set p true)[q] = true := (Vector.getElem_set_ne p.isLt q.isLt fun h => hq (Fin.ext h.symm)).trans hn
    have taken : u.bothSilent (c + silenceCyc) = u.takeToken 0 := by
      unfold State.bothSilent
      rw [show u.twin.witness = none by rw [twin]; exact hwit]
      refine if_pos ?_
      rw [twin, sys, hrole]
      simpa using hsafe
    rw [if_pos (by rw [twin]; exact two_paths hq _ at_ on), taken] at run
    obtain ⟨⟨role, epoch, -, -, -⟩, -, -⟩ := u.takeToken_out 0
    exact ⟨_, run, role, by rw [epoch, twin]⟩
  · subst hp
    change execPathSilence net s = _
    unfold execPathSilence
    dsimp only
    rw [hlast]
    exact if_pos (by rw [show s.lapsed (c + silenceCyc) = false from decide_eq_false (by rw [silenceCyc_val]; exact Nat.not_lt.mpr hnot)]; simp)
  · have run := exec_witnessWaitExpiry s hv ha hlate
    rw [if_pos (by rw [hrole]; rfl)] at run
    let u := s.endVote.raise Flt.twinWitnessTimeout s.twin.role.code
    obtain ⟨role, vote⟩ := u.becomeFollower_out u.loserRole
    have twin : u.twin = s.endVote.twin := (Within.start.raise : Within _ s.endVote u) .twin (by decide)
    refine ⟨_, run, role.trans ?_, vote⟩
    unfold State.loserRole
    rw [twin]
    rfl
  · have run := exec_witnessWaitExpiry s hv ha hlate
    rw [if_neg (by simpa using hrole)] at run
    have w : Within (partsOf [.flt]) s.endVote (s.endVote.raise Flt.twinWitnessTimeout s.twin.role.code) := Within.start.raise.mono (by decide)
    have twin : (s.endVote.raise Flt.twinWitnessTimeout s.twin.role.code).twin = s.endVote.twin := w .twin (by decide)
    exact ⟨_, run, (congrArg Twin.role twin).trans rfl, congrArg Twin.vote twin, w.eq⟩
  · change execWitnessTokenTake s = _
    unfold execWitnessTokenTake
    rw [hv, ha]
    dsimp only
    rw [if_neg, if_neg]
    · simpa using hsafe
    · rw [show s.lapsed (c + (s.twin.cfg.nat Ix.twinWitnessWait + 4) * msCyc) = true from decide_eq_true (by rw [msCyc_val]; exact hlate), hrole]
      decide
  · refine if_neg ?_
    rw [hrole, hpeer, show s.lapsed (s.twin.roleSince + s.twin.cfg.nat Ix.twinDiscoverTime * secCyc) = true from decide_eq_true (by rw [secCyc_val]; exact hlate)]
    decide

end Sys2Proof.Machine

/-! PROOFS of family 'other', the Balandou link: O38. -/

namespace Sys2Proof.Machine

variable (s : State)

/-- A calibration abandoned: the twin's record of it goes, and every condition stays. -/
theorem State.dropCalibration_out : (∃ c l, s.dropCalibration.twin = { s.twin with calibrating := c, calSamples := l }) ∧ Lasts s s.dropCalibration := by
  unfold State.dropCalibration
  split
  · exact ⟨⟨_, _, rfl⟩, .start s⟩
  · next slot _ _ id _ =>
    let u : State := { s with twin.calibrating := none, twin.calSamples := [] }
    have w : Within (partsOf [.emits, .hosts, .handled, .flt]) u ((u.raise Flt.twinCalFail slot.val).complete id 0x00B []) :=
      Within.start.raise.complete.mono (by decide)
    have lasts : Lasts u ((u.raise Flt.twinCalFail slot.val).complete id 0x00B []) := ((Lasts.start u).raise).within Within.start.complete (by decide)
    exact ⟨⟨none, [], w .twin (by decide)⟩, lasts⟩

theorem State.signalLost_lasts (l : List (Fin 16)) : Lasts s (s.signalLost l) :=
  ((Lasts.start s).each (fun t i => t.alarm_lasts i 1) l).trans (State.evaluate_lasts _)

/-- A time frame's octets before their CRC: the stamps of the exchange before, if there was one. -/
def State.ttOctets : List Byte :=
  match s.twin.exch with
  | some e => ttStamp e.2 ++ ttStamp e.1
  | none => []

theorem exec_ttFrameSend (f : Fin 1024) (hup : s.twin.linkUp = true) (hb : s.afterBoot = true) (hix : s.ttIndex ≠ s.twin.txIndex) (hgot : s.twin.gotTt = true) :
    exec (.ttFrameSend f) s = .next ((({ s with twin.lastTx := some (s.convert ⟨s.sys.cyc, f.val⟩), twin.txIndex := s.ttIndex, twin.gotTt := false } : State).emit
      (.link 0 (s.ttOctets ++ linkCrc s.ttOctets))).applied 7 0) := by
  change execTtFrameSend f s = _
  unfold execTtFrameSend
  rw [if_neg (by simp [hup, hb, hix])]
  extract_lets t _ _ s1 l
  have h1 : s1 = s := if_pos hgot
  have hl : l = s.ttOctets := by
    dsimp only [l]
    rw [h1]
    rfl
  rw [hl]
  clear_value s1
  subst h1
  rfl

theorem State.calSample_none (x : Rat) (h : s.twin.calibrating = none) : s.calSample x = s := by
  unfold State.calSample
  rw [h]

theorem sixtySecCyc : 60 * secCyc = 37500000000 := rfl

/-- The asymmetry that a calibration finds (R401). -/
def State.calAsym : Int := looseRound (if s.twin.unit = 0 then -(2 * meanOf s.twin.calSamples) else 2 * meanOf s.twin.calSamples)

/-- Its declared uncertainty, at most 100 ns (R401). -/
def State.calUnc (k : Fin 16) : Nat :=
  let l := s.twin.calSamples
  let d := meanOf l
  let n : Rat := l.length
  let var := (l.map fun x => (x - d) * (x - d)).sum / n / n / 2 ^ 32
  let act : Rat := ((s.twin.activeSlots.find? (·.slot == k)).map fun e => (e.decl : Rat) / 256).getD 0
  min 25600 (toUnits (2 * (s.wv.slots[k].declared + act) + 2 * s.kRat * sqrtUp var)).toNat

/-- The state that takes the results of a calibration. -/
def State.calibrated (k : Fin 16) : State := { s with
  twin.calibrating := none, twin.calSamples := [], mram.asym := some (s.calAsym, s.calUnc k),
  twin.cfg := (s.twin.cfg.set Ix.twinAsym s.calAsym).set Ix.twinAsymUnc (s.calUnc k) }

theorem exec_twinCalibrateComplete {k : Fin 16} {st len id : Nat} (hcal : s.twin.calibrating = some (k, st, len, id)) (hdue : st + len * 625000000 ≤ s.sys.cyc)
    (hsamp : s.twin.calSamples ≠ []) : exec .twinCalibrateComplete s =
      .next (((s.calibrated k).emit (.replicate (.asymmetry s.calAsym (s.calUnc k)))).complete id 0 [intLo s.calAsym, intHi s.calAsym, BitVec.ofNat 32 (s.calUnc k)]) := by
  change execTwinCalibrateComplete s = _
  unfold execTwinCalibrateComplete
  rw [hcal]
  exact (if_neg (by rw [secCyc_val]; exact Nat.not_lt.mpr hdue)).trans (if_neg (by simp [hsamp]))

/-- Settles O38: the link's rise and loss, the exchange's stamps, and the replicated state. -/
theorem balandouLinkTransfersTimeAndState : Obligations.BalandouLinkTransfersTimeAndState := by
  refine ⟨fun s hen hdown => ?_, fun s hup => ?_, fun s f hup hb hix hgot => ?_, fun s f hix => ?_, fun s f hup hb hbad => ?_,
      fun s f a d hup hb hgood hcomp hex hrole => ?_,
    fun s hup hwin hofs hfol hcal => ?_, fun s k st len id hcal hdue hsamp => ?_, fun s v hup hb hfol hrole => ?_, fun s v hup hb hfol => ?_,
    fun s l b c hfol hup hbulk => ?_, fun s a u hup hb hrole => ?_, fun s c hbulk hlate hfol hup => ?_⟩
  · let u : State := { s with twin.linkUp := true, twin.exch := none, twin.lastTx := none, twin.gotTt := true, twin.failRun := 0 }
    let v := u.causeEnds Flt.twinLinkDown 0
    have run : exec .balandouLinkUp s = .next (if v.follower then v.startBulk else v) := if_neg (by rw [hen, hdown]; decide)
    have absent : v.flt.present.contains (Flt.twinLinkDown.msg 0) = false :=
      Bool.eq_false_of_not_eq_true fun h => u.causeEnds_msg _ _ (List.contains_iff_mem.mp h)
    cases hf : s.follower with
    | true =>
      have bulk : v.startBulk = ({ v with twin.bulkDone := false, twin.bulkStart := some s.sys.cyc } : State).emit (.link 3 (linkCrc [])) :=
        if_pos (by show (s.follower && true) = true; rw [hf]; rfl)
      rw [show v.follower = true from hf, if_pos rfl, bulk] at run
      exact ⟨_, run, rfl, absent, fun _ => rfl, rfl⟩
    | false =>
      rw [show v.follower = false from hf, if_neg Bool.false_ne_true] at run
      exact ⟨v, run, rfl, absent, fun h => absurd h Bool.false_ne_true, rfl⟩
  · let s1 : State := { s with twin.linkUp := false, twin.bulkStart := none, twin.bulkDone := false, twin.exch := none, twin.offsets := [] }
    let s2 := s1.condition Flt.twinLinkDown 0
    let s3 := s2.dropCalibration.applied 7 0
    have run : exec .balandouLinkLoss s = .next (if s3.follower then s3.signalLost [15] else s3) := if_neg (by rw [hup]; decide)
    obtain ⟨⟨c, l, twin⟩, lasts⟩ := s2.dropCalibration_out
    have twin2 : s2.twin = s1.twin := (Within.start.condition : Within _ s1 s2) .twin (by decide)
    have twin3 : s3.twin = { s1.twin with calibrating := c, calSamples := l } := by
      show s2.dropCalibration.twin = _
      rw [twin, twin2]
    have w1 : Within (partsOf [.twin]) s s1 := (Within.start.set (partsOf [.twin])).mono (by decide)
    have w3 : Within (partsOf [.emits, .twin, .hosts, .handled, .flt, .groups, .direct]) s s3 := (w1.condition.dropCalibration.applied).mono (by decide)
    have lasts3 : Lasts s2 s3 := lasts.within Within.start.applied (by decide)
    have present : Flt.twinLinkDown.msg 0 ∈ s3.flt.present := lasts3 _ (State.condition_present _ _ _ rfl) (.inr rfl)
    have w4 : Within _ s3 (s3.signalLost [15]) := Within.start.signalLost
    have lasts4 := s3.signalLost_lasts [15]
    obtain ⟨t, ht, tw, tp, tts⟩ : ∃ t, t = (if s3.follower then s3.signalLost [15] else s3) ∧ t.twin = s3.twin ∧ Flt.twinLinkDown.msg 0 ∈ t.flt.present ∧
        t.ts = s3.ts := by
      refine ⟨_, rfl, ?_⟩
      split
      · exact ⟨w4 .twin (by decide), lasts4 _ present (.inr rfl), w4.ts_eq (by decide)⟩
      · exact ⟨rfl, present, rfl⟩
    rw [← ht] at run
    rw [twin3] at tw
    exact ⟨t, run, by rw [tw], by rw [tw], by rw [tw], by rw [tw], List.contains_iff_mem.mpr tp, by rw [tts]; exact w3 .sets (by decide)⟩
  · refine ⟨_, s.ttOctets, exec_ttFrameSend s f hup hb hix hgot, rfl, rfl, rfl, rfl, fun h => ?_, fun a d h => ?_, rfl, rfl⟩
    · rw [State.ttOctets, h]
    · rw [State.ttOctets, h]
  · exact if_pos (by rw [decide_eq_true hix, Bool.or_true])
  · exact (if_neg (by rw [hup, hb]; decide)).trans (if_pos (by rw [hbad]; rfl))
  · let s0 := s.noteLateBlock f.arrival
    have w : Within (partsOf [.freeCtr, .flt]) s s0 := Within.start.noteLateBlock.mono (by decide)
    have twin : s0.twin = s.twin := w .twin (by decide)
    have wv : s0.wv = s.wv := w.wv_eq (by decide) (by decide)
    have sign : (if s.twin.role == .active then (-1 : Int) else 1) = 1 := if_neg (by simpa using hrole)
    have run : ∃ e n r, exec (.ttFrameReceive f) s = .next { s0 with twin := { s0.twin with
        gotTt := true, exch := e, offsets := s0.twin.offsets ++ [(if s.twin.role == .active then (-1 : Int) else 1) * ((f.peerArrive - d) - (a - f.peerDepart)) + s.asymActiveStandby],
        failRun := n, rtt := r } } ∧ n = 0 := by
      refine ⟨s.twin.lastTx.map fun x => (s.convert f.arrival, x), 0, BitVec.ofInt 32 (max 0 (min 0xFFFFFFFF (((a - f.peerDepart) + (f.peerArrive - d)) / 256))), ?_, rfl⟩
      refine (if_neg (by rw [hup, hb]; decide)).trans ((if_neg (by rw [hgood]; decide)).trans ?_)
      rw [hex, hcomp]
    obtain ⟨e, n, r, run, rfl⟩ := run
    refine ⟨_, run, ?_, rfl, wv⟩
    show s0.twin.offsets ++ _ = _
    rw [sign, one_mul, twin]
  · let o := looseRound (meanOf (s.twin.offsets.map fun i => (i : Rat)) / 2)
    let s2 : State := { s with twin.ofsWindow := s.now * 16 / secFrac, twin.offsets := [], twin.offset := o }
    have run : exec .twinOffsetDeliver s = .next (s2.deliverMeas 15 (.offset o s.sys.cyc s.twinDeclared)) := by
      refine (if_neg (by rw [hup, decide_eq_false hwin]; decide)).trans ((if_neg (by simp [hofs])).trans ((if_pos hfol).trans ?_))
      exact congrArg (fun u : State => Host.Outcome.next (u.deliverMeas 15 (.offset o s.sys.cyc s.twinDeclared))) (s2.calSample_none _ hcal)
    exact ⟨_, run, rfl, rfl, rfl, congrArg Slot.meas (Vector.getElem_set_self _), rfl⟩
  · have run := exec_twinCalibrateComplete s hcal hdue hsamp
    obtain ⟨t, ht⟩ : ∃ t, t = ((s.calibrated k).emit (.replicate (.asymmetry s.calAsym (s.calUnc k)))).complete id 0
      [intLo s.calAsym, intHi s.calAsym, BitVec.ofNat 32 (s.calUnc k)] := ⟨_, rfl⟩
    have w : Within (partsOf [.emits, .hosts, .handled]) (s.calibrated k) t := by rw [ht]; exact Within.start.emit.complete.mono (by decide)
    rw [← ht] at run
    have twin : t.twin = (s.calibrated k).twin := w .twin (by decide)
    have mram : t.mram = (s.calibrated k).mram := w .mram (by decide)
    exact ⟨t, s.calAsym, s.calUnc k, run, by rw [mram]; rfl, by rw [twin]; rfl, by rw [twin]; rfl, Nat.min_le_left _ _, w.ts_eq (by decide)⟩
  · exact (if_neg (by rw [hup, hb]; decide)).trans (if_neg (by rw [hfol]; decide))
  · exact (if_neg (by rw [hup, hb]; decide)).trans (if_pos hfol)
  · exact if_neg (by rw [hfol, hup, hbulk]; simp)
  · exact ⟨_, (if_neg (by rw [hup, hb]; decide)).trans (if_pos hrole), rfl, rfl, rfl⟩
  · have run : exec .bulkTransferTimeout s = .next ((s.raise Flt.twinSyncFail 0).startBulk) := by
      change execBulkTransferTimeout s = _
      unfold execBulkTransferTimeout
      rw [hbulk]
      have late : s.lapsed (c + 60 * secCyc) = true := decide_eq_true (by rw [sixtySecCyc]; exact hlate)
      exact if_neg (by rw [late]; decide)
    have w : Within (partsOf [.flt]) s (s.raise Flt.twinSyncFail 0) := Within.start.raise.mono (by decide)
    obtain ⟨u, hu⟩ : ∃ u, u = s.raise Flt.twinSyncFail 0 := ⟨_, rfl⟩
    rw [← hu] at w run
    have only : u = { s with flt := u.flt } := w.eq
    have bulk : u.startBulk = ({ u with twin.bulkDone := false, twin.bulkStart := some u.sys.cyc } : State).emit (.link 3 (linkCrc [])) := by
      refine if_pos ?_
      rw [only]
      show (s.follower && s.twin.linkUp) = true
      rw [hfol, hup]
      rfl
    rw [bulk, only] at run
    exact ⟨_, run, rfl, rfl, rfl⟩

end Sys2Proof.Machine

/-! PROOFS of family 'other', mailboxes, notices and locks: O39. -/

namespace Sys2Proof.Machine

variable (s : State)

/-! ### Mailboxes -/

theorem insertCmd_mem (c : Nat × Fin 4 × Fin 8) : ∀ l, c ∈ insertCmd c l
  | [] => List.mem_cons_self
  | d :: l => by
    unfold insertCmd
    split
    · exact List.mem_cons_self
    · exact List.mem_cons_of_mem _ (insertCmd_mem c l)

theorem State.mapHost_at (p : Fin 4) (f : HostPort → HostPort) : (s.mapHost p f).hosts[p] = f s.hosts[p] := Vector.getElem_set_self _

/-- A read of an outbound mailbox that no reply waits for leaves it empty. -/
theorem State.drainOmb_idle {p : Fin 4} {m : Fin 8} (h : s.hosts[p].replies = []) : s.drainOmb p m =
    s.mapHost p fun h => { h with stallFrom := h.stallFrom.set m none, stalled := h.stalled.set m false } := by
  unfold State.drainOmb
  dsimp only
  rw [h]
  rfl

/-- An inbound mailbox as a host writes it, before its collision is looked at. -/
def HostPort.received (m : Fin 8) (v : Word) (h : HostPort) : HostPort := { h with imb := h.imb.set m v, imbFull := h.imbFull.set m true }

/-- The word's place in the queue of the command engine (log entry 2). -/
def State.queuedCmd (hp : Fin 4) (m : Fin 8) : State := { s with cmds := insertCmd (s.sys.cyc * 4 / 25, hp, m) (dropCmd s.cmds hp m) }

/-- A word written into an inbound mailbox: kept, and its command queued; over a pending one the collision is marked. -/
theorem State.writeImb_out (hp : Fin 4) (m : Fin 8) (v : Word) : ∃ f : HostPort → HostPort,
    Within (partsOf [.emits, .flt]) ((s.queuedCmd hp m).mapHost hp f) (s.writeImb hp m v) ∧
    (f s.hosts[hp]).imb = s.hosts[hp].imb.set m v ∧ (f s.hosts[hp]).imbFull = s.hosts[hp].imbFull.set m true ∧
    (s.hosts[hp].imbFull[m] = true → (f s.hosts[hp]).imbColl.getLsbD m.val = true) := by
  unfold State.writeImb
  extract_lets h s0 s1 s2 s3
  split
  · let f : HostPort → HostPort := fun h => { h.received m v with imbColl := h.imbColl ||| BitVec.ofNat 8 (2 ^ m.val) }
    have two : s2 = s0.mapHost hp f := by
      show { s0 with hosts := (s.hosts.set hp (HostPort.received m v s.hosts[hp])).set hp _ } = s0.mapHost hp f
      rw [Vector.set_set, show s1.hosts[hp] = HostPort.received m v s.hosts[hp] from s0.mapHost_at hp (HostPort.received m v)]
      rfl
    refine ⟨f, ?_, rfl, rfl, fun _ => ?_⟩
    · have w3 : Within (partsOf [.emits]) s2 s3 := (Within.ite Within.start.hwLevelRise Within.start).mono (by decide)
      rw [two] at w3
      exact w3.raise.mono (by decide)
    · show (s.hosts[hp].imbColl ||| BitVec.ofNat 8 (2 ^ m.val)).getLsbD m.val = true
      rw [BitVec.getLsbD_or, BitVec.getLsbD_ofNat, Nat.testBit_two_pow_self, Bool.and_true, decide_eq_true m.isLt, Bool.or_true]
  · refine ⟨HostPort.received m v, Within.start.mono (by decide), rfl, rfl, fun hf => absurd hf (by assumption)⟩

/-! ### Reads and locks -/

theorem State.openRead_up (hp : Fin 4) (f : State → State × Word) (h : s.afterBoot = true) : s.openRead hp f = .next ((f s).1.emit (.read hp (f s).2)) := if_pos h

theorem State.opened_down (f : State → State) (h : s.afterBoot = false) : s.opened f = .next s := by
  rw [State.opened, if_neg (by rw [h]; exact Bool.false_ne_true)]

theorem exec_lockRead {hp : Fin 4} {k : Fin 16} (hb : s.afterBoot = true) : exec (.lockRead hp k) s = .next ((s.readLock hp k).1.emit (.read hp (s.readLock hp k).2)) :=
  s.openRead_up hp (fun t => t.readLock hp k) hb

theorem exec_lockWrite {hp : Fin 4} {k : Fin 16} (v : Word) (hb : s.afterBoot = true) : exec (.lockWrite hp k v) s = .next (s.writeLock hp k v) :=
  s.opened_up (fun t => t.writeLock hp k v) hb

/-- Settles O39: a mailbox that is read or written, the notice ring, and a lock's holder. -/
theorem mailboxesRepliesAndLocks : Obligations.MailboxesRepliesAndLocks := by
  refine ⟨⟨fun s hp m hb => ⟨fun hf => ?_, fun hf => ?_⟩, fun s hp m c hs hlate hn => ?_, fun s hp m h => ?_, fun s hp v hb => ?_, fun s hp m v => ?_,
    fun s hp m v hb => ⟨s.opened_down (fun t => t.writeNqRd hp v) hb, s.opened_down (fun t => t.writePeerRing hp v) hb, fun h => ?_, fun h => ?_⟩⟩,
    fun s hp k hb hk => ?_, fun s hp p k hb hk => ?_, fun s hp k hb hk => ?_, fun s hp p k hb hk hp' => ?_, fun s hp k v hb hv => ?_⟩
  · let u := s.mapHost hp fun h => { h with omb := h.omb.set m 0, ombFull := h.ombFull.set m false }
    have run : exec (.ombRead hp m) s = .next ((u.drainOmb hp m).emit (.read hp s.hosts[hp].omb[m])) := by
      refine (s.openRead_up hp (fun t => t.readOmb hp m) hb).trans ?_
      have read : s.readOmb hp m = (u.drainOmb hp m, s.hosts[hp].omb[m]) := if_pos hf
      rw [read]
    have w : Within (partsOf [.emits, .hosts]) s (u.drainOmb hp m) := Within.start.mapHost.drainOmb.mono (by decide)
    have others : OtherHosts hp s (u.drainOmb hp m) := (s.mapHost_others hp _).trans (u.drainOmb_others hp m)
    refine ⟨_, run, rfl, fun hr => ?_, others, ((w.emit).mono (by decide) : Within (partsOf [.emits, .hosts]) s _).eq⟩
    have at_ : u.hosts[hp] = { s.hosts[hp] with omb := s.hosts[hp].omb.set m 0, ombFull := s.hosts[hp].ombFull.set m false } := s.mapHost_at hp _
    have idle := u.drainOmb_idle (p := hp) (m := m) ((congrArg HostPort.replies at_).trans hr)
    show (u.drainOmb hp m).hosts[hp].ombFull[m] = false ∧ (u.drainOmb hp m).hosts[hp].omb[m] = 0
    rw [idle, u.mapHost_at, at_]
    exact ⟨Vector.getElem_set_self _, Vector.getElem_set_self _⟩
  · refine (s.openRead_up hp (fun t => t.readOmb hp m) hb).trans ?_
    have read : s.readOmb hp m = (s, 0) := if_neg (by rw [hf]; decide)
    rw [read]
    rfl
  · change execMbStallTimeout hp m s = _
    unfold execMbStallTimeout
    dsimp only
    rw [hs]
    have late : s.lapsed (c + secCyc) = true := decide_eq_true (by rw [secCyc_val]; exact hlate)
    exact if_neg (by rw [late, hn]; decide)
  · change execMbStallTimeout hp m s = _
    unfold execMbStallTimeout
    dsimp only
    rcases h with h | h
    · split
      · exact if_pos (by rw [h, Bool.or_true])
      · rfl
    · rw [h]
      have early : s.lapsed (s.sys.cyc + secCyc) = false := decide_eq_false (Nat.not_lt.mpr (Nat.le_add_right _ _))
      exact if_pos (by rw [early]; rfl)
  · refine (s.opened_up (fun t => t.writeNqRd hp v) hb).trans (congrArg _ ?_)
    unfold State.writeNqRd indexFits
    simp only [decide_eq_true_eq]
    rfl
  · obtain ⟨f, w, imb, full, coll⟩ := s.writeImb_out hp m v
    have hosts : (s.writeImb hp m v).hosts = ((s.queuedCmd hp m).mapHost hp f).hosts := w .hosts (by decide)
    have cmds : (s.writeImb hp m v).cmds = (s.queuedCmd hp m).cmds := w .cmds (by decide)
    have at_ : (s.writeImb hp m v).hosts[hp] = f s.hosts[hp] :=
      (congrArg (fun u : Vector HostPort 4 => u[hp]) hosts).trans ((s.queuedCmd hp m).mapHost_at hp f)
    refine ⟨?_, ?_, ?_, fun hf => ?_⟩
    · rw [at_, imb]; exact Vector.getElem_set_self _
    · rw [at_, full]; exact Vector.getElem_set_self _
    · rw [cmds]; exact insertCmd_mem _ _
    · rw [at_]; exact coll hf
  · exact (if_neg (by rw [hb]; decide)).trans (if_pos h)
  · exact (if_neg (by rw [hb]; decide)).trans (if_neg (by omega))
  · rw [exec_lockRead s hb, State.readLock, hk]
    rfl
  · rw [exec_lockRead s hb, State.readLock, hk]
    rfl
  · rw [exec_lockWrite s 0 hb, State.writeLock, hk]
    exact congrArg _ (if_pos rfl)
  · rw [exec_lockWrite s 0 hb, State.writeLock, hk]
    exact congrArg _ (if_neg hp')
  · rw [exec_lockWrite s v hb, State.writeLock, decide_eq_false hv]
    cases s.locks[k] <;> rfl

end Sys2Proof.Machine

/-! PROOFS of family 'other', masks, port resets and PCIe links: O41. -/

namespace Sys2Proof.Machine

variable (s : State)

/-! ### Port resets -/

/-- A host port emptied by its reset (R449). -/
def HostPort.reset (h : HostPort) : HostPort :=
  { h with imb := Vector.replicate 8 0, imbFull := Vector.replicate 8 false, omb := Vector.replicate 8 0,
           ombFull := Vector.replicate 8 false, replies := [], stallFrom := Vector.replicate 8 none,
           stalled := Vector.replicate 8 false, imbColl := 0, db := 0, dbMask := 0xFFFFFFFF, hwEvents := 0,
           hwMask := 0xFFFFFFFF, notices := h.notices.emptied, evq := h.evq.emptied, gq := h.gq.emptied,
           cap := {}, half := Vector.replicate 8 0, dumpInterval := 0 }

/-- A port's reset: the port, its locks, its waiting commands, its lane, and the commands in hand that it no longer hears of. -/
theorem State.portReset_out (hp : Fin 4) : (s.portReset hp).hosts = (s.mapHost hp HostPort.reset).hosts ∧
    (s.portReset hp).locks = s.locks.map (fun l => if l = some hp then none else l) ∧ (s.portReset hp).cmds = s.cmds.filter (fun c => c.2.1 != hp) ∧
    Within (partsOf [.flash, .svc, .hosts, .locks, .cmds, .handled]) s (s.portReset hp) := by
  refine ⟨?_, ?_, ?_, Within.start.portReset.mono (by decide)⟩
  all_goals
    unfold State.portReset
    extract_lets _ _ _
    split <;> rfl

/-- A source newly unmasked sends its vector on a PCIe port (R430, R431). -/
theorem State.msix_fresh (hp : Fin 4) (n : Nat) (fresh : Word) : (if fresh = 0 then s else s.msix hp n) =
    { s with emits := if fresh ≠ 0 ∧ hp.val < 2 then .msix hp n :: s.emits else s.emits } := by
  by_cases h : fresh = 0
  · rw [if_pos h, if_neg fun hc => hc.1 h]
  · rw [if_neg h, State.msix]
    by_cases hl : hp.val < 2
    · rw [if_pos hl, if_pos ⟨h, hl⟩]; rfl
    · rw [if_neg hl, if_neg fun hc => hl hc.2]

/-- Settles O41: a mask's sources, the port that a reset empties, and the link's pin. -/
theorem masksResetsAndLinksOfHostPorts : Obligations.MasksResetsAndLinksOfHostPorts := by
  refine ⟨fun s hp v hb => ⟨?_, ?_⟩, fun s t hp ht => ?_, fun s hp v hb => s.opened_up (fun t => t.writeHpReset hp v) hb,
    fun s hp hlane => ⟨if_pos hlane, fun hup => ?_, ?_, fun hp' => ?_, fun hp' => ?_⟩, fun _ _ => rfl⟩
  · exact (s.opened_up (fun t => t.writeMask hp .db v) hb).trans
      (congrArg Host.Outcome.next ((s.mapHost hp fun h => { h with dbMask := v }).msix_fresh hp 0 (s.hosts[hp].db &&& s.hosts[hp].dbMask &&& ~~~v)))
  · exact (s.opened_up (fun t => t.writeMask hp .hw v) hb).trans
      (congrArg Host.Outcome.next ((s.mapHost hp fun h => { h with hwMask := v }).msix_fresh hp 1 (s.hwStatus hp &&& s.hosts[hp].hwMask &&& ~~~v)))
  · subst ht
    obtain ⟨hosts, locks, cmds, w⟩ := s.portReset_out hp
    have at_ : (s.portReset hp).hosts[hp] = s.hosts[hp].reset := (congrArg (fun u : Vector HostPort 4 => u[hp]) hosts).trans (s.mapHost_at hp _)
    have lock : ∀ k : Fin 16, (s.portReset hp).locks[k] = if s.locks[k] = some hp then none else s.locks[k] := fun k =>
      (congrArg (fun u : Vector (Option (Fin 4)) 16 => u[k]) locks).trans (Vector.getElem_map _ _)
    refine ⟨fun m => ⟨?_, ?_⟩, by rw [at_]; rfl, by rw [at_]; rfl, by rw [at_]; rfl, by rw [at_]; rfl, by rw [at_]; rfl, by rw [at_]; rfl, by rw [at_]; rfl,
      fun k => ⟨?_, fun hk => ?_⟩, fun c hc => ?_, fun q hq => ?_, w .flt (by decide), w.ts_eq (by decide), w.outs_eq (by decide) (by decide) (by decide),
          by rw [at_]; rfl⟩
    · rw [at_]; exact Vector.getElem_replicate _
    · rw [at_]; exact Vector.getElem_replicate _
    · rw [lock]; split
      · simp
      · assumption
    · rw [lock, if_neg hk]
    · rw [cmds] at hc
      simpa using (List.mem_filter.mp hc).2
    · exact (congrArg (fun u : Vector HostPort 4 => u[q]) hosts).trans (s.mapHost_others hp _ q hq)
  · let u := s.mapHost hp fun h => { h with pcieUp := false }
    have run : exec (.pcieLinkLoss hp) s = .next ((u.portReset hp).condition Flt.hpLinkDown hp.val) := if_pos (by rw [decide_eq_true hlane, hup]; rfl)
    obtain ⟨hosts, -, -, -⟩ := u.portReset_out hp
    have same : ((u.portReset hp).condition Flt.hpLinkDown hp.val).hosts = (u.portReset hp).hosts :=
      (Within.start.condition : Within _ (u.portReset hp) _) .hosts (by decide)
    have at_ : ((u.portReset hp).condition Flt.hpLinkDown hp.val).hosts[hp] = u.hosts[hp].reset :=
      (congrArg (fun x : Vector HostPort 4 => x[hp]) (same.trans hosts)).trans (u.mapHost_at hp _)
    have down : u.hosts[hp].pcieUp = false := congrArg HostPort.pcieUp (s.mapHost_at hp _)
    exact ⟨_, run, by rw [at_]; exact down, List.contains_iff_mem.mpr (State.condition_present _ _ _ rfl), by rw [at_]; rfl⟩
  · let u := s.mapHost hp fun h => { h with perst := true, pcieUp := false }
    have run : exec (.hpPerst hp) s = .next (u.portReset hp) := if_pos hlane
    obtain ⟨hosts, -, -, w⟩ := u.portReset_out hp
    have at_ : (u.portReset hp).hosts[hp] = u.hosts[hp].reset := (congrArg (fun x : Vector HostPort 4 => x[hp]) hosts).trans (u.mapHost_at hp _)
    have set : u.hosts[hp] = { s.hosts[hp] with perst := true, pcieUp := false } := s.mapHost_at hp _
    exact ⟨_, run, by rw [at_, set]; rfl, by rw [at_, set]; rfl, by rw [at_]; rfl, w .flt (by decide)⟩
  · exact if_neg (by rw [hp']; simp)
  · let u := s.mapHost hp fun h => { h with pcieUp := true }
    have run : exec (.pcieLinkUp hp) s = .next (u.causeEnds Flt.hpLinkDown hp.val) := if_pos (by rw [hp', decide_eq_true hlane]; rfl)
    exact ⟨_, run, congrArg HostPort.pcieUp (s.mapHost_at hp _), Bool.eq_false_of_not_eq_true fun h => u.causeEnds_msg _ _ (List.contains_iff_mem.mp h), rfl⟩

end Sys2Proof.Machine

/-! PROOFS of family 'other', SPI transactions: O42. -/

namespace Sys2Proof.Machine

variable (s : State)

/-! ### Bus errors -/

/-- A bus error: recorded and counted in its port, with BUS_ERROR. -/
theorem State.busError_out (hp : Fin 4) (a c : Nat) (w : Bool) (r : Nat) : ∃ e : Word,
    (s.busError hp a c w r).hosts = (s.mapHost hp fun h => { h with busErr := e, busErrCount := h.busErrCount + 1, spiErr := h.spiErr || decide (2 ≤ hp.val) }).hosts ∧
    Within (partsOf [.hosts, .flt]) s (s.busError hp a c w r) := by
  have w : Within (partsOf [.hosts, .flt]) s (s.busError hp a c w r) := Within.start.busError.mono (by decide)
  revert w
  unfold State.busError
  extract_lets word
  intro w
  exact ⟨_, (Within.start.raise : Within _ (s.mapHost hp _) (State.raise (s.mapHost hp _) Flt.busError (a / 4 % 2 ^ 16))) .hosts (by decide), w⟩

/-! ### SPI transactions -/

theorem spiAddr_zero {a : Nat} (h : a < 0x40000) : spiAddr a 0 = a := Nat.mod_eq_of_lt (by omega)

theorem spiRegion_window {a : Nat} (h : a < 0x40000) : spiRegion a = (0, a) := if_pos h

theorem State.spiPut_window {a : Nat} (hp : Fin 4) (v : Word) (h : a < 0x40000) : s.spiPut hp a v = s.busWrite hp ⟨a, 32⟩ (v.zeroExtend 64) := by
  unfold State.spiPut
  rw [spiRegion_window h]
  rfl

theorem State.spiGet_window {a : Nat} (hp : Fin 4) (h : a < 0x40000) : s.spiGet hp a = s.busRead hp ⟨a, 32⟩ := by
  unfold State.spiGet
  rw [spiRegion_window h]
  rfl

/-- Zeros that a misaligned SPI READ answers. -/
theorem State.readZeros (hp : Fin 4) : ∀ (n : Nat) (s : State), s.each (List.range n) (fun u _ => u.emit (.read hp 0)) =
    { s with emits := List.replicate n (.read hp 0) ++ s.emits } := by
  intro n
  induction n with
  | zero => exact fun _ => rfl
  | succ n ih =>
    intro s
    rw [List.range_succ]
    show List.foldl _ s (List.range n ++ [n]) = _
    rw [List.foldl_append]
    show State.emit (s.each (List.range n) fun u _ => u.emit (.read hp 0)) (.read hp 0) = _
    rw [ih, List.replicate_succ, List.cons_append]
    rfl

/-- Settles O42: a transaction in the window is an access of the bus, and a misaligned one its bus error. -/
theorem spiTransactionsMoveWholeWords : Obligations.SpiTransactionsMoveWholeWords := by
  refine ⟨fun s hp a n l b h => ⟨if_pos h, if_pos h, if_pos h, if_pos h, if_pos h⟩, fun s hp a l hp2 hb hal ha hl => ?_, fun s hp a l hp2 hb hmis => ?_,
    fun s hp a hp2 hb hal ha => ?_, fun s hp a n hp2 hb hmis => ?_, fun s hp hp2 => ⟨if_neg (by omega), if_neg (by omega)⟩, fun s hp a b hp2 hb => ?_⟩
  · obtain ⟨v, rfl⟩ := List.length_eq_one_iff.mp hl
    refine (if_neg (by omega)).trans ((s.opened_up _ hb).trans (congrArg _ ?_))
    refine (if_neg (by omega)).trans ?_
    show s.spiPut hp (spiAddr a 0) v = _
    rw [spiAddr_zero ha, s.spiPut_window hp v ha]
    rfl
  · exact (if_neg (by omega)).trans ((s.opened_up _ hb).trans (congrArg _ (if_pos hmis)))
  · refine (if_neg (by omega)).trans ((if_neg (by rw [hb]; decide)).trans ((if_neg (by omega)).trans (congrArg _ ?_)))
    show State.spiGet _ hp (spiAddr a 0) = _
    rw [spiAddr_zero ha, State.spiGet_window _ hp ha]
    rfl
  · let u := s.emit (.spiByte hp (s.spiStatusByte hp))
    let v := u.spiBusError hp a 3 false
    have run : exec (.spiRead hp a n) s = .next (v.each (List.range n) fun x _ => x.emit (.read hp 0)) :=
      (if_neg (by omega)).trans ((if_neg (by rw [hb]; decide)).trans (if_pos hmis))
    rw [State.readZeros] at run
    obtain ⟨e, hosts, w⟩ := u.busError_out hp (spiRegion a).2 3 false (spiRegion a).1
    have at_ := (congrArg (fun x : Vector HostPort 4 => x[hp]) hosts).trans (u.mapHost_at hp _)
    have emits : v.emits = u.emits := w .emits (by decide)
    refine ⟨_, run, ?_, congrArg HostPort.busErrCount at_, (congrArg HostPort.spiErr at_).trans ?_, ?_⟩
    · show _ ++ v.emits = _
      rw [emits]
      rfl
    · show (_ || decide (2 ≤ hp.val)) = true
      rw [decide_eq_true hp2, Bool.or_true]
    · obtain ⟨hs, fl, hv⟩ : ∃ hs fl, v = { u with hosts := hs, flt := fl } := ⟨_, _, w.eq⟩
      rw [hv]
      rfl
  · let u := s.mapHost hp fun h => { h with spiPartial := true }
    have run : exec (.spiCsCut hp a b) s = .next (u.spiBusError hp a 2 b) := (if_neg (by omega)).trans (s.opened_up _ hb)
    obtain ⟨e, hosts, w⟩ := u.busError_out hp (spiRegion a).2 2 b (spiRegion a).1
    have at_ := (congrArg (fun x : Vector HostPort 4 => x[hp]) hosts).trans (u.mapHost_at hp _)
    have cut : u.hosts[hp] = { s.hosts[hp] with spiPartial := true } := s.mapHost_at hp _
    have w0 : Within (partsOf [.hosts, .flt]) s (u.spiBusError hp a 2 b) := ((Within.start.mapHost : Within _ s u).trans w).mono (by decide)
    refine ⟨_, run, (congrArg HostPort.spiPartial at_).trans (congrArg HostPort.spiPartial cut), (congrArg HostPort.busErrCount at_).trans ?_, fun q hq => ?_, w0.eq⟩
    · show u.hosts[hp].busErrCount + 1 = _
      rw [cut]
    · exact (congrArg (fun x : Vector HostPort 4 => x[q]) hosts).trans ((u.mapHost_others hp _ q hq).trans (s.mapHost_others hp _ q hq))

end Sys2Proof.Machine

/-! PROOFS of family 'other', window accesses: O43. -/

namespace Sys2Proof.Machine

variable (s : State)

/-! ### Which accesses are legal -/

theorem State.implemented_of_regWord {hp : Fin 4} {a : Nat} {w : Word} (h : s.regWord hp a = some w) : s.implemented hp a = true := by
  rw [State.implemented, h]
  exact Bool.or_true _

/-- An aligned access of 32 bits is checked at its location. -/
theorem State.accessError_word {hp : Fin 4} {a : Nat} (w : Bool) (hal : a % 4 = 0) : s.accessError hp w ⟨a, 32⟩ = s.accessCause hp w a 32 :=
  (if_neg (by simp)).trans ((if_neg (by show ¬ a % (32 / 8) ≠ 0; omega)).trans (if_neg (by simp)))

/-- An access of 32 bits at a register, or at one of its aliases where it has RW bits, is legal. -/
theorem State.accessCause_word {hp : Fin 4} {a b : Nat} {cur : Word} (w : Bool) (hloc : b % 2 ^ 16 / 4 * 4 = a) (hb : b < 2 ^ 18) (h : s.regWord hp a = some cur)
    (halias : b < 2 ^ 16 ∨ (aliasBits a).isNone = false) : s.accessCause hp w b 32 = none := by
  unfold State.accessCause
  dsimp only
  rw [hloc, s.implemented_of_regWord h]
  refine (if_neg ?_).trans ((if_neg (by simp)).trans (if_neg ?_))
  · simp only [Bool.not_true, Bool.or_false, decide_eq_true_eq]
    omega
  · rcases halias with h' | h'
    · rw [decide_eq_false (Nat.not_le.mpr h'), Bool.and_false, Bool.false_and]
      exact Bool.false_ne_true
    · rw [h', Bool.and_false]
      exact Bool.false_ne_true

theorem location_of_aligned {a : Nat} (ha : a < 0x10000) (hal : a % 4 = 0) : a % 2 ^ 16 / 4 * 4 = a := by omega

theorem State.accessError_register {hp : Fin 4} {a : Nat} {cur : Word} (w : Bool) (ha : a < 0x10000) (hal : a % 4 = 0) (h : s.regWord hp a = some cur) :
    s.accessError hp w ⟨a, 32⟩ = none :=
  (s.accessError_word w hal).trans (s.accessCause_word w (location_of_aligned ha hal) (by omega) h (.inl ha))

/-! ### Reads and writes of the window -/

theorem State.busRead_error {hp : Fin 4} {acc : Access} {c : Nat} (h : s.accessError hp false acc = some c) :
    s.busRead hp acc = (s.busError hp acc.addr c false 0).emit (if hp.val < 2 then .completerAbort hp else .read hp 0) := by
  unfold State.busRead
  rw [h]
  dsimp only
  unfold State.failRead
  split <;> rfl

theorem State.busWrite_error {hp : Fin 4} {acc : Access} {c : Nat} (v : BitVec 64) (h : s.accessError hp true acc = some c) :
    s.busWrite hp acc v = s.busError hp acc.addr c true 0 := by
  unfold State.busWrite
  rw [h]

/-- A legal 32-bit read answers what the register's read gives. -/
theorem State.busRead_register {hp : Fin 4} {a : Nat} {cur : Word} (ha : a < 0x10000) (hal : a % 4 = 0) (h : s.regWord hp a = some cur) :
    s.busRead hp ⟨a, 32⟩ = (s.readReg hp a).1.emit (.read hp (s.readReg hp a).2) := by
  have legal : s.readLegal hp ⟨a, 32⟩ = ((s.readReg hp a).1, [(s.readReg hp a).2]) := by
    unfold State.readLegal
    dsimp only
    rw [location_of_aligned ha hal]
    exact (if_neg (by decide)).trans (if_pos rfl)
  unfold State.busRead
  rw [s.accessError_register false ha hal h]
  dsimp only
  rw [legal]
  rfl

/-- A legal 32-bit write is the write at its address. -/
theorem State.busWrite_word {hp : Fin 4} {a : Nat} (v : BitVec 64) (h : s.accessError hp true ⟨a, 32⟩ = none) :
    s.busWrite hp ⟨a, 32⟩ v = s.writeAt hp a (v.extractLsb' 0 32) := by
  have legal : s.writeLegal hp ⟨a, 32⟩ v = s.writeAt hp a (v.extractLsb' 0 32) := by
    unfold State.writeLegal
    exact if_neg (show ¬ (32 : Nat) = 64 by decide)
  unfold State.busWrite
  rw [h]
  exact legal

theorem State.writeAt_base {hp : Fin 4} {a : Nat} (v : Word) (ha : a < 0x10000) : s.writeAt hp a v = s.writeReg hp a v := by
  unfold State.writeAt
  dsimp only
  rw [Nat.mod_eq_of_lt (show a < 2 ^ 16 from ha)]
  exact if_pos ha

/-- A register whose read has no effect, and whose value COUNTER_PERMIT does not guard. -/
theorem State.readReg_plain {hp : Fin 4} {a : Nat} {w : Word} (h : s.regWord hp a = some w) (he : readsEffect a = false) (hperf : perfValue a = false) :
    s.readReg hp a = (s, w) := by
  obtain ⟨⟨h1, h2⟩, h3⟩ : (¬ a = 0x208 ∧ ¬ (decide (0x1060 ≤ a) && decide (a < 0x1080)) = true) ∧ ¬ (decide (0x10C0 ≤ a) && decide (a < 0x1100)) = true := by
    unfold readsEffect at he
    rw [Bool.or_eq_false_iff, Bool.or_eq_false_iff, beq_eq_false_iff_ne] at he
    exact ⟨⟨he.1.1, by rw [he.1.2]; exact Bool.false_ne_true⟩, by rw [he.2]; exact Bool.false_ne_true⟩
  unfold State.readReg
  rw [if_neg h1, if_neg h2, if_neg h3, if_neg (by rw [hperf, Bool.false_and]; exact Bool.false_ne_true), h]
  rfl

/-- A performance value, which COUNTER_PERMIT guards. -/
theorem State.readReg_perf {hp : Fin 4} {a : Nat} {w : Word} (h : s.regWord hp a = some w) (hperf : perfValue a = true) :
    s.readReg hp a = if bitAt s.perf.permit hp.val then (s, w) else ({ s with perf.denied := s.perf.denied + 1 }, 0) := by
  obtain ⟨hlo, hhi⟩ : 0xF300 ≤ a ∧ a < 0xF3C0 := by simpa [perfValue] using hperf
  unfold State.readReg
  rw [if_neg (by omega), if_neg (by simp only [Bool.and_eq_true, decide_eq_true_eq]; omega), if_neg (by simp only [Bool.and_eq_true, decide_eq_true_eq]; omega), hperf, h]
  cases bitAt s.perf.permit hp.val <;> rfl

/-- Settles O43: an access without a cause of error is its register's read or write. -/
theorem windowAccessesAreLegalOrBusErrors : Obligations.WindowAccessesAreLegalOrBusErrors := by
  refine ⟨fun s hp acc c hb h => ⟨?_, ?_⟩, fun s hp acc v c hb h => ?_, fun s hp a w hb ha hal h he hperf => ?_, fun s hp a w hb ha hal h hperf => ?_,
    fun s hp a w v hb ha hal h => ?_, fun s hp w acc h32 hmis => ?_, fun s hp a w hal h => ?_⟩
  · exact (if_pos hb).trans (congrArg _ (s.busRead_error h))
  · exact (if_pos hb).trans (congrArg _ (s.busRead_error h))
  · exact (s.opened_up (fun t => t.busWrite hp acc v) hb).trans (congrArg _ (s.busWrite_error v h))
  · refine (if_pos hb).trans (congrArg _ ?_)
    rw [s.busRead_register ha hal h, s.readReg_plain h he hperf]
    rfl
  · refine (if_pos hb).trans (congrArg _ ?_)
    rw [s.busRead_register ha hal h, s.readReg_perf h hperf]
    split <;> rfl
  · refine (s.opened_up (fun t => t.busWrite hp ⟨a, 32⟩ v) hb).trans (congrArg _ ?_)
    rw [s.busWrite_word v (s.accessError_register true ha hal h), s.writeAt_base _ ha]
  · unfold State.accessError
    rw [h32]
    exact (if_neg (by decide)).trans (if_pos hmis)
  · have both : (s.accessCause hp w a 32).or (s.accessCause hp w (a + 4) 32) = none := by
      rw [← h]
      exact ((if_neg (by simp)).trans ((if_neg (by show ¬ a % (64 / 8) ≠ 0; omega)).trans (if_pos rfl))).symm
    obtain ⟨lo, hi⟩ := Option.or_eq_none_iff.mp both
    exact ⟨(s.accessError_word w (by omega)).trans lo, (s.accessError_word w (by omega)).trans hi⟩

end Sys2Proof.Machine

/-! PROOFS of family 'other', writes at aliases, parcel memory and the direct window: O44. -/

namespace Sys2Proof.Machine

variable (s : State)

/-! ### Alias writes -/

theorem aliasAccess_of_lt {a : Nat} (w k : Nat) (ha : a < 0x10000) : aliasAccess ⟨a, w⟩ k = ⟨a + k * 2 ^ 16, w⟩ := by
  unfold aliasAccess
  rw [Nat.mod_eq_of_lt (show a < 2 ^ 16 from ha)]

theorem alias_location {a k : Nat} (ha : a < 0x10000) (hal : a % 4 = 0) : (a + k * 2 ^ 16) % 2 ^ 16 / 4 * 4 = a := by omega

/-- A write at the `k`-th of a register's aliases writes its RW bits, combined with the present ones. -/
theorem State.busWrite_alias {hp : Fin 4} {a k : Nat} {m cur : Word} (v : Word) (hk : 1 ≤ k ∧ k < 4) (ha : a < 0x10000) (hal : a % 4 = 0)
    (h : s.regWord hp a = some cur) (hm : aliasBits a = some m) :
    s.busWrite hp (aliasAccess ⟨a, 32⟩ k) (v.zeroExtend 64) = s.writeReg hp a (aliasValue k (cur &&& m) (v &&& m)) := by
  have legal : s.accessError hp true ⟨a + k * 2 ^ 16, 32⟩ = none := by
    rw [s.accessError_word true (by omega)]
    exact s.accessCause_word true (alias_location ha hal) (by omega) h (.inr (by rw [hm]; rfl))
  have word : (v.zeroExtend 64).extractLsb' 0 32 = v := by ext i hi; simp [hi]; omega
  rw [aliasAccess_of_lt 32 k ha, s.busWrite_word _ legal, word]
  unfold State.writeAt
  dsimp only
  rw [if_neg (by omega), show (a + k * 2 ^ 16) % 2 ^ 16 = a by omega, show (a + k * 2 ^ 16) / 2 ^ 16 = k by omega, hm, h]
  rfl

/-- A write at one of the aliases that is narrower than a word, or of a register without RW bits, is a bus error of cause 2. -/
theorem State.busWrite_alias_refused {hp : Fin 4} {a w : Nat} {cur : Word} (v : Word) (hw : w = 8 ∨ w = 16 ∨ w = 32) (haw : a % (w / 8) = 0) (ha : a < 0x10000)
    (hal : a % 4 = 0) (h : s.regWord hp a = some cur) (hm : w = 32 → aliasBits a = none) :
    s.busWrite hp (aliasAccess ⟨a, w⟩ 1) (v.zeroExtend 64) = s.busError hp (a + 0x10000) 2 true 0 := by
  have cause : s.accessCause hp true (a + 1 * 2 ^ 16) w = some 2 := by
    unfold State.accessCause
    dsimp only
    rw [alias_location ha hal, s.implemented_of_regWord h]
    refine (if_neg (by simp only [Bool.not_true, Bool.or_false, decide_eq_true_eq]; omega)).trans ?_
    by_cases h32 : w = 32
    · rw [hm h32, h32]
      exact (if_neg (by simp)).trans (if_pos (by simp))
    · exact if_pos (by simpa using h32)
  have error : s.accessError hp true ⟨a + 1 * 2 ^ 16, w⟩ = some 2 := by
    have h64 : ¬ w = 64 := by omega
    unfold State.accessError
    refine (if_neg ?_).trans ((if_neg ?_).trans ((if_neg h64).trans cause))
    · rcases hw with rfl | rfl | rfl <;> exact Bool.false_ne_true
    · rcases hw with rfl | rfl | rfl <;> dsimp only at haw ⊢ <;> omega
  rw [aliasAccess_of_lt w 1 ha, s.busWrite_error _ error]
  rfl

/-! ### The parcel memory -/

/-- A written byte reads back. -/
theorem memRead_memWriteBytes_inside {m : List Host.Cell} (h : memWf m = true) (a i : Nat) (l : List Byte) (hi : i < l.length) :
    memRead (memWriteBytes m a l) (a + i) = l.getD i 0 := by
  induction l generalizing m a i with
  | nil => exact absurd hi (Nat.not_lt_zero _)
  | cons v l ih =>
    cases i with
    | zero =>
      rw [memWriteBytes, memRead_memWriteBytes_outside (memWf_memWrite h a v) (a + 1) (a + 0) l (.inl (by omega)), memRead_memWrite h]
      exact if_pos rfl
    | succ i =>
      rw [memWriteBytes, show a + (i + 1) = a + 1 + i by omega, ih (memWf_memWrite h a v) (a + 1) i (Nat.lt_of_succ_lt_succ hi)]
      rfl

theorem exec_parcelWrite {hp : Fin 4} {o : Nat} {l : List Byte} (hb : s.afterBoot = true) (h : o + l.length ≤ 65536) :
    exec (.parcelWrite hp o l) s = .next (s.writeParcel hp o l) :=
  (s.opened_up (fun t => if 65536 < o + l.length then t else t.writeParcel hp o l) hb).trans (congrArg _ (if_neg (Nat.not_lt.mpr h)))

/-! ### The direct window -/

theorem State.dwGuard_denied {hp : Fin 4} {a : Nat} {f : State → State} (h : s.mayDirect hp = false) : s.dwGuard hp a f = s.denied a :=
  if_pos (by rw [h]; rfl)

theorem State.dwGuard_locked {hp : Fin 4} {a : Nat} {f : State → State} (h : s.mayDirect hp = true) (hl : s.direct.lockdown = true) :
    s.dwGuard hp a f = s.raise Flt.writeLocked a :=
  (if_neg (by rw [h]; exact Bool.false_ne_true)).trans (if_pos hl)

theorem State.dwGuard_open {hp : Fin 4} {a : Nat} {f : State → State} (h : s.mayDirect hp = true) (hl : s.direct.lockdown = false) :
    s.dwGuard hp a f = f s :=
  (if_neg (by rw [h]; exact Bool.false_ne_true)).trans (if_neg (by rw [hl]; exact Bool.false_ne_true))

/-- The address of a port's direct window after an access. -/
def HostPort.dwNext (h : HostPort) : Word := if h.dwAutoInc then (h.dwAddr + 4) &&& 0x00FFFFFC else h.dwAddr

theorem State.dwAdvance_at (hp : Fin 4) : (s.dwAdvance hp).hosts[hp] = { s.hosts[hp] with dwAddr := s.hosts[hp].dwNext } := by
  unfold State.dwAdvance HostPort.dwNext
  rw [s.mapHost_at]
  split <;> rfl

theorem State.dwAdvance_others (hp : Fin 4) : OtherHosts hp s (s.dwAdvance hp) := s.mapHost_others hp _

theorem State.dwError_at (hp : Fin 4) : (s.dwError hp).hosts[hp] = { s.hosts[hp] with dwErr := true } := s.mapHost_at hp _

/-- After an access: the address moves on, ERR is set where nothing is implemented. -/
def State.dwDone (s : State) (hp : Fin 4) (found : Bool) : State := (if found then s else s.dwError hp).dwAdvance hp

theorem State.dwDone_at (hp : Fin 4) (found : Bool) :
    (s.dwDone hp found).hosts[hp] = { s.hosts[hp] with dwErr := if found then s.hosts[hp].dwErr else true, dwAddr := s.hosts[hp].dwNext } := by
  unfold State.dwDone
  rw [State.dwAdvance_at]
  cases found
  · rw [if_neg Bool.false_ne_true, s.dwError_at]
    rfl
  · rfl

theorem State.dwDone_others (hp : Fin 4) (found : Bool) : OtherHosts hp s (s.dwDone hp found) := by
  cases found
  · exact (s.mapHost_others hp _).trans (State.dwAdvance_others _ hp)
  · exact s.dwAdvance_others hp

theorem State.dwDone_within (hp : Fin 4) (found : Bool) : Within (partsOf [.hosts]) s (s.dwDone hp found) := by
  cases found
  · exact (Within.start.mapHost.mapHost).mono (by decide)
  · exact Within.start.mapHost

theorem State.writeDw_open {hp : Fin 4} (v : Word) (h : s.mayDirect hp = true) (hl : s.direct.lockdown = false) :
    s.writeDw hp v = (s.directWrite s.hosts[hp].dwGroup s.hosts[hp].dwOffset v).1.dwDone hp (s.directWrite s.hosts[hp].dwGroup s.hosts[hp].dwOffset v).2 := by
  unfold State.writeDw
  rw [s.dwGuard_open h hl]
  dsimp only
  obtain ⟨u, b⟩ := s.directWrite s.hosts[hp].dwGroup s.hosts[hp].dwOffset v
  cases b <;> rfl

theorem State.readDw_open {hp : Fin 4} (h : s.mayDirect hp = true) (hl : s.direct.lockdown = false) :
    s.readDw hp = ((s.directRead s.hosts[hp].dwGroup s.hosts[hp].dwOffset).1.dwDone hp (s.directRead s.hosts[hp].dwGroup s.hosts[hp].dwOffset).2.isSome,
      (s.directRead s.hosts[hp].dwGroup s.hosts[hp].dwOffset).2.getD 0) := by
  unfold State.readDw
  refine (if_neg (by rw [h]; exact Bool.false_ne_true)).trans ((if_neg (by rw [hl]; exact Bool.false_ne_true)).trans ?_)
  dsimp only
  obtain ⟨u, w⟩ := s.directRead s.hosts[hp].dwGroup s.hosts[hp].dwOffset
  cases w <;> rfl

theorem State.directPut_word (g o : Nat) (v : Word) : (s.directPut g o v).direct.words.find? (·.1 == (g, o)) = some ((g, o), v) := by
  unfold State.directPut
  extract_lets e now
  rw [(Within.start.raise : Within (partsOf [.flt]) _ (State.raise _ Flt.directWrite _)) .direct (by decide)]
  exact List.find?_cons_of_pos (by simp [e])

/-- What a direct write can do: at a writable location the word is kept, at an absent one nothing happens. -/
theorem State.directWrite_out (g o : Nat) (v : Word) : Within (partsOf [.direct, .flt]) s (s.directWrite g o v).1 ∧
    (directKind g o = .readWrite → (s.directWrite g o v).1.direct.words.find? (·.1 == (g, o)) = some ((g, o), v)) ∧
    (directKind g o = .absent → s.directWrite g o v = (s, false)) := by
  refine ⟨Within.start.directWrite.mono (by decide), fun h => ?_, fun h => ?_⟩
  · unfold State.directWrite
    rw [h]
    exact s.directPut_word g o v
  · unfold State.directWrite
    rw [h]

/-- A direct read of a word that is kept. -/
theorem State.directRead_kept {g o : Nat} {w : Word} (h : s.direct.words.find? (·.1 == (g, o)) = some ((g, o), w)) :
    (s.directRead g o).1 = s ∧ (directKind g o = .readWrite → (s.directRead g o).2 = some w) ∧ (directKind g o = .absent → (s.directRead g o).2 = none) := by
  have word : s.directWord g o = (s, w) := by
    unfold State.directWord
    rw [h]
  unfold State.directRead
  rw [word]
  cases directKind g o
  case absent => exact ⟨rfl, fun h => (by cases h), fun _ => rfl⟩
  case readWrite => exact ⟨rfl, fun _ => rfl, fun h => (by cases h)⟩
  all_goals exact ⟨rfl, fun h => (by cases h), fun h => (by cases h)⟩

theorem exec_dwDataWrite {hp : Fin 4} (v : Word) (hb : s.afterBoot = true) : exec (.dwDataWrite hp v) s = .next (s.writeDw hp v) :=
  s.opened_up (fun t => t.writeDw hp v) hb

theorem exec_dwCtrlWrite {hp : Fin 4} (v : Word) (hb : s.afterBoot = true) : exec (.dwCtrlWrite hp v) s = .next (s.writeDwCtrl hp v) :=
  s.opened_up (fun t => t.writeDwCtrl hp v) hb

theorem exec_dwDataRead {hp : Fin 4} (hb : s.afterBoot = true) : exec (.dwDataRead hp) s = .next ((s.readDw hp).1.emit (.read hp (s.readDw hp).2)) :=
  s.openRead_up hp (fun t => t.readDw hp) hb

/-- Settles O44: a write at one of the aliases combines the register's RW bits, a parcel's octets read back, and the direct window's guard comes first. -/
theorem aliasParcelAndDirectAccesses : Obligations.AliasParcelAndDirectAccesses := by
  refine ⟨fun s hp a m cur v w hb ha hal h hm => ⟨?_, ?_, ?_, fun hw haw => ?_⟩, fun s hp a cur v hb ha hal h hm => ?_,
    fun s hp o l hb hwf hl => ⟨_, exec_parcelWrite s hb (by omega), ?_⟩, fun s hp o l hb hlo hhi => ⟨_, exec_parcelWrite s hb hhi, ?_⟩,
    fun s hp v hb hd => ⟨?_, ?_, ?_⟩, fun s hp v hb hd hl => ⟨?_, ?_, ?_⟩, fun s hp v g o hb hd hl hg ho => ⟨⟨_, exec_dwDataWrite s v hb, ?_⟩, fun w hw => ?_⟩,
    fun s hp v hb hd hl => ⟨_, exec_dwCtrlWrite s v hb, ?_⟩⟩
  · exact (s.opened_up (fun t => t.busWrite hp (aliasAccess ⟨a, 32⟩ 1) (v.zeroExtend 64)) hb).trans (congrArg _ (s.busWrite_alias v (by decide) ha hal h hm))
  · exact (s.opened_up (fun t => t.busWrite hp (aliasAccess ⟨a, 32⟩ 2) (v.zeroExtend 64)) hb).trans (congrArg _ (s.busWrite_alias v (by decide) ha hal h hm))
  · exact (s.opened_up (fun t => t.busWrite hp (aliasAccess ⟨a, 32⟩ 3) (v.zeroExtend 64)) hb).trans (congrArg _ (s.busWrite_alias v (by decide) ha hal h hm))
  · exact (s.opened_up (fun t => t.busWrite hp (aliasAccess ⟨a, w⟩ 1) (v.zeroExtend 64)) hb).trans
      (congrArg _ (s.busWrite_alias_refused v (by omega) haw ha hal h (by omega)))
  · exact (s.opened_up (fun t => t.busWrite hp (aliasAccess ⟨a, 32⟩ 1) (v.zeroExtend 64)) hb).trans
      (congrArg _ (s.busWrite_alias_refused v (.inr (.inr rfl)) (by omega) ha hal h fun _ => hm))
  · have wrote : s.writeParcel hp o l = s.mapHost hp fun h => { h with parcel := memWriteBytes h.parcel o l } := if_neg (Nat.not_lt.mpr hl)
    have at_ : (s.writeParcel hp o l).hosts[hp].parcel = memWriteBytes s.hosts[hp].parcel o l := by rw [wrote, s.mapHost_at]
    rw [at_]
    refine ⟨fun i hi => memRead_memWriteBytes_inside hwf o i l hi, fun x hx => memRead_memWriteBytes_outside hwf o x l hx, wrote⟩
  · have wrote : s.writeParcel hp o l = s.drawn.busError hp o (1 + s.draw % 2) true 1 := if_pos hlo
    obtain ⟨e, hh, -⟩ := s.drawn.busError_out hp o (1 + s.draw % 2) true 1
    rw [wrote, hh, State.mapHost_at]
    exact ⟨rfl, rfl⟩
  · refine (exec_dwDataRead s hb).trans ?_
    rw [show s.readDw hp = (s.raise Flt.directDenied hp.val, 0) from if_pos (by rw [hd]; rfl)]
  · exact (exec_dwDataWrite s v hb).trans (congrArg _ (s.dwGuard_denied hd))
  · exact (exec_dwCtrlWrite s v hb).trans (congrArg _ (s.dwGuard_denied hd))
  · refine (exec_dwDataRead s hb).trans ?_
    rw [show s.readDw hp = (s, 0) from (if_neg (by rw [hd]; exact Bool.false_ne_true)).trans (if_pos hl)]
    rfl
  · exact (exec_dwDataWrite s v hb).trans (congrArg _ (s.dwGuard_locked hd hl))
  · exact (exec_dwCtrlWrite s v hb).trans (congrArg _ (s.dwGuard_locked hd hl))
  · rw [s.writeDw_open v hd hl, ← hg, ← ho]
    obtain ⟨w, kept, absent⟩ := s.directWrite_out g o v
    obtain ⟨⟨u, b⟩, hu⟩ : ∃ r, r = s.directWrite g o v := ⟨_, rfl⟩
    rw [← hu] at w kept absent ⊢
    have hosts : u.hosts = s.hosts := w .hosts (by decide)
    have direct : (u.dwDone hp b).direct = u.direct := u.dwDone_within hp b .direct (by decide)
    rw [direct, u.dwDone_at, hosts]
    refine ⟨kept, fun h => ?_, rfl, fun q hq => (u.dwDone_others hp b q hq).trans (by rw [hosts]), ?_⟩
    · obtain ⟨rfl, rfl⟩ := Prod.mk.inj (absent h)
      exact ⟨rfl, rfl⟩
    · rw [← direct]
      exact ((w.trans (u.dwDone_within hp b)).mono (by decide) : Within (partsOf [.hosts, .direct, .flt]) s _).eq
  · refine ⟨_, exec_dwDataRead s hb, ?_⟩
    rw [s.readDw_open hd hl, ← hg, ← ho]
    obtain ⟨same, kept, absent⟩ := s.directRead_kept hw
    rw [same]
    have e : (s.dwDone hp (s.directRead g o).2.isSome).emits = s.emits := s.dwDone_within hp _ .emits (by decide)
    refine ⟨fun h => ?_, fun h => ?_, ?_, ((s.dwDone_within hp _).emit.mono (by decide) : Within (partsOf [.hosts, .emits]) s _).eq⟩
    · rw [kept h] at e ⊢
      exact congrArg _ e
    · rw [absent h] at e ⊢
      exact ⟨congrArg _ e, congrArg HostPort.dwErr (s.dwDone_at hp false)⟩
    · exact congrArg HostPort.dwAddr (s.dwDone_at hp _)
  · have wrote : s.writeDwCtrl hp v = { s.mapHost hp fun h => { h with dwAutoInc := v.getLsbD 0 } with direct.lockdown := v.getLsbD 8 } := by
      refine (s.dwGuard_open hd hl).trans ?_
      dsimp only
      cases v.getLsbD 8
      · rw [if_neg Bool.false_ne_true, ← hl]
        rfl
      · rfl
    rw [wrote]
    exact ⟨congrArg HostPort.dwAutoInc (s.mapHost_at hp _), rfl, s.mapHost_others hp _, rfl⟩

end Sys2Proof.Machine

/-! PROOFS of family 'other', system commands: O49. -/

namespace Sys2Proof.Machine

variable {s u : State} {hp : Fin 4} {mb : Fin 8} {c : Cmd} {f : CmdForm}

/-! ### What a command that passes its checks comes to -/

/-- A command word that is next in its mailbox and passes the checks of R457 before its handle. -/
structure State.Passes (s u : State) (hp : Fin 4) (mb : Fin 8) (c : Cmd) (f : CmdForm) : Prop where
  taken : u = s.takeImb hp mb
  cmd : s.cmdAt hp mb = some c
  op : c.op = f.op
  plain : f.wipe = none
  form : (c.fits f.results && f.shape u c) = true
  rights : f.rights u c = true
  role : (f.follower && u.follower) = false

theorem State.Passes.runs (h : s.Passes u hp mb c f) : s.omend hp mb f = .next (u.runCmd c f) :=
  h.taken ▸ s.omend_runs hp mb f h.cmd h.op

/-- An immediate command ends as its body says. -/
theorem State.Passes.concludes (h : s.Passes u hp mb c f) (hh : f.handled = false) :
    s.omend hp mb f = .next ((f.body u c).conclude c ((u.freeSlot c.hp).getD 0)) :=
  h.runs.trans (congrArg _ (u.runCmd_body f h.plain h.form h.rights h.role hh))

theorem State.Passes.done (h : s.Passes u hp mb c f) (hh : f.handled = false) {t : State} {ws : List Word} (hb : f.body u c = .done t ws) :
    s.omend hp mb f = .next (t.finishCmd c ws) := (h.concludes hh).trans (by rw [hb]; rfl)

theorem State.Passes.rejects (h : s.Passes u hp mb c f) (hh : f.handled = false) {t : State} {n : Nat} {r : Option Nat} (hb : f.body u c = .reject t n r) :
    s.omend hp mb f = .next (t.rejectCmd c n r) := (h.concludes hh).trans (by rw [hb]; rfl)

/-- A command with a free slot ends as its body says. -/
theorem State.Passes.slotted (h : s.Passes u hp mb c f) {slot : Fin 256} (hs : u.freeSlot hp = some slot) :
    s.omend hp mb f = .next ((f.body u c).conclude c slot) :=
  h.runs.trans (congrArg _ (u.runCmd_handled f h.plain h.form h.rights h.role (by rw [State.cmdAt_port h.cmd]; exact hs)))

theorem State.Passes.accepted (h : s.Passes u hp mb c f) {slot : Fin 256} (hs : u.freeSlot hp = some slot) {t : State} {g : Option (Fin 8)} {k : Nat}
    {d : List Int} {o : Nat} {v : Cfg} {go : Nat → State → State} (hb : f.body u c = .accept t g k d o v go) :
    s.omend hp mb f = .next (go t.nextHandled (t.acceptCmd c slot g k d o v)) := (h.slotted hs).trans (by rw [hb]; rfl)

theorem State.Passes.refused (h : s.Passes u hp mb c f) {slot : Fin 256} (hs : u.freeSlot hp = some slot) {t : State} {n : Nat} {r : Option Nat}
    (hb : f.body u c = .reject t n r) : s.omend hp mb f = .next (t.rejectCmd c n r) := (h.slotted hs).trans (by rw [hb]; rfl)

/-- A command of fixed LEN passes with its rights and role. -/
theorem State.sends.passes {op len results : Nat} (h : s.sends hp mb c op len results) (hu : u = s.takeImb hp mb)
    (hf : (f.op, f.results, f.wipe, f.shape) = (op, results, none, fun _ c => lenIs len c)) (hr : f.rights u c = true)
    (hrole : f.follower = true → s.follower = false) : s.Passes u hp mb c f := by
  obtain ⟨cmd, ho, hl, fits⟩ := h
  simp only [Prod.mk.injEq] at hf
  obtain ⟨fop, fres, fwipe, fshape⟩ := hf
  refine ⟨hu, cmd, ho.trans fop.symm, fwipe, ?_, hr, ?_⟩
  · rw [fres, fshape, fits, ← hl]
    exact beq_self_eq_true c.len
  · rw [hu, State.takeImb_follower]
    cases hff : f.follower
    · rfl
    · exact hrole hff

/-- The port of a command is the one whose mailbox it stands in. -/
theorem State.sends.port {op len results : Nat} (h : s.sends hp mb c op len results) : c.hp = hp := State.cmdAt_port h.1

/-- A command word is taken: its mailbox, the queue of command words, and the doorbell. -/
theorem State.takeImb_eq (hu : u = s.takeImb hp mb) : ∃ k H E, u = { s with cmds := k, hosts := H, emits := E } :=
  ⟨_, _, _, hu.trans ((Within.start.takeImb.mono (by decide) : Within (partsOf [.cmds, .hosts, .emits]) s (s.takeImb hp mb)).eq)⟩

theorem State.taken_sys (hu : u = s.takeImb hp mb) : s.sys = u.sys := by rw [hu, State.takeImb_sys]

theorem State.taken_may (hu : u = s.takeImb hp mb) {q : Fin 4} {r : Right} (h : s.may q r = true) : u.may q r = true := by rwa [hu, State.takeImb_may]

/-- The rights of a grant. -/
theorem State.needs_may (hu : u = s.takeImb hp mb) (hc : c.hp = hp) {r : Right} (h : s.may hp r = true) : needs r u c = true := by
  rw [needs, hc]
  exact State.taken_may hu h

theorem State.needsOwner_of (hu : u = s.takeImb hp mb) (hc : c.hp = hp) (h : s.sys.owner = hp) : needsOwner u c = true := by
  rw [needsOwner, hc, ← State.taken_sys hu, h]
  exact beq_self_eq_true hp

/-- Settles O49: each command passes its checks, and its body is computed. -/
theorem systemCommandsTakeEffect : Obligations.SystemCommandsTakeEffect := by
  refine fun s u hp mb c hu => ?_
  have sys := State.taken_sys hu
  refine ⟨fun h => ?_, fun h hr hd => ?_, fun p h ho hw hp' hv => ?_, fun h ho hw => ?_, fun p h ho hw hp' => ?_, fun h ho hw => ?_, fun h ho hf hptp => ?_,
    fun h hr hw he => ?_, fun h hr hw => ?_⟩
  · refine (h.passes hu rfl rfl nofun : s.Passes u hp mb c statusForm).done rfl ?_
    obtain ⟨k, H, E, rfl⟩ := State.takeImb_eq hu
    rfl
  · refine (h.passes hu rfl (State.needs_may hu h.port hr) nofun : s.Passes u hp mb c resetForm).done rfl ?_
    rw [sys] at hd ⊢
    show Verdict.done (State.releaseToken { u with sys.resetDue := some (u.sys.resetDue.getD (u.sys.cyc + 10 * msCyc)),
                                                   sys.resetPort := if u.sys.resetDue.isSome then u.sys.resetPort else c.hp.val }) [] = _
    rw [hd, h.port]
    rfl
  · refine (h.passes hu rfl (State.needsOwner_of hu h.port ho) nofun : s.Passes u hp mb c grantForm).done rfl ?_
    have port : Fin.ofNat 4 (c.word 0) = p := Fin.ext (by rw [hw]; exact Nat.mod_eq_of_lt p.isLt)
    have free : bitAt (c.word 1) 15 = false := by simp [bitAt]; omega
    rw [sys] at ho ⊢
    show (if 3 < c.word 0 then _ else if 0xFFFF < c.word 1 then _ else if Fin.ofNat 4 (c.word 0) = u.sys.owner then _ else if bitAt (c.word 1) 15 then _ else _) = _
    rw [port, if_neg (by omega), if_neg (by omega), if_neg (by rw [ho]; exact hp'), if_neg (by rw [free]; exact Bool.false_ne_true)]
    rfl
  · exact (h.passes hu rfl (State.needsOwner_of hu h.port ho) nofun : s.Passes u hp mb c grantForm).rejects rfl (if_pos hw)
  · refine (h.passes hu rfl (State.needsOwner_of hu h.port ho) nofun : s.Passes u hp mb c ownerHandoverForm).done rfl ?_
    have port : Fin.ofNat 4 (c.word 0) = p := Fin.ext (by rw [hw]; exact Nat.mod_eq_of_lt p.isLt)
    rw [sys] at ho ⊢
    show (if 3 < c.word 0 then _ else if c.word 0 = c.hp.val then _ else Verdict.done (u.newOwner (Fin.ofNat 4 (c.word 0))) []) = _
    rw [port, if_neg (by omega), if_neg (by rw [hw, h.port]; exact fun e => hp' (Fin.ext e)), State.newOwner]
    subst ho
    rfl
  · refine (h.passes hu rfl (State.needsOwner_of hu h.port ho) nofun : s.Passes u hp mb c ownerHandoverForm).rejects rfl ?_
    exact (if_neg (by omega)).trans (if_pos (by rw [hw, h.port]))
  · refine (h.passes hu rfl (State.needsOwner_of hu h.port ho) (fun _ => hf) : s.Passes u hp mb c clockIdForm).done rfl ?_
    have ptp : u.anyPtp = false := by
      obtain ⟨k, H, E, rfl⟩ := State.takeImb_eq hu
      exact hptp
    exact if_neg (by rw [ptp]; exact Bool.false_ne_true)
  · refine (h.passes hu rfl (State.needs_may hu h.port hr) nofun : s.Passes u hp mb c warmupTimeForm).done rfl ?_
    have stays : execWarmupTimeExpiry { u with sys.warmupTime := c.word 0 } = .next { u with sys.warmupTime := c.word 0 } :=
      if_neg (by simp only [← sys, he, decide_false, Bool.false_and]; exact Bool.false_ne_true)
    refine (if_neg (Nat.not_lt.mpr hw)).trans ?_
    dsimp only
    rw [stays]
  · exact (h.passes hu rfl (State.needs_may hu h.port hr) nofun : s.Passes u hp mb c warmupTimeForm).rejects rfl (if_pos hw)

end Sys2Proof.Machine

/-! PROOFS of family 'other', commands of the time scale: O50. -/

namespace Sys2Proof.Machine

variable {s u : State} {hp : Fin 4} {mb : Fin 8} {c : Cmd} {f : CmdForm}

/-! ### Configuration commands -/

/-- A configuration command passes with its rights and role. -/
theorem State.asks.passes {op results : Nat} {t : ParamTable} {cur v : Cfg} (h : s.asks hp mb c op results t cur v) (hu : u = s.takeImb hp mb)
    (hf : (f.op, f.results, f.wipe) = (op, results, none)) (hshape : f.shape u c = c.rowsFit t) (hr : f.rights u c = true)
    (hrole : f.follower = true → s.follower = false) : s.Passes u hp mb c f := by
  obtain ⟨cmd, ho, rows, fits, -, -⟩ := h
  simp only [Prod.mk.injEq] at hf
  obtain ⟨fop, fres, fwipe⟩ := hf
  refine ⟨hu, cmd, ho.trans fop.symm, fwipe, ?_, hr, ?_⟩
  · rw [fres, hshape, fits, rows]
    rfl
  · rw [hu, State.takeImb_follower]
    cases hff : f.follower
    · rfl
    · exact hrole hff

theorem State.asks.port {op results : Nat} {t : ParamTable} {cur v : Cfg} (h : s.asks hp mb c op results t cur v) : c.hp = hp := State.cmdAt_port h.1

/-- A configuration whose values, joint rules and state pass goes on with its new settings. -/
theorem State.asks.configure {op results : Nat} {t : ParamTable} {cur v : Cfg} (h : s.asks hp mb c op results t cur v) {dyn : Cfg → List (Nat × Bool)}
    {joint : Cfg → List (Bool × List Nat)} {busy : Cfg → Bool} {go : Cfg → Verdict} (hdyn : inRanges (dyn v) = true) (hjoint : unbroken (joint v) = true)
    (hbusy : busy v = false) : c.configure u t cur dyn joint busy go = go v := by
  obtain ⟨-, -, -, -, new, bad⟩ := h
  have ranges : (dyn v).filter (fun x => x.2) = [] := List.filter_eq_nil_iff.mpr fun x hx => by simpa using List.all_eq_true.mp hdyn x hx
  have rules : (joint v).filter (fun x => x.1) = [] := List.filter_eq_nil_iff.mpr fun x hx => by simpa using List.all_eq_true.mp hjoint x hx
  unfold Cmd.configure
  rw [new]
  dsimp only
  rw [bad, ranges]
  dsimp only [List.map_nil, List.append_nil, lowest, List.foldl_nil]
  rw [rules]
  exact if_neg (by rw [hbusy]; exact Bool.false_ne_true)

theorem obj_eq {n k : Nat} [NeZero n] {p : Fin n} (h : k = p.val) : Fin.ofNat n k = p := Fin.ext (by rw [h]; exact Nat.mod_eq_of_lt p.isLt)

/-! ### The commands of the time scale -/

/-- LEAP's insertion or deletion within reach, with none pending. -/
theorem State.leapSchedule_taken {w mjd : Nat} {a : Int} (ha : a = leapAtOf mjd s.ts.utcOffset (w == 1)) (hr : s.leapInReach a = true) (hp : s.ts.leapPending = 0) :
    s.leapSchedule (w == 1) mjd = .done ((s.scheduleLeap (if w = 1 then 2 else 1) a.toNat).repl (.leap (if w = 1 then 2 else 1) a.toNat))
      [loWord a.toNat, hiWord a.toNat] := by
  unfold State.leapSchedule
  dsimp only
  rw [← ha, hr, hp]
  by_cases h : w = 1
  · subst h
    rfl
  · rw [beq_eq_false_iff_ne.mpr h, if_neg h, if_neg h]
    rfl

/-- Settles O50: each command passes its checks, and its body is computed. -/
theorem timeCommandsTakeEffect : Obligations.TimeCommandsTakeEffect := by
  refine fun s u hp mb c hu hr => ⟨fun slot h hs h0 => ⟨fun hfit => ?_, fun hfit => ?_⟩, fun slot h hs hlo hhi => ⟨fun he => ?_, fun he => ?_⟩,
    fun h hf hlo hhi hleap => ?_, fun h hf h2 hleap => ?_, fun a h hf h1 hleap ha => ⟨fun hlo hhi => ?_, fun hout => ?_⟩, fun p v h hf ho hrun => ?_,
    fun i h hi => ?_, fun h hi => ?_⟩
  · have pass : s.Passes u hp mb c stepForm := h.passes hu rfl (State.needs_may hu h.port hr) nofun
    obtain ⟨k, H, E, rfl⟩ := State.takeImb_eq hu
    exact pass.accepted hs ((if_neg h0).trans (if_pos hfit))
  · have pass : s.Passes u hp mb c stepForm := h.passes hu rfl (State.needs_may hu h.port hr) nofun
    obtain ⟨k, H, E, rfl⟩ := State.takeImb_eq hu
    exact pass.refused hs ((if_neg h0).trans (if_neg (Bool.eq_false_iff.mp hfit)))
  · have pass : s.Passes u hp mb c rateForm := h.passes hu rfl (State.needs_may hu h.port hr) nofun
    obtain ⟨k, H, E, rfl⟩ := State.takeImb_eq hu
    exact pass.accepted hs ((if_neg (by simp [Int.not_lt.mpr hlo, Int.not_lt.mpr hhi])).trans (if_pos he))
  · have pass : s.Passes u hp mb c rateForm := h.passes hu rfl (State.needs_may hu h.port hr) nofun
    obtain ⟨k, H, E, rfl⟩ := State.takeImb_eq hu
    exact pass.refused hs ((if_neg (by simp [Int.not_lt.mpr hlo, Int.not_lt.mpr hhi])).trans (if_neg he))
  · have pass : s.Passes u hp mb c utcOffsetForm := h.passes hu rfl (State.needs_may hu h.port hr) fun _ => hf
    obtain ⟨k, H, E, rfl⟩ := State.takeImb_eq hu
    refine pass.done rfl ((if_neg ?_).trans (if_neg ?_))
    · simp only [Int.not_lt.mpr hlo, Int.not_lt.mpr hhi, decide_false, Bool.or_self]
      exact Bool.false_ne_true
    · show ¬ (s.ts.leapPending != 0) = true
      rw [hleap]
      exact Bool.false_ne_true
  · have pass : s.Passes u hp mb c leapForm := h.passes hu rfl (State.needs_may hu h.port hr) fun _ => hf
    obtain ⟨k, H, E, rfl⟩ := State.takeImb_eq hu
    exact pass.done rfl ((if_neg (by omega)).trans ((if_pos h2).trans (if_pos hleap)))
  · have pass : s.Passes u hp mb c leapForm := h.passes hu rfl (State.needs_may hu h.port hr) fun _ => hf
    obtain ⟨k, H, E, rfl⟩ := State.takeImb_eq hu
    refine pass.done rfl ((if_neg (by omega)).trans ((if_neg (by omega)).trans (State.leapSchedule_taken ha ?_ hleap)))
    exact Bool.and_eq_true_iff.mpr ⟨decide_eq_true hlo, decide_eq_true hhi⟩
  · have pass : s.Passes u hp mb c leapForm := h.passes hu rfl (State.needs_may hu h.port hr) fun _ => hf
    obtain ⟨k, H, E, rfl⟩ := State.takeImb_eq hu
    refine pass.rejects rfl ((if_neg (by omega)).trans ((if_neg (by omega)).trans (if_pos ?_)))
    show (!State.leapInReach _ (leapAtOf _ s.ts.utcOffset _)) = true
    rw [← ha]
    show (!(decide (2 * secFrac ≤ a * secFrac - s.now) && decide (a * secFrac - s.now ≤ 366 * 86400 * secFrac))) = true
    rw [Bool.not_eq_true', Bool.and_eq_false_iff]
    exact hout.imp (fun h => decide_eq_false (Int.not_le.mpr h)) (fun h => decide_eq_false (Int.not_le.mpr h))
  · have pass : s.Passes u hp mb c smearForm := h.passes hu rfl rfl (State.needs_may hu h.port hr) fun _ => hf
    have pos : Fin.ofNat 4 c.obj = p := obj_eq ho
    have ts : u.ts = s.ts := hu ▸ State.takeImb_ts
    rw [← ts] at h hrun ⊢
    refine pass.done rfl ((if_neg (by omega)).trans ?_)
    subst pos
    exact h.configure rfl rfl hrun
  · have pass : s.Passes u hp mb c boundThresholdForm := h.passes hu rfl (State.needs_may hu h.port hr) nofun
    obtain ⟨k, H, E, rfl⟩ := State.takeImb_eq hu
    obtain ⟨i, hlt⟩ := i
    obtain rfl : c.word 0 = i := hi
    exact pass.done rfl (dif_pos hlt)
  · exact (h.passes hu rfl (State.needs_may hu h.port hr) nofun : s.Passes u hp mb c boundThresholdForm).rejects rfl (dif_neg (Nat.not_lt.mpr hi))

end Sys2Proof.Machine

/-! PROOFS of family 'other', commands of channels and references: O51. -/

namespace Sys2Proof.Machine

variable {s u : State} {hp : Fin 4} {mb : Fin 8} {c : Cmd} {f : CmdForm}

/-! ### TDC_CONFIG -/

/-- The rights of TDC_CONFIG: the TDC grant, or a change of the sender's own PORT_MASK bit. -/
theorem tdcConfig_rights (hc : c.hp = hp) (hu : u = s.takeImb hp mb) {n : Nat} (h : (s.may hp .tdc = true ∧ n ≤ 71) ∨ u.ownMaskBit c = true) :
    tdcConfigForm.rights u c = true := by
  show (u.may c.hp .tdc || u.ownMaskBit c) = true
  rcases h with ⟨h, -⟩ | h
  · rw [hc, State.taken_may hu h, Bool.true_or]
  · rw [h, Bool.or_true]

/-- The joint rules of a channel's settings, none of them broken. -/
theorem tdcConfig_joint {v old : Cfg} {d : Demand} (hedge : v.nat Ix.tdcEdge = 2 → v.nat Ix.tdcMode = 2) (hglitch : 64 ≤ c.obj → v.at Ix.tdcDeglitch = 0)
    (hgate : gateTooLong v = false) (held : ∀ x ∈ d, v.at x.1 = old.at x.1) :
    unbroken ([(v.nat Ix.tdcEdge == 2 && v.nat Ix.tdcMode != 2, [Ix.tdcEdge]), (64 ≤ c.obj && v.at Ix.tdcDeglitch != 0, [Ix.tdcDeglitch]),
      (gateTooLong v, [Ix.tdcFNom, Ix.tdcPrescale, Ix.tdcGate, Ix.tdcMode])] ++ (d.map Prod.fst).map fun p => (v.at p != old.at p, [p])) = true := by
  have edge : (v.nat Ix.tdcEdge == 2 && v.nat Ix.tdcMode != 2) = false := by
    by_cases h : v.nat Ix.tdcEdge = 2
    · rw [hedge h]
      exact Bool.and_false _
    · rw [beq_eq_false_iff_ne.mpr h, Bool.false_and]
  have glitch : (decide (64 ≤ c.obj) && v.at Ix.tdcDeglitch != 0) = false := by
    by_cases h : 64 ≤ c.obj
    · rw [hglitch h]
      exact Bool.and_false _
    · rw [decide_eq_false h, Bool.false_and]
  rw [edge, glitch, hgate]
  refine List.all_eq_true.mpr fun x hx => ?_
  rcases List.mem_append.mp hx with hx | hx
  · simp only [List.mem_cons, List.not_mem_nil, or_false] at hx
    rcases hx with rfl | rfl | rfl <;> rfl
  · rw [List.map_map] at hx
    obtain ⟨y, hy, rfl⟩ := List.mem_map.mp hx
    simpa using held y hy

/-! ### The commands of a slot -/

/-- The checks that REF_FORCE, REF_ADMIT and REF_LOCKOUT share, passed. -/
theorem slotVerdict_passes {two : Bool} {go : Fin 16 → Verdict} {i : Fin 16} (hi : c.word 0 = i.val) (h15 : i = 15 → u.sys.straps.twinEn = false)
    (h2 : two = true → c.word 1 ≤ 1) : slotVerdict u c two go = go i := by
  unfold slotVerdict
  rw [if_neg (by omega), if_neg, if_neg, obj_eq hi]
  · intro h
    obtain ⟨h, ht⟩ := Bool.and_eq_true_iff.mp h
    rw [h15 (Fin.ext (hi.symm.trans (of_decide_eq_true h)))] at ht
    cases ht
  · intro h
    obtain ⟨h, hw⟩ := Bool.and_eq_true_iff.mp h
    exact Nat.not_lt.mpr (h2 h) (of_decide_eq_true hw)

section slot

variable {i : Fin 16} (hu : u = s.takeImb hp mb) (hi : c.word 0 = i.val) (h15 : i = 15 → s.sys.straps.twinEn = false)
include hu hi h15

theorem refForce_body (h : c.word 1 ≤ 1) : refForceForm.body u c =
    if freqKind u.wv.slots[i].kind then .reject u 7 (some 0)
    else if c.word 1 = 0 then
      if u.wv.slots[i].state == .disqualified || u.wv.slots[i].state == .lockedOut then .reject u 8 none else .done (u.forceSlot i) []
    else if u.wv.slots[i].forced then .done ((u.mapSlot i fun x => { x with forced := false }).evaluate) []
    else .reject u 8 none := by
  unfold refForceForm plainForm
  dsimp only
  exact slotVerdict_passes hi (fun e => State.taken_sys hu ▸ h15 e) fun _ => h

theorem refAdmit_body : refAdmitForm.body u c =
    if u.wv.slots[i].state == .qualifying || u.wv.slots[i].state == .disputed then .done ((u.hostQualify i).evaluate) [] else .reject u 8 none := by
  unfold refAdmitForm plainForm
  dsimp only
  exact slotVerdict_passes (two := false) hi (fun e => State.taken_sys hu ▸ h15 e) nofun

theorem refLockout_body (h : c.word 1 ≤ 1) : refLockoutForm.body u c =
    if c.word 1 = 0 then
      if u.wv.slots[i].state == .lockedOut then .reject u 8 none else .done ((u.lockOut i 6).evaluate) []
    else if u.wv.slots[i].state == .lockedOut then
      .done ((u.setSlot i .disqualified u.wv.slots[i].cause).causeGone Flt.refLockedOut fun d => d % 16 == i.val) []
    else .reject u 8 none := by
  unfold refLockoutForm plainForm
  dsimp only
  exact slotVerdict_passes hi (fun e => State.taken_sys hu ▸ h15 e) fun _ => h

end slot

/-- Settles O51: each command passes its checks, and its body is computed on the channel or slot that it names. -/
theorem referenceCommandsTakeEffect : Obligations.ReferenceCommandsTakeEffect := by
  refine fun s u hp mb c hu => ⟨fun ch v h ho hr hphase hedge hglitch hgate held => ?_, fun i v h hr ho hsrc hjoint => ?_, fun v h hr ho => ?_,
    fun i hr hi h15 => ⟨fun h hk h0 hd hl => ?_, fun h hk h1 hf => ?_, fun h hst => ?_, fun h hst => ?_, fun h h0 hl => ?_, fun h h1 hl => ?_⟩,
    fun i _ => ⟨?_, ?_, fun j hj => ?_, ?_⟩⟩
  · have pass : s.Passes u hp mb c tdcConfigForm := h.passes hu rfl rfl (tdcConfig_rights h.port hu hr) nofun
    have owner : ¬ (decide (71 < c.obj) && !u.ownMaskBit c) = true := by
      rcases hr with ⟨-, hn⟩ | hm
      · rw [decide_eq_false (by omega), Bool.false_and]
        exact Bool.false_ne_true
      · rw [hm, Bool.not_true, Bool.and_false]
        exact Bool.false_ne_true
    obtain rfl : Fin.ofNat 88 c.obj = ch := obj_eq ho
    rw [← ho] at held
    obtain ⟨k, H, E, rfl⟩ := State.takeImb_eq hu
    refine pass.done rfl ((if_neg owner).trans (h.configure ?_ (tdcConfig_joint hedge hglitch hgate held) rfl))
    simpa [inRanges] using hphase
  · have pass : s.Passes u hp mb c refConfigForm := h.passes hu rfl (if_neg (by omega)) (State.needs_may hu h.port hr) nofun
    obtain rfl : Fin.ofNat 16 c.obj = i := obj_eq ho
    obtain ⟨k, H, E, rfl⟩ := State.takeImb_eq hu
    refine pass.done rfl ((if_neg (by omega)).trans ((if_neg (by omega)).trans ?_))
    unfold refSlotVerdict
    refine h.configure ?_ hjoint rfl
    show (!sourceBad (fillSource c v) && true) = true
    rw [hsrc]
    rfl
  · have pass : s.Passes u hp mb c refConfigForm := h.passes hu rfl (if_pos ho) (State.needs_may hu h.port hr) nofun
    obtain ⟨k, H, E, rfl⟩ := State.takeImb_eq hu
    exact pass.done rfl ((if_neg (by omega)).trans ((if_pos ho).trans (h.configure rfl rfl rfl)))
  · have pass : s.Passes u hp mb c refForceForm := h.passes hu rfl (State.needs_may hu h.port hr) nofun
    obtain ⟨k, H, E, rfl⟩ := State.takeImb_eq hu
    refine pass.done rfl ((refForce_body hu hi h15 (by omega)).trans ((if_neg (by rw [hk]; exact Bool.false_ne_true)).trans ((if_pos h0).trans (if_neg ?_))))
    rw [beq_eq_false_iff_ne.mpr hd, beq_eq_false_iff_ne.mpr hl]
    exact Bool.false_ne_true
  · have pass : s.Passes u hp mb c refForceForm := h.passes hu rfl (State.needs_may hu h.port hr) nofun
    obtain ⟨k, H, E, rfl⟩ := State.takeImb_eq hu
    exact pass.done rfl ((refForce_body hu hi h15 (by omega)).trans ((if_neg (by rw [hk]; exact Bool.false_ne_true)).trans ((if_neg (by omega)).trans (if_pos hf))))
  · have pass : s.Passes u hp mb c refAdmitForm := h.passes hu rfl (State.needs_may hu h.port hr) nofun
    obtain ⟨k, H, E, rfl⟩ := State.takeImb_eq hu
    refine pass.done rfl ((refAdmit_body hu hi h15).trans (if_pos ?_))
    rcases hst with hst | hst <;> rw [hst] <;> rfl
  · have pass : s.Passes u hp mb c refAdmitForm := h.passes hu rfl (State.needs_may hu h.port hr) nofun
    obtain ⟨k, H, E, rfl⟩ := State.takeImb_eq hu
    refine pass.rejects rfl ((refAdmit_body hu hi h15).trans (if_neg ?_))
    rw [hst]
    exact Bool.false_ne_true
  · have pass : s.Passes u hp mb c refLockoutForm := h.passes hu rfl (State.needs_may hu h.port hr) nofun
    obtain ⟨k, H, E, rfl⟩ := State.takeImb_eq hu
    exact pass.done rfl ((refLockout_body hu hi h15 (by omega)).trans ((if_pos h0).trans (if_neg (Bool.eq_false_iff.mp (beq_eq_false_iff_ne.mpr hl)))))
  · have pass : s.Passes u hp mb c refLockoutForm := h.passes hu rfl (State.needs_may hu h.port hr) nofun
    obtain ⟨k, H, E, rfl⟩ := State.takeImb_eq hu
    exact pass.done rfl ((refLockout_body hu hi h15 (by omega)).trans ((if_neg (by omega)).trans (if_pos (beq_iff_eq.mpr hl))))
  · rw [State.hostQualify, State.setSlot_at, State.mapSlot_at]
    rfl
  · rw [State.hostQualify, State.setSlot_at, State.mapSlot_at]
    rfl
  · exact (State.setSlot_others _ i _ _ j hj).trans (s.mapSlot_others i _ j hj)
  · have w : Within _ s (s.hostQualify i) := Within.start.hostQualify
    exact w.ts_eq (by decide)

end Sys2Proof.Machine

/-! PROOFS of family 'other', commands of holdover and the GNSS baseband: O52. -/

namespace Sys2Proof.Machine

variable {s u : State} {hp : Fin 4} {mb : Fin 8} {c : Cmd} {f : CmdForm}

/-- A command of variable LEN passes with its rights and role. -/
theorem State.cmdAt_passes {op : Nat} (cmd : s.cmdAt hp mb = some c) (ho : c.op = op) (hu : u = s.takeImb hp mb)
    (hf : (f.op, f.wipe, f.follower) = (op, none, false)) (fits : c.fits f.results = true) (shape : f.shape u c = true) (hr : f.rights u c = true) :
    s.Passes u hp mb c f := by
  simp only [Prod.mk.injEq] at hf
  obtain ⟨fop, fwipe, frole⟩ := hf
  exact ⟨hu, cmd, ho.trans fop.symm, fwipe, by rw [fits, shape]; rfl, hr, by rw [frole]; rfl⟩

/-- The joint rules of a flywheel's settings, none of them broken. -/
theorem flywheelConfig_joint {f : Fin 3} {v : Cfg} (h0 : f = 0 → c.has 0 = false ∧ c.has 9 = false) (hclash : u.flywheelClash f v = false) :
    unbroken [(f == 0 && c.has 0, [0]), (f == 0 && c.has 9, [9]), (u.flywheelClash f v, [0])] = true := by
  by_cases hf : f = 0
  · obtain ⟨no0, no9⟩ := h0 hf
    rw [no0, no9, hclash, Bool.and_false]
    rfl
  · rw [hclash, beq_eq_false_iff_ne.mpr hf]
    rfl

/-- An accepted command word: what its mailbox, its handle and the reply leave alone. -/
theorem Accepted.keeps (s : State) (k : List (Nat × Fin 4 × Fin 8)) (H : Vector HostPort 4) (E : List Emit) (c : Cmd) (slot : Fin 256) (g : Option (Fin 8))
    (n : Nat) (d : List Int) (o : Nat) (v : Cfg) :
    Within (partsOf [.cmds, .hosts, .emits, .handled, .nextHandled]) s (({ s with cmds := k, hosts := H, emits := E } : State).acceptCmd c slot g n d o v) :=
  ((Within.start.set (partsOf [.cmds, .hosts, .emits]) : Within _ s { s with cmds := k, hosts := H, emits := E }).acceptCmd).mono (by decide)

section snapshot

variable (hu : u = s.takeImb hp mb) (hns : bitAt (c.word 0) 17 = true ∨ c.word 3 < 1000000000) (hst : s.gnss.snap.state ≠ .processing)
include hu hns hst

/-- SNAPSHOT past its ranges is what the reasons of R258 make of it. -/
theorem snapshot_body : snapshotForm.body u c = (match s.snapReason c.snapAsk with
    | some r => refuse (u.raise Flt.snapshotRefused r) r
    | none => .accept u none 0 [] 0 [] fun id t =>
        { t with gnss.snap := { state := .pending, streams := c.snapAsk.mask, length := c.snapAsk.length, captures := t.gnss.snap.captures,
                                startAt := c.snapAsk.start, cmd := some id } }) := by
  have range : ¬ (!bitAt (c.word 0) 17 && decide (1000000000 ≤ c.word 3)) = true := by
    rcases hns with h | h
    · rw [h, Bool.not_true, Bool.false_and]
      exact Bool.false_ne_true
    · rw [decide_eq_false (Nat.not_le.mpr h), Bool.and_false]
      exact Bool.false_ne_true
  have idle : ¬ (u.gnss.snap.state == .processing && c.snapAsk.overwrite) = true := by
    obtain ⟨k, H, E, rfl⟩ := State.takeImb_eq hu
    rw [beq_eq_false_iff_ne.mpr hst, Bool.false_and]
    exact Bool.false_ne_true
  have same : u.snapReason c.snapAsk = s.snapReason c.snapAsk := by
    obtain ⟨k, H, E, rfl⟩ := State.takeImb_eq hu
    rfl
  rw [← same]
  exact (if_neg range).trans ((if_neg idle).trans rfl)

theorem snapshot_accepts (h : s.snapReason c.snapAsk = none) : snapshotForm.body u c = .accept u none 0 [] 0 [] fun id t =>
    { t with gnss.snap := { state := .pending, streams := c.snapAsk.mask, length := c.snapAsk.length, captures := t.gnss.snap.captures,
                            startAt := c.snapAsk.start, cmd := some id } } := by
  rw [snapshot_body hu hns hst, h]

theorem snapshot_refuses {r : Nat} (h : s.snapReason c.snapAsk = some r) :
    snapshotForm.body u c = .reject (u.raise Flt.snapshotRefused r) (0x100 + r) none := by
  rw [snapshot_body hu hns hst, h]
  rfl

end snapshot

/-- Settles O52: each command passes its checks, and an acceptance leaves all but the handle and its port. -/
theorem holdoverAndGnssCommandsTakeEffect : Obligations.HoldoverAndGnssCommandsTakeEffect := by
  refine fun s u hp mb c hu => ⟨fun v h hr ho => ?_, fun f v h hr ho h0 hclash => ?_, fun k x h hr hk hlsb hx => ?_, fun h hr hlo hhi => ?_, fun i v h hr ho => ?_,
    fun v h hr ho hsys hbit => ?_, fun h hr hcyc hsec hns => ?_, fun slot h hr hs hns hst => ⟨fun hask => ?_, fun r hask => ?_⟩,
    fun hc ho hl hfit hreg h4 hst hlen => ?_, fun h hr hst => ?_, fun slot h hr hs => ⟨fun hst => ?_, fun hst => ?_⟩⟩
  · have pass : s.Passes u hp mb c steerConfigForm := h.passes hu rfl rfl (State.needs_may hu h.port hr) nofun
    obtain ⟨k, H, E, rfl⟩ := State.takeImb_eq hu
    exact pass.done rfl ((if_neg (by omega)).trans (h.configure rfl rfl rfl))
  · have pass : s.Passes u hp mb c flywheelConfigForm := h.passes hu rfl rfl (State.needs_may hu h.port hr) nofun
    obtain rfl : Fin.ofNat 3 c.obj = f := obj_eq ho
    obtain ⟨k, H, E, rfl⟩ := State.takeImb_eq hu
    exact pass.done rfl ((if_neg (by omega)).trans (h.configure rfl (flywheelConfig_joint h0 hclash) rfl))
  · have pass : s.Passes u hp mb c senseConfigForm := h.passes hu rfl (State.needs_may hu h.port hr) nofun
    obtain ⟨q, H, E, rfl⟩ := State.takeImb_eq hu
    obtain ⟨k, hlt⟩ := k
    obtain rfl : c.word 0 = k := hk
    subst hx
    exact pass.done rfl ((dif_pos hlt).trans (if_neg hlsb))
  · have pass : s.Passes u hp mb c holdTargetForm := h.passes hu rfl (State.needs_may hu h.port hr) nofun
    refine pass.done rfl (if_neg ?_)
    rw [decide_eq_false (Nat.pos_iff_ne_zero.mp hlo), decide_eq_false (Nat.not_lt.mpr hhi)]
    exact Bool.false_ne_true
  · have pass : s.Passes u hp mb c gnssConfigForm :=
      h.passes hu rfl (by rw [← ho]; rfl) (State.needs_may hu h.port hr) nofun
    obtain rfl : Fin.ofNat 4 c.obj = i := obj_eq ho
    obtain ⟨k, H, E, rfl⟩ := State.takeImb_eq hu
    rw [← ho] at h
    exact pass.done rfl ((if_neg (by omega)).trans ((if_neg (by omega)).trans (h.configure rfl rfl rfl)))
  · have pass : s.Passes u hp mb c gnssConfigForm := h.passes hu rfl (by show c.rowsFit (gnssTable c.obj) = _; rw [ho]; rfl) (State.needs_may hu h.port hr) nofun
    obtain ⟨k, H, E, rfl⟩ := State.takeImb_eq hu
    refine pass.done rfl ((if_neg (by omega)).trans ((if_pos ho).trans (h.configure ?_ ?_ rfl)))
    · simpa [inRanges] using hsys
    · simpa [unbroken] using hbit
  · have pass : s.Passes u hp mb c gnssAidForm := h.passes hu rfl (State.needs_may hu h.port hr) nofun
    obtain ⟨k, H, E, rfl⟩ := State.takeImb_eq hu
    exact pass.done rfl ((if_neg (Nat.not_lt.mpr hcyc)).trans ((if_neg (Nat.not_le.mpr hsec)).trans (if_neg (Nat.not_le.mpr hns))))
  · have pass : s.Passes u hp mb c snapshotForm := h.passes hu rfl (State.needs_may hu h.port hr) nofun
    obtain ⟨k, H, E, rfl⟩ := State.takeImb_eq hu
    have w := Accepted.keeps s k H E c slot none 0 [] 0 []
    have streams := congrArg Gnss.streams (w .gnss (by decide))
    exact ⟨_, pass.accepted hs (snapshot_accepts hu hns hst hask), rfl, rfl, rfl, rfl, rfl, streams, w.ts_eq (by decide)⟩
  · have pass : s.Passes u hp mb c snapshotForm := h.passes hu rfl (State.needs_may hu h.port hr) nofun
    obtain ⟨k, H, E, rfl⟩ := State.takeImb_eq hu
    exact pass.refused hs (snapshot_refuses hu hns hst hask)
  · have pass : s.Passes u hp mb c snapshotReadForm :=
      State.cmdAt_passes hc ho hu rfl hfit (Bool.and_eq_true_iff.mpr ⟨beq_iff_eq.mpr hl, hreg⟩) rfl
    obtain ⟨k, H, E, rfl⟩ := State.takeImb_eq hu
    obtain rfl := State.cmdAt_port hc
    refine pass.done rfl ((if_neg (not_not.mpr h4)).trans (if_neg ?_))
    show ¬ (!(s.gnss.snap.state == .held || s.gnss.snap.state == .processing) || decide (s.gnss.snap.octets.length < c.word 0 + c.word 1)) = true
    rw [hst, decide_eq_false (Nat.not_lt.mpr hlen)]
    exact Bool.false_ne_true
  · have pass : s.Passes u hp mb c snapshotReleaseForm := h.passes hu rfl (State.needs_may hu h.port hr) nofun
    obtain ⟨k, H, E, rfl⟩ := State.takeImb_eq hu
    exact pass.done rfl (if_neg (Bool.eq_false_iff.mp (beq_eq_false_iff_ne.mpr hst)))
  · have pass : s.Passes u hp mb c snapshotProcessForm := h.passes hu rfl (State.needs_may hu h.port hr) nofun
    obtain ⟨k, H, E, rfl⟩ := State.takeImb_eq hu
    have w := Accepted.keeps s k H E c slot none 0 [] 0 []
    refine ⟨_, pass.accepted hs (if_pos (beq_iff_eq.mpr hst)), ?_, w.ts_eq (by decide), w.wv_eq (by decide) (by decide)⟩
    exact congrArg (fun g : Gnss => { g with snap := { g.snap with state := .processing, cmd := some s.nextHandled } }) (w .gnss (by decide))
  · have pass : s.Passes u hp mb c snapshotProcessForm := h.passes hu rfl (State.needs_may hu h.port hr) nofun
    obtain ⟨k, H, E, rfl⟩ := State.takeImb_eq hu
    exact pass.refused hs (if_neg (Bool.eq_false_iff.mp (beq_eq_false_iff_ne.mpr hst)))

end Sys2Proof.Machine

/-! PROOFS of family 'other', staged configurations: O53. -/

namespace Sys2Proof.Machine

variable {s u : State} {hp : Fin 4} {mb : Fin 8} {c : Cmd} {f : CmdForm}

/-- A command that stages into a group is accepted, and the group settles. -/
theorem State.Passes.staged (h : s.Passes u hp mb c f) {slot : Fin 256} (hs : u.freeSlot hp = some slot) {t : State} {g : Fin 8} {k o : Nat} {v : Cfg}
    (hb : f.body u c = stageVerdict t g k o v) : s.omend hp mb f = .next ((t.acceptCmd c slot (some g) k [0, 0, 0, 0] o v).settle g) := h.accepted hs hb

/-- An accepted command takes the next number and joins the commands in hand last. -/
theorem State.acceptCmd_handled (u : State) (c : Cmd) (slot : Fin 256) (g : Option (Fin 8)) (k : Nat) (d : List Int) (o : Nat) (v : Cfg) :
    (u.acceptCmd c slot g k d o v).nextHandled = u.nextHandled + 1 ∧
    (u.acceptCmd c slot g k d o v).handled = u.handled ++ [⟨u.nextHandled, c.op, c.hp, c.mb, slot.val, c.ofs, g, k, d, false, false, o, v⟩] := by
  have w : Within (partsOf [.emits, .hosts]) _ (u.acceptCmd c slot g k d o v) := Within.start.reply.mono (by decide)
  exact ⟨w .nextHandled (by decide), w .handled (by decide)⟩

theorem gridConfig_rights (hc : c.hp = hp) (hu : u = s.takeImb hp mb) (h : s.may hp .grid = true ∨ u.ownFeedBit c = true) : gridConfigForm.rights u c = true := by
  show (u.may c.hp .grid || u.ownFeedBit c) = true
  rcases h with h | h
  · rw [hc, State.taken_may hu h, Bool.true_or]
  · rw [h, Bool.or_true]

/-- Settles O53: a configuration in its ranges and rules goes on to the acceptance into its group. -/
theorem stagedConfigurationsAreAcceptedIntoTheirGroups : Obligations.StagedConfigurationsAreAcceptedIntoTheirGroups := by
  refine fun s u hp mb c slot v hu hs => ⟨fun o h hr ho hjoint => ?_, fun n x h hr ho hx hrange hjoint => ?_, fun p h hr hf ho hjoint => ?_, fun q h hr hf ho hdiff => ?_,
    fun i x h hr hf ho hx hrange hjoint => ?_, fun f h hr ho hclash => ?_, fun n h hr ho hrx htx hjoint => ?_, fun g k d o => ?_⟩
  · have pass : s.Passes u hp mb c synthConfigForm := h.passes hu rfl rfl (State.needs_may hu h.port hr) nofun
    obtain rfl : Fin.ofNat 4 c.obj = o := obj_eq ho
    exact pass.staged hs ((if_neg (by omega)).trans ((h.configure rfl hjoint rfl).trans (congrArg (stageVerdict u 1 _ · v) ho)))
  · have pass : s.Passes u hp mb c outputConfigForm := h.passes hu rfl rfl (State.needs_may hu h.port hr) nofun
    have outs : s.outs = u.outs := by
      obtain ⟨k, H, E, rfl⟩ := State.takeImb_eq hu
      rfl
    rw [outs] at hx
    rw [← ho] at hrange hjoint
    subst hx
    obtain rfl : Fin.ofNat 80 c.obj = n := obj_eq ho
    exact pass.staged hs ((if_neg (by omega)).trans ((h.configure hrange hjoint rfl).trans (congrArg (fun k => stageVerdict _ 1 (pinSource k v).val k _) ho)))
  · have pass : s.Passes u hp mb c portConfigForm := h.passes hu rfl rfl (State.needs_may hu h.port hr) fun _ => hf
    obtain rfl : Fin.ofNat 8 c.obj = p := obj_eq ho
    exact pass.staged hs ((if_neg (by omega)).trans ((h.configure rfl hjoint rfl).trans (congrArg (fun k => stageVerdict u 2 k k v) ho)))
  · have pass : s.Passes u hp mb c prpConfigForm := h.passes hu rfl rfl (State.needs_may hu h.port hr) fun _ => hf
    obtain rfl : Fin.ofNat 4 c.obj = q := obj_eq ho
    refine pass.staged hs ((if_neg (by omega)).trans ((h.configure rfl ?_ rfl).trans (congrArg (fun k => stageVerdict u 2 k k v) ho)))
    exact congrArg (fun b => !b && true) hdiff
  · have pass : s.Passes u hp mb c instanceConfigForm := h.passes hu rfl rfl (State.needs_may hu h.port hr) fun _ => hf
    subst hx
    obtain rfl : Fin.ofNat 16 c.obj = i := obj_eq ho
    exact pass.staged hs ((if_neg (by omega)).trans ((h.configure hrange hjoint rfl).trans (congrArg (fun k => stageVerdict u 3 k k _) ho)))
  · have pass : s.Passes u hp mb c gridConfigForm := h.passes hu rfl rfl (gridConfig_rights h.port hu hr) nofun
    have feeds : s.feeds = u.feeds := by
      obtain ⟨k, H, E, rfl⟩ := State.takeImb_eq hu
      rfl
    rw [feeds]
    obtain rfl : Fin.ofNat 6 c.obj = f := obj_eq ho
    refine pass.staged hs ((if_neg (by omega)).trans ((h.configure rfl ?_ rfl).trans (congrArg (fun k => stageVerdict _ 4 k k _) ho)))
    exact congrArg (fun b => !b && true) hclash
  · have pass : s.Passes u hp mb c cpConfigForm := h.passes hu rfl rfl (State.needs_may hu h.port hr) nofun
    obtain rfl : Fin.ofNat 8 c.obj = n := obj_eq ho
    refine pass.staged hs ((if_neg (by omega)).trans ((h.configure ?_ hjoint rfl).trans (congrArg (fun k => stageVerdict u 4 k k v) ho)))
    rw [hrx, htx]
    rfl
  · have next : s.nextHandled = u.nextHandled ∧ s.handled = u.handled := by
      obtain ⟨k, H, E, rfl⟩ := State.takeImb_eq hu
      exact ⟨rfl, rfl⟩
    rw [next.1, next.2]
    exact u.acceptCmd_handled c slot g k d o v

end Sys2Proof.Machine

/-! PROOFS of family 'other', alignment, rule and key commands: O54. -/

namespace Sys2Proof.Machine

variable {s u : State} {hp : Fin 4} {mb : Fin 8} {c : Cmd} {f : CmdForm}

/-! ### Wiped parcels -/

/-- The octets of zero words are zero. -/
theorem getD_zeroWords (n i : Nat) : ((List.replicate n (0 : Word)).flatMap wordBytes).getD i 0 = 0 := by
  have all : ∀ b ∈ (List.replicate n (0 : Word)).flatMap wordBytes, b = 0 := by
    intro b hb
    obtain ⟨w, hw, hb⟩ := List.mem_flatMap.mp hb
    rw [List.eq_of_mem_replicate hw] at hb
    simpa [wordBytes] using hb
  rw [List.getD_eq_getElem?_getD]
  cases h : ((List.replicate n (0 : Word)).flatMap wordBytes)[i]? with
  | none => rfl
  | some b => exact all b (List.mem_of_getElem? h)

theorem length_zeroWords (n : Nat) : ((List.replicate n (0 : Word)).flatMap wordBytes).length = 4 * n := by
  induction n with
  | zero => rfl
  | succ n ih =>
    rw [List.replicate_succ, List.flatMap_cons, List.length_append, ih]
    simp [wordBytes]
    omega

/-- A word among zero words written reads 0. -/
theorem memReadWord_zeroWords {m : List Host.Cell} (h : memWf m = true) (a : Nat) {n i : Nat} (hi : i < n) :
    memReadWord (memWriteWords m (4 * a) (List.replicate n 0)) (4 * (a + i)) = 0 := by
  have byte : ∀ k, k < 4 → memRead (memWriteWords m (4 * a) (List.replicate n 0)) (4 * (a + i) + k) = 0 := fun k hk => by
    rw [show 4 * (a + i) + k = 4 * a + (4 * i + k) by omega, memWriteWords,
      memRead_memWriteBytes_inside h _ _ _ (by rw [length_zeroWords]; omega), getD_zeroWords]
  unfold memReadWord
  rw [byte 3 (by decide), byte 2 (by decide), byte 1 (by decide), show 4 * (a + i) = 4 * (a + i) + 0 from rfl, byte 0 (by decide)]
  rfl

/-- The command word that is taken leaves its port's parcel. -/
theorem State.takeImb_parcel (hu : u = s.takeImb hp mb) (p : Fin 4) : u.hosts[p].parcel = s.hosts[p].parcel := by
  have keeps : ∀ (v : Vector HostPort 4) (g : HostPort → HostPort), (∀ h, (g h).parcel = h.parcel) → (upd v hp g)[p].parcel = v[p].parcel := fun v g hg => by
    by_cases hq : hp = p
    · subst hq
      rw [upd_same, hg]
    · rw [upd_other _ _ _ _ hq]
  rw [hu]
  unfold State.takeImb
  rw [State.ring_hosts]
  refine (keeps _ _ ?_).trans (keeps _ _ ?_)
  · exact fun _ => rfl
  · exact fun _ => rfl

/-- A wiped parcel reads 0 from the first wiped word on. -/
theorem wipeParcel_word (hwf : memWf u.hosts[c.hp].parcel = true) (hfit : c.ofs + c.len ≤ 15360) {k i : Nat} (hk : k ≤ i) (hi : i < c.len) :
    (u.wipeParcel c k).parcelWord c.hp (c.ofs + i) = 0 := by
  have count : min (c.len - k) (15360 - (c.ofs + k)) = c.len - k := by omega
  unfold State.wipeParcel State.parcelWord State.parcelWrite
  rw [State.mapHost_at, count, show c.ofs + i = c.ofs + k + (i - k) by omega]
  exact memReadWord_zeroWords hwf (c.ofs + k) (by omega)

/-- A command that wipes its parcel and passes its checks ends as its body says, on the wiped parcel. -/
theorem State.wiped_runs {i : Nat} (hu : u = s.takeImb hp mb) (hc : s.cmdAt hp mb = some c) (ho : c.op = f.op) (hw : f.wipe = some i) (hh : f.handled = false)
    (hs : (c.fits f.results && f.shape u c) = true) (hr : f.rights u c = true) (hrole : f.follower = true → s.follower = false) {t : State} {ws : List Word}
    (hb : f.body (u.wipeParcel c i) c = .done t ws) : s.omend hp mb f = .next (t.finishCmd c ws) := by
  have role : (f.follower && u.follower) = false := by
    rw [hu, State.takeImb_follower]
    cases hf : f.follower
    · rfl
    · exact hrole hf
  rw [s.omend_runs hp mb f hc ho, ← hu]
  simp only [State.runCmd, hw, hs, hr, role, hh, hb]
  rfl

/-! ### The key store -/

/-- A slot replaced, and what follows a change of the key store. -/
theorem State.replaceKey_tables (s : State) (n : Fin 64) (x : KeySlot) :
    ((s.mapKey true n fun _ => x).drawn.followAuth).auth.sa = upd s.auth.sa n (fun _ => x) ∧ ((s.mapKey true n fun _ => x).drawn.followAuth).auth.nts = s.auth.nts := by
  obtain ⟨nts, sa⟩ := (s.mapKey true n fun _ => x).drawn.followAuth_tables
  exact ⟨sa, nts⟩

/-- A key that is stored: its slot in ACCEPT, the other slots as they were. -/
theorem State.storeKey_out (s : State) (n : Fin 64) (k : Nat) (r : KeyRecord) : ∃ x : KeySlot,
    x.state = .accept ∧ x.key = r.key ∧ x.keyId = r.keyId ∧ x.expiry = r.expiry ∧
    (s.storeKey true n k r).auth.sa = upd s.auth.sa n (fun _ => x) ∧ (s.storeKey true n k r).auth.nts = s.auth.nts ∧ (s.storeKey true n k r).ts = s.ts := by
  have w : Within _ s (s.storeKey true n k r) := Within.start.storeKey
  have ts : (s.storeKey true n k r).ts = s.ts := w.ts_eq (by decide)
  rw [ts]
  unfold State.storeKey
  generalize s.draw % 2 ^ 96 = iv
  exact ⟨_, rfl, rfl, rfl, rfl, (s.replaceKey_tables n _).1, (s.replaceKey_tables n _).2, rfl⟩

/-- A zeroisation keeps the pair key. -/
theorem State.zeroiseKeys_pairKey (s : State) (why : Nat) : (s.zeroiseKeys why).auth.pairKey = s.auth.pairKey := by
  unfold State.zeroiseKeys
  extract_lets n _ _ s1
  obtain ⟨auth, -⟩ := (s1.drawn.drawn.raise Flt.keyZeroised why).followAuth_out
  have kept : (s1.drawn.drawn.raise Flt.keyZeroised why).auth = s1.auth := (Within.start.drawn.drawn.raise : Within _ s1 _) .auth (by decide)
  rw [auth, kept]

/-- The synthesizers of a mask that no reason stands against. -/
theorem lowest_noReason {l : List (Fin 4)} {r : Fin 4 → Option Nat} (h : ∀ o ∈ l, r o = none) :
    lowest (l.filterMap fun o => (r o).map fun n => n * 16 + o.val) = none := by
  have none_ : l.filterMap (fun o => (r o).map fun n => n * 16 + o.val) = [] := List.filterMap_eq_nil_iff.mpr fun o ho => by rw [h o ho]; rfl
  rw [none_]
  rfl

/-- ALIGN_PULSES that no reason stands against, in a mode that leaves work. -/
theorem alignPulses_accepts (h3 : bitsOf (c.word 0) 9 8 ≠ 3) (hrate : bitsOf (c.word 0) 9 8 = 1 → 18446744073 ≤ c.wide 3 ∧ c.wide 3 ≤ 184467440737096)
    (hreason : ∀ o ∈ synthsOf (bitsOf (c.word 0) 3 0), u.alignReason (bitsOf (c.word 0) 9 8) (c.wide 1) (c.wide 3) o = none)
    (h2 : bitsOf (c.word 0) 9 8 ≠ 2) (h0 : bitsOf (c.word 0) 3 0 ≠ 0) :
    alignPulsesForm.body u c = .accept u none 0 [(bitsOf (c.word 0) 3 0 : Int)] 0 [] fun id t =>
      t.each (synthsOf (bitsOf (c.word 0) 3 0)) fun v o => v.startAlign (bitsOf (c.word 0) 9 8) (c.wide 1) (c.wide 3) id o := by
  have rate : ¬ (decide (bitsOf (c.word 0) 9 8 = 1) && (decide (c.wide 3 < 18446744073) || decide (184467440737096 < c.wide 3))) = true := by
    simp only [Bool.and_eq_true, Bool.or_eq_true, decide_eq_true_eq]
    rintro ⟨h, hout⟩
    obtain ⟨hlo, hhi⟩ := hrate h
    omega
  have work : ¬ (decide (bitsOf (c.word 0) 9 8 = 2) || decide (bitsOf (c.word 0) 3 0 = 0)) = true := by
    rw [decide_eq_false h2, decide_eq_false h0]
    exact Bool.false_ne_true
  unfold alignPulsesForm plainForm
  dsimp only
  rw [if_neg h3, if_neg rate, lowest_noReason hreason]
  simp only [if_neg work]

/-- KEY_LOAD of a key that its checks take. -/
theorem keyLoad_done {w : State} {n : Fin 64} {r : KeyRecord} (hn : c.keySlot = n.val) (hnts : c.keySa = false → n.val ≤ 3) (h3 : c.keyForm ≠ 3)
    (hplain : c.keyForm = 0 → c.wide 2 < 2 ^ 48 ∧ (c.keySa = true → c.word 4 ≤ 1))
    (hok : w.checkLoad c.keySa n c.keyForm c.plainKey (c.bytesFrom 5) = .ok r) :
    keyLoadForm.body w c = .done ((w.storeKey c.keySa n c.keyForm r).replKey c.keySa n r) [] := by
  have slot : ¬ (!c.keySa && decide (3 < c.keySlot)) = true := by
    simp only [Bool.and_eq_true, Bool.not_eq_true', decide_eq_true_eq]
    rintro ⟨h, hlt⟩
    exact absurd (hnts h) (by omega)
  have expiry : ¬ (c.keyForm == 0 && decide (2 ^ 48 ≤ c.wide 2)) = true := by
    simp only [Bool.and_eq_true, beq_iff_eq, decide_eq_true_eq]
    rintro ⟨h, hle⟩
    exact absurd (hplain h).1 (Nat.not_lt.mpr hle)
  have alg : ¬ (c.keyForm == 0 && c.keySa && decide (1 < c.word 4)) = true := by
    simp only [Bool.and_eq_true, beq_iff_eq, decide_eq_true_eq]
    rintro ⟨⟨h, hsa⟩, hlt⟩
    exact absurd ((hplain h).2 hsa) (Nat.not_le.mpr hlt)
  obtain rfl : Fin.ofNat 64 c.keySlot = n := obj_eq hn
  unfold keyLoadForm
  dsimp only
  rw [if_neg slot, if_neg h3, if_neg expiry, if_neg alg, hok]

/-- KEY_STATE of a change that is allowed. -/
theorem keyState_done {n : Fin 64} {t : State} (hn : c.keySlot = n.val) (hnts : c.keySa = false → n.val ≤ 3) (h1 : c.word 1 ≤ 1)
    (hok : u.changeKey c.keySa n (c.word 1 == 0) = .ok t) : keyStateForm.body u c = .done (t.replState c.keySa n) [] := by
  have slot : ¬ (!c.keySa && decide (3 < c.keySlot)) = true := by
    simp only [Bool.and_eq_true, Bool.not_eq_true', decide_eq_true_eq]
    rintro ⟨h, hlt⟩
    exact absurd (hnts h) (by omega)
  obtain rfl : Fin.ofNat 64 c.keySlot = n := obj_eq hn
  unfold keyStateForm plainForm
  dsimp only
  rw [if_neg slot, if_neg (Nat.not_lt.mpr h1), hok]

section wrap

variable {n : Fin 64} (hn : c.keySlot = n.val) (hnts : bitsOf (c.word 0) 1 0 = 0 → n.val ≤ 3) (h3 : bitsOf (c.word 0) 1 0 ≠ 3)
include hn hnts h3

/-- KEY_WRAP past its ranges. -/
theorem keyWrap_body : keyWrapForm.body u c =
    if !u.auth.kekEnabled then .reject (u.keyRefused (bitsOf (c.word 0) 1 0 == 1) n 4) 0x104 none
    else match u.recordToWrap (bitsOf (c.word 0) 1 0) n with
      | none => .reject (u.keyRefused (bitsOf (c.word 0) 1 0 == 1) n 7) 0x107 none
      | some r => .done u (wordsOf (Config.keyWrap Config.deviceKey r)) := by
  have slot : ¬ (decide (bitsOf (c.word 0) 1 0 = 0) && decide (3 < c.keySlot)) = true := by
    simp only [Bool.and_eq_true, decide_eq_true_eq]
    rintro ⟨h, hlt⟩
    exact absurd (hnts h) (by omega)
  obtain rfl : Fin.ofNat 64 c.keySlot = n := obj_eq hn
  exact (if_neg slot).trans ((if_neg h3).trans rfl)

theorem keyWrap_done {r : List Byte} (hk : u.auth.kekEnabled = true) (hr : u.recordToWrap (bitsOf (c.word 0) 1 0) n = some r) :
    keyWrapForm.body u c = .done u (wordsOf (Config.keyWrap Config.deviceKey r)) := by
  rw [keyWrap_body hn hnts h3, hk, hr]
  rfl

theorem keyWrap_refused (hk : u.auth.kekEnabled = false) :
    keyWrapForm.body u c = .reject (u.keyRefused (bitsOf (c.word 0) 1 0 == 1) n 4) 0x104 none := by
  rw [keyWrap_body hn hnts h3, hk]
  rfl

end wrap

/-- Settles O54: each command passes its checks, two of them on the parcel that they wipe. -/
theorem alignRuleAndKeyCommandsTakeEffect : Obligations.AlignRuleAndKeyCommandsTakeEffect := by
  refine fun s u hp mb c hu => ⟨fun slot h hr hs h3 hrate hreason h2 h0 => ?_, fun r v h hr hf ho => ?_, fun p v h hr hf ho => ?_,
    fun w n r hw hc ho hlen hfit hr hf hn hnts h3 hplain hok => ⟨?_, fun hwf i h5 hi => ?_⟩, fun n k r => ?_, fun n t h hr hf hn hnts h1 hok => ?_,
    fun n r h hr hf hn hnts h3 => ⟨fun hk hrec => ?_, fun hk => ?_⟩, fun h hr hf => ⟨?_, fun i => ?_, fun i => ?_, ?_⟩, fun h hr h0 => ?_⟩
  all_goals have same : ∃ k H E, u = { s with cmds := k, hosts := H, emits := E } := State.takeImb_eq hu
  · have pass : s.Passes u hp mb c alignPulsesForm := h.passes hu rfl (State.needs_may hu h.port hr) nofun
    have next : s.nextHandled = u.nextHandled := by
      obtain ⟨k, H, E, rfl⟩ := same
      rfl
    rw [next]
    exact pass.accepted hs (alignPulses_accepts h3 hrate hreason h2 h0)
  · have pass : s.Passes u hp mb c hlRuleForm := h.passes hu rfl rfl (State.needs_may hu h.port hr) fun _ => hf
    obtain ⟨k, H, E, rfl⟩ := same
    obtain rfl : Fin.ofNat 16 c.obj = r := obj_eq ho
    exact pass.done rfl ((if_neg (by omega)).trans (h.configure rfl rfl rfl))
  · have pass : s.Passes u hp mb c esmcConfigForm := h.passes hu rfl rfl (State.needs_may hu h.port hr) fun _ => hf
    obtain ⟨k, H, E, rfl⟩ := same
    obtain rfl : Fin.ofNat 8 c.obj = p := obj_eq ho
    exact pass.done rfl ((if_neg (by omega)).trans (h.configure rfl rfl rfl))
  · subst hw
    exact State.wiped_runs (f := keyLoadForm) hu hc ho rfl rfl (Bool.and_eq_true_iff.mpr ⟨hfit, hlen⟩) (State.needs_may hu (State.cmdAt_port hc) hr)
      (fun _ => hf) (keyLoad_done hn hnts h3 hplain hok)
  · have fits : c.ofs + c.len ≤ 15360 := by simpa using (Bool.and_eq_true_iff.mp hfit).1
    obtain rfl := State.cmdAt_port hc
    rw [hw]
    exact wipeParcel_word (by rwa [State.takeImb_parcel hu]) fits h5 hi
  · obtain ⟨x, state, key, keyId, expiry, sa, nts, ts⟩ := s.storeKey_out n k r
    rw [sa, upd_same]
    exact ⟨state, key, keyId, expiry, fun j hj => upd_other _ _ _ _ hj.symm, nts, ts⟩
  · have pass : s.Passes u hp mb c keyStateForm := h.passes hu rfl (State.needs_may hu h.port hr) fun _ => hf
    exact pass.done rfl (keyState_done hn hnts h1 hok)
  · have pass : s.Passes u hp mb c keyWrapForm := h.passes hu rfl (State.needs_may hu h.port hr) fun _ => hf
    refine pass.done rfl (keyWrap_done hn hnts h3 ?_ ?_)
    all_goals obtain ⟨k, H, E, rfl⟩ := same
    exacts [hk, hrec]
  · have pass : s.Passes u hp mb c keyWrapForm := h.passes hu rfl (State.needs_may hu h.port hr) fun _ => hf
    refine pass.rejects rfl (keyWrap_refused hn hnts h3 ?_)
    obtain ⟨k, H, E, rfl⟩ := same
    exact hk
  · exact (h.passes hu rfl (State.needs_may hu h.port hr) (fun _ => hf) : s.Passes u hp mb c zeroiseForm).done rfl rfl
  · rw [(u.zeroiseKeys_tables 0).1, show (u.auth.nts.map KeySlot.emptied)[i] = u.auth.nts[i].emptied from Vector.getElem_map _ _]
    exact ⟨rfl, rfl⟩
  · rw [(u.zeroiseKeys_tables 0).2, show (u.auth.sa.map KeySlot.emptied)[i] = u.auth.sa[i].emptied from Vector.getElem_map _ _]
    exact ⟨rfl, rfl⟩
  · rw [u.zeroiseKeys_pairKey]
    obtain ⟨k, H, E, rfl⟩ := same
    rfl
  · obtain ⟨hc, ho, hl, hfit⟩ := h
    refine State.wiped_runs (f := pairKeyForm) hu hc ho rfl rfl (Bool.and_eq_true_iff.mpr ⟨hfit, ?_⟩) (State.needs_may hu (State.cmdAt_port hc) hr) nofun ?_
    · show (c.len == if c.word 0 = 0 then 9 else 15) = true
      rw [if_pos h0, hl]
      rfl
    · have key : (u.wipeParcel c 1).pairKeyOf c = some (c.bytesFrom 1) := if_pos h0
      unfold pairKeyForm
      dsimp only
      rw [if_neg (by omega), key]

end Sys2Proof.Machine

/-! PROOFS of family 'other', the twin's commands: O55. -/

namespace Sys2Proof.Machine

variable {s u : State} {hp : Fin 4} {mb : Fin 8} {c : Cmd} {f : CmdForm}

/-! ### TWIN_CONFIG -/

/-- A configuration whose values and joint rules pass is rejected with 0x008 where the state forbids it. -/
theorem State.asks.configure_busy {op results : Nat} {t : ParamTable} {cur v : Cfg} (h : s.asks hp mb c op results t cur v) {dyn : Cfg → List (Nat × Bool)}
    {joint : Cfg → List (Bool × List Nat)} {busy : Cfg → Bool} {go : Cfg → Verdict} (hdyn : inRanges (dyn v) = true) (hjoint : unbroken (joint v) = true)
    (hbusy : busy v = true) : c.configure u t cur dyn joint busy go = .reject u 8 none := by
  have pass : c.configure u t cur dyn joint (fun _ => false) (fun w => if busy w then .reject u 8 none else go w) = _ := h.configure hdyn hjoint rfl
  exact pass.trans (if_pos hbusy)

/-- The ranges of the twin's settings. -/
theorem twinConfig_ranges {v : Cfg} (hmac : groupAddress (v.at Ix.twinUnitMac) = false)
    (hgroup : v.at Ix.twinHbGroup = 0 ∨ (groupAddress (v.at Ix.twinHbGroup) = true ∧ u.groupsFull (Fin.ofNat 4 (v.nat Ix.twinHbPair)) = false)) :
    inRanges [(2, groupAddress (v.at Ix.twinUnitMac)),
      (4, v.at Ix.twinHbGroup != 0 && (!groupAddress (v.at Ix.twinHbGroup) || u.groupsFull (Fin.ofNat 4 (v.nat Ix.twinHbPair))))] = true := by
  have group : (v.at Ix.twinHbGroup != 0 && (!groupAddress (v.at Ix.twinHbGroup) || u.groupsFull (Fin.ofNat 4 (v.nat Ix.twinHbPair)))) = false := by
    rcases hgroup with h | ⟨h, hfull⟩
    · rw [h]
      rfl
    · rw [h, hfull]
      exact Bool.and_false _
  rw [hmac, group]
  rfl

theorem Cfg.at_set_same {v : Cfg} {i : Nat} (x : Int) (h : i < v.length) : Cfg.at (v.set i x) i = x := by
  unfold Cfg.at
  rw [List.getD_eq_getElem?_getD, List.getElem?_set_self h]
  rfl

theorem Cfg.at_set_other {v : Cfg} {i j : Nat} (x : Int) (h : i ≠ j) : Cfg.at (v.set i x) j = v.at j := by
  unfold Cfg.at
  rw [List.getD_eq_getElem?_getD, List.getElem?_set_ne h, List.getD_eq_getElem?_getD]

/-- An ACTIVE unit keeps UNIT_ID and MODE. -/
theorem State.configTwin_active {v : Cfg} (hr : s.twin.role = .active) : s.configTwin v =
    { s with twin.cfg := (v.set Ix.twinUnitId (s.twin.cfg.at Ix.twinUnitId)).set Ix.twinMode (s.twin.cfg.at Ix.twinMode), twin.nextCfg := some v } :=
  if_pos (by rw [hr]; rfl)

/-! ### TWIN_CALIBRATE -/

theorem twinCalibrate_body {i : Fin 16} (hi : c.word 0 = i.val) (hlo : 60 ≤ c.word 1) (hhi : c.word 1 ≤ 86400) : twinCalibrateForm.body u c =
    if u.mayCalibrate i then
      .accept u none 0 [] 0 [] fun id t => { t with twin.calibrating := some (i, t.sys.cyc, c.word 1, id), twin.calSamples := [] }
    else .reject (u.raise Flt.twinCalFail i.val) 8 none := by
  have range : ¬ (decide (c.word 1 < 60) || decide (86400 < c.word 1)) = true := by
    simp only [Bool.or_eq_true, decide_eq_true_eq]
    omega
  obtain rfl : Fin.ofNat 16 (c.word 0) = i := obj_eq hi
  exact (if_neg (by omega)).trans (if_neg range)

theorem twinWitness_rights (hu : u = s.takeImb hp mb) (hc : c.hp = hp) (h : s.twin.witness = some hp) : twinWitnessForm.rights u c = true := by
  obtain ⟨k, H, E, rfl⟩ := State.takeImb_eq hu
  subst hc
  exact beq_iff_eq.mpr h

/-- Settles O55: each command passes its checks, and the role decides its body. -/
theorem twinCommandsTakeEffect : Obligations.TwinCommandsTakeEffect := by
  refine fun s u hp mb c hu => ⟨fun v h hr ho hmac hgroup => ⟨fun hen => ?_, fun hen => ?_⟩, fun v => ⟨fun hr => ?_, fun hr hid hmode => ?_⟩,
    fun slot i h hr hs hi hlo hhi => ⟨fun hrole hen hk hq hl hcal => ?_, fun hrole => ?_⟩, fun slot h hr hs => ⟨fun hrole hpeer hho => ?_, fun hrole => ?_⟩,
    fun h hr => ⟨fun hrole hcompat hsync => ?_, fun hrole => ?_⟩, fun h h1 => ⟨fun hw hq => ?_, fun hw hq => ?_, fun hw => ?_⟩⟩
  · have pass : s.Passes u hp mb c twinConfigForm := h.passes hu rfl rfl (State.needs_may hu h.port hr) nofun
    rw [State.taken_sys hu] at hen
    exact pass.done rfl ((if_neg (by omega)).trans (h.configure (twinConfig_ranges hmac hgroup) rfl (by rw [hen]; rfl)))
  · have pass : s.Passes u hp mb c twinConfigForm := h.passes hu rfl rfl (State.needs_may hu h.port hr) nofun
    rw [State.taken_sys hu] at hen
    exact pass.rejects rfl ((if_neg (by omega)).trans (h.configure_busy (twinConfig_ranges hmac hgroup) rfl (by rw [hen]; rfl)))
  · exact if_neg (by rw [beq_iff_eq]; exact hr)
  · rw [State.configTwin_active hr]
    have unitId : Ix.twinMode ≠ Ix.twinUnitId := by decide
    exact ⟨(Cfg.at_set_other _ unitId).trans (Cfg.at_set_same _ hid), Cfg.at_set_same _ (by rw [List.length_set]; exact hmode), rfl⟩
  · have pass : s.Passes u hp mb c twinCalibrateForm := h.passes hu rfl (State.needs_may hu h.port hr) nofun
    have may : s.mayCalibrate i = true := by
      unfold State.mayCalibrate
      rw [hrole, hen, hk, hq, hl, hcal]
      rfl
    obtain ⟨k, H, E, rfl⟩ := State.takeImb_eq hu
    have w := Accepted.keeps s k H E c slot none 0 [] 0 []
    have cyc := w.cyc_eq (by decide)
    refine ⟨_, pass.accepted hs ((twinCalibrate_body hi hlo hhi).trans (if_pos may)), ?_, (State.acceptCmd_handled _ c slot none 0 [] 0 []).1, w.ts_eq (by decide),
      w.wv_eq (by decide) (by decide), w .flt (by decide)⟩
    dsimp only
    rw [cyc]
    exact congrArg (fun t : Twin => { t with calibrating := some (i, s.sys.cyc, c.word 1, s.nextHandled), calSamples := [] }) (w .twin (by decide))
  · have pass : s.Passes u hp mb c twinCalibrateForm := h.passes hu rfl (State.needs_may hu h.port hr) nofun
    have may : ¬ s.mayCalibrate i = true := by
      unfold State.mayCalibrate
      rw [beq_eq_false_iff_ne.mpr hrole]
      exact Bool.false_ne_true
    obtain ⟨k, H, E, rfl⟩ := State.takeImb_eq hu
    exact pass.refused hs ((twinCalibrate_body hi hlo hhi).trans (if_neg may))
  · have pass : s.Passes u hp mb c twinHandoverForm := h.passes hu rfl (State.needs_may hu h.port hr) nofun
    obtain ⟨k, H, E, rfl⟩ := State.takeImb_eq hu
    have w := Accepted.keeps s k H E c slot none 0 [] 0 []
    have ready : (s.twin.role == .active && s.peerEligible && s.twin.handover.isNone) = true := by
      rw [hrole, hpeer, hho]
      rfl
    refine ⟨_, pass.accepted hs (if_pos ready), ?_, w.ts_eq (by decide), w.wv_eq (by decide) (by decide), w .flt (by decide)⟩
    exact congrArg (fun t : Twin => { t with handover := some s.nextHandled }) (w .twin (by decide))
  · have pass : s.Passes u hp mb c twinHandoverForm := h.passes hu rfl (State.needs_may hu h.port hr) nofun
    obtain ⟨k, H, E, rfl⟩ := State.takeImb_eq hu
    refine pass.refused hs (if_neg ?_)
    rw [beq_eq_false_iff_ne.mpr hrole]
    exact Bool.false_ne_true
  · have pass : s.Passes u hp mb c twinAdmitForm := h.passes hu rfl (State.needs_may hu h.port hr) nofun
    have ready : s.admitReady = true := by
      unfold State.admitReady
      rw [hrole, hcompat, hsync]
      rfl
    obtain ⟨k, H, E, rfl⟩ := State.takeImb_eq hu
    exact pass.done rfl (if_pos ready)
  · have pass : s.Passes u hp mb c twinAdmitForm := h.passes hu rfl (State.needs_may hu h.port hr) nofun
    have ready : ¬ s.admitReady = true := by
      unfold State.admitReady
      rw [beq_eq_false_iff_ne.mpr hrole]
      exact Bool.false_ne_true
    obtain ⟨k, H, E, rfl⟩ := State.takeImb_eq hu
    exact pass.rejects rfl (if_neg ready)
  · have pass : s.Passes u hp mb c twinWitnessForm := h.passes hu rfl (twinWitness_rights hu h.port hw) nofun
    obtain ⟨k, H, E, rfl⟩ := State.takeImb_eq hu
    exact pass.done rfl ((if_neg (Nat.not_lt.mpr h1)).trans (if_pos hq))
  · have pass : s.Passes u hp mb c twinWitnessForm := h.passes hu rfl (twinWitness_rights hu h.port hw) nofun
    obtain ⟨k, H, E, rfl⟩ := State.takeImb_eq hu
    exact pass.rejects rfl ((if_neg (Nat.not_lt.mpr h1)).trans (if_neg (Bool.eq_false_iff.mp hq)))
  · obtain rfl := h.port
    obtain ⟨hc, ho, hl, hfit⟩ := h
    have form : (c.fits twinWitnessForm.results && twinWitnessForm.shape u c) = true := Bool.and_eq_true_iff.mpr ⟨hfit, beq_iff_eq.mpr hl⟩
    refine (s.omend_runs c.hp mb twinWitnessForm hc ho).trans (congrArg _ ?_)
    rw [← hu]
    refine State.runCmd_rights rfl form ?_
    obtain ⟨k, H, E, rfl⟩ := State.takeImb_eq hu
    exact beq_eq_false_iff_ne.mpr hw

end Sys2Proof.Machine

/-! PROOFS of family 'other', commands of grid time and converter ports: O56. -/

namespace Sys2Proof.Machine

variable {s u : State} {hp : Fin 4} {mb : Fin 8} {c : Cmd} {f : CmdForm}

/-! ### CP_START and CP_STOP -/

/-- CP_START for ports that are enabled is what the reasons of R388 make of it. -/
theorem cpStart_body {l : List (Fin 8)} (hl : l = portsOf (bitsOf (c.word 0) 7 0)) (hen : ∀ n ∈ l, u.cps[n].cfg.flag Ix.cpEnable = true) :
    cpStartForm.body u c = (match u.startReason l (c.wide 1) with
      | some r => refuse u r
      | none => .accept u none 0 [] 0 [] fun id t =>
          let v := (t.cancelStarts l).each l fun v n => v.mapCp n fun x => { x with startAt := some (c.wide 1, id), waiting := true }
          if l.isEmpty then v.complete id 0 [] else v) := by
  have enabled : ¬ l.any (fun n => !u.cps[n].cfg.flag Ix.cpEnable) = true := by
    rw [List.any_eq_true]
    rintro ⟨n, hn, h⟩
    rw [hen n hn] at h
    cases h
  subst hl
  exact (if_neg enabled).trans rfl

theorem cpStart_refused {l : List (Fin 8)} {r : Nat} (hl : l = portsOf (bitsOf (c.word 0) 7 0)) (hen : ∀ n ∈ l, u.cps[n].cfg.flag Ix.cpEnable = true)
    (hr : u.startReason l (c.wide 1) = some r) : cpStartForm.body u c = .reject u (0x100 + r) none := by
  rw [cpStart_body hl hen, hr]
  rfl

theorem cpStart_accepts {l : List (Fin 8)} (hl : l = portsOf (bitsOf (c.word 0) 7 0)) (hen : ∀ n ∈ l, u.cps[n].cfg.flag Ix.cpEnable = true)
    (hr : u.startReason l (c.wide 1) = none) (hne : l ≠ []) : cpStartForm.body u c = .accept u none 0 [] 0 [] fun id t =>
      (t.cancelStarts l).each l fun v n => v.mapCp n fun x => { x with startAt := some (c.wide 1, id), waiting := true } := by
  have some_ : ¬ l.isEmpty = true := by rwa [List.isEmpty_iff]
  rw [cpStart_body hl hen, hr]
  simp only [if_neg some_]

theorem State.startReason_taken (hu : u = s.takeImb hp mb) (l : List (Fin 8)) (at_ : Nat) : u.startReason l at_ = s.startReason l at_ := by
  obtain ⟨k, H, E, rfl⟩ := State.takeImb_eq hu
  rfl

theorem State.cps_taken (hu : u = s.takeImb hp mb) : s.cps = u.cps := by
  obtain ⟨k, H, E, rfl⟩ := State.takeImb_eq hu
  rfl

/-! ### Grid time -/

/-- A feed's epoch sets its grid time error and starts its count of cycles; its settings stay. -/
theorem Feed.setEpoch_out (x : Feed) (a b : Int) :
    (x.setEpoch a b).gteValid = true ∧ (x.setEpoch a b).gte0 = b ∧ (x.setEpoch a b).epochS0 = a ∧ (x.setEpoch a b).cfg = x.cfg := by
  unfold Feed.setEpoch
  dsimp only
  split <;> exact ⟨rfl, rfl, rfl, rfl⟩

/-! ### CP_READ and CP_WRITE -/

theorem cpRead_shape (hu : u = s.takeImb hp mb) (hl : c.len = 4) (hp : c.word 0 < 8)
    (hreg : regionFits (c.word 3) (c.word 2 * rxBlockBytes s.cps[Fin.ofNat 8 (c.word 0)].cfg) = true) : cpReadForm.shape u c = true := by
  obtain ⟨k, H, E, rfl⟩ := State.takeImb_eq hu
  refine Bool.and_eq_true_iff.mpr ⟨beq_iff_eq.mpr hl, ?_⟩
  rw [if_pos hp]
  exact hreg

theorem cpWrite_shape (hu : u = s.takeImb hp mb) (hl : c.len = 3) (hp : c.word 0 < 8)
    (hreg : regionFits (c.word 2) (c.word 1 * txBlockBytes s.cps[Fin.ofNat 8 (c.word 0)].cfg) = true) : cpWriteForm.shape u c = true := by
  obtain ⟨k, H, E, rfl⟩ := State.takeImb_eq hu
  refine Bool.and_eq_true_iff.mpr ⟨beq_iff_eq.mpr hl, ?_⟩
  rw [if_pos hp]
  exact hreg

/-- Settles O56: each command passes its checks, and the rings and reasons decide its body. -/
theorem gridAndConverterCommandsTakeEffect : Obligations.GridAndConverterCommandsTakeEffect := by
  refine fun s u hp mb c hu => ⟨fun f h hr hf hw => ⟨fun hle => ?_, fun hlt => ?_⟩, Feed.setEpoch_out, fun slot l t h hr hs hl hen =>
      ⟨fun r hreason => ?_, fun hreason hne ht => ?_⟩,
    fun slot l t h hr hs hl ht => ?_, fun p hc ho hlen hfit hp' hw1 hreg => ⟨fun hheld => ?_, fun hheld => ?_⟩,
    fun p hc ho hlen hfit hr hp' hreg => ⟨fun hheld => ?_, fun hheld => ?_⟩⟩
  · have pass : s.Passes u hp mb c gridTimeForm := h.passes hu rfl (State.needs_may hu h.port hr) nofun
    obtain rfl : Fin.ofNat 6 (c.word 0) = f := obj_eq hf
    obtain ⟨k, H, E, rfl⟩ := State.takeImb_eq hu
    refine pass.done rfl ((if_neg (by omega)).trans (if_neg ?_))
    rw [decide_eq_false (Nat.not_le.mpr hw), Bool.false_or, decide_eq_true_eq]
    exact Int.not_lt.mpr hle
  · have pass : s.Passes u hp mb c gridTimeForm := h.passes hu rfl (State.needs_may hu h.port hr) nofun
    obtain ⟨k, H, E, rfl⟩ := State.takeImb_eq hu
    refine pass.rejects rfl ((if_neg (by omega)).trans (if_pos ?_))
    rw [Bool.or_eq_true, decide_eq_true_eq, decide_eq_true_eq]
    exact .inr hlt
  · have pass : s.Passes u hp mb c cpStartForm := h.passes hu rfl (State.needs_may hu h.port hr) nofun
    rw [State.cps_taken hu] at hen
    exact pass.refused hs (cpStart_refused hl hen ((State.startReason_taken hu l _).trans hreason))
  · have pass : s.Passes u hp mb c cpStartForm := h.passes hu rfl (State.needs_may hu h.port hr) nofun
    have next : s.nextHandled = u.nextHandled := by
      obtain ⟨k, H, E, rfl⟩ := State.takeImb_eq hu
      rfl
    rw [State.cps_taken hu] at hen
    rw [ht, next]
    exact pass.accepted hs (cpStart_accepts hl hen ((State.startReason_taken hu l _).trans hreason) hne)
  · have pass : s.Passes u hp mb c cpStopForm := h.passes hu rfl (State.needs_may hu h.port hr) nofun
    obtain ⟨k, H, E, rfl⟩ := State.takeImb_eq hu
    have w := Accepted.keeps s k H E c slot none 0 [] 0 []
    have run := pass.accepted hs (f := cpStopForm) rfl
    have same := congrArg (fun v : Vector ConvPort 8 => l.filter fun n => v[n].running) (w .cps (by decide))
    subst hl
    dsimp only at same run
    rw [← same, ht]
    exact run
  all_goals obtain rfl : Fin.ofNat 8 (c.word 0) = p := obj_eq hp'
  all_goals obtain rfl := State.cmdAt_port hc
  all_goals have hlt : c.word 0 < 8 := by omega
  · have pass : s.Passes u c.hp mb c cpReadForm := State.cmdAt_passes hc ho hu rfl hfit (cpRead_shape hu hlen hlt hreg) rfl
    obtain ⟨k, H, E, rfl⟩ := State.takeImb_eq hu
    refine pass.done rfl ((if_neg (by omega)).trans (if_neg ?_))
    rw [decide_eq_false (Nat.not_lt.mpr hw1), Bool.false_or, decide_eq_true_eq]
    exact Nat.not_lt.mpr hheld
  · have pass : s.Passes u c.hp mb c cpReadForm := State.cmdAt_passes hc ho hu rfl hfit (cpRead_shape hu hlen hlt hreg) rfl
    obtain ⟨k, H, E, rfl⟩ := State.takeImb_eq hu
    refine pass.rejects rfl ((if_neg (by omega)).trans (if_pos ?_))
    rw [Bool.or_eq_true, decide_eq_true_eq, decide_eq_true_eq]
    exact .inr hheld
  · have pass : s.Passes u c.hp mb c cpWriteForm := State.cmdAt_passes hc ho hu rfl hfit (cpWrite_shape hu hlen hlt hreg) (State.needs_may hu rfl hr)
    obtain ⟨k, H, E, rfl⟩ := State.takeImb_eq hu
    exact pass.done rfl ((if_neg (by omega)).trans (if_neg (Nat.not_lt.mpr hheld)))
  · have pass : s.Passes u c.hp mb c cpWriteForm := State.cmdAt_passes hc ho hu rfl hfit (cpWrite_shape hu hlen hlt hreg) (State.needs_may hu rfl hr)
    obtain ⟨k, H, E, rfl⟩ := State.takeImb_eq hu
    exact pass.rejects rfl ((if_neg (by omega)).trans (if_pos hheld))

end Sys2Proof.Machine

/-! PROOFS of family 'other', commands of faults, the log and the firmware: O57. -/

namespace Sys2Proof.Machine

variable {s u : State} {hp : Fin 4} {mb : Fin 8} {c : Cmd} {f : CmdForm}

/-! ### FAULT_REACTION and the log -/

theorem faultReaction_body {k : FaultKind} (hk : findKind (bitsOf (c.word 0) 7 0) (bitsOf (c.word 0) 13 8) = some k) (h1 : c.word 1 ≤ 31) :
    faultReactionForm.body u c =
      if fixedReaction k then .reject u 7 (some 0)
      else if (k == Flt.boundHigh || k == Flt.boundUnknown) && bitAt (c.word 1) 2 then .reject u 7 (some 1)
      else .done (u.setReaction k (c.word 1)) [] := by
  unfold faultReactionForm plainForm
  dsimp only
  rw [hk]
  exact if_neg (Nat.not_lt.mpr h1)

/-- LOG_READ copies entries of the log from the named index on. -/
theorem TroubleLog.mem_pick {l : TroubleLog} {n k : Nat} {e : Nat × List Word} (h : e ∈ l.pick n k) : e ∈ l.entries ∧ n ≤ e.1 := by
  obtain ⟨hmem, hle⟩ := List.mem_filter.mp (List.mem_of_mem_take h)
  exact ⟨List.mem_reverse.mp hmem, of_decide_eq_true hle⟩

theorem TroubleLog.length_pick (l : TroubleLog) (n k : Nat) : (l.pick n k).length ≤ min k 1920 := List.length_take_le _ _

/-! ### FW_WRITE -/

/-- The word in a mailbox names that mailbox. -/
theorem State.cmdAt_mailbox (h : s.cmdAt hp mb = some c) : c.mb = mb := by
  unfold State.cmdAt at h
  split at h
  · cases h
  · split at h
    · rw [← Option.some.inj h]
      rfl
    · cases h

/-- FW_WRITE of data that fits, with no FW_COMMIT under way. -/
theorem fwWrite_body (hsize : c.word 0 + c.word 1 ≤ 8388608) (h4 : c.word 1 % 4 = 0) (hord : u.writtenTo (c.word 0) ≤ c.word 0)
    (hno : ∀ h ∈ u.handled, h.op ≠ 0xB1) : fwWriteForm.body u c =
      .later { (if c.word 0 = 0 then u.startImage else u) with
        flash.writing := some ⟨c.hp, c.mb, c.ofs, c.word 0, memReadBytes u.hosts[c.hp].parcel (4 * c.word 2) (c.word 1), false⟩ } := by
  have commits : ¬ u.handled.any (fun h => h.op == 0xB1) = true := by
    rw [List.any_eq_true]
    rintro ⟨h, hm, he⟩
    exact hno h hm (beq_iff_eq.mp he)
  have area : ¬ areaBytes < c.word 0 + c.word 1 := Nat.not_lt.mpr hsize
  exact (if_neg area).trans ((if_neg (not_not.mpr h4)).trans ((if_neg (Nat.not_lt.mpr hord)).trans (if_neg commits)))

theorem State.Passes.later (h : s.Passes u hp mb c f) (hh : f.handled = false) {t : State} (hb : f.body u c = .later t) : s.omend hp mb f = .next t :=
  (h.concludes hh).trans (by rw [hb]; rfl)

/-- Settles O57: each command passes its checks, and its body is computed. -/
theorem faultLogAndFirmwareCommandsTakeEffect : Obligations.FaultLogAndFirmwareCommandsTakeEffect := by
  refine fun s u hp mb c hu => ⟨fun h hr => ?_, fun k h hr hk h1 => ⟨fun hfix => ?_, fun hfix hne hne' => ?_⟩, fun hc ho hl hfit hreg => ?_,
    fun e he => TroubleLog.mem_pick he, s.log.length_pick _ _, fun h hr h15 => ?_, fun h hr hlo hhi => ?_,
    fun h h1 h2 h3 h4 => ⟨fun hpcie => ?_, fun hspi => ?_⟩, fun w hc ho hl hfit hreg hr hsize h4 hord hno hw => ?_, fun slot h hr hs => ?_⟩
  · exact (h.passes hu rfl (State.needs_may hu h.port hr) nofun : s.Passes u hp mb c faultClearForm).done rfl rfl
  · have pass : s.Passes u hp mb c faultReactionForm := h.passes hu rfl (State.needs_may hu h.port hr) nofun
    exact pass.rejects rfl ((faultReaction_body hk h1).trans (if_pos hfix))
  · have pass : s.Passes u hp mb c faultReactionForm := h.passes hu rfl (State.needs_may hu h.port hr) nofun
    obtain ⟨q, H, E, rfl⟩ := State.takeImb_eq hu
    refine pass.done rfl ((faultReaction_body hk h1).trans ((if_neg (Bool.eq_false_iff.mp hfix)).trans (if_neg ?_)))
    rw [beq_eq_false_iff_ne.mpr hne, beq_eq_false_iff_ne.mpr hne']
    exact Bool.false_ne_true
  · have pass : s.Passes u hp mb c logReadForm := State.cmdAt_passes hc ho hu rfl hfit (Bool.and_eq_true_iff.mpr ⟨beq_iff_eq.mpr hl, hreg⟩) rfl
    obtain rfl := State.cmdAt_port hc
    obtain ⟨q, H, E, rfl⟩ := State.takeImb_eq hu
    exact pass.done rfl rfl
  · have pass : s.Passes u hp mb c counterPermitForm := h.passes hu rfl (State.needs_may hu h.port hr) nofun
    exact pass.done rfl (if_neg (Nat.not_lt.mpr h15))
  · have pass : s.Passes u hp mb c counterWindowForm := h.passes hu rfl (State.needs_may hu h.port hr) nofun
    refine pass.done rfl (if_neg ?_)
    rw [decide_eq_false (Nat.pos_iff_ne_zero.mp hlo), decide_eq_false (Nat.not_lt.mpr hhi)]
    exact Bool.false_ne_true
  · have pass : s.Passes u hp mb c counterDumpForm := h.passes hu rfl rfl nofun
    obtain rfl := h.port
    have range : ¬ (decide (c.word 3 < 2) || decide (4096 < c.word 3)) = true := by
      rw [decide_eq_false (Nat.not_lt.mpr h3), decide_eq_false (Nat.not_lt.mpr h4)]
      exact Bool.false_ne_true
    rw [State.taken_sys hu, ← secCyc_val]
    exact pass.done rfl ((if_neg (Nat.not_lt.mpr h1)).trans ((if_neg (not_not.mpr h2)).trans ((if_neg range).trans (if_neg (Nat.not_le.mpr hpcie)))))
  · have pass : s.Passes u hp mb c counterDumpForm := h.passes hu rfl rfl nofun
    obtain rfl := h.port
    have range : ¬ (decide (c.word 3 < 2) || decide (4096 < c.word 3)) = true := by
      rw [decide_eq_false (Nat.not_lt.mpr h3), decide_eq_false (Nat.not_lt.mpr h4)]
      exact Bool.false_ne_true
    exact pass.rejects rfl ((if_neg (Nat.not_lt.mpr h1)).trans ((if_neg (not_not.mpr h2)).trans ((if_neg range).trans (if_pos hspi))))
  · obtain rfl := State.cmdAt_port hc
    obtain rfl := State.cmdAt_mailbox hc
    have pass : s.Passes u c.hp c.mb c fwWriteForm :=
      State.cmdAt_passes hc ho hu rfl hfit (Bool.and_eq_true_iff.mpr ⟨beq_iff_eq.mpr hl, hreg⟩) (State.needs_may hu rfl hr)
    have parcel := State.takeImb_parcel hu c.hp
    have same : u.handled = s.handled ∧ u.writtenTo (c.word 0) = s.writtenTo (c.word 0) := by
      obtain ⟨q, H, E, rfl⟩ := State.takeImb_eq hu
      exact ⟨rfl, rfl⟩
    have body := fwWrite_body (u := u) hsize h4 (by rw [same.2]; exact hord) (by rw [same.1]; exact hno)
    rw [parcel, ← hw] at body
    refine ⟨fun h0 => ?_, fun h0 => ?_⟩
    · rw [if_neg h0] at body
      exact pass.later rfl body
    · rw [if_pos h0] at body
      exact pass.later rfl body
  · exact (h.passes hu rfl (State.needs_may hu h.port hr) nofun : s.Passes u hp mb c fwCommitForm).accepted hs rfl

end Sys2Proof.Machine

/-! PROOFS of family 'other', the monitor's lines of VIEW: O59. -/

namespace Sys2Proof.Machine

variable (s : State)

/-! ### What the monitor's clock leaves alone -/

/-- The monitor's clock is in no register. -/
theorem State.heard_regWord (hp : Fin 4) (a : Nat) : s.heard.regWord hp a = s.regWord hp a := by
  have sys : s.heard.regSystem = s.regSystem := rfl
  have host : s.heard.regHostPort = s.regHostPort := rfl
  have time : s.heard.regTime = s.regTime := rfl
  have tdc : s.heard.regTdc = s.regTdc := rfl
  have wv : s.heard.regWv = s.regWv := rfl
  have steer : s.heard.regSteer = s.regSteer := rfl
  have outputs : s.heard.regOutputs = s.regOutputs := rfl
  have twin : s.heard.regTwin = s.regTwin := rfl
  have gnss : s.heard.regGnss = s.regGnss := rfl
  have grid : s.heard.regGrid = s.regGrid := rfl
  have ports : s.heard.regPorts = s.regPorts := rfl
  have service : s.heard.regService = s.regService := rfl
  have auth : s.heard.regAuth = s.regAuth := rfl
  have faults : s.heard.regFaults = s.regFaults := rfl
  unfold State.regWord
  rw [sys, host, time, tdc, wv, steer, outputs, twin, gnss, grid, ports, service, auth, faults]
theorem State.heard_peekable (o : Nat) : s.heard.peekable o = s.peekable o := by
  have owner : s.heard.sys.owner = s.sys.owner := rfl
  unfold State.peekable
  rw [s.heard_regWord, owner]
theorem State.heard_pokeable (o : Nat) : s.heard.pokeable o = s.pokeable o := by
  have owner : s.heard.sys.owner = s.sys.owner := rfl
  unfold State.pokeable State.implemented
  dsimp only
  rw [s.heard_regWord, owner]

/-! ### Lines of VIEW -/

section view

variable {s} (hm : s.sys.straps.monEn = true)
include hm

/-- In BOOT only STATUS is answered. -/
theorem State.line_boot (hb : s.sys.engine = .boot) (c : MonLine) : s.monitored (fun t => t.enterLine c) =
    .next ((if c = .status then (s.heard.print "STATE BOOT").print s.heard.mon.bootLine else s.heard.print "ERR CMD").promptAgain) := by
  rw [State.monitored_runs hm (by rw [hb]; decide), State.enterLine]
  exact congrArg _ (if_pos hb)

variable (hr : s.sys.engine ≠ .reset) (hb : s.sys.engine ≠ .boot)
include hr hb

/-- A line of VIEW past BOOT. -/
theorem State.line_view {c : MonLine} (hc : c.maintain = false) : s.monitored (fun t => t.enterLine c) = .next (s.heard.runLine c) := by
  rw [State.monitored_runs hm hr, State.enterLine_view (s := s.heard) hb hc]

end view

theorem State.line_off {s : State} (hm : s.sys.straps.monEn = false) (c : MonLine) : s.monitored (fun t => t.enterLine c) = .next s :=
  if_neg (by rw [hm, Bool.false_and]; exact Bool.false_ne_true)

/-- PEEK of one register. -/
theorem State.peek_one {o : Nat} {v : Word} (hp : s.peekable o = true) (hv : s.regWord s.sys.owner (o % 65536) = some v) :
    s.peek o 1 = [hexText 8 o ++ " " ++ wordText v] := by
  have read : (if s.peekable o then s.regWord s.sys.owner (o % 2 ^ 16) else none) = some v := (if_pos hp).trans hv
  show peekLines (fun a => if s.peekable a then s.regWord s.sys.owner (a % 2 ^ 16) else none) "ERR ADDR" [o] = _
  simp only [peekLines, read]

/-- PEEK ends at the first address that cannot be read. -/
theorem State.peek_refused {o : Nat} (n : Nat) (hp : s.peekable o = false) : s.peek o (n + 1) = ["ERR ADDR"] := by
  have first : (List.range (min (n + 1) 64)).map (fun i => o + 4 * i) = o :: ((List.range (min n 63)).map Nat.succ).map fun i => o + 4 * i := by
    rw [show min (n + 1) 64 = min n 63 + 1 by omega, List.range_succ_eq_map, List.map_cons]
    rfl
  unfold State.peek
  rw [first]
  simp only [peekLines, hp, Bool.false_eq_true, if_false]

/-- Settles O59: past BOOT a line of VIEW runs on the state that holds its time, which no register shows. -/
theorem monitorLinesOfViewPrintTheirState : Obligations.MonitorLinesOfViewPrintTheirState := by
  rintro s u rfl
  refine ⟨fun hm => ⟨State.line_off hm _, State.line_off hm _, State.line_off hm _⟩, fun hm x => if_pos hm,
    fun hm hb => ⟨State.line_boot hm hb .status, State.line_boot hm hb .time, State.line_boot hm hb .reset⟩,
    fun hm hr hb => ⟨State.line_view hm hr hb (c := .help) rfl, State.line_view hm hr hb (c := .status) rfl, State.line_view hm hr hb (c := .time) rfl,
      State.line_view hm hr hb (c := .bound) rfl, State.line_view hm hr hb (c := .ref) rfl, State.line_view hm hr hb (c := .fault) rfl,
      fun n => State.line_view hm hr hb (c := .log n) rfl, State.line_view hm hr hb (c := .twin) rfl, fun o v hp hv => ?_, fun o n hp => ?_⟩⟩
  · refine (State.line_view hm hr hb (c := .peek o 1) rfl).trans ?_
    have one : s.heard.peek o 1 = [hexText 8 o ++ " " ++ wordText v] := s.heard.peek_one ((s.heard_peekable o).trans hp) ((s.heard_regWord _ _).trans hv)
    rw [State.runLine, one]
    rfl
  · refine (State.line_view hm hr hb (c := .peek o (n + 1)) rfl).trans ?_
    have refused : s.heard.peek o (n + 1) = ["ERR ADDR"] := s.heard.peek_refused n ((s.heard_peekable o).trans hp)
    rw [State.runLine, refused]
    rfl

end Sys2Proof.Machine

/-! PROOFS of family 'other', typing, and the monitor's lines of MAINTAIN: O60. -/

namespace Sys2Proof.Machine

variable (s : State)

/-! ### Typing -/

theorem exec_monCharacter {c : Byte} (hm : s.sys.straps.monEn = true) (hr : s.sys.engine ≠ .reset) : exec (.monCharacter c) s = .next
    (if c = 0x0D then s.heard.endLine
     else if c = 0x0A then s.heard
     else if c = 0x08 then State.monOut { s.heard with mon.line := s.mon.line.dropLast } (octetText [c])
     else s.heard.typeChar c) := by
  change execMonCharacter c s = _
  rw [execMonCharacter, State.monitored_runs hm hr]
  rfl

/-- A typed character joins the line, or marks it too long. -/
theorem State.typeChar_out (c : Byte) (hm : s.sys.straps.monEn = true) :
    (s.mon.line.length < 80 → s.typeChar c = { s with mon.line := s.mon.line ++ [c], emits := (s.typeChar c).emits }) ∧
    (80 ≤ s.mon.line.length → s.typeChar c = { s with mon.tooLong := true, emits := (s.typeChar c).emits }) := by
  have out : s.monOut (octetText ((echoOf (s.mon.line ++ [c])).drop s.mon.line.length)) =
      s.emit (.monitor (octetText ((echoOf (s.mon.line ++ [c])).drop s.mon.line.length))) := if_pos hm
  have length : (s.mon.line ++ [c]).length = s.mon.line.length + 1 := List.length_append
  unfold State.typeChar
  dsimp only
  rw [out, length]
  refine ⟨fun h => ?_, fun h => ?_⟩
  · rw [if_neg (by omega)]
    rfl
  · rw [if_pos (by omega)]
    rfl

/-- The end of a line that is too long. -/
theorem State.endLine_long (h : s.mon.tooLong = true) :
    s.endLine = ((State.monOut { s with mon.line := [], mon.tooLong := false } "\r\n").print "ERR LONG").promptAgain := if_pos h

/-- The end of a line that no command makes. -/
theorem State.endLine_unknown (h : s.mon.tooLong = false) (hw : (splitWords [] s.mon.line).isEmpty = false) (hp : parseLine s.mon.line = none) :
    s.endLine = ((State.monOut { s with mon.line := [], mon.tooLong := false } "\r\n").print "ERR CMD").promptAgain := by
  unfold State.endLine
  dsimp only
  rw [if_neg (Bool.eq_false_iff.mp h), if_neg (Bool.eq_false_iff.mp hw), hp]

/-! ### Lines of MAINTAIN -/

section maintain

variable {s} (hm : s.sys.straps.monEn = true) (hr : s.sys.engine ≠ .reset) (hb : s.sys.engine ≠ .boot)
include hm hr hb

/-- At VIEW a line of MAINTAIN is refused. -/
theorem State.line_level {c : MonLine} (hl : s.mon.maintain = false) (hc : c.maintain = true) :
    s.monitored (fun t => t.enterLine c) = .next ((s.heard.print "ERR LEVEL").promptAgain) := by
  rw [State.monitored_runs hm hr]
  refine congrArg _ ((if_neg hb).trans (if_pos ?_))
  rw [hc, show s.heard.mon.maintain = false from hl]
  rfl

/-- At MAINTAIN every line runs. -/
theorem State.line_maintain (hl : s.mon.maintain = true) (c : MonLine) : s.monitored (fun t => t.enterLine c) = .next (s.heard.runLine c) := by
  rw [State.monitored_runs hm hr]
  refine congrArg _ ((if_neg hb).trans (if_neg ?_))
  rw [show s.heard.mon.maintain = true from hl, Bool.not_true, Bool.and_false]
  exact Bool.false_ne_true

end maintain

/-- POKE of a shared register that can be written, of a unit that is not a follower. -/
theorem State.pokeReg_writes {o : Nat} (v : Word) (hp : s.pokeable o = true) (hw : sharedWritable (o % 65536) = true) (hf : s.follower = false) :
    s.pokeReg o v = (s.writeAt s.sys.owner o v).print "OK" := by
  have word : (if o % 2 ^ 16 = 0x2044 && s.follower then "IGNORED" else "OK") = "OK" := if_neg (by rw [hf, Bool.and_false]; exact Bool.false_ne_true)
  unfold State.pokeReg
  dsimp only
  rw [hp, word]
  have writable : ¬ (!sharedWritable (o % 2 ^ 16)) = true := by
    rw [show sharedWritable (o % 2 ^ 16) = true from hw]
    exact Bool.false_ne_true
  exact (if_neg Bool.false_ne_true).trans (if_neg writable)

/-- DPEEK prints, and draws the free values that it shows. -/
theorem State.dpeekFrom_within (g : Nat) (l : List Nat) (t : State) : Within (partsOf [.freeCtr, .emits]) t (State.dpeekFrom g l t) := by
  induction l generalizing t with
  | nil => exact Within.start.mono (by decide)
  | cons o l ih =>
    have read : Within (partsOf [.freeCtr]) t (t.directRead g o).1 := Within.start.directRead.mono (by decide)
    rw [State.dpeekFrom]
    split
    · exact Within.start.print.mono (by decide)
    · obtain ⟨⟨v, w⟩, hv⟩ : ∃ r, r = t.directRead g o := ⟨_, rfl⟩
      rw [← hv] at read ⊢
      cases w with
      | none => exact (read.print).mono (by decide)
      | some x => exact ((read.print).trans (ih _)).mono (by decide)

/-- DPOKE with the direct window open: the word is kept at a writable location. -/
theorem State.dpoke_out (g o : Nat) (v : Word) (hl : s.direct.lockdown = false) : Within (partsOf [.direct, .flt, .emits]) s (s.dpoke g o v) ∧
    (directKind g o = .readWrite → o % 4 = 0 → o < 65536 → (s.dpoke g o v).direct.words.find? (·.1 == (g, o)) = some ((g, o), v)) := by
  obtain ⟨w, kept, -⟩ := s.directWrite_out g o v
  unfold State.dpoke
  rw [if_neg (Bool.eq_false_iff.mp hl)]
  by_cases h : (decide (o % 4 ≠ 0) || decide (2 ^ 16 ≤ o)) = true
  · rw [if_pos h]
    refine ⟨Within.start.print.mono (by decide), fun _ h4 hlt => ?_⟩
    simp only [Bool.or_eq_true, decide_eq_true_eq] at h
    omega
  · rw [if_neg h]
    obtain ⟨⟨t, b⟩, ht⟩ : ∃ r, r = s.directWrite g o v := ⟨_, rfl⟩
    rw [← ht] at w kept ⊢
    cases b with
    | false =>
      have p : Within (partsOf [.emits]) t (t.print "ERR DIRECT") := Within.start.print.mono (by decide)
      exact ⟨(w.trans p).mono (by decide), fun hk _ _ => (congrArg (fun d : Direct => d.words.find? _) (p .direct (by decide))).trans (kept hk)⟩
    | true =>
      have p : ∀ x : String, Within (partsOf [.emits]) t (t.print x) := fun x => Within.start.print.mono (by decide)
      exact ⟨(w.trans (p _)).mono (by decide), fun hk _ _ => (congrArg (fun d : Direct => d.words.find? _) (p _ .direct (by decide))).trans (kept hk)⟩

/-! ### RESET -/

theorem State.bootFail_maintain (n : Nat) : (s.bootFail n).mon.maintain = s.mon.maintain := by
  unfold State.bootFail State.bootPrint State.print State.monOut
  split <;> rfl

theorem State.release_maintain (x : Straps) : (s.release x).mon.maintain = s.mon.maintain := by
  unfold State.release
  extract_lets _ s1 a0 s2
  have mon : s2.mon = s.mon := (Within.start.print.setEngine : Within _ (s1.logAt 7 0 a0 s.log.lastCyc 0) s2) .mon (by decide)
  rw [← mon]
  split
  · exact congrArg Monitor.maintain ((Within.start.firstCandidate : Within _ s2 _) .mon (by decide))
  · rfl
  · exact s2.bootFail_maintain 6
  · exact s2.bootFail_maintain 5

theorem State.innerReset_maintain (cause port : Nat) : (s.innerReset cause port).mon.maintain = false := by
  have reset : (s.enterReset cause port).mon.maintain = false := by
    rw [State.enterReset_mon]
    rfl
  unfold State.innerReset State.tryRelease
  split
  · exact (State.release_maintain _ _).trans reset
  · exact reset

/-- Settles O60: what a character makes of the line, the level's test, and each line of MAINTAIN. -/
theorem monitorTypingAndMaintainLines : Obligations.MonitorTypingAndMaintainLines := by
  rintro s u rfl
  refine ⟨fun hm hr => ⟨?_, ?_, fun c hcr hlf hbs => ?_, fun hl => ?_, fun hl hw hp => ?_⟩, fun hm hr hb hl i hi => ?_,
    fun hm hr hb hl => ⟨State.line_maintain hm hr hb hl .faultClear, fun o v => ⟨fun hp => ?_, fun hp hw => ?_, fun hp hw hf => ?_⟩,
      fun g o n => ⟨fun hd => ?_, fun hd => ?_⟩, fun g o v => ⟨fun hd => ?_, fun hd => ?_⟩, fun n => State.line_maintain hm hr hb hl (.owner n), fun hn hp => ?_⟩⟩
  · exact exec_monCharacter s hm hr
  · exact exec_monCharacter s hm hr
  · obtain ⟨short, long⟩ := s.heard.typeChar_out c hm
    refine ⟨_, exec_monCharacter s hm hr, ?_⟩
    rw [if_neg hcr, if_neg hlf, if_neg hbs]
    exact ⟨short, long⟩
  · exact (exec_monCharacter s hm hr).trans (congrArg _ (s.heard.endLine_long hl))
  · exact (exec_monCharacter s hm hr).trans (congrArg _ (s.heard.endLine_unknown hl hw hp))
  · rcases hi with rfl | rfl | ⟨o, v, rfl⟩ | ⟨g, o, n, rfl⟩ | ⟨g, o, v, rfl⟩ | ⟨n, rfl⟩
    · exact State.line_level hm hr hb (c := .faultClear) hl rfl
    · exact State.line_level hm hr hb (c := .reset) hl rfl
    · exact State.line_level hm hr hb (c := .poke o v) hl rfl
    · exact State.line_level hm hr hb (c := .dpeek g o n) hl rfl
    · exact State.line_level hm hr hb (c := .dpoke g o v) hl rfl
    · exact State.line_level hm hr hb (c := .owner n) hl rfl
  · have refused : s.heard.pokeReg o v = s.heard.print "ERR ADDR" := if_pos (by rw [s.heard_pokeable, hp]; rfl)
    exact (State.line_maintain hm hr hb hl (.poke o v)).trans (congrArg (fun t : State => Host.Outcome.next t.promptAgain) refused)
  · have ignored : s.heard.pokeReg o v = s.heard.print "IGNORED" :=
      (if_neg (by rw [s.heard_pokeable, hp]; exact Bool.false_ne_true)).trans (if_pos (by rw [show sharedWritable (o % 2 ^ 16) = false from hw]; rfl))
    exact (State.line_maintain hm hr hb hl (.poke o v)).trans (congrArg (fun t : State => Host.Outcome.next t.promptAgain) ignored)
  · have written := s.heard.pokeReg_writes v ((s.heard_pokeable o).trans hp) hw hf
    exact (State.line_maintain hm hr hb hl (.poke o v)).trans (congrArg (fun t : State => Host.Outcome.next t.promptAgain) written)
  · have closed : s.heard.dpeek g o n = s.heard.print "ERR CLOSED" := if_pos hd
    exact (State.line_maintain hm hr hb hl (.dpeek g o n)).trans (congrArg (fun t : State => Host.Outcome.next t.promptAgain) closed)
  · have shown : s.heard.dpeek g o n = State.dpeekFrom g ((List.range (min n 64)).map fun i => o + 4 * i) s.heard := if_neg (Bool.eq_false_iff.mp hd)
    have w : Within (partsOf [.freeCtr, .emits]) s.heard (s.heard.dpeek g o n) := by
      rw [shown]
      exact State.dpeekFrom_within g _ _
    exact ⟨_, State.line_maintain hm hr hb hl (.dpeek g o n), (w.promptAgain.mono (by decide) : Within (partsOf [.freeCtr, .emits]) s.heard _).eq⟩
  · have closed : s.heard.dpoke g o v = (s.heard.raise Flt.writeLocked 0x208).print "ERR CLOSED" := if_pos hd
    exact (State.line_maintain hm hr hb hl (.dpoke g o v)).trans (congrArg (fun t : State => Host.Outcome.next t.promptAgain) closed)
  · obtain ⟨w, kept⟩ := s.heard.dpoke_out g o v hd
    have prompt : Within (partsOf [.emits]) (s.heard.dpoke g o v) ((s.heard.dpoke g o v).promptAgain) := Within.start.promptAgain.mono (by decide)
    have direct : ((s.heard.dpoke g o v).promptAgain).direct = (s.heard.dpoke g o v).direct := prompt .direct (by decide)
    refine ⟨_, State.line_maintain hm hr hb hl (.dpoke g o v), ((w.trans prompt).mono (by decide) : Within (partsOf [.direct, .flt, .emits]) s.heard _).eq,
      fun hk h4 hlt => ?_⟩
    rw [State.runLine, direct]
    exact kept hk h4 hlt
  · have w : Within _ s.heard ((s.heard.print "RESETTING").releaseToken) := Within.start.print.releaseToken
    have sys : ((s.heard.print "RESETTING").releaseToken).sys = s.heard.sys := w.sys_eq (by decide) (by decide)
    obtain ⟨engine, cause, -, -, cmds⟩ := State.innerReset_boots ((s.heard.print "RESETTING").releaseToken) 3 0 (by decide) (by rw [sys]; exact hn) (by rw [sys]; exact hp)
    exact ⟨_, State.line_maintain hm hr hb hl .reset, engine, cause, cmds, State.innerReset_maintain _ 3 0⟩

end Sys2Proof.Machine
